-- ==== Sys2Proof/Word.lean ====
section
/-! DEFINITION. The word types of the Z36 (Table SCP-3, Table WRD-1) and their plainest arithmetic. -/

namespace Sys2Proof

/-- A word: 36 bits, the addressable unit (Table SCP-3). -/
abbrev Word := BitVec 36
/-- A half: 18 bits (Table SCP-3). -/
abbrev Half := BitVec 18
/-- A double: 72 bits, two words, the lower address less significant (R15). -/
abbrev Dbl := BitVec 72
/-- A host word: 32 bits, the unit on PCIe and in host memory (R22). -/
abbrev HWord := BitVec 32
/-- An 80-bit accumulator (Table WRD-2). -/
abbrev Acc := BitVec 80
/-- An arithmetic flag field ARF[6:0] (Table ARI-3). -/
abbrev Arf := BitVec 7

/-- Number of words in the 36-bit word-address space. -/
def addrSpace : Nat := 2 ^ 36

/-- A word from a natural number, modulo 2^36. -/
def mkW (n : Nat) : Word := BitVec.ofNat 36 n

/-- A word from an integer, modulo 2^36. -/
def wOfInt (i : Int) : Word := BitVec.ofInt 36 i

end Sys2Proof
end

