-- ==== Sys2Proof/Config.lean ====
section
/-! DEFINITION. What a module fixes for its whole life (part, fuses, straps are data of `Cfg`) and the free values: opaque
constants, with no body, for values the spec leaves open. -/

namespace Sys2Proof

/-- The three parts of Table SCP-1. -/
inductive Part where
  | z1604 | z0802 | z0401
  deriving DecidableEq, Repr

/-- Signal clusters of a part (Table SCP-1). -/
def Part.clusters : Part → Nat
  | .z1604 => 16 | .z0802 => 8 | .z0401 => 4
/-- Vector pipes of a part (Table SCP-1). -/
def Part.pipes : Part → Nat
  | .z1604 => 4 | .z0802 => 2 | .z0401 => 1
/-- Ringmaster cores of a part (Table SCP-1). -/
def Part.cores : Part → Nat
  | .z1604 => 4 | .z0802 => 2 | .z0401 => 2
/-- Stream Memory words of a part (Table SCP-1). -/
def Part.streamWords : Part → Nat
  | .z1604 => 8 * 2 ^ 20 | .z0802 => 4 * 2 ^ 20 | .z0401 => 2 * 2 ^ 20
/-- Stream banks of a part (Table SCP-1). -/
def Part.banks : Part → Nat
  | .z1604 => 256 | .z0802 => 128 | .z0401 => 64
/-- Bulk Memory words of a part (Table SCP-1). -/
def Part.bulkWords : Part → Nat
  | .z1604 => 8 * 2 ^ 30 | .z0802 => 8 * 2 ^ 30 | .z0401 => 4 * 2 ^ 30
/-- DDR5 channels of a part (Table SCP-1). -/
def Part.channels : Part → Nat
  | .z1604 => 2 | .z0802 => 2 | .z0401 => 1
/-- Field ports of a part (Table SCP-1). -/
def Part.ports : Part → Nat
  | .z1604 => 8 | .z0802 => 8 | .z0401 => 4
/-- Briby links of a part (Table SCP-1). -/
def Part.links : Part → Nat
  | .z1604 => 4 | .z0802 => 4 | .z0401 => 2
/-- Signal queues of a part (Table SCP-1). -/
def Part.queues : Part → Nat
  | .z1604 => 262144 | .z0802 => 131072 | .z0401 => 65536
/-- PCIe Device ID (Table SCP-1). -/
def Part.deviceId : Part → Nat
  | .z1604 => 0x3604 | .z0802 => 0x3602 | .z0401 => 0x3601
/-- Stacked running priority with nesting (Z36-1604), or fixed order (R2, Table SCP-1). -/
def Part.stacked : Part → Bool
  | .z1604 => true | .z0802 => false | .z0401 => false

/-- A free word: the value the spec leaves open at the n-th such point of a run. -/
opaque Config.freeWord : Nat → Word
/-- A free natural number (a delay, a position) the spec leaves open at the n-th such point of a run. -/
opaque Config.freeNat : Nat → Nat
/-- What a chain port delivers as an operand of so many words when the element pushed is of another width: R86 and R112 do not say. -/
opaque Config.chainWidth : Nat → Nat → Nat
/-- The quarter of a nanosecond past Device Time (first the link, then Device Time) at which a GAP block leaves (R334). -/
opaque Config.txQuarter : Nat → Nat → Nat
/-- ECHO of a GAP block sent on a link, at a Device Time, before any GAP block has arrived on it (R334). -/
opaque Config.gapEcho : Nat → Nat → Nat
/-- Hops to a module that a HELLO leads to and gives no count for (R335, R336). -/
opaque Config.helloHops : Word → Word → Nat → Nat
/-- Whether a HELLO shows its sender to be the primary of its pair (R346): the spec gives no bit for it. -/
opaque Config.helloPrimary : Word → Word → Bool
/-- Data word i of CASC_STATUS, of which the spec gives the content and the count but no layout (Table HCI-4): module and master word, link words,
round trips, route bitmap. -/
opaque Config.cascWord : Nat → Word → List Word → List Nat → Nat → BitVec 32
/-- Olurdabo's JEP106 code in the JTAG IDCODE (R415), which the spec does not give. -/
opaque Config.jep106 : BitVec 11

end Sys2Proof
end

