-- ==== Sys2Proof/Syntax.lean ====
section
/-! DEFINITION. The commands of the module: one constructor per row of the table of operations and events (spec/opcode_table.json),
with the operands the rows' rules give them. -/

namespace Sys2Proof

/-- The operand fields of a vector instruction beside its operation code (Table VEC-4); `res` holds the reserved bits 16:0 of
word 0. -/
structure VFields where
  typ : BitVec 3
  rnd : BitVec 3
  sat : Bool
  conv : Bool
  planned : Bool
  res : BitVec 17
  d : BitVec 9
  a : BitVec 9
  b : BitVec 9
  c : BitVec 9
  n : BitVec 24
  mod : BitVec 12
  deriving DecidableEq, Repr

/-- Where a vector instruction comes from (R92): a VECTOR_BLOCK action `act` with the address of its word 0, or VISSUE with the
issuing core, its level, that level's regions, the task-state block current on it and the PC of the VISSUE. -/
inductive VOrg where
  | cal (act addr : Nat)
  | rm (core level : Nat) (regions : List (Word × Word)) (tsb pc : Nat)
  deriving DecidableEq, Repr

/-- A unit under the common disable and re-enable rule (R396). -/
inductive UnitRef where
  | pipe (p : Nat)
  | cluster (n : Nat)
  | port (p : Nat)
  | link (l : Nat)
  | dma (c : Nat)
  | probe (c : Nat)
  deriving DecidableEq, Repr

/-- The fields of a cluster operation word outside OPC (Table CLU-2): END, COND, whether it names the second of a doubled unit
(M1, A1 or Y; NOP names its unit itself). -/
structure OpHead where
  last : Bool
  cond : BitVec 4
  alt : Bool
  deriving DecidableEq, Repr

/-- A Midway access to a cluster's X, Y or shared memory (R145): offset within the window, and a write's word with the halves it
writes. -/
inductive WinAcc where
  | read (off : Nat)
  | write (off : Nat) (w : Word) (hi lo : Bool)
  deriving DecidableEq, Repr

/-- A frame a field port receives: whether its FCS is good, the number of IEEE 802.1Q tags, the source MAC address, the EtherType,
and the octets after it. -/
structure RxFrame where
  fcsOk : Bool
  tags : Nat
  srcMac : Nat
  etype : Nat
  body : List (BitVec 8)
  deriving DecidableEq, Repr

/-- Which packet a command row executes: the one fetched from ring r, or the first in the buffer for UDP, forwarded and UART packets. -/
inductive CmdSrc where
  | ring (r : Nat)
  | mail
  deriving DecidableEq, Repr

/-- A Briby packet (Tables CAS-2, CAS-3). -/
structure BPkt where
  ptype : Nat
  dest : Nat
  src : Nat
  tag : Nat
  addr : Nat
  words : List Word
  deriving DecidableEq, Repr

/-- What a Midway transaction does (R304, R355): a read of n words, a write of words with the halves written (upper, lower), an atomic,
a SYNC, or a DMA channel's host side: a read of n device words' worth of host memory under CONV, a write of host words. -/
inductive TKind where
  | read (n : Nat)
  | write (ws : List (Word × Bool × Bool))
  | fadd (w : Word)
  | swap (w : Word)
  | sync (port : Nat)
  | hread (n conv : Nat) (signed : Bool)
  | hwrite (hs : List HWord)
  deriving DecidableEq, Repr

/-- A transaction a master issues (R304): master number, ID, QoS (used for DMA ports only), address (a host byte address for a host
side) and kind. -/
structure TxnReq where
  master : Nat
  id : Nat
  qos : Nat
  addr : Nat
  kind : TKind
  deriving DecidableEq, Repr

/-- A command to the module: one constructor per row of the table of operations and events. -/
inductive Instr where
  /-- R6. A write to a register field that has no behaviour of its own and no row of its own, applied under its Access code. -/
  | registerWrite (m lvl a : Nat) (w : Word)
  /-- R54. A bank grants a waiting shared-class access, such as a Midway-side, gather or block-fetch access, in a VEC cycle that owner-class requests leave free. -/
  | sharedAccessGrant (b : Nat)
  /-- R63. A bank writes the merged word of a half write or atomic from its completion register at its next cycle without an owner-class grant. -/
  | rmwCompletion (b : Nat)
  /-- R64. A bank writes back a word corrected after a single-bit error at its next cycle free of grants, unless the word has been written before then. -/
  | correctedWriteBack (b : Nat)
  /-- R66. The Stream Memory scrubber reads and corrects the next row in a bank cycle that no requester uses. -/
  | patrolScrub (b : Nat)
  /-- R69. Zero initialisation of every Stream Memory bank completes, INIT_DONE reads 1, and Midway stops holding Stream Memory requests. -/
  | streamInitDone
  /-- R70. A write to LVT_BASE takes effect only in CONFIGURE and only when every slot lies inside Stream Memory; otherwise it is ignored. -/
  | lvtBaseWrite (w : Word)
  /-- R74. A partial or unaligned Bulk Memory write enters or merges into a combining-buffer entry; an entry that becomes complete is written as a full burst, and the oldest entry yields when the buffer is full. -/
  | bulkPartialWrite (a : Nat) (ws : List Word)
  /-- R74. An aligned 16-word write replaces its burst without a read, supersedes any buffer entry for that burst and removes any error in it. -/
  | bulkBurstWrite (a : Nat) (ws : List Word)
  /-- R74. A combining-buffer entry still incomplete 1,024 BLK cycles after its first write is written by read-modify-write. -/
  | combineEntryTimeout (burst : Nat)
  /-- R74. A write of 1 to FLUSH starts writing every combining-buffer entry, and FLUSH reads 1 until the writing ends. -/
  | flush
  /-- R74. The last combining-buffer entry has been written, and FLUSH returns to 0. -/
  | flushDone
  /-- R75. The Bulk Memory controller serves a read in arrival order per burst, merging buffered words and correcting or reporting errors. -/
  | bulkRead (a n tag : Nat)
  /-- R75. The refresh interval of 3.9 µs, or 1.95 µs while hot, expires and the controller refreshes the devices. -/
  | bulkRefresh (ch : Nat)
  /-- R75. A DDR5 device temperature crosses 85 °C, which halves or restores the refresh interval and sets or clears HOT_REFRESH. -/
  | dramTemperatureReport (dev : Nat) (hot : Bool)
  /-- R77. The Bulk Memory scrubber reads the next burst at its paced interval and corrects it as a read does. -/
  | bulkScrubRead
  /-- R78. DDR training from the cache, or full training after a failed cache check, completes, and the zero fill begins. -/
  | bulkTrainingDone (full : Bool)
  /-- R78. The zero fill of Bulk Memory completes, INIT_DONE is set, and Midway stops holding Bulk Memory requests. -/
  | bulkZeroFillDone
  /-- R93. The block fetcher of a pipe presents the three words of the next block instruction when the Calliope queue has a free entry, and enters the instruction once all three words have returned. -/
  | blockFetch (p : Nat)
  /-- R57. A pipe moves to its next element group once every access of the current group has been granted, and otherwise stalls for one VEC cycle. -/
  | vectorGroupAdvance (mask : BitVec 4)
  /-- R87. An instruction that has waited on a chain port for CHAIN_TIMEOUT µs faults at its current element. -/
  | chainTimeout (p : Nat)
  /-- R101. A write of 1 to RM_RELEASE clears RM_HELD, so that instructions in the Ringmaster queue may start again. -/
  | rmRelease (p : Nat)
  /-- R104. A pipe that has been IDLE for IDLE_TIME µs begins its 0.2 µs entry into RETAINED or GATED. -/
  | pipeIdleTimeout (p : Nat)
  /-- R104. The 0.2 µs power-down entry of a pipe completes and the pipe is RETAINED or GATED, or, if an issue or WAKE arrived during the entry, a full wake starts. -/
  | pipePowerdownDone (p : Nat)
  /-- R105. The wake of a pipe completes after 0.4 µs or 1.6 µs, and a waiting instruction may start. -/
  | pipeWakeDone (p : Nat)
  /-- R108. A write to the long-register window waits while an instruction runs and takes effect between instructions; on a powered-down pipe it is answered with a bus error. -/
  | longRegisterWrite (p off : Nat) (w : Word)
  /-- R396. A write of ENABLE to a pipe, cluster, port, link, DMA channel or probe channel starts, reverses or schedules a disable or re-enable. -/
  | unitEnableWrite (u : UnitRef) (en : Bool)
  /-- R396. A DRAINING unit has emptied its work and passes to ISOLATING. -/
  | unitDrainComplete (u : UnitRef)
  /-- R106. DRAIN_LIMIT expires for a draining unit, which cuts its running work with DRAIN_CUT and passes to ISOLATING. -/
  | drainLimitExpiry (u : UnitRef)
  /-- R396. The ISOLATING time of a unit ends, the unit is OFF, and a remembered enable starts WAKING. -/
  | unitIsolateDone (u : UnitRef)
  /-- R396. The WAKING time of a unit ends, the unit returns to ON, and a pending disable starts DRAINING. -/
  | unitWakeDone (u : UnitRef)
  /-- R116. A vector instruction that copies A to D bit for bit. -/
  | vmov (p : Nat) (o : VOrg) (f : VFields)
  /-- R116. A vector add, element by element. -/
  | vadd (p : Nat) (o : VOrg) (f : VFields)
  /-- R116. A vector subtract, element by element. -/
  | vsub (p : Nat) (o : VOrg) (f : VFields)
  /-- R117. A vector negate, saturating or wrapping. -/
  | vneg (p : Nat) (o : VOrg) (f : VFields)
  /-- R117. A vector absolute value, saturating or wrapping. -/
  | vabs (p : Nat) (o : VOrg) (f : VFields)
  /-- R117. A vector element-wise minimum. -/
  | vmin (p : Nat) (o : VOrg) (f : VFields)
  /-- R117. A vector element-wise maximum. -/
  | vmax (p : Nat) (o : VOrg) (f : VFields)
  /-- R116. A vector copy-sign of floating-point elements. -/
  | vcpys (p : Nat) (o : VOrg) (f : VFields)
  /-- R116. A vector bitwise AND. -/
  | vand (p : Nat) (o : VOrg) (f : VFields)
  /-- R116. A vector bitwise OR. -/
  | vor (p : Nat) (o : VOrg) (f : VFields)
  /-- R116. A vector bitwise XOR. -/
  | vxor (p : Nat) (o : VOrg) (f : VFields)
  /-- R116. A vector bitwise NOT. -/
  | vnot (p : Nat) (o : VOrg) (f : VFields)
  /-- R117. A vector shift left, saturating or discarding. -/
  | vshl (p : Nat) (o : VOrg) (f : VFields)
  /-- R117. A vector arithmetic shift right, rounded under CONV. -/
  | vshra (p : Nat) (o : VOrg) (f : VFields)
  /-- R117. A vector logical shift right with zero fill. -/
  | vshrl (p : Nat) (o : VOrg) (f : VFields)
  /-- R117. A vector compare that writes all ones or zero per element. -/
  | vcmp (p : Nat) (o : VOrg) (f : VFields)
  /-- R117. A vector select of B or C by A. -/
  | vsel (p : Nat) (o : VOrg) (f : VFields)
  /-- R117. A vector clamp of A between B and C. -/
  | vclamp (p : Nat) (o : VOrg) (f : VFields)
  /-- R118. A vector linear interpolation A + C × (B − A). -/
  | vlerp (p : Nat) (o : VOrg) (f : VFields)
  /-- R119. A vector index generation, optionally bit-reversed. -/
  | vidx (p : Nat) (o : VOrg) (f : VFields)
  /-- R117. A vector multiply to word results. -/
  | vmul (p : Nat) (o : VOrg) (f : VFields)
  /-- R117. A vector exact multiply to double results. -/
  | vmuld (p : Nat) (o : VOrg) (f : VFields)
  /-- R116. A vector floating-point fused multiply-add. -/
  | vfma (p : Nat) (o : VOrg) (f : VFields)
  /-- R117. A vector exact multiply-add into doubles. -/
  | vmacd (p : Nat) (o : VOrg) (f : VFields)
  /-- R117. A vector store of a double as a word, rounded and saturated. -/
  | vrnd (p : Nat) (o : VOrg) (f : VFields)
  /-- R120. A vector format conversion. -/
  | vcvt (p : Nat) (o : VOrg) (f : VFields)
  /-- R117. A vector divide. -/
  | vdiv (p : Nat) (o : VOrg) (f : VFields)
  /-- R117. A vector integer divide that writes quotient and remainder. -/
  | vdivr (p : Nat) (o : VOrg) (f : VFields)
  /-- R116. A vector floating-point square root. -/
  | vsqrt (p : Nat) (o : VOrg) (f : VFields)
  /-- R122. A vector queue-snapshot read of Latest Value Table slots with an age check. -/
  | vqget (p : Nat) (o : VOrg) (f : VFields)
  /-- R124. A vector sum reduction. -/
  | vrsum (p : Nat) (o : VOrg) (f : VFields)
  /-- R124. A vector dot-product reduction. -/
  | vrdot (p : Nat) (o : VOrg) (f : VFields)
  /-- R126. A vector minimum reduction, with the index as an option. -/
  | vrmin (p : Nat) (o : VOrg) (f : VFields)
  /-- R126. A vector maximum reduction, with the index as an option. -/
  | vrmax (p : Nat) (o : VOrg) (f : VFields)
  /-- R127. A banded product that reduces each row into one element of D. -/
  | vband (p : Nat) (o : VOrg) (f : VFields)
  /-- R128. A correlation of A against a PRBS stream over L lags. -/
  | vxcor (p : Nat) (o : VOrg) (f : VFields)
  /-- R130. Radix-2 complex FFT butterflies. -/
  | vbfly (p : Nat) (o : VOrg) (f : VFields)
  /-- R90. A vector no-operation of one VEC cycle. -/
  | vnop (p : Nat) (o : VOrg) (f : VFields)
  /-- R98. A vector fence that holds the pipe until the recorded instructions of the masked pipes have ended. -/
  | vfence (p : Nat) (o : VOrg) (f : VFields)
  /-- R152. A write of 1 to a cluster's START starts it at ENTRY, or the start is refused or ignored. -/
  | start (n : Nat)
  /-- R154. A write of 1 to a cluster's STOP ends issue; in-flight results land and the cluster becomes STOPPED. -/
  | stop (n : Nat)
  /-- R156. A write of 1 to FAULT_ACK moves a FAULTED cluster to STOPPED. -/
  | faultAck (n : Nat)
  /-- R150. The end bundle of the innermost loop level issues; the count decrements, the level repeats or closes, and CPOS advances for rotating levels. -/
  | loopIterationEnd (n : Nat)
  /-- R140. A cluster operation's result lands in its destination after its latency, with collisions resolved under R142 and a MEM_UE load faulting here. -/
  | clusterResultLanding (n : Nat)
  /-- R141. A cluster store reaches memory three cycles after issue. -/
  | storeReachesMemory (n : Nat)
  /-- R153. The last in-flight result of a halting, stopping or faulting cluster lands, and the cluster becomes HALTED, STOPPED or FAULTED. -/
  | clusterFinish (n : Nat)
  /-- R145. A Midway access to a cluster's X, Y or shared memory is performed, retried, or answered OWNED or WRITE_LOST in a CLU cycle. -/
  | clusterWindowAccess (n tag : Nat) (w : WinAcc)
  /-- R157. A cluster that has been IDLE for IDLE_TIME µs powers down to RETAINED or GATED. -/
  | clusterIdleTimeout (n : Nat)
  /-- R157. A cluster's wake from RETAINED or GATED completes, and a waiting start proceeds. -/
  | clusterWakeDone (n : Nat)
  /-- R159. Zero initialisation of a cluster's memories completes after a cold reset, and INIT_DONE reads 1. -/
  | clusterInitDone (n : Nat)
  /-- R163. A cluster no-operation in any unit. -/
  | nop (n : Nat) (h : OpHead) (unit : BitVec 3)
  /-- R166. A multiply-accumulate of a 72-bit product into an accumulator. -/
  | mac (n : Nat) (h : OpHead) (b : BitVec 22)
  /-- R166. A dual 18 × 18 multiply-accumulate on the sub-accumulators. -/
  | mach (n : Nat) (h : OpHead) (b : BitVec 22)
  /-- R166. A crossed dual 18 × 18 multiply-accumulate. -/
  | macx (n : Nat) (h : OpHead) (b : BitVec 22)
  /-- R167. A load of a double or a Q35 word into an accumulator. -/
  | acld (n : Nat) (h : OpHead) (b : BitVec 22)
  /-- R31. A store of an accumulator as Q35 to a data register. -/
  | sacq (n : Nat) (h : OpHead) (b : BitVec 22)
  /-- R31. A store of an accumulator as I36. -/
  | saci (n : Nat) (h : OpHead) (b : BitVec 22)
  /-- R31. A store of a full accumulator as a Q17 half. -/
  | sach (n : Nat) (h : OpHead) (b : BitVec 22)
  /-- R31. A store of both sub-accumulators as Q17 halves. -/
  | sacd (n : Nat) (h : OpHead) (b : BitVec 22)
  /-- R31. A store of both sub-accumulators as I18 halves. -/
  | sacdi (n : Nat) (h : OpHead) (b : BitVec 22)
  /-- R167. A store of an accumulator saturated to I72 into a double. -/
  | sacw (n : Nat) (h : OpHead) (b : BitVec 22)
  /-- R168. A cluster I36 multiply into a data register. -/
  | mul (n : Nat) (h : OpHead) (b : BitVec 22)
  /-- R168. A cluster Q35 multiply. -/
  | mulq (n : Nat) (h : OpHead) (b : BitVec 22)
  /-- R168. A cluster dual I18 multiply. -/
  | mulh (n : Nat) (h : OpHead) (b : BitVec 22)
  /-- R168. A cluster dual Q17 multiply. -/
  | mulhq (n : Nat) (h : OpHead) (b : BitVec 22)
  /-- R168. A cluster exact multiply into a double. -/
  | muld (n : Nat) (h : OpHead) (b : BitVec 22)
  /-- R36. A cluster F36 add. -/
  | fadd (n : Nat) (h : OpHead) (b : BitVec 22)
  /-- R36. A cluster F36 subtract. -/
  | fsub (n : Nat) (h : OpHead) (b : BitVec 22)
  /-- R36. A cluster F36 multiply. -/
  | fmul (n : Nat) (h : OpHead) (b : BitVec 22)
  /-- R168. A cluster F36 fused multiply-add into Dd. -/
  | fma (n : Nat) (h : OpHead) (b : BitVec 22)
  /-- R168. A cluster F36 fused negated multiply-add. -/
  | fnma (n : Nat) (h : OpHead) (b : BitVec 22)
  /-- R169. A cluster add, full word or per half. -/
  | add (n : Nat) (h : OpHead) (b : BitVec 22)
  /-- R169. A cluster subtract. -/
  | sub (n : Nat) (h : OpHead) (b : BitVec 22)
  /-- R169. A cluster add of an immediate, wrapping. -/
  | addi (n : Nat) (h : OpHead) (b : BitVec 22)
  /-- R169. A cluster negate. -/
  | neg (n : Nat) (h : OpHead) (b : BitVec 22)
  /-- R169. A cluster absolute value. -/
  | abs (n : Nat) (h : OpHead) (b : BitVec 22)
  /-- R169. A cluster signed minimum. -/
  | min (n : Nat) (h : OpHead) (b : BitVec 22)
  /-- R169. A cluster signed maximum. -/
  | max (n : Nat) (h : OpHead) (b : BitVec 22)
  /-- R169. A cluster bitwise AND. -/
  | and (n : Nat) (h : OpHead) (b : BitVec 22)
  /-- R169. A cluster bitwise OR. -/
  | or (n : Nat) (h : OpHead) (b : BitVec 22)
  /-- R169. A cluster bitwise XOR. -/
  | xor (n : Nat) (h : OpHead) (b : BitVec 22)
  /-- R169. A cluster AND with the complement of Db. -/
  | andn (n : Nat) (h : OpHead) (b : BitVec 22)
  /-- R169. A cluster bitwise NOT. -/
  | not (n : Nat) (h : OpHead) (b : BitVec 22)
  /-- R169. A cluster register move. -/
  | mov (n : Nat) (h : OpHead) (b : BitVec 22)
  /-- R169. A cluster shift left by a register count. -/
  | shl (n : Nat) (h : OpHead) (b : BitVec 22)
  /-- R169. A cluster arithmetic shift right by a register count. -/
  | shra (n : Nat) (h : OpHead) (b : BitVec 22)
  /-- R169. A cluster logical shift right by a register count. -/
  | shrl (n : Nat) (h : OpHead) (b : BitVec 22)
  /-- R169. A cluster shift left by an immediate count. -/
  | shli (n : Nat) (h : OpHead) (b : BitVec 22)
  /-- R169. A cluster arithmetic shift right by an immediate count. -/
  | shrai (n : Nat) (h : OpHead) (b : BitVec 22)
  /-- R169. A cluster logical shift right by an immediate count. -/
  | shrli (n : Nat) (h : OpHead) (b : BitVec 22)
  /-- R170. A cluster signed compare into a condition register. -/
  | cmp (n : Nat) (h : OpHead) (b : BitVec 22)
  /-- R170. A cluster unsigned compare. -/
  | cmpu (n : Nat) (h : OpHead) (b : BitVec 22)
  /-- R170. A cluster F36 compare. -/
  | fcmp (n : Nat) (h : OpHead) (b : BitVec 22)
  /-- R170. A cluster compare against an immediate. -/
  | cmpi (n : Nat) (h : OpHead) (b : BitVec 22)
  /-- R170. A logic operation on condition registers. -/
  | clog (n : Nat) (h : OpHead) (b : BitVec 22)
  /-- R171. A move of a data register into a P, M, B or L register. -/
  | mvr (n : Nat) (h : OpHead) (b : BitVec 22)
  /-- R171. A move of an immediate into a P, M, B or L register. -/
  | mvri (n : Nat) (h : OpHead) (b : BitVec 22)
  /-- R171. A read of a P, M, B or L register into a data register. -/
  | getr (n : Nat) (h : OpHead) (b : BitVec 22)
  /-- R171. A write of a sign-extended 18-bit immediate to a data register. -/
  | sets (n : Nat) (h : OpHead) (dst : BitVec 6) (imm : BitVec 18)
  /-- R171. A write of an immediate into the upper half of a data register. -/
  | seth (n : Nat) (h : OpHead) (dst : BitVec 6) (imm : BitVec 18)
  /-- R172. A cluster word load with a pointer update. -/
  | ld (n : Nat) (h : OpHead) (b : BitVec 22)
  /-- R172. A cluster load of half 0, sign-extended. -/
  | ldh0 (n : Nat) (h : OpHead) (b : BitVec 22)
  /-- R172. A cluster load of half 1, sign-extended. -/
  | ldh1 (n : Nat) (h : OpHead) (b : BitVec 22)
  /-- R173. A cluster double load. -/
  | ldd (n : Nat) (h : OpHead) (b : BitVec 22)
  /-- R172. A cluster word store. -/
  | st (n : Nat) (h : OpHead) (b : BitVec 22)
  /-- R173. A cluster store into half 0. -/
  | sth0 (n : Nat) (h : OpHead) (b : BitVec 22)
  /-- R173. A cluster store into half 1. -/
  | sth1 (n : Nat) (h : OpHead) (b : BitVec 22)
  /-- R173. A cluster double store. -/
  | std (n : Nat) (h : OpHead) (b : BitVec 22)
  /-- R172. A cluster pointer update without an access. -/
  | modp (n : Nat) (h : OpHead) (b : BitVec 22)
  /-- R151. A cluster branch to an immediate target. -/
  | br (n : Nat) (h : OpHead) (b : BitVec 22)
  /-- R151. A cluster branch to a register target. -/
  | brr (n : Nat) (h : OpHead) (b : BitVec 22)
  /-- R153. A cluster halt; the cluster enters FINISHING. -/
  | halt (n : Nat) (h : OpHead) (b : BitVec 22)
  /-- R174. A write of a loop end address to LTGT. -/
  | lend (n : Nat) (h : OpHead) (b : BitVec 22)
  /-- R149. A loop start with a count taken from a register. -/
  | loopr (n : Nat) (h : OpHead) (rot : Bool) (b : BitVec 22)
  /-- R149. A loop start with an immediate count and end bundle LTGT. -/
  | loopi (n : Nat) (h : OpHead) (rot : Bool) (count : BitVec 24)
  /-- R176. A maximum search step on a running best and its index. -/
  | smax (n : Nat) (h : OpHead) (b : BitVec 22)
  /-- R176. A minimum search step on a running best and its index. -/
  | smin (n : Nat) (h : OpHead) (b : BitVec 22)
  /-- R177. A cluster I36 divide. -/
  | div (n : Nat) (h : OpHead) (b : BitVec 22)
  /-- R177. A cluster divide that writes quotient and remainder. -/
  | divr (n : Nat) (h : OpHead) (b : BitVec 22)
  /-- R177. A cluster Q35 divide. -/
  | qdiv (n : Nat) (h : OpHead) (b : BitVec 22)
  /-- R177. A cluster F36 divide. -/
  | fdiv (n : Nat) (h : OpHead) (b : BitVec 22)
  /-- R177. A cluster F36 square root. -/
  | fsqrt (n : Nat) (h : OpHead) (b : BitVec 22)
  /-- R178. A cluster format conversion. -/
  | cvt (n : Nat) (h : OpHead) (b : BitVec 22)
  /-- R179. A cluster round-and-saturate of a double to a word. -/
  | rsat (n : Nat) (h : OpHead) (b : BitVec 22)
  /-- R180. A cluster count of leading sign bits. -/
  | cls (n : Nat) (h : OpHead) (b : BitVec 22)
  /-- R180. A cluster population count. -/
  | popc (n : Nat) (h : OpHead) (b : BitVec 22)
  /-- R180. A cluster zero-extended field extract. -/
  | extu (n : Nat) (h : OpHead) (b : BitVec 22)
  /-- R180. A cluster sign-extended field extract. -/
  | exts (n : Nat) (h : OpHead) (b : BitVec 22)
  /-- R180. A cluster field insert. -/
  | ins (n : Nat) (h : OpHead) (b : BitVec 22)
  /-- R180. A cluster reversal of the 36 bits of a word. -/
  | brev (n : Nat) (h : OpHead) (b : BitVec 22)
  /-- R181. Device Time reaches the next instant of a TIME grid, and a minor tick is raised in AON. -/
  | timeTick
  /-- R181. The encoder count first reaches the next DISTANCE threshold, and a tick is delivered or coalesced under MIN_SPACING. -/
  | distanceTick
  /-- R183. MIN_SPACING ends; one tick is delivered if thresholds were crossed meanwhile, and FAST_LIMIT is checked. -/
  | minSpacingEnd
  /-- R183. No tick has been delivered for MAX_SPACING; TICK_LOSS is set, source 29 is raised and the TICK_LOSS policy applies. -/
  | tickLoss
  /-- R184. A tick reaches Calliope, which begins dispatching that tick's actions in image order. -/
  | tickArrival
  /-- R188. A timetable NOP action, which does nothing. -/
  | actionNop
  /-- R188. An action that starts each masked cluster at ENTRY. -/
  | clusterStart
  /-- R192. An action that checks that the masked clusters are HALTED, setting DL_MISS and applying the DEADLINE policy otherwise. -/
  | clusterDeadline
  /-- R93. An action that runs an instruction list from Stream Memory on a pipe. -/
  | vectorBlock
  /-- R188. An action that starts each masked DMA channel with QoS 15. -/
  | dmaStart
  /-- R227. An action that fixes the Latest Value Table view, after which Calliope waits for pending ring writes to be accepted. -/
  | queueFreeze
  /-- R230. An action that sends the named output streams of a port, carrying PSTEP and APPLY. -/
  | frameEmit
  /-- R247. An action that advances PSTEP, evaluates the Probe Guard and writes the step status. -/
  | probeStep
  /-- R254. An action that tests the inactive Response Map buffer and installs it if it passes. -/
  | mapSwap
  /-- R369. An action that applies the SEALED parameter sets in its mask. -/
  | paramCommit
  /-- R105. An action that wakes the masked clusters and pipes. -/
  | wake
  /-- R104. An action that powers the masked units down once they are idle. -/
  | sleep
  /-- R188. An action that writes EVENT_CODE n and raises source 16 + n. -/
  | event
  /-- R190. An action that holds later actions until the named completions arrive. -/
  | barrier
  /-- R145. An action that writes OWN_X and OWN_Y of the masked clusters. -/
  | ownership
  /-- R203. An action at which a pending, resident switch target commits. -/
  | switchPoint
  /-- R190. The last completion of a held barrier reaches Calliope, and the held actions are dispatched. -/
  | barrierRelease
  /-- R191. Tick D + 1 arrives with the barrier's completions outstanding; BARRIER_MISS is set and the BARRIER policy applies. -/
  | barrierMiss
  /-- R193. A Calliope-origin vector fault or a cluster fault reaches Calliope, which resumes or ends the work and applies the UNIT_FAULT policy. -/
  | unitFaultReport
  /-- R198. The loader's last write makes a timetable resident in the active, standby or next slot. -/
  | timetableLoadDone
  /-- R199. After a warm start releases MWY work with AUTO_REARM set, Calliope re-applies REGWRITE sections, reloads the active timetable and resumes at the next frame boundary. -/
  | calliopeRearm
  /-- R211. A port checks a received Ethernet frame and passes it to PTP, ARP, signal-frame, command or drop handling. -/
  | receiveFrame (p : Nat) (f : RxFrame)
  /-- R218. No sync information has arrived for 3 s; SYNC_STATE enters HOLDOVER and SYNC_LOST is set. -/
  | syncHoldoverTimeout
  /-- R219. A time-transmitter port sends its periodic PTP messages serving Device Time. -/
  | ptpSyncTransmit (p : Nat)
  /-- R221. The classifier looks up a record's samples, assigns queues or counts misses, and places samples in the port FIFO. -/
  | classifierLookup (p : Nat)
  /-- R224. The queue engine commits a sample to its ring and updates or holds its Latest Value Table slot. -/
  | sampleCommit
  /-- R222. A CLS_OP INSERT places a classifier entry in its set or reports the reason for refusal. -/
  | clsInsert
  /-- R222. A CLS_OP DELETE removes a classifier entry. -/
  | clsDelete
  /-- R222. A CLS_OP FIND reports where a classifier entry lies. -/
  | clsFind
  /-- R223. A QD_OP READ moves a queue descriptor into QD_W0 and QD_W1. -/
  | qdRead
  /-- R223. A QD_OP WRITE checks and writes a queue descriptor between two commits. -/
  | qdWrite
  /-- R227. The FREEZE_TICKSth tick after a freeze, or another thaw cause, ends the frozen view and starts writing the held samples into their slots. -/
  | queueThaw
  /-- R227. The last held sample has been written, THAWING clears, and a deferred freeze takes effect. -/
  | thawDone
  /-- R230. A FRAME_EMIT reaches its port, which withdraws pending replays and begins assembling the streams in order. -/
  | frameEmitArrival (p : Nat)
  /-- R230. The assembler reads a stream's values, writes the Keeper image, adds probe components and queues a SCHED frame. -/
  | streamAssembly (p : Nat)
  /-- R231. A port transmits its next queued frame in priority order. -/
  | frameTransmit (p : Nat)
  /-- R233. A stream's Keeper timer reaches KEEP_PERIOD, and the Keeper queues a replay or a hold-expired frame. -/
  | keeperTimerExpiry (p st : Nat)
  /-- R233. A write of 1 to KPRIME makes an EMPTY stream ACTIVE and restarts its HOLD_MAX reference time. -/
  | kprime (p st : Nat)
  /-- R233. A write of 0 to a stream's VALID makes the stream EMPTY. -/
  | streamValidClear (p st : Nat)
  /-- R214. A write to word 0 of a node table entry clears SEEN, so that the next frame is accepted whatever its SEQ. -/
  | nodeEntryWrite (n : Nat) (w : Word)
  /-- R235. Device Time reaches a buffer's opening time plus WINDOW, and the buffer becomes CLOSED. -/
  | eventWindowClose (c b : Nat)
  /-- R236. A write of 1 to ACK0 or ACK1 makes a CLOSED coalescer buffer FREE. -/
  | ack (c b : Nat)
  /-- R237. A field port link goes up or down, setting LINK_CHG and raising its source. -/
  | linkChange (p : Nat) (up : Bool)
  /-- R237. LINK has read 0 for LINK_DOWN_MS, and the port is reported down to Calliope. -/
  | linkDownReport (p : Nat)
  /-- R244. A write of a probe channel's VALID checks and configures the entry, or is refused with CFG_REJECT. -/
  | channelValidWrite (c : Nat) (w : Word)
  /-- R247. A write to PSTEP_LO or PSTEP_HI takes effect only in CONFIGURE. -/
  | pstepWrite (hi : Bool) (w : Word)
  /-- R251. A write of 1 to GUARD_FORCE trips the Probe Guard at once. -/
  | guardForce
  /-- R256. A write of 1 to SWAP_NOW runs the map test and swap at once, or is refused while Calliope plays. -/
  | swapNow
  /-- R256. A write of 1 to REVERT sets REVERT_PENDING, or reverts at once when Calliope is not playing. -/
  | revert
  /-- R264. A Ringmaster no-operation. -/
  | rmNop (n : Nat)
  /-- R264. A duplicate of the top of the data stack. -/
  | dup (n : Nat)
  /-- R264. A discard of the top of the data stack. -/
  | drop (n : Nat)
  /-- R264. An exchange of the top two data-stack entries. -/
  | swap (n : Nat)
  /-- R264. A copy of the second data-stack entry to the top. -/
  | rmOver (n : Nat)
  /-- R264. A rotation of the top three data-stack entries. -/
  | rot (n : Nat)
  /-- R264. A removal of the second data-stack entry. -/
  | nip (n : Nat)
  /-- R264. A copy of the data-stack entry n places down to the top. -/
  | pick (n : Nat)
  /-- R264. A move from the data stack to the return stack. -/
  | tor (n : Nat)
  /-- R264. A move from the return stack to the data stack. -/
  | fromr (n : Nat)
  /-- R264. A copy of the top of the return stack to the data stack. -/
  | rfetch (n : Nat)
  /-- R264. A Ringmaster add, wrapping. -/
  | rmAdd (n : Nat)
  /-- R264. A Ringmaster subtract, wrapping. -/
  | rmSub (n : Nat)
  /-- R264. A Ringmaster bitwise AND. -/
  | rmAnd (n : Nat)
  /-- R264. A Ringmaster bitwise OR. -/
  | rmOr (n : Nat)
  /-- R264. A Ringmaster bitwise XOR. -/
  | rmXor (n : Nat)
  /-- R264. A Ringmaster bitwise NOT. -/
  | rmNot (n : Nat)
  /-- R264. A Ringmaster negate. -/
  | rmNeg (n : Nat)
  /-- R264. A Ringmaster shift left. -/
  | rmShl (n : Nat)
  /-- R264. A Ringmaster arithmetic shift right. -/
  | rmShra (n : Nat)
  /-- R264. A Ringmaster logical shift right. -/
  | rmShrl (n : Nat)
  /-- R264. A Ringmaster equality compare. -/
  | eq (n : Nat)
  /-- R264. A Ringmaster signed less-than compare. -/
  | lt (n : Nat)
  /-- R264. A Ringmaster unsigned less-than compare. -/
  | ltu (n : Nat)
  /-- R264. A Ringmaster test for zero. -/
  | eqz (n : Nat)
  /-- R48. A Ringmaster multiply, low-word result. -/
  | rmMul (n : Nat)
  /-- R48. A Ringmaster multiply, 72-bit result. -/
  | rmMuld (n : Nat)
  /-- R46. A Ringmaster I36 divide. -/
  | rmDiv (n : Nat)
  /-- R46. A Ringmaster divide with remainder. -/
  | rmDivr (n : Nat)
  /-- R267. A Ringmaster word load that checks the store buffer. -/
  | rmLd (n : Nat)
  /-- R267. A Ringmaster word store into the store buffer. -/
  | rmSt (n : Nat)
  /-- R267. A Ringmaster load of half 0. -/
  | rmLdh0 (n : Nat)
  /-- R267. A Ringmaster load of half 1. -/
  | rmLdh1 (n : Nat)
  /-- R267. A Ringmaster store into half 0. -/
  | rmSth0 (n : Nat)
  /-- R267. A Ringmaster store into half 1. -/
  | rmSth1 (n : Nat)
  /-- R268. A Ringmaster double load, split at odd addresses. -/
  | rmLdd (n : Nat)
  /-- R268. A Ringmaster double store, split at odd addresses. -/
  | rmStd (n : Nat)
  /-- R269. A Ringmaster fetch-and-add. -/
  | xadd (n : Nat)
  /-- R269. A Ringmaster atomic swap. -/
  | xswap (n : Nat)
  /-- R265. A wait until the store buffer is empty and every remote write has been acknowledged. -/
  | fence (n : Nat)
  /-- R265. A return to the address on the return stack. -/
  | ret (n : Nat)
  /-- R265. A jump to an address taken from the data stack. -/
  | jmps (n : Nat)
  /-- R265. A call to an address taken from the data stack. -/
  | calls (n : Nat)
  /-- R273. A return from a gate call that restores level and stacks. -/
  | retg (n : Nat)
  /-- R281. A return from exception that checks and restores the TSB, optionally resuming a vector record. -/
  | retx (n : Nat)
  /-- R283. A stop of issue until the request line rises; a core with CORE_OFF set powers off here. -/
  | wait (n : Nat)
  /-- R264. A set of IE. -/
  | ei (n : Nat)
  /-- R264. A clear of IE. -/
  | di (n : Nat)
  /-- R284. A read of a special register under the level rules. -/
  | srd (n : Nat)
  /-- R284. A write of a special register under the level rules. -/
  | swr (n : Nat)
  /-- R275. An exception with cause TRAP. -/
  | trap (n : Nat)
  /-- R282. An offer of a vector instruction to a pipe's Ringmaster queue with the captured context. -/
  | vissue (n : Nat)
  /-- R282. A check of a progress record and its presentation to a pipe for resume. -/
  | vresume (n : Nat)
  /-- R264. A push of a sign-extended literal operand. -/
  | lit (n : Nat) (fld : BitVec 27)
  /-- R263. A push of the next instruction word as a literal. -/
  | litw (n : Nat) (fld : BitVec 27) (lit : Word)
  /-- R264. A Ringmaster relative branch. -/
  | rmBr (n : Nat) (fld : BitVec 27)
  /-- R264. A branch if the popped value is zero. -/
  | bz (n : Nat) (fld : BitVec 27)
  /-- R264. A branch if the popped value is non-zero. -/
  | bnz (n : Nat) (fld : BitVec 27)
  /-- R264. A relative call. -/
  | call (n : Nat) (fld : BitVec 27)
  /-- R272. A checked call through the gate table to another level. -/
  | gate (n : Nat) (fld : BitVec 27)
  /-- R282. A pipe's reply to VISSUE, VRESUME or a RETX resume arrives, and the status is pushed or checked. -/
  | vectorIssueReply (n : Nat)
  /-- R265. The reply to a core's remote load, fetch or atomic arrives and the stalled operation completes. -/
  | remoteAccessReply (n : Nat)
  /-- R267. The oldest store-buffer entry drains to local memory or as a posted Midway write. -/
  | storeBufferDrain (n : Nat)
  /-- R269. An error reply to a drained remote store raises POSTED_ERR at the next operation boundary. -/
  | postedErr (n : Nat)
  /-- R275. A fault, trap or admitted interrupt request is taken at an operation boundary; the core writes the TSB, loads the vector and enters the handler. -/
  | exceptionEntry (n : Nat)
  /-- R283. The request line of a core in WAIT rises, and issue resumes 24 RMC cycles later. -/
  | waitWake (n : Nat)
  /-- R283. A core's watchdog reaches WD_WARN µs before expiry and raises source 12 + n. -/
  | watchdogWarning (n : Nat)
  /-- R283. A core's watchdog expires and takes a warm reset, or a cold reset on the second strike. -/
  | watchdogExpiry (n : Nat)
  /-- R283. A write of 1 to WD_KICK restarts the watchdog count. -/
  | wdKick (n : Nat)
  /-- R284. A write of 1 to RESTART starts a stopped core at RESTART_PC at MONITOR. -/
  | restart (n : Nat)
  /-- R286. A unit's raise reaches the interrupt controller and sets the source's PENDING bit. -/
  | sourceRaise (src : Nat)
  /-- R288. A write of 1 to a source's SET raises it as hardware does. -/
  | set (src : Nat)
  /-- R288. A write of 1 to a source's CLEAR clears its PENDING bit. -/
  | clear (src : Nat)
  /-- R291. A read of CLAIM by a core returns and activates the best eligible source, or 511. -/
  | claim (n : Nat)
  /-- R294. A write of EOI ends the named active source and pops the core's running-priority stack. -/
  | eoi (n v : Nat)
  /-- R296. A group's hold-off time ends, and its sources become eligible again. -/
  | holdoffExpiry (g : Nat)
  /-- R297. The 20 µs wake of a powered-off core completes; the core is available and continues after its WAIT. -/
  | coreWakeDone (n : Nat)
  /-- R304. A master issues a transaction into Midway, where it is decoded or held at its master port for ordering or buffer space. -/
  | midwayTransaction (t : TxnReq)
  /-- R310. A target port's Turnstile grants the waiting request with the highest effective QoS. -/
  | turnstileGrant (port : Nat)
  /-- R311. A waiting request completes another 256 MWY cycles, and its effective QoS rises by one. -/
  | qosAging (m id : Nat)
  /-- R304. A target's response with its status returns to the master and frees the transaction's ID and buffer space. -/
  | transactionResponse (m id : Nat)
  /-- R314. A transaction outstanding for TXN_TIMEOUT µs is answered TIMEOUT. -/
  | transactionTimeout (m id : Nat)
  /-- R314. A response arriving after its transaction timed out is discarded and counted in LATE_CNT. -/
  | lateResponse (m id : Nat)
  /-- R316. A write of 1 to START starts a DMA channel after checking its descriptor, or is refused with START_BUSY. -/
  | dmaChannelStart (c : Nat)
  /-- R324. A write of 1 to ABORT ends an active or syncing channel within 2 MWY cycles. -/
  | abort (c : Nat)
  /-- R321. An engine port issues a read beat for the highest-priority channel whose staging buffer has room. -/
  | dmaReadBeat (p : Nat)
  /-- R318. An INDEX-mode channel reads offsets into its prefetch buffer. -/
  | dmaIndexRead (c : Nat)
  /-- R321. An engine port issues a write beat or SYNC for the highest-priority channel holding its data; the last write beat sets DONE. -/
  | dmaWriteBeat (p : Nat)
  /-- R322. The last SYNC acknowledgement returns, ARRIVED is set and the channel becomes IDLE. -/
  | dmaSyncAck (c : Nat)
  /-- R331. A link completes lane lock, deskew and HELLO exchange and becomes UP. -/
  | bribyTrainingDone (l : Nat)
  /-- R331. A link loses block lock or deskew, or receives no block for 1 µs, and returns to TRAINING. -/
  | bribyLinkLoss (l : Nat)
  /-- R331. A link has been out of UP for LINK_DOWN_US and is reported down to Calliope. -/
  | bribyLinkDownReport (l : Nat)
  /-- R334. A GAP block arrives, yielding a round-trip measurement and returned credits. -/
  | gapBlock (l stamp echo quarter c2 c3 : Nat)
  /-- R334. A 64 µs window of the link stamp counter ends, RTT is averaged and CAL_CNT increments. -/
  | calibrationWindowEnd (l : Nat)
  /-- R335. A link sends its periodic HELLO every 64 µs. -/
  | helloTransmit (l : Nat)
  /-- R335. A HELLO arrives, updating peer identity, master claims, UP choices and conflict flags. -/
  | hello (l : Nat) (p : BPkt)
  /-- R338. A remote READ arrives and is performed through the Briby engine if REMOTE_EN allows. -/
  | readPacket (l : Nat) (p : BPkt)
  /-- R338. A remote WRITE arrives and is performed if REMOTE_EN allows. -/
  | writePacket (l : Nat) (p : BPkt)
  /-- R338. A remote half-masked write arrives and is performed if REMOTE_EN allows. -/
  | writeMaskedPacket (l : Nat) (p : BPkt)
  /-- R338. A remote atomic arrives and is performed if REMOTE_EN allows. -/
  | atomicPacket (l : Nat) (p : BPkt)
  /-- R338. A remote SYNC arrives and is acknowledged after earlier writes of its channel are performed. -/
  | syncPacket (l : Nat) (p : BPkt)
  /-- R337. A READ_RESP returns a remote read's data and status to the originating transaction. -/
  | readResp (l : Nat) (p : BPkt)
  /-- R337. A WRITE_ACK returns a remote write's status. -/
  | writeAck (l : Nat) (p : BPkt)
  /-- R339. The master, or a follower forwarding its own time, sends a TIME packet on each downward link every 64 µs. -/
  | timeTransmit
  /-- R339. A TIME packet arrives, and a follower disciplines Device Time from it. -/
  | timePacket (l : Nat) (p : BPkt)
  /-- R341. A tick marker arrives and is forwarded, scheduled, or raised at once as late. -/
  | tickMark (l : Nat) (p : BPkt)
  /-- R341. Device Time reaches a marker's instant, and the tick is raised. -/
  | markedTickRaise
  /-- R342. No TIME packet has arrived for MASTER_TIMEOUT; the follower enters holdover and continues the master's grid. -/
  | masterLost
  /-- R342. Device Time reaches an instant of the continued grid, and a tick is raised. -/
  | holdoverGridTick
  /-- R342. HOLDOVER_S passes without TIME packets; source 182 is raised and Calliope enters HOLD. -/
  | holdoverExpiry
  /-- R344. A DIGEST arrives at the shadow and is compared with its own digest. -/
  | digest (l : Nat) (p : BPkt)
  /-- R345. DIGEST_WAIT and PEER_TIMEOUT have both passed; the shadow clears TX_INHIBIT, replays once and becomes primary in RUN. -/
  | takeover
  /-- R346. A TAKEOVER packet arrives from the pair's peer. -/
  | takeoverPacket (l : Nat) (p : BPkt)
  /-- R347. A forwarded EVENT arrives at the master, which records it and raises source 184. -/
  | eventPacket (l : Nat) (p : BPkt)
  /-- R372. COMMAND segments arrive and are assembled into a command packet for execution or forwarding. -/
  | commandPacket (l : Nat) (p : BPkt)
  /-- R372. REPLY segments of a forwarded command arrive and are returned to the originating path. -/
  | replyPacket (l : Nat) (p : BPkt)
  /-- R372. No reply to a forwarded command arrives within FWD_TIMEOUT, and the originator answers FWD_TIMEOUT or ends the broadcast. -/
  | fwdTimeout (tag : Nat)
  /-- R353. A host read through BAR0 reads a register word, using RD_LATCH for 4-byte reads. -/
  | bar0Read (off : Nat) (wide : Bool)
  /-- R353. A host write through BAR0 writes a register word or HI_LATCH. -/
  | bar0Write (off : Nat) (wide : Bool) (lo hi : HWord)
  /-- R354. A BAR0 access fails or takes 20 µs; it completes with all ones, BAR_ERR is set and source 197 is raised. -/
  | bar0Timeout (off : Nat) (write : Bool)
  /-- R356. A PCIe completion for a host-memory access arrives and is answered with its status. -/
  | hostCompletion (m id st : Nat) (data : List HWord)
  /-- R356. A PCIe completion times out, the access is answered TIMEOUT and HOST_TO is set. -/
  | hostCompletionTimeout (m id : Nat)
  /-- R357. A write of 1 to a bit of MSIX_SEND sends that MSI-X vector. -/
  | msixSend (v : Nat)
  /-- R357. The host unmasks an MSI-X vector, and a pending vector is delivered once. -/
  | msixUnmask (v : Nat)
  /-- R358. A host write to CR_PROD rings a command ring's doorbell. -/
  | crProd (r v : Nat)
  /-- R358. The ring engine fetches the next command entry and raises source 192 + r for Monitor. -/
  | commandEntryFetch (r : Nat) (ws : List HWord)
  /-- R359. When the reply ring has room, the engine writes a reply, updates RPROD and the shadow, and sends the vector. -/
  | replyWrite (r : Nat)
  /-- R359. A host write to RR_CONS frees reply-ring entries. -/
  | rrCons (r v : Nat)
  /-- R360. A write that sets RING_EN from 0 to 1 zeroes the ring's indices and enables the ring. -/
  | ringEn (r : Nat) (en : Bool)
  /-- R415. A framed command packet arrives on the UART. -/
  | uartPacket (ws : List HWord)
  /-- R362. A command that returns identity data. -/
  | getIdentity (c : CmdSrc)
  /-- R362. A command that returns status data. -/
  | getStatus (c : CmdSrc)
  /-- R362. A command that returns its own payload. -/
  | echo (c : CmdSrc)
  /-- R362. A command that steps Device Time when TIME_SRC is none. -/
  | timeSet (c : CmdSrc)
  /-- R377. A command that requests a change of operating mode. -/
  | setMode (c : CmdSrc)
  /-- R363. A command that opens an image loading session on a slot. -/
  | imageBegin (c : CmdSrc)
  /-- R364. A command that adds image words in ascending order. -/
  | imageChunk (c : CmdSrc) (data : List HWord)
  /-- R365. A command that checks a loaded image and keeps, writes or rejects it. -/
  | imageCommit (c : CmdSrc)
  /-- R365. A command that closes an image session and empties the slot. -/
  | imageAbort (c : CmdSrc)
  /-- R362. A command that chooses the flash slot Monitor boots from. -/
  | bootSelect (c : CmdSrc)
  /-- R197. A command that arms a checked image: it applies its sections, loads timetable 0 and fixes the anchor. -/
  | ttArm (c : CmdSrc)
  /-- R202. A command that posts a host switch request. -/
  | ttSwitch (c : CmdSrc)
  /-- R200. A command that writes LOSS_SW. -/
  | ttLoss (c : CmdSrc)
  /-- R366. A command that reads and converts device words. -/
  | readWords (c : CmdSrc)
  /-- R366. A command that converts and writes device words. -/
  | writeWords (c : CmdSrc)
  /-- R366. A command that moves a block from the device to host memory. -/
  | readBlock (c : CmdSrc)
  /-- R366. A command that moves a block from host memory to the device. -/
  | writeBlock (c : CmdSrc)
  /-- R366. A READ_BLOCK or WRITE_BLOCK transfer completes or fails, and its reply is written. -/
  | blockTransferDone (st : Nat) (data : List HWord)
  /-- R366. A command that performs a Stream Memory fetch-and-add or swap. -/
  | atomic (c : CmdSrc)
  /-- R368. A command that opens a parameter set. -/
  | paramBegin (c : CmdSrc)
  /-- R368. A command that appends a run to an open parameter set. -/
  | paramAdd (c : CmdSrc)
  /-- R368. A command that seals a set, or applies it at once when Calliope is IDLE. -/
  | paramSeal (c : CmdSrc)
  /-- R368. A command that empties an open or sealed set. -/
  | paramDiscard (c : CmdSrc)
  /-- R368. A command that returns the parameter set states. -/
  | paramStatus (c : CmdSrc)
  /-- R362. A command that writes a queue descriptor. -/
  | queueSet (c : CmdSrc)
  /-- R362. A command that returns a queue descriptor and its Latest Value Table slot. -/
  | queueGet (c : CmdSrc)
  /-- R362. A command that performs a classifier operation. -/
  | clsOp (c : CmdSrc)
  /-- R362. A command that writes a node table entry. -/
  | nodeSet (c : CmdSrc)
  /-- R362. A command that configures a probe channel. -/
  | probeSet (c : CmdSrc)
  /-- R362. A command that writes PROBE_OFF and GUARD_FORCE. -/
  | probeCtrl (c : CmdSrc)
  /-- R362. A command that requests SWAP_NOW or REVERT. -/
  | mapCtrl (c : CmdSrc)
  /-- R362. A command that returns cascade status. -/
  | cascStatus (c : CmdSrc)
  /-- R362. A command that sets SH_ROLE and SH_PEER. -/
  | shadowSet (c : CmdSrc)
  /-- R362. A command that carries out the takeover at once. -/
  | shadowTake (c : CmdSrc)
  /-- R392. A command that sets the commanded power cap. -/
  | powerCap (c : CmdSrc)
  /-- R428. A command that returns power telemetry taken at one instant. -/
  | powerStatus (c : CmdSrc)
  /-- R367. A command that returns the trouble registers or Trouble Log entries. -/
  | troubleRead (c : CmdSrc)
  /-- R367. A command that clears trouble bits by mask. -/
  | troubleClear (c : CmdSrc)
  /-- R384. A command that takes a warm or cold reset after writing its own reply. -/
  | reset (c : CmdSrc)
  /-- R380. A command that clears START_FAILS. -/
  | clearStartFails (c : CmdSrc)
  /-- R67. A command that runs built-in self-test and column repair in TEST. -/
  | selfTest (c : CmdSrc)
  /-- R362. A command that returns repair and training status. -/
  | repairStatus (c : CmdSrc)
  /-- R370. A command that blows a blank key-hash slot. -/
  | keyProgram (c : CmdSrc)
  /-- R370. A command that permanently revokes a key slot under a signed request. -/
  | keyRevoke (c : CmdSrc)
  /-- R379. A write of START_OK completes a start, clears START_FAILS and WD_STRIKE, and releases MWY work. -/
  | startOk
  /-- R380. 2.0 s pass without START_OK; the failed start is counted and a start-timeout reset is taken. -/
  | startTimeout
  /-- R384. The AON supply rises and a power-on reset clears everything. -/
  | powerOn
  /-- R411. nCOLD reads low for 10 consecutive samples, and a cold reset is taken and held while the pin stays low. -/
  | ncoldPinLow
  /-- R411. nWARM reads low for 10 consecutive samples, and a warm reset is taken. -/
  | nwarmPinLow
  /-- R384. PCIe PERST# is asserted and takes the reset that PERST_MODE selects. -/
  | perstAsserted
  /-- R384. A write of 1 to WARM_REQ requests a warm reset. -/
  | warmReq
  /-- R384. A write of 1 to COLD_REQ requests a cold reset. -/
  | coldReq
  /-- R386. A warm reset begins its quiesce, in which clusters, pipes, Midway, DMA, the queue engine and DRAM stop in order. -/
  | warmReset
  /-- R386. The quiesce ends; the warm islands are reset and released, and the ring engine answers unanswered packets with RESET. -/
  | warmQuiesceDone
  /-- R387. A cold release begins from AON supply good, sampling straps and loading fuses and trims. -/
  | coldRelease (fuseBad trimBad : Nat)
  /-- R387. An island's clock generator has held lock for 1,024 reference cycles, and the island is released after 64 of its own cycles. -/
  | clockLock (isl : Nat)
  /-- R383. The RM0 boot ROM restarts Monitor from local memory or loads it from the selected flash slot, trying the other slot on failure. -/
  | monitorBoot
  /-- R387. A write to ISL_ON requests the release of islands on demand. -/
  | islOn (w : Word)
  /-- R391. A write of 1 to FORCE_REL in TEST releases the named islands without a lock check. -/
  | forceRel
  /-- R388. An island's clock loses lock; it is gated and reset once, or marked lost, or a warm or cold reset is taken. -/
  | islandLockLoss (isl : Nat)
  /-- R389. No reference edge arrives for 1 µs; REF_LOST is recorded and a cold reset is held. -/
  | referenceLoss
  /-- R389. The reference has run for 1,024 cycles, and the release begins at fuse and trim load. -/
  | referenceRestored
  /-- R392. VIN stays below 10.8 V for 1 ms; LOW_SUPPLY is set and the cap in force drops to 48 W. -/
  | lowSupplySet (mv : Nat)
  /-- R392. VIN stays above 11.3 V for 100 ms, and LOW_SUPPLY clears. -/
  | lowSupplyClear (mv : Nat)
  /-- R392. A 1 ms power window ends, and the cap derate cause, OVER_CAP and HOLD entry are evaluated. -/
  | powerWindowEnd (mw : Nat)
  /-- R393. A write to CORE_OFF marks a core to power off at its next WAIT, or wakes it when cleared. -/
  | coreOff (w : Word)
  /-- R394. A rail falls below its limit, or VIN dips briefly with hold-up off, and a cold reset is held. -/
  | brownOut
  /-- R394. The rails and VIN_SENSE have recovered, and the held release begins. -/
  | brownOutRecovery
  /-- R395. VIN falls below 5.5 V for 20 µs with HOLDUP_MS set; hold-up starts and the Keepers replay. -/
  | inputLoss (mv : Nat)
  /-- R395. VIN stays above 6.0 V for 1 ms during hold-up, and a hold-up resume reset follows. -/
  | inputRestored (mv : Nat)
  /-- R395. HOLDUP_MS elapses or HOLDUP falls below 6.0 V, and hold-expired frames are queued for every ACTIVE stream. -/
  | holdupEnd (byPin : Bool)
  /-- R395. The queued hold-expired frames are sent, or 100 µs pass, and AON power is removed. -/
  | aonPowerRemoval
  /-- R397. The 1 ms junction temperature measurement sets or clears the thermal derate cause. -/
  | tjMeasurement (t : BitVec 12)
  /-- R398. A PMBus command that clears the PMBus status bits. -/
  | clearFaults
  /-- R398. A PMBus read of the capability byte. -/
  | capability
  /-- R398. A PMBus read of the status byte. -/
  | statusByte
  /-- R398. A PMBus read of the status word. -/
  | statusWord
  /-- R398. A PMBus read of the input status. -/
  | statusInput
  /-- R398. A PMBus read of the temperature status. -/
  | statusTemperature
  /-- R398. A PMBus read of the input voltage. -/
  | readVin
  /-- R398. A PMBus read of the input current. -/
  | readIin
  /-- R398. A PMBus read of the junction temperature. -/
  | readTemperature1
  /-- R398. A PMBus read of the board temperature near the lid. -/
  | readTemperature2
  /-- R398. A PMBus read of the input power. -/
  | readPin
  /-- R398. A PMBus read of the PMBus revision. -/
  | pmbusRevision
  /-- R398. A PMBus block read of the manufacturer ID. -/
  | mfrId
  /-- R398. A PMBus block read of the ordering code. -/
  | mfrModel
  /-- R398. A PMBus block read of the revision. -/
  | mfrRevision
  /-- R398. Any other PMBus command, or any write other than CLEAR_FAULTS, is not acknowledged and sets CML. -/
  | pmbusUnsupported (code : Nat) (write : Bool)
  /-- R401. A unit's trouble notice reaches AON, sets its trouble bit and queues a log entry if the bit was 0. -/
  | troubleNotice
  /-- R403. A write of TRB_SWSET sets TRB15 bits and logs those set from 0, each with TRB_SWDETAIL. -/
  | trbSwset (w : Word)
  /-- R404. The logger writes the next pending Trouble Log entry in an AON cycle. -/
  | logEntryWrite
  /-- R416. A write to GPIO_SET sets GPIO_OUT bits. -/
  | gpioSet (w : Word)
  /-- R416. A write to GPIO_CLR clears GPIO_OUT bits. -/
  | gpioClr (w : Word)
  /-- R416. An enabled edge on a GPIO pin sets its GPIO_EVT bit. -/
  | gpioEdge (n : Nat) (up : Bool)
  /-- R417. A filtered encoder edge changes ENC_COUNT, or sets ENC_ERR on an illegal quadrature transition. -/
  | encoderEdge (e : Nat) (a b : Bool)
  /-- R417. A write to ENC_COUNT sets the counter unless a DISTANCE timetable is using that encoder. -/
  | encCountWrite (e : Nat) (w : Word)
  /-- R417. An RS-422 input inside ±200 mV for 100 µs sets ENC_OPEN. -/
  | encOpenDetect (e : Nat)
  /-- R414. Device Time reaches a whole second, and PPS_OUT rises for PPS_WIDTH. -/
  | ppsOutPulse
  /-- R415. A rising edge on PPS_IN or TICK_IN captures Device Time, or waits as a pending capture while the pair is frozen. -/
  | captureEdge (tick : Bool)
  /-- R415. A read of a capture seconds word freezes the capture pair. -/
  | captureSecondsRead (tick : Bool)
  /-- R415. A read of a capture nanoseconds word unfreezes the pair and applies any pending capture. -/
  | captureNsRead (tick : Bool)
  /-- R384. An nCOLD, nWARM or PERST# line that has held the module in reset is released, and the held reset's release and start begin. -/
  | resetPinRelease (pin : Nat)
  /-- R394. VIN stays below 5.5 V for 2 ms or more with HOLDUP_MS at 0, and AON power is removed, losing the trouble record and START_FAILS. -/
  | inputSupplyLoss
  /-- R375. The PCIe link trains up or goes down, updating LINK_UP and raising source 198. -/
  | pcieLinkChange (up : Bool)
  /-- R356. The host sets or clears Bus Master Enable in configuration space, changing BME and whether transactions at target port 26 are answered BUS_ERR. -/
  | busMasterEnableChange (up : Bool)
  /-- R332. A received Briby packet with a reserved PTYPE or an NW outside its range is discarded and counted in DROP_CNT. -/
  | bribyPacketDrop (l : Nat)
  deriving DecidableEq, Repr

end Sys2Proof
end

