-- ==== Sys2Proof/WellFormed.lean ====
section
/-! DEFINITION. Well-formed commands: every number that names a unit, a register or a place is one that the largest part has (Table SCP-1). A
command about a unit that the present part does not have is well formed and has no effect (R3). -/

namespace Sys2Proof

/-- A unit of the largest part. -/
def UnitRef.wf : UnitRef → Bool
  | .pipe p => p < 4 | .cluster n => n < 16 | .port p => p < 8 | .link l => l < 4 | .dma c => c < 64 | .probe c => c < 4096
/-- A ring of R358, or the buffer. -/
def CmdSrc.wf : CmdSrc → Bool
  | .ring r => r < 4 | .mail => true
/-- A Briby packet: at most 16 payload words, type, module and tag numbers in range (Table CAS-2). -/
def BPkt.wf (p : BPkt) : Bool :=
  p.ptype < 16 && p.dest < 32 && p.src < 32 && p.tag < 128 && p.addr < 2 ^ 30 && p.words.length ≤ 16
/-- A transaction of a master of Table MWD-1. -/
def TxnReq.wf (t : TxnReq) : Bool := t.master < 21 && t.id < 32 && t.qos < 16
/-- A word address (R6). -/
def wordAddr (a : Nat) : Bool := a < 2 ^ 36
/-- A BAR0 offset: 32-bit accesses on 4, 64-bit ones on 8 bytes, below 16 MiB (R353). -/
def barOff (off : Nat) (wide : Bool) : Bool := off < 0x1000000 && off % (if wide then 8 else 4) = 0
/-- An access to a cluster's X, Y or shared memory (R145). -/
def winOk : WinAcc → Bool
  | .read off => off < 0x10800 | .write off _ _ _ => off < 0x10800

/-- Whether a command is well formed. -/
def Instr.wf (i : Instr) : Bool :=
  match i with
  | .registerWrite m lvl a _ => m < 21 && lvl < 3 && wordAddr a
  | .sharedAccessGrant b | .rmwCompletion b | .correctedWriteBack b | .patrolScrub b => b < 256
  | .streamInitDone | .lvtBaseWrite _ | .flush | .flushDone | .bulkScrubRead | .bulkTrainingDone _ | .bulkZeroFillDone
  | .vectorGroupAdvance _ | .timeTick | .distanceTick | .minSpacingEnd | .tickLoss | .tickArrival | .actionNop | .clusterStart
  | .clusterDeadline | .vectorBlock | .dmaStart | .queueFreeze | .frameEmit | .probeStep | .mapSwap | .paramCommit | .wake
  | .sleep | .event | .barrier | .ownership | .switchPoint | .barrierRelease | .barrierMiss | .unitFaultReport
  | .timetableLoadDone | .calliopeRearm | .syncHoldoverTimeout | .sampleCommit | .clsInsert | .clsDelete | .clsFind | .qdRead
  | .qdWrite | .queueThaw | .thawDone | .pstepWrite _ _ | .guardForce | .swapNow | .revert | .timeTransmit | .markedTickRaise
  | .masterLost | .holdoverGridTick | .holdoverExpiry | .takeover | .blockTransferDone _ _ | .startOk | .startTimeout
  | .powerOn | .ncoldPinLow | .nwarmPinLow | .perstAsserted | .warmReq | .coldReq | .warmReset | .warmQuiesceDone
  | .coldRelease _ _ | .monitorBoot | .islOn _ | .forceRel | .referenceLoss | .referenceRestored | .coreOff _ | .brownOut
  | .brownOutRecovery | .holdupEnd _ | .aonPowerRemoval | .tjMeasurement _ | .clearFaults | .capability | .statusByte
  | .statusWord | .statusInput | .statusTemperature | .readVin | .readIin | .readTemperature1 | .readTemperature2 | .readPin
  | .pmbusRevision | .mfrId | .mfrModel | .mfrRevision | .troubleNotice | .trbSwset _ | .logEntryWrite | .gpioSet _
  | .gpioClr _ | .ppsOutPulse | .captureEdge _ | .captureSecondsRead _ | .captureNsRead _ | .inputSupplyLoss
  | .pcieLinkChange _ | .busMasterEnableChange _ => true
  | .bulkPartialWrite a ws | .bulkBurstWrite a ws => wordAddr a && decide (a % 16 + ws.length ≤ 16)
  | .combineEntryTimeout burst => wordAddr burst && burst % 16 = 0
  | .bulkRead a n _ => wordAddr a && decide (a % 16 + n ≤ 16)
  | .bulkRefresh ch => ch < 2
  | .dramTemperatureReport dev _ => dev < 20
  | .blockFetch p | .chainTimeout p | .rmRelease p | .pipeIdleTimeout p | .pipePowerdownDone p | .pipeWakeDone p | .vmov p _ _
  | .vadd p _ _ | .vsub p _ _ | .vneg p _ _ | .vabs p _ _ | .vmin p _ _ | .vmax p _ _ | .vcpys p _ _ | .vand p _ _ | .vor p _ _
  | .vxor p _ _ | .vnot p _ _ | .vshl p _ _ | .vshra p _ _ | .vshrl p _ _ | .vcmp p _ _ | .vsel p _ _ | .vclamp p _ _
  | .vlerp p _ _ | .vidx p _ _ | .vmul p _ _ | .vmuld p _ _ | .vfma p _ _ | .vmacd p _ _ | .vrnd p _ _ | .vcvt p _ _
  | .vdiv p _ _ | .vdivr p _ _ | .vsqrt p _ _ | .vqget p _ _ | .vrsum p _ _ | .vrdot p _ _ | .vrmin p _ _ | .vrmax p _ _
  | .vband p _ _ | .vxcor p _ _ | .vbfly p _ _ | .vnop p _ _ | .vfence p _ _ | .dmaReadBeat p | .dmaWriteBeat p => p < 4
  | .longRegisterWrite p off _ => p < 4 && off < 2048
  | .unitEnableWrite u _ | .unitDrainComplete u | .drainLimitExpiry u | .unitIsolateDone u | .unitWakeDone u => u.wf
  | .start n | .stop n | .faultAck n | .loopIterationEnd n | .clusterResultLanding n | .storeReachesMemory n | .clusterFinish n
  | .clusterIdleTimeout n | .clusterWakeDone n | .clusterInitDone n | .nop n _ _ | .mac n _ _ | .mach n _ _ | .macx n _ _
  | .acld n _ _ | .sacq n _ _ | .saci n _ _ | .sach n _ _ | .sacd n _ _ | .sacdi n _ _ | .sacw n _ _ | .mul n _ _ | .mulq n _ _
  | .mulh n _ _ | .mulhq n _ _ | .muld n _ _ | .fadd n _ _ | .fsub n _ _ | .fmul n _ _ | .fma n _ _ | .fnma n _ _ | .add n _ _
  | .sub n _ _ | .addi n _ _ | .neg n _ _ | .abs n _ _ | .min n _ _ | .max n _ _ | .and n _ _ | .or n _ _ | .xor n _ _
  | .andn n _ _ | .not n _ _ | .mov n _ _ | .shl n _ _ | .shra n _ _ | .shrl n _ _ | .shli n _ _ | .shrai n _ _ | .shrli n _ _
  | .cmp n _ _ | .cmpu n _ _ | .fcmp n _ _ | .cmpi n _ _ | .clog n _ _ | .mvr n _ _ | .mvri n _ _ | .getr n _ _ | .sets n _ _ _
  | .seth n _ _ _ | .ld n _ _ | .ldh0 n _ _ | .ldh1 n _ _ | .ldd n _ _ | .st n _ _ | .sth0 n _ _ | .sth1 n _ _ | .std n _ _
  | .modp n _ _ | .br n _ _ | .brr n _ _ | .halt n _ _ | .lend n _ _ | .loopr n _ _ _ | .loopi n _ _ _ | .smax n _ _
  | .smin n _ _ | .div n _ _ | .divr n _ _ | .qdiv n _ _ | .fdiv n _ _ | .fsqrt n _ _ | .cvt n _ _ | .rsat n _ _ | .cls n _ _
  | .popc n _ _ | .extu n _ _ | .exts n _ _ | .ins n _ _ | .brev n _ _ => n < 16
  | .clusterWindowAccess n _ w => n < 16 && winOk w
  | .receiveFrame p _ | .ptpSyncTransmit p | .classifierLookup p | .frameEmitArrival p | .streamAssembly p | .frameTransmit p
  | .linkChange p _ | .linkDownReport p => p < 8
  | .keeperTimerExpiry p strm | .kprime p strm | .streamValidClear p strm => p < 8 && strm < 1024
  | .nodeEntryWrite n _ => n < 4096
  | .eventWindowClose c b | .ack c b => c < 16 && b < 2
  | .channelValidWrite c _ => c < 4096
  | .rmNop n | .dup n | .drop n | .swap n | .rmOver n | .rot n | .nip n | .pick n | .tor n | .fromr n | .rfetch n | .rmAdd n
  | .rmSub n | .rmAnd n | .rmOr n | .rmXor n | .rmNot n | .rmNeg n | .rmShl n | .rmShra n | .rmShrl n | .eq n | .lt n | .ltu n
  | .eqz n | .rmMul n | .rmMuld n | .rmDiv n | .rmDivr n | .rmLd n | .rmSt n | .rmLdh0 n | .rmLdh1 n | .rmSth0 n | .rmSth1 n
  | .rmLdd n | .rmStd n | .xadd n | .xswap n | .fence n | .ret n | .jmps n | .calls n | .retg n | .retx n | .wait n | .ei n
  | .di n | .srd n | .swr n | .trap n | .vissue n | .vresume n | .lit n _ | .litw n _ _ | .rmBr n _ | .bz n _ | .bnz n _
  | .call n _ | .gate n _ | .vectorIssueReply n | .remoteAccessReply n | .storeBufferDrain n | .postedErr n | .exceptionEntry n
  | .waitWake n | .watchdogWarning n | .watchdogExpiry n | .wdKick n | .restart n | .claim n | .coreWakeDone n => n < 4
  | .sourceRaise src | .set src | .clear src => src < 256
  | .eoi n v => n < 4 && v < 512
  | .holdoffExpiry g => g < 32
  | .midwayTransaction t => t.wf
  | .turnstileGrant port => port < 28
  | .qosAging m id | .transactionResponse m id | .transactionTimeout m id | .lateResponse m id | .hostCompletion m id _ _
  | .hostCompletionTimeout m id => m < 21 && id < 64
  | .dmaChannelStart c | .abort c | .dmaIndexRead c | .dmaSyncAck c => c < 64
  | .bribyTrainingDone l | .bribyLinkLoss l | .bribyLinkDownReport l | .gapBlock l _ _ _ _ _ | .calibrationWindowEnd l
  | .helloTransmit l | .bribyPacketDrop l => l < 4
  | .hello l p | .readPacket l p | .writePacket l p | .writeMaskedPacket l p | .atomicPacket l p | .syncPacket l p
  | .readResp l p | .writeAck l p | .timePacket l p | .tickMark l p | .digest l p | .takeoverPacket l p | .eventPacket l p
  | .commandPacket l p | .replyPacket l p => l < 4 && p.wf
  | .fwdTimeout tag => tag < 128
  | .bar0Read off wide | .bar0Write off wide _ _ => barOff off wide
  | .bar0Timeout off _ => barOff off false
  | .msixSend v | .msixUnmask v => v < 32
  | .crProd r v | .rrCons r v => r < 4 && v < 65536
  | .commandEntryFetch r ws => r < 4 && ws.length ≤ 64
  | .replyWrite r | .ringEn r _ => r < 4
  | .uartPacket ws => 4 ≤ ws.length && ws.length ≤ 64
  | .getIdentity c | .getStatus c | .echo c | .timeSet c | .setMode c | .imageBegin c | .imageCommit c | .imageAbort c
  | .bootSelect c | .ttArm c | .ttSwitch c | .ttLoss c | .readWords c | .writeWords c | .readBlock c | .writeBlock c
  | .atomic c | .paramBegin c | .paramAdd c | .paramSeal c | .paramDiscard c | .paramStatus c | .queueSet c | .queueGet c
  | .clsOp c | .nodeSet c | .probeSet c | .probeCtrl c | .mapCtrl c | .cascStatus c | .shadowSet c | .shadowTake c
  | .powerCap c | .powerStatus c | .troubleRead c | .troubleClear c | .reset c | .clearStartFails c | .selfTest c
  | .repairStatus c | .keyProgram c | .keyRevoke c => c.wf
  | .imageChunk c data => c.wf && data.length ≤ 72
  | .clockLock isl | .islandLockLoss isl => isl < 23
  | .lowSupplySet mv | .lowSupplyClear mv | .inputLoss mv | .inputRestored mv => mv < 65536
  | .powerWindowEnd mw => mw < 131072
  | .pmbusUnsupported code _ => code < 256
  | .gpioEdge n _ => n < 32
  | .encoderEdge e _ _ | .encCountWrite e _ | .encOpenDetect e => e < 8
  | .resetPinRelease pin => pin < 3

end Sys2Proof
end

