-- ==== Sys2Proof/Decode.lean ====
section
/-! DEFINITION. Commands have no bit encoding: no row of the table of operations and events gives bits (log entry 1). -/

namespace Sys2Proof

/-- The command a word spells: no row gives bits, so none does. -/
def decodeTableWord (_nbits _w : Nat) : Option Instr := none

end Sys2Proof
end

