-- ==== Sys2Proof/Machine/Flags.lean ====
section
/-! DEFINITION. Arithmetic flags (Table ARI-3), fixed-point rounding (R29), saturation (R30), accumulator stores (R31) and
integer division (R46, R47). -/

namespace Sys2Proof.Machine

/-- NX: a floating-point result is inexact (Table ARI-3). -/
def fNX : Arf := 1#7
/-- UF: tiny and inexact. -/
def fUF : Arf := 2#7
/-- OF: floating-point or integer-division overflow. -/
def fOF : Arf := 4#7
/-- DZ: division by zero. -/
def fDZ : Arf := 8#7
/-- NV: invalid. -/
def fNV : Arf := 16#7
/-- SAT: a fixed-point result saturates. -/
def fSAT : Arf := 32#7
/-- AOV: an accumulator wraps. -/
def fAOV : Arf := 64#7

/-- A flag if a condition holds. -/
def flagIf (c : Bool) (f : Arf) : Arf := if c then f else 0#7

/-- Bits hi:lo of a natural number. -/
def bits (n hi lo : Nat) : Nat := n / 2 ^ lo % 2 ^ (hi + 1 - lo)
/-- One bit of a natural number. -/
def bit (n i : Nat) : Bool := n / 2 ^ i % 2 == 1
/-- `n` with bits hi:lo replaced by `v`. -/
def putBits (n hi lo v : Nat) : Nat :=
  n - bits n hi lo * 2 ^ lo + v % 2 ^ (hi + 1 - lo) * 2 ^ lo
/-- The low w bits of a natural number read as a two's complement integer. -/
def sext (w n : Nat) : Int :=
  let m := n % 2 ^ w
  if m < 2 ^ (w - 1) then (m : Int) else (m : Int) - 2 ^ w
/-- An integer as a w-bit pattern. -/
def toBits (w : Nat) (i : Int) : Nat := (i % (2 ^ w : Int)).toNat
/-- The bits of a w-bit pattern in reverse order. -/
def revBits : Nat → Nat → Nat
  | 0, _ => 0
  | w + 1, n => (n % 2) * 2 ^ w + revBits w (n / 2)
/-- The number of ones among the low w bits. -/
def popBits : Nat → Nat → Nat
  | 0, _ => 0
  | w + 1, n => n % 2 + popBits w (n / 2)
/-- One bit from a Bool. -/
def b2n (b : Bool) : Nat := if b then 1 else 0

/-- Drop the k low-order bits of an exact value: convergent rounding (R29). -/
def roundConv (v : Int) (k : Nat) : Int :=
  if k = 0 then v else
    let f := v / (2 ^ k : Int)
    let r := v % (2 ^ k : Int)
    let h := (2 : Int) ^ (k - 1)
    if r < h then f else if h < r then f + 1 else if f % 2 = 0 then f else f + 1
/-- Drop k low-order bits: convergent when `conv`, else truncation toward minus infinity (R29). -/
def dropBits (conv : Bool) (v : Int) (k : Nat) : Int :=
  if conv then roundConv v k else v / (2 ^ k : Int)

/-- Saturate to a w-bit two's complement range; the second part says whether SAT is set (R30). -/
def satTo (w : Nat) (v : Int) : Int × Bool :=
  if v < -(2 ^ (w - 1) : Int) then (-(2 ^ (w - 1) : Int), true)
  else if (2 ^ (w - 1) : Int) ≤ v then ((2 ^ (w - 1) : Int) - 1, true)
  else (v, false)
/-- Saturate when `sat`, else wrap modulo 2^w (R30): the pattern and the flags. -/
def satOrWrap (w : Nat) (sat : Bool) (v : Int) : Nat × Arf :=
  if sat then ((toBits w (satTo w v).1), flagIf (satTo w v).2 fSAT) else (toBits w v, 0#7)
/-- Round away k bits and saturate to w bits: the pattern and the flags (R29, R30, R31). -/
def roundSat (conv : Bool) (w k : Nat) (v : Int) : Nat × Arf :=
  satOrWrap w true (dropBits conv v k)

/-- Add an exact value to an accumulator of w bits: wraps, and sets AOV when it does (R32). -/
def accAdd (w acc : Nat) (v : Int) : Nat × Arf :=
  let e := sext w acc + v
  (toBits w e, flagIf (decide (e ≠ sext w (toBits w e))) fAOV)

/-- I36 division (R46, Table ARI-9): quotient, remainder, flags. -/
def idiv36 (a b : Int) : Int × Int × Arf :=
  if b = 0 then (if a < 0 then -(2 ^ 35) else 2 ^ 35 - 1, a, fDZ)
  else
    let q := a.tdiv b
    if q = 2 ^ 35 then (-(2 ^ 35), 0, fOF) else (q, a.tmod b, 0#7)

/-- Q35 division (R47): quotient pattern value and flags. -/
def qdiv35 (a b : Int) : Int × Arf :=
  if b = 0 then (if a < 0 then -(2 ^ 35) else 2 ^ 35 - 1, fDZ)
  else
    let q := (a * 2 ^ 35).tdiv b
    ((satTo 36 q).1, flagIf (satTo 36 q).2 fSAT)

end Sys2Proof.Machine
end

