-- ==== Sys2Proof/Machine/Regs.lean ====
section
/-! DEFINITION. Every register field of the spec's register tables: its address (as a `Field`), its access code and its reset
columns (R6, R7). Tables MEM-5, MEM-8, VEC-9, CLU-11, TTB-10, FLD-6, FLD-13, FLD-14, FLD-15, IDN-1, IDN-5, RMC-7, INT-3, MWD-5,
MWD-8, CAS-5, HCI-7, MRP-11, TRB-2, TRB-3, HWM-6 and R328. -/

namespace Sys2Proof.Machine

/-- Access codes of R6. -/
inductive Access where
  | rw | ro | wo | w1c | w1s
  deriving DecidableEq, Repr

/-- A field of a word: physical word address and bits hi:lo. -/
structure Field where
  addr : Nat
  hi : Nat
  lo : Nat
  deriving DecidableEq, Repr

/-- One row of a register table, repeated `n1` times every `s1` words and within that `n2` times every `s2` words.
`coldKept`: the Cold column says kept; `warmKept`: warm reset does not return the field to its Cold value. -/
structure Row where
  off : Nat
  n1 : Nat
  s1 : Nat
  n2 : Nat
  s2 : Nat
  hi : Nat
  lo : Nat
  acc : Access
  cold : Nat
  coldKept : Bool
  warmKept : Bool
  deriving DecidableEq, Repr

/-- The kinds of register block. -/
inductive Blk where
  | sm | bm | vp | sc | cal | fp | fc | qe | idn | rm | ic | dma | mw | cas | hst | pwr | trb | gp
  deriving DecidableEq, Repr

/-- Base address of the register block of a kind (its i-th, where there are several). -/
def blkBase : Blk → Nat → Nat
  | .mw, _ => 0x20000000 | .dma, _ => 0x20010000 | .cal, _ => 0x20020000 | .sm, _ => 0x20040000 | .bm, _ => 0x20050000
  | .vp, i => 0x20060000 + i * 0x10000 | .fp, i => 0x20100000 + i * 0x10000 | .fc, _ => 0x20180000 | .qe, _ => 0x20190000
  | .idn, _ => 0x201A0000 | .hst, _ => 0x201C0000 | .gp, _ => 0x201D0000 | .pwr, _ => 0x201E0000 | .trb, _ => 0x201F0000
  | .rm, i => 0x20200000 + i * 0x10000 | .ic, _ => 0x20240000 | .cas, _ => 0x20280000 | .sc, i => 0x10030000 + i * 0x100000

def R.smSCRUB_EN : Field := ⟨blkBase .sm 0 + 0x0000, 0, 0⟩
def R.smLVT_PROT : Field := ⟨blkBase .sm 0 + 0x0000, 1, 1⟩
def R.smLVT_BASE : Field := ⟨blkBase .sm 0 + 0x0001, 22, 8⟩
def R.smINIT_DONE : Field := ⟨blkBase .sm 0 + 0x0002, 0, 0⟩
def R.smPHASEMISS : Field := ⟨blkBase .sm 0 + 0x0002, 1, 1⟩
def R.smCE : Field := ⟨blkBase .sm 0 + 0x0002, 2, 2⟩
def R.smUE : Field := ⟨blkBase .sm 0 + 0x0002, 3, 3⟩
def R.smREPAIR_ON : Field := ⟨blkBase .sm 0 + 0x0002, 4, 4⟩
def R.smFIELD_REC : Field := ⟨blkBase .sm 0 + 0x0002, 5, 5⟩
def R.smPHASEMISS_CNT : Field := ⟨blkBase .sm 0 + 0x0003, 35, 0⟩
def R.smPM_BANK : Field := ⟨blkBase .sm 0 + 0x0004, 7, 0⟩
def R.smPM_LOSER : Field := ⟨blkBase .sm 0 + 0x0004, 9, 8⟩
def R.smPM_SELF : Field := ⟨blkBase .sm 0 + 0x0004, 10, 10⟩
def R.smCE_CNT : Field := ⟨blkBase .sm 0 + 0x0005, 35, 0⟩
def R.smCE_THRESH : Field := ⟨blkBase .sm 0 + 0x0006, 15, 0⟩
def R.smCE_ADDR : Field := ⟨blkBase .sm 0 + 0x0007, 22, 0⟩
def R.smCE_POS : Field := ⟨blkBase .sm 0 + 0x0007, 28, 23⟩
def R.smUE_CNT : Field := ⟨blkBase .sm 0 + 0x0008, 35, 0⟩
def R.smUE_ADDR : Field := ⟨blkBase .sm 0 + 0x0009, 22, 0⟩
def R.smBANK_OFF (i : Nat) : Field := ⟨blkBase .sm 0 + 0x000A + i, 31, 0⟩
def R.smSPARES_USED : Field := ⟨blkBase .sm 0 + 0x0012, 9, 0⟩
def R.smSCRUB_PASSES : Field := ⟨blkBase .sm 0 + 0x0013, 35, 0⟩
def R.bmSCRUB_EN : Field := ⟨blkBase .bm 0 + 0x0000, 0, 0⟩
def R.bmSCRUB_HOURS : Field := ⟨blkBase .bm 0 + 0x0000, 8, 1⟩
def R.bmFLUSH : Field := ⟨blkBase .bm 0 + 0x0000, 9, 9⟩
def R.bmINIT_DONE : Field := ⟨blkBase .bm 0 + 0x0001, 0, 0⟩
def R.bmTRAINED_FULL : Field := ⟨blkBase .bm 0 + 0x0001, 1, 1⟩
def R.bmCE : Field := ⟨blkBase .bm 0 + 0x0001, 2, 2⟩
def R.bmUE : Field := ⟨blkBase .bm 0 + 0x0001, 3, 3⟩
def R.bmHOT_REFRESH : Field := ⟨blkBase .bm 0 + 0x0001, 4, 4⟩
def R.bmCE_CNT : Field := ⟨blkBase .bm 0 + 0x0002, 35, 0⟩
def R.bmCE_THRESH : Field := ⟨blkBase .bm 0 + 0x0003, 15, 0⟩
def R.bmCE_ADDR : Field := ⟨blkBase .bm 0 + 0x0004, 35, 0⟩
def R.bmCE_SYMS : Field := ⟨blkBase .bm 0 + 0x0005, 2, 0⟩
def R.bmCE_SRC : Field := ⟨blkBase .bm 0 + 0x0005, 4, 3⟩
def R.bmUE_CNT : Field := ⟨blkBase .bm 0 + 0x0006, 35, 0⟩
def R.bmUE_ADDR : Field := ⟨blkBase .bm 0 + 0x0007, 35, 0⟩
def R.bmUE_SRC : Field := ⟨blkBase .bm 0 + 0x0008, 4, 3⟩
def R.bmSCRUB_POS : Field := ⟨blkBase .bm 0 + 0x0009, 28, 0⟩
def R.bmSCRUB_PASSES : Field := ⟨blkBase .bm 0 + 0x000A, 35, 0⟩
def R.vpENABLE (p : Nat) : Field := ⟨blkBase .vp p + 0x0000, 0, 0⟩
def R.vpDRM (p : Nat) : Field := ⟨blkBase .vp p + 0x0000, 2, 1⟩
def R.vpRETAIN_EN (p : Nat) : Field := ⟨blkBase .vp p + 0x0000, 3, 3⟩
def R.vpRM_RELEASE (p : Nat) : Field := ⟨blkBase .vp p + 0x0000, 4, 4⟩
def R.vpIDLE_TIME (p : Nat) : Field := ⟨blkBase .vp p + 0x0001, 15, 0⟩
def R.vpDRAIN_LIMIT (p : Nat) : Field := ⟨blkBase .vp p + 0x0002, 15, 0⟩
def R.vpCHAIN_TIMEOUT (p : Nat) : Field := ⟨blkBase .vp p + 0x0003, 15, 0⟩
def R.vpUNIT_STATE (p : Nat) : Field := ⟨blkBase .vp p + 0x0004, 2, 0⟩
def R.vpPOWER (p : Nat) : Field := ⟨blkBase .vp p + 0x0004, 5, 4⟩
def R.vpRM_HELD (p : Nat) : Field := ⟨blkBase .vp p + 0x0004, 6, 6⟩
def R.vpCAL_HELD (p : Nat) : Field := ⟨blkBase .vp p + 0x0004, 7, 7⟩
def R.vpCAL_Q (p : Nat) : Field := ⟨blkBase .vp p + 0x0004, 12, 8⟩
def R.vpRM_Q (p : Nat) : Field := ⟨blkBase .vp p + 0x0004, 16, 13⟩
def R.vpARF (p : Nat) : Field := ⟨blkBase .vp p + 0x0005, 6, 0⟩
def R.vpPR_OVER (p : Nat) : Field := ⟨blkBase .vp p + 0x0006, 0, 0⟩
def R.vpPR_WRITE_ERR (p : Nat) : Field := ⟨blkBase .vp p + 0x0006, 1, 1⟩
def R.vpHOLD_CNT (p : Nat) : Field := ⟨blkBase .vp p + 0x0007, 35, 0⟩
def R.vpCHAIN_WAIT_CNT (p : Nat) : Field := ⟨blkBase .vp p + 0x0008, 35, 0⟩
def R.vpWAKE_WAIT_CNT (p : Nat) : Field := ⟨blkBase .vp p + 0x0009, 35, 0⟩
def R.vpFETCH_WAIT_CNT (p : Nat) : Field := ⟨blkBase .vp p + 0x000A, 35, 0⟩
def R.vpDONE_CNT (p : Nat) : Field := ⟨blkBase .vp p + 0x000B, 35, 0⟩
def R.vpSHARED_STALL_CNT (p : Nat) : Field := ⟨blkBase .vp p + 0x000C, 35, 0⟩
def R.vpVALID (p : Nat) : Field := ⟨blkBase .vp p + 0x0010, 35, 35⟩
def R.vpPR0 (p : Nat) : Field := ⟨blkBase .vp p + 0x0010, 34, 0⟩
def R.vpPR1 (p i : Nat) : Field := ⟨blkBase .vp p + 0x0011 + i, 35, 0⟩
def R.vpK (p i : Nat) : Field := ⟨blkBase .vp p + 0x0020 + i, 35, 0⟩
def R.vpS (p i : Nat) : Field := ⟨blkBase .vp p + 0x0100 + i, 35, 0⟩
def R.vpW (p i : Nat) : Field := ⟨blkBase .vp p + 0x1000 + i, 35, 0⟩
def R.scENABLE (n : Nat) : Field := ⟨blkBase .sc n + 0x0000, 0, 0⟩
def R.scDRM (n : Nat) : Field := ⟨blkBase .sc n + 0x0000, 2, 1⟩
def R.scDZ_TRAP (n : Nat) : Field := ⟨blkBase .sc n + 0x0000, 3, 3⟩
def R.scRETAIN_EN (n : Nat) : Field := ⟨blkBase .sc n + 0x0000, 4, 4⟩
def R.scIDLE_TIME (n : Nat) : Field := ⟨blkBase .sc n + 0x0001, 15, 0⟩
def R.scDRAIN_LIMIT (n : Nat) : Field := ⟨blkBase .sc n + 0x0002, 15, 0⟩
def R.scENTRY (n : Nat) : Field := ⟨blkBase .sc n + 0x0003, 15, 0⟩
def R.scSTOP (n : Nat) : Field := ⟨blkBase .sc n + 0x0003, 34, 34⟩
def R.scSTART (n : Nat) : Field := ⟨blkBase .sc n + 0x0003, 35, 35⟩
def R.scUNIT_STATE (n : Nat) : Field := ⟨blkBase .sc n + 0x0004, 2, 0⟩
def R.scPOWER (n : Nat) : Field := ⟨blkBase .sc n + 0x0004, 5, 4⟩
def R.scRUN_STATE (n : Nat) : Field := ⟨blkBase .sc n + 0x0004, 10, 8⟩
def R.scTT_OWNED (n : Nat) : Field := ⟨blkBase .sc n + 0x0004, 11, 11⟩
def R.scINIT_DONE (n : Nat) : Field := ⟨blkBase .sc n + 0x0004, 12, 12⟩
def R.scARF (n : Nat) : Field := ⟨blkBase .sc n + 0x0005, 6, 0⟩
def R.scWCOL (n : Nat) : Field := ⟨blkBase .sc n + 0x0006, 0, 0⟩
def R.scOWNVIOL (n : Nat) : Field := ⟨blkBase .sc n + 0x0006, 1, 1⟩
def R.scDL_MISS (n : Nat) : Field := ⟨blkBase .sc n + 0x0006, 2, 2⟩
def R.scSTART_LATE (n : Nat) : Field := ⟨blkBase .sc n + 0x0006, 3, 3⟩
def R.scSTART_REFUSED (n : Nat) : Field := ⟨blkBase .sc n + 0x0006, 4, 4⟩
def R.scSHARED_LOST (n : Nat) : Field := ⟨blkBase .sc n + 0x0006, 5, 5⟩
def R.scFAULT_CAUSE (n : Nat) : Field := ⟨blkBase .sc n + 0x0007, 5, 0⟩
def R.scFAULT_IMPRECISE (n : Nat) : Field := ⟨blkBase .sc n + 0x0007, 6, 6⟩
def R.scSTOP_CAUSE (n : Nat) : Field := ⟨blkBase .sc n + 0x0007, 9, 8⟩
def R.scFAULT_ACK (n : Nat) : Field := ⟨blkBase .sc n + 0x0007, 35, 35⟩
def R.scFAULT_PC (n : Nat) : Field := ⟨blkBase .sc n + 0x0008, 15, 0⟩
def R.scOWN_X (n : Nat) : Field := ⟨blkBase .sc n + 0x0009, 7, 0⟩
def R.scOWN_Y (n : Nat) : Field := ⟨blkBase .sc n + 0x0009, 15, 8⟩
def R.scSTART_CNT (n : Nat) : Field := ⟨blkBase .sc n + 0x000A, 35, 0⟩
def R.scLAST_RUN_CYCLES (n : Nat) : Field := ⟨blkBase .sc n + 0x000B, 35, 0⟩
def R.scOWNVIOL_CNT (n : Nat) : Field := ⟨blkBase .sc n + 0x000C, 35, 0⟩
def R.scOWN_REJECT_CNT (n : Nat) : Field := ⟨blkBase .sc n + 0x000D, 35, 0⟩
def R.scCE_CNT (n : Nat) : Field := ⟨blkBase .sc n + 0x000E, 35, 0⟩
def R.scWAKE_WAIT_CNT (n : Nat) : Field := ⟨blkBase .sc n + 0x000F, 35, 0⟩
def R.scD (n i : Nat) : Field := ⟨blkBase .sc n + 0x1000 + i, 35, 0⟩
def R.scAC (n i : Nat) : Field := ⟨blkBase .sc n + 0x1040 + i, 35, 0⟩
def R.scP (n i : Nat) : Field := ⟨blkBase .sc n + 0x1060 + i, 35, 0⟩
def R.scM (n i : Nat) : Field := ⟨blkBase .sc n + 0x1070 + i, 35, 0⟩
def R.scB (n i : Nat) : Field := ⟨blkBase .sc n + 0x1080 + i, 35, 0⟩
def R.scL (n i : Nat) : Field := ⟨blkBase .sc n + 0x1090 + i, 15, 0⟩
def R.scC (n : Nat) : Field := ⟨blkBase .sc n + 0x10A0, 7, 1⟩
def R.scCPOS (n : Nat) : Field := ⟨blkBase .sc n + 0x10A1, 4, 0⟩
def R.scPC (n : Nat) : Field := ⟨blkBase .sc n + 0x10A2, 15, 0⟩
def R.calAUTO_REARM : Field := ⟨blkBase .cal 0 + 0x0000, 0, 0⟩
def R.calIMG_PROT : Field := ⟨blkBase .cal 0 + 0x0000, 1, 1⟩
def R.calIMG_BASE : Field := ⟨blkBase .cal 0 + 0x0001, 35, 0⟩
def R.calSTATE : Field := ⟨blkBase .cal 0 + 0x0002, 2, 0⟩
def R.calACTIVE_IDX : Field := ⟨blkBase .cal 0 + 0x0002, 6, 3⟩
def R.calACTIVE_IMG : Field := ⟨blkBase .cal 0 + 0x0002, 7, 7⟩
def R.calSTANDBY_IDX : Field := ⟨blkBase .cal 0 + 0x0002, 11, 8⟩
def R.calSTANDBY_VALID : Field := ⟨blkBase .cal 0 + 0x0002, 12, 12⟩
def R.calNEXT_IDX : Field := ⟨blkBase .cal 0 + 0x0002, 16, 13⟩
def R.calNEXT_IMG : Field := ⟨blkBase .cal 0 + 0x0002, 17, 17⟩
def R.calNEXT_VALID : Field := ⟨blkBase .cal 0 + 0x0002, 18, 18⟩
def R.calPENDING : Field := ⟨blkBase .cal 0 + 0x0002, 21, 19⟩
def R.calMINOR_TICK : Field := ⟨blkBase .cal 0 + 0x0003, 15, 0⟩
def R.calFRAME_NUM : Field := ⟨blkBase .cal 0 + 0x0004, 35, 0⟩
def R.calOVERRUN : Field := ⟨blkBase .cal 0 + 0x0005, 0, 0⟩
def R.calBARRIER_MISS : Field := ⟨blkBase .cal 0 + 0x0005, 1, 1⟩
def R.calDEADLINE_MISS : Field := ⟨blkBase .cal 0 + 0x0005, 2, 2⟩
def R.calUNIT_FAULT : Field := ⟨blkBase .cal 0 + 0x0005, 3, 3⟩
def R.calFAST_TICK : Field := ⟨blkBase .cal 0 + 0x0005, 4, 4⟩
def R.calTICK_LOSS : Field := ⟨blkBase .cal 0 + 0x0005, 5, 5⟩
def R.calTIME_STEPPED : Field := ⟨blkBase .cal 0 + 0x0005, 6, 6⟩
def R.calSWITCH_DONE : Field := ⟨blkBase .cal 0 + 0x0005, 7, 7⟩
def R.calNO_VARIANT : Field := ⟨blkBase .cal 0 + 0x0005, 8, 8⟩
def R.calARM_FAIL : Field := ⟨blkBase .cal 0 + 0x0005, 9, 9⟩
def R.calSWITCH_CANCELLED : Field := ⟨blkBase .cal 0 + 0x0005, 10, 10⟩
def R.calCHECK_CODE : Field := ⟨blkBase .cal 0 + 0x0006, 4, 0⟩
def R.calLAST_ACTION : Field := ⟨blkBase .cal 0 + 0x0007, 14, 0⟩
def R.calOVERRUN_CNT : Field := ⟨blkBase .cal 0 + 0x0008, 35, 0⟩
def R.calBARRIER_MISS_CNT : Field := ⟨blkBase .cal 0 + 0x0009, 35, 0⟩
def R.calDEADLINE_MISS_CNT : Field := ⟨blkBase .cal 0 + 0x000A, 35, 0⟩
def R.calFAST_TICK_CNT : Field := ⟨blkBase .cal 0 + 0x000B, 35, 0⟩
def R.calLATE_CNT : Field := ⟨blkBase .cal 0 + 0x000C, 35, 0⟩
def R.calLATE_MAX : Field := ⟨blkBase .cal 0 + 0x000D, 35, 0⟩
def R.calSWITCH_CNT : Field := ⟨blkBase .cal 0 + 0x000E, 35, 0⟩
def R.calANCHOR_S : Field := ⟨blkBase .cal 0 + 0x0010, 35, 0⟩
def R.calANCHOR_NS : Field := ⟨blkBase .cal 0 + 0x0011, 29, 0⟩
def R.calANCHOR_ENC : Field := ⟨blkBase .cal 0 + 0x0012, 35, 0⟩
def R.calEVENT_CODE (i : Nat) : Field := ⟨blkBase .cal 0 + 0x0018 + i, 35, 0⟩
def R.calLOSS_SW : Field := ⟨blkBase .cal 0 + 0x0020, 31, 0⟩
def R.calLOSS (i : Nat) : Field := ⟨blkBase .cal 0 + 0x0021 + i, 31, 0⟩
def R.ndVALID (n : Nat) : Field := ⟨blkBase .fc 0 + 0x8000 + 8 * n, 0, 0⟩
def R.ndPORT (n : Nat) : Field := ⟨blkBase .fc 0 + 0x8000 + 8 * n, 3, 1⟩
def R.ndENCAP (n : Nat) : Field := ⟨blkBase .fc 0 + 0x8000 + 8 * n, 4, 4⟩
def R.ndSEQ_CHECK (n : Nat) : Field := ⟨blkBase .fc 0 + 0x8000 + 8 * n, 5, 5⟩
def R.ndVLAN (n : Nat) : Field := ⟨blkBase .fc 0 + 0x8000 + 8 * n, 17, 6⟩
def R.ndPCP (n : Nat) : Field := ⟨blkBase .fc 0 + 0x8000 + 8 * n, 20, 18⟩
def R.ndMAC_HI (n : Nat) : Field := ⟨blkBase .fc 0 + 0x8001 + 8 * n, 35, 0⟩
def R.ndMAC_LO (n : Nat) : Field := ⟨blkBase .fc 0 + 0x8002 + 8 * n, 11, 0⟩
def R.ndUDP_DPORT (n : Nat) : Field := ⟨blkBase .fc 0 + 0x8002 + 8 * n, 27, 12⟩
def R.ndIPV4 (n : Nat) : Field := ⟨blkBase .fc 0 + 0x8003 + 8 * n, 31, 0⟩
def R.ndLAST_SEQ (n : Nat) : Field := ⟨blkBase .fc 0 + 0x8004 + 8 * n, 15, 0⟩
def R.ndSEEN (n : Nat) : Field := ⟨blkBase .fc 0 + 0x8004 + 8 * n, 16, 16⟩
def R.ndLAST_TAG (n : Nat) : Field := ⟨blkBase .fc 0 + 0x8005 + 8 * n, 35, 0⟩
def R.ndSEQ_GAP_CNT (n : Nat) : Field := ⟨blkBase .fc 0 + 0x8006 + 8 * n, 35, 0⟩
def R.ndDUP_CNT (n : Nat) : Field := ⟨blkBase .fc 0 + 0x8007 + 8 * n, 35, 0⟩
def R.fpENABLE (p : Nat) : Field := ⟨blkBase .fp p + 0x0000, 0, 0⟩
def R.fpSPEED (p : Nat) : Field := ⟨blkBase .fp p + 0x0000, 1, 1⟩
def R.fpFEC (p : Nat) : Field := ⟨blkBase .fp p + 0x0000, 2, 2⟩
def R.fpJUMBO (p : Nat) : Field := ⟨blkBase .fp p + 0x0000, 3, 3⟩
def R.fpTX_INHIBIT (p : Nat) : Field := ⟨blkBase .fp p + 0x0000, 4, 4⟩
def R.fpPTP_ROLE (p : Nat) : Field := ⟨blkBase .fp p + 0x0000, 6, 5⟩
def R.fpIPV4 (p : Nat) : Field := ⟨blkBase .fp p + 0x0001, 31, 0⟩
def R.fpLINK_DOWN_MS (p : Nat) : Field := ⟨blkBase .fp p + 0x0002, 15, 0⟩
def R.fpLINK (p : Nat) : Field := ⟨blkBase .fp p + 0x0003, 0, 0⟩
def R.fpUNIT_STATE (p : Nat) : Field := ⟨blkBase .fp p + 0x0003, 3, 1⟩
def R.fpLINK_CHG (p : Nat) : Field := ⟨blkBase .fp p + 0x0004, 0, 0⟩
def R.fpRX_DROP (p : Nat) : Field := ⟨blkBase .fp p + 0x0004, 1, 1⟩
def R.fpSAMPLE_DROP (p : Nat) : Field := ⟨blkBase .fp p + 0x0004, 2, 2⟩
def R.fpREPLAYING (p : Nat) : Field := ⟨blkBase .fp p + 0x0004, 3, 3⟩
def R.fpEXPIRED (p : Nat) : Field := ⟨blkBase .fp p + 0x0004, 4, 4⟩
def R.fpEMIT_SKIP (p : Nat) : Field := ⟨blkBase .fp p + 0x0004, 5, 5⟩
def R.fpRX_FRAMES (p : Nat) : Field := ⟨blkBase .fp p + 0x0005, 35, 0⟩
def R.fpRX_FCS (p : Nat) : Field := ⟨blkBase .fp p + 0x0006, 35, 0⟩
def R.fpRX_BAD (p : Nat) : Field := ⟨blkBase .fp p + 0x0007, 35, 0⟩
def R.fpRX_OTHER (p : Nat) : Field := ⟨blkBase .fp p + 0x0008, 35, 0⟩
def R.fpRX_DROP_CNT (p : Nat) : Field := ⟨blkBase .fp p + 0x0009, 35, 0⟩
def R.fpSAMPLE_DROP_CNT (p : Nat) : Field := ⟨blkBase .fp p + 0x000A, 35, 0⟩
def R.fpTX_SCHED (p : Nat) : Field := ⟨blkBase .fp p + 0x000B, 35, 0⟩
def R.fpTX_KEEP (p : Nat) : Field := ⟨blkBase .fp p + 0x000C, 35, 0⟩
def R.fpVALID (p s : Nat) : Field := ⟨blkBase .fp p + 0x2000 + 8 * s, 0, 0⟩
def R.fpNODE (p s : Nat) : Field := ⟨blkBase .fp p + 0x2000 + 8 * s, 12, 1⟩
def R.fpCHAN (p s : Nat) : Field := ⟨blkBase .fp p + 0x2000 + 8 * s, 28, 13⟩
def R.fpN (p s : Nat) : Field := ⟨blkBase .fp p + 0x2001 + 8 * s, 11, 0⟩
def R.fpPROBE_EN (p s : Nat) : Field := ⟨blkBase .fp p + 0x2001 + 8 * s, 12, 12⟩
def R.fpOFMT (p s : Nat) : Field := ⟨blkBase .fp p + 0x2001 + 8 * s, 14, 13⟩
def R.fpKOFS (p s : Nat) : Field := ⟨blkBase .fp p + 0x2001 + 8 * s, 29, 15⟩
def R.fpSRC (p s : Nat) : Field := ⟨blkBase .fp p + 0x2002 + 8 * s, 22, 0⟩
def R.fpKEEP_PERIOD (p s : Nat) : Field := ⟨blkBase .fp p + 0x2003 + 8 * s, 19, 0⟩
def R.fpHOLD_MAX (p s : Nat) : Field := ⟨blkBase .fp p + 0x2003 + 8 * s, 35, 20⟩
def R.fpSEQ (p s : Nat) : Field := ⟨blkBase .fp p + 0x2004 + 8 * s, 15, 0⟩
def R.fpKSTATE (p s : Nat) : Field := ⟨blkBase .fp p + 0x2004 + 8 * s, 17, 16⟩
def R.fpKOWN (p s : Nat) : Field := ⟨blkBase .fp p + 0x2004 + 8 * s, 18, 18⟩
def R.fpKPRIME (p s : Nat) : Field := ⟨blkBase .fp p + 0x2004 + 8 * s, 19, 19⟩
def R.fpLAST_SCHED (p s : Nat) : Field := ⟨blkBase .fp p + 0x2005 + 8 * s, 35, 0⟩
def R.fpREPLAY_CNT (p s : Nat) : Field := ⟨blkBase .fp p + 0x2006 + 8 * s, 35, 0⟩
def R.fpMISS_CNT (p s : Nat) : Field := ⟨blkBase .fp p + 0x2007 + 8 * s, 35, 0⟩
def R.fpKMEM (p i : Nat) : Field := ⟨blkBase .fp p + 0x8000 + i, 35, 0⟩
def R.fcETYPE : Field := ⟨blkBase .fc 0 + 0x0000, 15, 0⟩
def R.fcUDP_PORT : Field := ⟨blkBase .fc 0 + 0x0001, 15, 0⟩
def R.fcTIME_SRC : Field := ⟨blkBase .fc 0 + 0x0002, 3, 0⟩
def R.fcSTEP_LIMIT : Field := ⟨blkBase .fc 0 + 0x0003, 19, 0⟩
def R.fcSYNC_STATE : Field := ⟨blkBase .fc 0 + 0x0004, 1, 0⟩
def R.fcOFFSET_NS : Field := ⟨blkBase .fc 0 + 0x0005, 35, 0⟩
def R.fcTIME_STEP : Field := ⟨blkBase .fc 0 + 0x0006, 0, 0⟩
def R.fcSYNC_LOST : Field := ⟨blkBase .fc 0 + 0x0006, 1, 1⟩
def R.fcCLS_MISS : Field := ⟨blkBase .fc 0 + 0x0006, 2, 2⟩
def R.fcNODE_REJECT : Field := ⟨blkBase .fc 0 + 0x0006, 3, 3⟩
def R.fcCLS_FAIL : Field := ⟨blkBase .fc 0 + 0x0006, 4, 4⟩
def R.fcCLS_MISS_CNT : Field := ⟨blkBase .fc 0 + 0x0007, 35, 0⟩
def R.fcMISS_KEY : Field := ⟨blkBase .fc 0 + 0x0008, 35, 0⟩
def R.fcNODE_REJECT_CNT : Field := ⟨blkBase .fc 0 + 0x0009, 35, 0⟩
def R.fcCLS_W0 : Field := ⟨blkBase .fc 0 + 0x0010, 35, 0⟩
def R.fcCLS_W1 : Field := ⟨blkBase .fc 0 + 0x0011, 35, 0⟩
def R.fcCLS_OP : Field := ⟨blkBase .fc 0 + 0x0012, 1, 0⟩
def R.fcCLS_STATUS : Field := ⟨blkBase .fc 0 + 0x0013, 2, 0⟩
def R.fcCLS_INDEX : Field := ⟨blkBase .fc 0 + 0x0013, 19, 3⟩
def R.fcCLS_USED : Field := ⟨blkBase .fc 0 + 0x0014, 17, 0⟩
def R.fcWINDOW (c : Nat) : Field := ⟨blkBase .fc 0 + 0x0100 + 16 * c, 19, 0⟩
def R.fcENABLE (c : Nat) : Field := ⟨blkBase .fc 0 + 0x0100 + 16 * c, 20, 20⟩
def R.fcACK0 (c : Nat) : Field := ⟨blkBase .fc 0 + 0x0100 + 16 * c, 21, 21⟩
def R.fcACK1 (c : Nat) : Field := ⟨blkBase .fc 0 + 0x0100 + 16 * c, 22, 22⟩
def R.fcBUF_STATE (c : Nat) : Field := ⟨blkBase .fc 0 + 0x0101 + 16 * c, 3, 0⟩
def R.fcLOST (c : Nat) : Field := ⟨blkBase .fc 0 + 0x0101 + 16 * c, 4, 4⟩
def R.fcLOST_CNT (c : Nat) : Field := ⟨blkBase .fc 0 + 0x0102 + 16 * c, 35, 0⟩
def R.fcFIRST_NODE (c b : Nat) : Field := ⟨blkBase .fc 0 + 0x0104 + 16 * c + 4 * b, 11, 0⟩
def R.fcFIRST_TAG (c b : Nat) : Field := ⟨blkBase .fc 0 + 0x0105 + 16 * c + 4 * b, 35, 0⟩
def R.fcFIRST_CODE (c b : Nat) : Field := ⟨blkBase .fc 0 + 0x0106 + 16 * c + 4 * b, 35, 0⟩
def R.fcREPORTS (c b : Nat) : Field := ⟨blkBase .fc 0 + 0x0107 + 16 * c + 4 * b, 35, 0⟩
def R.fcBITMAP (i : Nat) : Field := ⟨blkBase .fc 0 + 0x1000 + i, 31, 0⟩
def R.qeFREEZE_TICKS : Field := ⟨blkBase .qe 0 + 0x0000, 7, 0⟩
def R.qeFROZEN : Field := ⟨blkBase .qe 0 + 0x0001, 0, 0⟩
def R.qeTHAWING : Field := ⟨blkBase .qe 0 + 0x0001, 1, 1⟩
def R.qeHOLD_FULL : Field := ⟨blkBase .qe 0 + 0x0002, 0, 0⟩
def R.qeFREEZE_LATE : Field := ⟨blkBase .qe 0 + 0x0002, 1, 1⟩
def R.qeQOVF : Field := ⟨blkBase .qe 0 + 0x0002, 2, 2⟩
def R.qeHOLD_USED : Field := ⟨blkBase .qe 0 + 0x0003, 16, 0⟩
def R.qeHOLD_PEAK : Field := ⟨blkBase .qe 0 + 0x0004, 16, 0⟩
def R.qeHOLD_FULL_CNT : Field := ⟨blkBase .qe 0 + 0x0005, 35, 0⟩
def R.qeCOMMIT_CNT : Field := ⟨blkBase .qe 0 + 0x0006, 35, 0⟩
def R.qeOVF_Q : Field := ⟨blkBase .qe 0 + 0x0007, 17, 0⟩
def R.qeQDIS_CNT : Field := ⟨blkBase .qe 0 + 0x0008, 35, 0⟩
def R.qeQD_INDEX : Field := ⟨blkBase .qe 0 + 0x0010, 17, 0⟩
def R.qeQD_W0 : Field := ⟨blkBase .qe 0 + 0x0011, 35, 0⟩
def R.qeQD_W1 : Field := ⟨blkBase .qe 0 + 0x0012, 35, 0⟩
def R.qeQD_OP : Field := ⟨blkBase .qe 0 + 0x0013, 1, 0⟩
def R.qeQD_STATUS : Field := ⟨blkBase .qe 0 + 0x0014, 0, 0⟩
def R.idnVALID (c : Nat) : Field := ⟨blkBase .idn 0 + 0x8000 + 8 * c, 0, 0⟩
def R.idnENABLE (c : Nat) : Field := ⟨blkBase .idn 0 + 0x8000 + 8 * c, 1, 1⟩
def R.idnUNIT_STATE (c : Nat) : Field := ⟨blkBase .idn 0 + 0x8000 + 8 * c, 4, 2⟩
def R.idnPORT (c : Nat) : Field := ⟨blkBase .idn 0 + 0x8000 + 8 * c, 7, 5⟩
def R.idnSTREAM (c : Nat) : Field := ⟨blkBase .idn 0 + 0x8000 + 8 * c, 17, 8⟩
def R.idnELEM (c : Nat) : Field := ⟨blkBase .idn 0 + 0x8000 + 8 * c, 29, 18⟩
def R.idnK (c : Nat) : Field := ⟨blkBase .idn 0 + 0x8001 + 8 * c, 4, 0⟩
def R.idnTAPS (c : Nat) : Field := ⟨blkBase .idn 0 + 0x8001 + 8 * c, 27, 5⟩
def R.idnPHASE (c : Nat) : Field := ⟨blkBase .idn 0 + 0x8002 + 8 * c, 22, 0⟩
def R.idnAMP (c : Nat) : Field := ⟨blkBase .idn 0 + 0x8003 + 8 * c, 17, 0⟩
def R.idnLIMIT (c : Nat) : Field := ⟨blkBase .idn 0 + 0x8003 + 8 * c, 35, 18⟩
def R.idnSPAN (c : Nat) : Field := ⟨blkBase .idn 0 + 0x8004 + 8 * c, 35, 0⟩
def R.idnGUARD_EN : Field := ⟨blkBase .idn 0 + 0x0000, 0, 0⟩
def R.idnPROBE_OFF : Field := ⟨blkBase .idn 0 + 0x0000, 1, 1⟩
def R.idnGUARD_FORCE : Field := ⟨blkBase .idn 0 + 0x0000, 2, 2⟩
def R.idnSWAP_NOW : Field := ⟨blkBase .idn 0 + 0x0000, 3, 3⟩
def R.idnREVERT : Field := ⟨blkBase .idn 0 + 0x0000, 4, 4⟩
def R.idnPSTEP_LO : Field := ⟨blkBase .idn 0 + 0x0001, 35, 0⟩
def R.idnPSTEP_HI : Field := ⟨blkBase .idn 0 + 0x0002, 35, 0⟩
def R.idnGUARD_STATE : Field := ⟨blkBase .idn 0 + 0x0003, 0, 0⟩
def R.idnMAP_ACTIVE : Field := ⟨blkBase .idn 0 + 0x0003, 1, 1⟩
def R.idnREVERT_PENDING : Field := ⟨blkBase .idn 0 + 0x0003, 2, 2⟩
def R.idnQUIET_CNT : Field := ⟨blkBase .idn 0 + 0x0003, 18, 3⟩
def R.idnPSTAT_ADDR : Field := ⟨blkBase .idn 0 + 0x0004, 22, 0⟩
def R.idnGUARD_SRC : Field := ⟨blkBase .idn 0 + 0x0005, 22, 0⟩
def R.idnGUARD_LIMIT : Field := ⟨blkBase .idn 0 + 0x0006, 35, 0⟩
def R.idnGUARD_QUIET : Field := ⟨blkBase .idn 0 + 0x0007, 15, 0⟩
def R.idnGUARD_EVENTS : Field := ⟨blkBase .idn 0 + 0x0007, 31, 16⟩
def R.idnMAP_BASE0 : Field := ⟨blkBase .idn 0 + 0x0008, 22, 0⟩
def R.idnMAP_BASE1 : Field := ⟨blkBase .idn 0 + 0x0009, 22, 0⟩
def R.idnCONF_MIN : Field := ⟨blkBase .idn 0 + 0x000A, 35, 0⟩
def R.idnROWS_MIN : Field := ⟨blkBase .idn 0 + 0x000B, 12, 0⟩
def R.idnGUARD_TRIP : Field := ⟨blkBase .idn 0 + 0x000C, 0, 0⟩
def R.idnSWAP_DONE : Field := ⟨blkBase .idn 0 + 0x000C, 1, 1⟩
def R.idnSWAP_FAIL : Field := ⟨blkBase .idn 0 + 0x000C, 2, 2⟩
def R.idnPROBE_SAT : Field := ⟨blkBase .idn 0 + 0x000C, 3, 3⟩
def R.idnCONFLICT : Field := ⟨blkBase .idn 0 + 0x000C, 4, 4⟩
def R.idnCFG_REJECT : Field := ⟨blkBase .idn 0 + 0x000C, 5, 5⟩
def R.idnSWAP_CODE : Field := ⟨blkBase .idn 0 + 0x000D, 2, 0⟩
def R.idnGUARD_TRIP_CNT : Field := ⟨blkBase .idn 0 + 0x000E, 35, 0⟩
def R.idnSWAP_CNT : Field := ⟨blkBase .idn 0 + 0x000F, 35, 0⟩
def R.idnSWAP_FAIL_CNT : Field := ⟨blkBase .idn 0 + 0x0010, 35, 0⟩
def R.idnPROBE_SAT_CNT : Field := ⟨blkBase .idn 0 + 0x0011, 35, 0⟩
def R.idnTRIP_STEP : Field := ⟨blkBase .idn 0 + 0x0012, 35, 0⟩
def R.idnRUN : Field := ⟨blkBase .idn 0 + 0x0013, 34, 0⟩
def R.idnBVALID (b : Nat) : Field := ⟨blkBase .idn 0 + 0x0018 + b, 0, 0⟩
def R.idnPIPE (b : Nat) : Field := ⟨blkBase .idn 0 + 0x0018 + b, 2, 1⟩
def R.idnDESC (b : Nat) : Field := ⟨blkBase .idn 0 + 0x0018 + b, 7, 3⟩
def R.idnOFS (b : Nat) : Field := ⟨blkBase .idn 0 + 0x0018 + b, 25, 8⟩
def R.rmLEVEL (n : Nat) : Field := ⟨blkBase .rm n + 0x0000, 1, 0⟩
def R.rmIE (n : Nat) : Field := ⟨blkBase .rm n + 0x0000, 2, 2⟩
def R.rmEMERG (n : Nat) : Field := ⟨blkBase .rm n + 0x0000, 3, 3⟩
def R.rmRPRI (n : Nat) : Field := ⟨blkBase .rm n + 0x0000, 7, 4⟩
def R.rmTSBP (n : Nat) : Field := ⟨blkBase .rm n + 0x0001, 35, 5⟩
def R.rmTSB_LIM (n : Nat) : Field := ⟨blkBase .rm n + 0x0002, 35, 0⟩
def R.rmVT_BASE (n : Nat) : Field := ⟨blkBase .rm n + 0x0003, 35, 5⟩
def R.rmGT_BASE (n : Nat) : Field := ⟨blkBase .rm n + 0x0004, 35, 0⟩
def R.rmGT_COUNT (n : Nat) : Field := ⟨blkBase .rm n + 0x0005, 11, 0⟩
def R.rmARF (n : Nat) : Field := ⟨blkBase .rm n + 0x0006, 6, 0⟩
def R.rmDCNT (n : Nat) : Field := ⟨blkBase .rm n + 0x0007, 4, 0⟩
def R.rmRCNT (n : Nat) : Field := ⟨blkBase .rm n + 0x0007, 8, 5⟩
def R.rmSPD (n l : Nat) : Field := ⟨blkBase .rm n + 0x0008 + 2 * l, 35, 0⟩
def R.rmSPQ (n l : Nat) : Field := ⟨blkBase .rm n + 0x0009 + 2 * l, 35, 0⟩
def R.rmDLO (n l : Nat) : Field := ⟨blkBase .rm n + 0x0010 + 4 * l, 35, 0⟩
def R.rmDHI (n l : Nat) : Field := ⟨blkBase .rm n + 0x0011 + 4 * l, 35, 0⟩
def R.rmQLO (n l : Nat) : Field := ⟨blkBase .rm n + 0x0012 + 4 * l, 35, 0⟩
def R.rmQHI (n l : Nat) : Field := ⟨blkBase .rm n + 0x0013 + 4 * l, 35, 0⟩
def R.rmCF_PC (n : Nat) : Field := ⟨blkBase .rm n + 0x0020, 35, 0⟩
def R.rmCF_CAUSE (n : Nat) : Field := ⟨blkBase .rm n + 0x0021, 5, 0⟩
def R.rmSTOPPED (n : Nat) : Field := ⟨blkBase .rm n + 0x0022, 0, 0⟩
def R.rmRESTART (n : Nat) : Field := ⟨blkBase .rm n + 0x0022, 1, 1⟩
def R.rmRESTART_PC (n : Nat) : Field := ⟨blkBase .rm n + 0x0023, 35, 0⟩
def R.rmWD_EN (n : Nat) : Field := ⟨blkBase .rm n + 0x0024, 0, 0⟩
def R.rmWD_KICK (n : Nat) : Field := ⟨blkBase .rm n + 0x0024, 1, 1⟩
def R.rmWD_STRIKE (n : Nat) : Field := ⟨blkBase .rm n + 0x0024, 2, 2⟩
def R.rmWD_PERIOD (n : Nat) : Field := ⟨blkBase .rm n + 0x0025, 23, 0⟩
def R.rmWD_WARN (n : Nat) : Field := ⟨blkBase .rm n + 0x0026, 23, 0⟩
def R.rmSB_STALL_CNT (n : Nat) : Field := ⟨blkBase .rm n + 0x0030, 35, 0⟩
def R.rmOVERLAP_CNT (n : Nat) : Field := ⟨blkBase .rm n + 0x0031, 35, 0⟩
def R.rmREMOTE_WAIT_CNT (n : Nat) : Field := ⟨blkBase .rm n + 0x0032, 35, 0⟩
def R.rmENTRY_CNT (n : Nat) : Field := ⟨blkBase .rm n + 0x0033, 35, 0⟩
def R.rmEMERG_CNT (n : Nat) : Field := ⟨blkBase .rm n + 0x0034, 35, 0⟩
def R.rmRBASE (n l r : Nat) : Field := ⟨blkBase .rm n + 0x0040 + 32 * l + 2 * r, 35, 4⟩
def R.rmPERM (n l r : Nat) : Field := ⟨blkBase .rm n + 0x0040 + 32 * l + 2 * r, 3, 0⟩
def R.rmRLIM (n l r : Nat) : Field := ⟨blkBase .rm n + 0x0041 + 32 * l + 2 * r, 35, 4⟩
def R.icSKIP_OFF : Field := ⟨blkBase .ic 0 + 0x0000, 0, 0⟩
def R.icEOI_ERR : Field := ⟨blkBase .ic 0 + 0x0001, 0, 0⟩
def R.icNO_AVAIL : Field := ⟨blkBase .ic 0 + 0x0001, 1, 1⟩
def R.icHOLDOFF (g : Nat) : Field := ⟨blkBase .ic 0 + 0x0008 + g, 15, 0⟩
def R.icHO_RUN (g : Nat) : Field := ⟨blkBase .ic 0 + 0x0008 + g, 16, 16⟩
def R.icCLAIM (n : Nat) : Field := ⟨blkBase .ic 0 + 0x0040 + 16 * n, 8, 0⟩
def R.icEOI (n : Nat) : Field := ⟨blkBase .ic 0 + 0x0041 + 16 * n, 8, 0⟩
def R.icRUNPRI (n : Nat) : Field := ⟨blkBase .ic 0 + 0x0042 + 16 * n, 3, 0⟩
def R.icRDEPTH (n : Nat) : Field := ⟨blkBase .ic 0 + 0x0042 + 16 * n, 7, 4⟩
def R.icLINE (n : Nat) : Field := ⟨blkBase .ic 0 + 0x0042 + 16 * n, 8, 8⟩
def R.icSPUR_CNT (n : Nat) : Field := ⟨blkBase .ic 0 + 0x0043 + 16 * n, 35, 0⟩
def R.icSTK_SRC (n j : Nat) : Field := ⟨blkBase .ic 0 + 0x0048 + 16 * n + j, 8, 0⟩
def R.icSTK_PRI (n j : Nat) : Field := ⟨blkBase .ic 0 + 0x0048 + 16 * n + j, 12, 9⟩
def R.icENABLE (s : Nat) : Field := ⟨blkBase .ic 0 + 0x0100 + s, 0, 0⟩
def R.icPRIO (s : Nat) : Field := ⟨blkBase .ic 0 + 0x0100 + s, 4, 1⟩
def R.icTARGET (s : Nat) : Field := ⟨blkBase .ic 0 + 0x0100 + s, 8, 5⟩
def R.icPENDING (s : Nat) : Field := ⟨blkBase .ic 0 + 0x0100 + s, 9, 9⟩
def R.icACTIVE (s : Nat) : Field := ⟨blkBase .ic 0 + 0x0100 + s, 10, 10⟩
def R.icOWNER (s : Nat) : Field := ⟨blkBase .ic 0 + 0x0100 + s, 12, 11⟩
def R.icSET (s : Nat) : Field := ⟨blkBase .ic 0 + 0x0100 + s, 13, 13⟩
def R.icCLEAR (s : Nat) : Field := ⟨blkBase .ic 0 + 0x0100 + s, 14, 14⟩
def R.dcMODE (c : Nat) : Field := ⟨blkBase .dma 0 + 0x0100 + 32 * c, 0, 0⟩
def R.dcPRIO (c : Nat) : Field := ⟨blkBase .dma 0 + 0x0100 + 32 * c, 3, 1⟩
def R.dcQOS (c : Nat) : Field := ⟨blkBase .dma 0 + 0x0100 + 32 * c, 7, 4⟩
def R.dcARRIVE (c : Nat) : Field := ⟨blkBase .dma 0 + 0x0100 + 32 * c, 8, 8⟩
def R.dcHSIDE (c : Nat) : Field := ⟨blkBase .dma 0 + 0x0100 + 32 * c, 10, 9⟩
def R.dcCONV (c : Nat) : Field := ⟨blkBase .dma 0 + 0x0100 + 32 * c, 13, 11⟩
def R.dcCSIGN (c : Nat) : Field := ⟨blkBase .dma 0 + 0x0100 + 32 * c, 14, 14⟩
def R.dcCSAT (c : Nat) : Field := ⟨blkBase .dma 0 + 0x0100 + 32 * c, 15, 15⟩
def R.dcIDX_SIDE (c : Nat) : Field := ⟨blkBase .dma 0 + 0x0100 + 32 * c, 16, 16⟩
def R.dcIE (c : Nat) : Field := ⟨blkBase .dma 0 + 0x0100 + 32 * c, 19, 17⟩
def R.dcSRC_BASE (c : Nat) : Field := ⟨blkBase .dma 0 + 0x0101 + 32 * c, 35, 0⟩
def R.dcSRC_LLEN (c : Nat) : Field := ⟨blkBase .dma 0 + 0x0102 + 32 * c, 23, 0⟩
def R.dcSRC_STRIDE (c : Nat) : Field := ⟨blkBase .dma 0 + 0x0103 + 32 * c, 35, 0⟩
def R.dcSRC_LINES (c : Nat) : Field := ⟨blkBase .dma 0 + 0x0104 + 32 * c, 23, 0⟩
def R.dcDST_BASE (c : Nat) : Field := ⟨blkBase .dma 0 + 0x0105 + 32 * c, 35, 0⟩
def R.dcDST_LLEN (c : Nat) : Field := ⟨blkBase .dma 0 + 0x0106 + 32 * c, 23, 0⟩
def R.dcDST_STRIDE (c : Nat) : Field := ⟨blkBase .dma 0 + 0x0107 + 32 * c, 35, 0⟩
def R.dcDST_LINES (c : Nat) : Field := ⟨blkBase .dma 0 + 0x0108 + 32 * c, 23, 0⟩
def R.dcIDX_BASE (c : Nat) : Field := ⟨blkBase .dma 0 + 0x0109 + 32 * c, 35, 0⟩
def R.dcIDX_COUNT (c : Nat) : Field := ⟨blkBase .dma 0 + 0x010A + 32 * c, 23, 0⟩
def R.dcRUNM1 (c : Nat) : Field := ⟨blkBase .dma 0 + 0x010A + 32 * c, 31, 24⟩
def R.dcHADDR_LO (c : Nat) : Field := ⟨blkBase .dma 0 + 0x010B + 32 * c, 31, 0⟩
def R.dcHADDR_HI (c : Nat) : Field := ⟨blkBase .dma 0 + 0x010C + 32 * c, 31, 0⟩
def R.dcSTATE (c : Nat) : Field := ⟨blkBase .dma 0 + 0x010D + 32 * c, 1, 0⟩
def R.dcDONE (c : Nat) : Field := ⟨blkBase .dma 0 + 0x010D + 32 * c, 2, 2⟩
def R.dcARRIVED (c : Nat) : Field := ⟨blkBase .dma 0 + 0x010D + 32 * c, 3, 3⟩
def R.dcERR (c : Nat) : Field := ⟨blkBase .dma 0 + 0x010D + 32 * c, 4, 4⟩
def R.dcERR_CODE (c : Nat) : Field := ⟨blkBase .dma 0 + 0x010D + 32 * c, 8, 5⟩
def R.dcCVX (c : Nat) : Field := ⟨blkBase .dma 0 + 0x010D + 32 * c, 13, 9⟩
def R.dcABORTED (c : Nat) : Field := ⟨blkBase .dma 0 + 0x010D + 32 * c, 14, 14⟩
def R.dcSTART_BUSY (c : Nat) : Field := ⟨blkBase .dma 0 + 0x010D + 32 * c, 15, 15⟩
def R.dcWLOST (c : Nat) : Field := ⟨blkBase .dma 0 + 0x010D + 32 * c, 16, 16⟩
def R.dcREMAIN (c : Nat) : Field := ⟨blkBase .dma 0 + 0x010E + 32 * c, 35, 0⟩
def R.dcERR_ADDR (c : Nat) : Field := ⟨blkBase .dma 0 + 0x010F + 32 * c, 35, 0⟩
def R.dcSTART (c : Nat) : Field := ⟨blkBase .dma 0 + 0x0110 + 32 * c, 0, 0⟩
def R.dcABORT (c : Nat) : Field := ⟨blkBase .dma 0 + 0x0110 + 32 * c, 1, 1⟩
def R.dcENABLE (c : Nat) : Field := ⟨blkBase .dma 0 + 0x0111 + 32 * c, 0, 0⟩
def R.dcUNIT_STATE (c : Nat) : Field := ⟨blkBase .dma 0 + 0x0111 + 32 * c, 3, 1⟩
def R.dcXFER_CNT (c : Nat) : Field := ⟨blkBase .dma 0 + 0x0112 + 32 * c, 35, 0⟩
def R.mwDEC_ERR : Field := ⟨blkBase .mw 0 + 0x0000, 0, 0⟩
def R.mwTIMEOUT : Field := ⟨blkBase .mw 0 + 0x0000, 1, 1⟩
def R.mwDEC_ADDR : Field := ⟨blkBase .mw 0 + 0x0001, 35, 0⟩
def R.mwDEC_MASTER : Field := ⟨blkBase .mw 0 + 0x0002, 4, 0⟩
def R.mwTXN_TIMEOUT : Field := ⟨blkBase .mw 0 + 0x0003, 15, 0⟩
def R.mwTIMEOUT_CNT : Field := ⟨blkBase .mw 0 + 0x0004, 35, 0⟩
def R.mwLATE_CNT : Field := ⟨blkBase .mw 0 + 0x0005, 35, 0⟩
def R.mwTO_MASTER : Field := ⟨blkBase .mw 0 + 0x0006, 4, 0⟩
def R.mwTO_TARGET : Field := ⟨blkBase .mw 0 + 0x0006, 9, 5⟩
def R.mwQOS (m : Nat) : Field := ⟨blkBase .mw 0 + 0x0010 + m, 3, 0⟩
def R.mwORDER (m : Nat) : Field := ⟨blkBase .mw 0 + 0x0010 + m, 4, 4⟩
def R.mwOUTST (m : Nat) : Field := ⟨blkBase .mw 0 + 0x0010 + m, 10, 5⟩
def R.mwWAIT_CNT (t : Nat) : Field := ⟨blkBase .mw 0 + 0x0040 + t, 35, 0⟩
def R.casCASC_ID : Field := ⟨blkBase .cas 0 + 0x0000, 4, 0⟩
def R.casMASTER_STRAP : Field := ⟨blkBase .cas 0 + 0x0000, 5, 5⟩
def R.casIS_MASTER : Field := ⟨blkBase .cas 0 + 0x0000, 6, 6⟩
def R.casMASTER_ID : Field := ⟨blkBase .cas 0 + 0x0000, 11, 7⟩
def R.casMARK_EN : Field := ⟨blkBase .cas 0 + 0x0000, 12, 12⟩
def R.casMASTER_CONFLICT : Field := ⟨blkBase .cas 0 + 0x0001, 0, 0⟩
def R.casID_DUP : Field := ⟨blkBase .cas 0 + 0x0001, 1, 1⟩
def R.casMASTER_LOST : Field := ⟨blkBase .cas 0 + 0x0001, 2, 2⟩
def R.casMARK_LATE : Field := ⟨blkBase .cas 0 + 0x0001, 3, 3⟩
def R.casDIGEST_MISMATCH : Field := ⟨blkBase .cas 0 + 0x0001, 4, 4⟩
def R.casTAKEOVER : Field := ⟨blkBase .cas 0 + 0x0001, 5, 5⟩
def R.casHOLDOVER_S : Field := ⟨blkBase .cas 0 + 0x0002, 15, 0⟩
def R.casMASTER_TIMEOUT : Field := ⟨blkBase .cas 0 + 0x0003, 15, 0⟩
def R.casMARK_LEAD : Field := ⟨blkBase .cas 0 + 0x0004, 15, 0⟩
def R.casREMOTE_EN : Field := ⟨blkBase .cas 0 + 0x0005, 1, 0⟩
def R.casSH_ROLE : Field := ⟨blkBase .cas 0 + 0x0006, 1, 0⟩
def R.casSH_PEER : Field := ⟨blkBase .cas 0 + 0x0006, 6, 2⟩
def R.casDIGEST_WAIT : Field := ⟨blkBase .cas 0 + 0x0007, 15, 0⟩
def R.casPEER_TIMEOUT : Field := ⟨blkBase .cas 0 + 0x0007, 31, 16⟩
def R.casEVT_FWD : Field := ⟨blkBase .cas 0 + 0x0008, 15, 0⟩
def R.casEVT_SRC : Field := ⟨blkBase .cas 0 + 0x0009, 4, 0⟩
def R.casEVT_CLASS : Field := ⟨blkBase .cas 0 + 0x0009, 8, 5⟩
def R.casEVT_TAG : Field := ⟨blkBase .cas 0 + 0x000A, 35, 0⟩
def R.casMISMATCH_CNT : Field := ⟨blkBase .cas 0 + 0x000B, 35, 0⟩
def R.casMARK_LATE_CNT : Field := ⟨blkBase .cas 0 + 0x000C, 35, 0⟩
def R.casDROP_CNT : Field := ⟨blkBase .cas 0 + 0x000D, 35, 0⟩
def R.casROUTE (m : Nat) : Field := ⟨blkBase .cas 0 + 0x0010 + m, 2, 0⟩
def R.casHOPS (m : Nat) : Field := ⟨blkBase .cas 0 + 0x0010 + m, 7, 3⟩
def R.casENABLE (l : Nat) : Field := ⟨blkBase .cas 0 + 0x0100 + 64 * l, 0, 0⟩
def R.casUNIT_STATE (l : Nat) : Field := ⟨blkBase .cas 0 + 0x0100 + 64 * l, 3, 1⟩
def R.casLSTATE (l : Nat) : Field := ⟨blkBase .cas 0 + 0x0100 + 64 * l, 5, 4⟩
def R.casIS_UP_LINK (l : Nat) : Field := ⟨blkBase .cas 0 + 0x0100 + 64 * l, 6, 6⟩
def R.casPEER_DOWN (l : Nat) : Field := ⟨blkBase .cas 0 + 0x0100 + 64 * l, 7, 7⟩
def R.casPEER_ID (l : Nat) : Field := ⟨blkBase .cas 0 + 0x0100 + 64 * l, 12, 8⟩
def R.casRTT (l : Nat) : Field := ⟨blkBase .cas 0 + 0x0101 + 64 * l, 25, 0⟩
def R.casLINK_ASYM (l : Nat) : Field := ⟨blkBase .cas 0 + 0x0102 + 64 * l, 15, 0⟩
def R.casLINK_DOWN_US (l : Nat) : Field := ⟨blkBase .cas 0 + 0x0103 + 64 * l, 15, 0⟩
def R.casCAL_CNT (l : Nat) : Field := ⟨blkBase .cas 0 + 0x0104 + 64 * l, 35, 0⟩
def R.casBLOCK_ERR_CNT (l : Nat) : Field := ⟨blkBase .cas 0 + 0x0105 + 64 * l, 35, 0⟩
def R.hstPERST_MODE : Field := ⟨blkBase .hst 0 + 0x0000, 1, 0⟩
def R.hstLINK_UP : Field := ⟨blkBase .hst 0 + 0x0000, 2, 2⟩
def R.hstBME : Field := ⟨blkBase .hst 0 + 0x0000, 3, 3⟩
def R.hstBAR_ERR : Field := ⟨blkBase .hst 0 + 0x0001, 0, 0⟩
def R.hstHOST_TO : Field := ⟨blkBase .hst 0 + 0x0001, 1, 1⟩
def R.hstUDP_DROP : Field := ⟨blkBase .hst 0 + 0x0001, 2, 2⟩
def R.hstPARAM_ERR : Field := ⟨blkBase .hst 0 + 0x0001, 3, 3⟩
def R.hstBAR_ERR_SLOT : Field := ⟨blkBase .hst 0 + 0x0002, 20, 0⟩
def R.hstCMD_PORT : Field := ⟨blkBase .hst 0 + 0x0003, 15, 0⟩
def R.hstCMD_PORTS : Field := ⟨blkBase .hst 0 + 0x0003, 23, 16⟩
def R.hstUDP_MASK : Field := ⟨blkBase .hst 0 + 0x0004, 3, 0⟩
def R.hstFWD_MASK : Field := ⟨blkBase .hst 0 + 0x0004, 7, 4⟩
def R.hstFWD_TIMEOUT : Field := ⟨blkBase .hst 0 + 0x0005, 15, 0⟩
def R.hstMSIX_SEND : Field := ⟨blkBase .hst 0 + 0x0006, 31, 0⟩
def R.hstCMD_CNT : Field := ⟨blkBase .hst 0 + 0x0007, 35, 0⟩
def R.hstERR_CNT : Field := ⟨blkBase .hst 0 + 0x0008, 35, 0⟩
def R.hstUDP_DUP_CNT : Field := ⟨blkBase .hst 0 + 0x0009, 35, 0⟩
def R.hstHWIN_LO (w : Nat) : Field := ⟨blkBase .hst 0 + 0x0040 + 2 * w, 31, 0⟩
def R.hstHWIN_HI (w : Nat) : Field := ⟨blkBase .hst 0 + 0x0041 + 2 * w, 31, 0⟩
def R.hstHW_EN (w : Nat) : Field := ⟨blkBase .hst 0 + 0x0041 + 2 * w, 32, 32⟩
def R.hstHW_SIGN (w : Nat) : Field := ⟨blkBase .hst 0 + 0x0041 + 2 * w, 33, 33⟩
def R.hstHW_SAT (w : Nat) : Field := ⟨blkBase .hst 0 + 0x0041 + 2 * w, 34, 34⟩
def R.hstCR_BASE_LO (r : Nat) : Field := ⟨blkBase .hst 0 + 0x0100 + 16 * r, 31, 0⟩
def R.hstCR_BASE_HI (r : Nat) : Field := ⟨blkBase .hst 0 + 0x0101 + 16 * r, 31, 0⟩
def R.hstCR_LOG2 (r : Nat) : Field := ⟨blkBase .hst 0 + 0x0102 + 16 * r, 3, 0⟩
def R.hstRR_LOG2 (r : Nat) : Field := ⟨blkBase .hst 0 + 0x0102 + 16 * r, 7, 4⟩
def R.hstVECTOR (r : Nat) : Field := ⟨blkBase .hst 0 + 0x0102 + 16 * r, 12, 8⟩
def R.hstIRQ_EN (r : Nat) : Field := ⟨blkBase .hst 0 + 0x0102 + 16 * r, 13, 13⟩
def R.hstRING_EN (r : Nat) : Field := ⟨blkBase .hst 0 + 0x0102 + 16 * r, 14, 14⟩
def R.hstRR_BASE_LO (r : Nat) : Field := ⟨blkBase .hst 0 + 0x0103 + 16 * r, 31, 0⟩
def R.hstRR_BASE_HI (r : Nat) : Field := ⟨blkBase .hst 0 + 0x0104 + 16 * r, 31, 0⟩
def R.hstSHADOW_LO (r : Nat) : Field := ⟨blkBase .hst 0 + 0x0105 + 16 * r, 31, 0⟩
def R.hstSHADOW_HI (r : Nat) : Field := ⟨blkBase .hst 0 + 0x0106 + 16 * r, 31, 0⟩
def R.hstCR_PROD (r : Nat) : Field := ⟨blkBase .hst 0 + 0x0107 + 16 * r, 15, 0⟩
def R.hstRR_CONS (r : Nat) : Field := ⟨blkBase .hst 0 + 0x0108 + 16 * r, 15, 0⟩
def R.hstRDONE (r : Nat) : Field := ⟨blkBase .hst 0 + 0x0109 + 16 * r, 15, 0⟩
def R.hstRPROD (r : Nat) : Field := ⟨blkBase .hst 0 + 0x0109 + 16 * r, 31, 16⟩
def R.hstCR_FETCH (r : Nat) : Field := ⟨blkBase .hst 0 + 0x010A + 16 * r, 15, 0⟩
def R.hstRING_ERR (r : Nat) : Field := ⟨blkBase .hst 0 + 0x010B + 16 * r, 0, 0⟩
def R.pwrMODE : Field := ⟨blkBase .pwr 0 + 0x0000, 2, 0⟩
def R.pwrPREV_MODE : Field := ⟨blkBase .pwr 0 + 0x0000, 5, 3⟩
def R.pwrSTART_OK : Field := ⟨blkBase .pwr 0 + 0x0001, 0, 0⟩
def R.pwrRESTARTING : Field := ⟨blkBase .pwr 0 + 0x0001, 1, 1⟩
def R.pwrSTART_FAILS : Field := ⟨blkBase .pwr 0 + 0x0002, 2, 0⟩
def R.pwrLAST_RESET : Field := ⟨blkBase .pwr 0 + 0x0002, 6, 3⟩
def R.pwrREF_LOST : Field := ⟨blkBase .pwr 0 + 0x0002, 7, 7⟩
def R.pwrRESET_CNT : Field := ⟨blkBase .pwr 0 + 0x0003, 35, 0⟩
def R.pwrWARM_REQ : Field := ⟨blkBase .pwr 0 + 0x0004, 0, 0⟩
def R.pwrCOLD_REQ : Field := ⟨blkBase .pwr 0 + 0x0004, 1, 1⟩
def R.pwrFORCE_REL : Field := ⟨blkBase .pwr 0 + 0x0004, 2, 2⟩
def R.pwrFORCE_ISL : Field := ⟨blkBase .pwr 0 + 0x0005, 22, 0⟩
def R.pwrISL_ON : Field := ⟨blkBase .pwr 0 + 0x0006, 22, 0⟩
def R.pwrISL_LOCKLOSS : Field := ⟨blkBase .pwr 0 + 0x0007, 22, 0⟩
def R.pwrISL_LOST : Field := ⟨blkBase .pwr 0 + 0x0008, 22, 0⟩
def R.pwrTRIM_DONE : Field := ⟨blkBase .pwr 0 + 0x0009, 0, 0⟩
def R.pwrTRIM_SAFE : Field := ⟨blkBase .pwr 0 + 0x0009, 1, 1⟩
def R.pwrCORE_OFF : Field := ⟨blkBase .pwr 0 + 0x0009, 4, 2⟩
def R.pwrCAP_CMD : Field := ⟨blkBase .pwr 0 + 0x000A, 9, 0⟩
def R.pwrCAP_EFF : Field := ⟨blkBase .pwr 0 + 0x000B, 9, 0⟩
def R.pwrLOW_SUPPLY : Field := ⟨blkBase .pwr 0 + 0x000C, 0, 0⟩
def R.pwrTHERM_HOT : Field := ⟨blkBase .pwr 0 + 0x000C, 1, 1⟩
def R.pwrCAP_CAUSE : Field := ⟨blkBase .pwr 0 + 0x000C, 2, 2⟩
def R.pwrOVER_CAP : Field := ⟨blkBase .pwr 0 + 0x000C, 3, 3⟩
def R.pwrHOLDUP_ACTIVE : Field := ⟨blkBase .pwr 0 + 0x000C, 4, 4⟩
def R.pwrINPUT_RESTORED : Field := ⟨blkBase .pwr 0 + 0x000C, 5, 5⟩
def R.pwrVIN_MV : Field := ⟨blkBase .pwr 0 + 0x000D, 15, 0⟩
def R.pwrPIN_MW : Field := ⟨blkBase .pwr 0 + 0x000E, 16, 0⟩
def R.pwrTJ : Field := ⟨blkBase .pwr 0 + 0x000F, 11, 0⟩
def R.pwrHOLDUP_MS : Field := ⟨blkBase .pwr 0 + 0x0010, 15, 0⟩
def R.trbRESET_C : Field := ⟨blkBase .trb 0 + 0x0000, 15, 0⟩
def R.trbRECOVERY : Field := ⟨blkBase .trb 0 + 0x0000, 16, 16⟩
def R.trbTRIM_SAFE : Field := ⟨blkBase .trb 0 + 0x0000, 17, 17⟩
def R.trbLOCKLOSS : Field := ⟨blkBase .trb 0 + 0x0000, 18, 18⟩
def R.trbISL_LOST : Field := ⟨blkBase .trb 0 + 0x0000, 19, 19⟩
def R.trbFORCED : Field := ⟨blkBase .trb 0 + 0x0000, 20, 20⟩
def R.trbLOW_SUPPLY : Field := ⟨blkBase .trb 0 + 0x0001, 0, 0⟩
def R.trbOVER_CAP : Field := ⟨blkBase .trb 0 + 0x0001, 1, 1⟩
def R.trbTHERM_HOT : Field := ⟨blkBase .trb 0 + 0x0001, 2, 2⟩
def R.trbHOLDUP : Field := ⟨blkBase .trb 0 + 0x0001, 3, 3⟩
def R.trbINPUT_RESTORED : Field := ⟨blkBase .trb 0 + 0x0001, 4, 4⟩
def R.trbPMBUS : Field := ⟨blkBase .trb 0 + 0x0001, 5, 5⟩
def R.trbMODE_ENTER : Field := ⟨blkBase .trb 0 + 0x0001, 13, 6⟩
def R.trbCORE_STOP : Field := ⟨blkBase .trb 0 + 0x0002, 3, 0⟩
def R.trbWD_WARN : Field := ⟨blkBase .trb 0 + 0x0002, 7, 4⟩
def R.trbWD_EXPIRE : Field := ⟨blkBase .trb 0 + 0x0002, 11, 8⟩
def R.trbEMERG : Field := ⟨blkBase .trb 0 + 0x0002, 15, 12⟩
def R.trbEOI_ERR : Field := ⟨blkBase .trb 0 + 0x0002, 16, 16⟩
def R.trbNO_AVAIL : Field := ⟨blkBase .trb 0 + 0x0002, 17, 17⟩
def R.trbCAL : Field := ⟨blkBase .trb 0 + 0x0003, 10, 0⟩
def R.trbCL_FAULT : Field := ⟨blkBase .trb 0 + 0x0004, 15, 0⟩
def R.trbCL_OWNVIOL : Field := ⟨blkBase .trb 0 + 0x0004, 31, 16⟩
def R.trbVP_FAULT : Field := ⟨blkBase .trb 0 + 0x0005, 3, 0⟩
def R.trbVP_PR_OVER : Field := ⟨blkBase .trb 0 + 0x0005, 7, 4⟩
def R.trbVP_PR_WERR : Field := ⟨blkBase .trb 0 + 0x0005, 11, 8⟩
def R.trbMEM : Field := ⟨blkBase .trb 0 + 0x0006, 7, 0⟩
def R.trbFP : Field := ⟨blkBase .trb 0 + 0x0007, 23, 0⟩
def R.trbFLD : Field := ⟨blkBase .trb 0 + 0x0007, 28, 24⟩
def R.trbIDN : Field := ⟨blkBase .trb 0 + 0x0008, 7, 0⟩
def R.trbMWH : Field := ⟨blkBase .trb 0 + 0x0009, 6, 0⟩
def R.trbDMA_ERR_LO : Field := ⟨blkBase .trb 0 + 0x000A, 35, 0⟩
def R.trbDMA_ERR_HI : Field := ⟨blkBase .trb 0 + 0x000B, 27, 0⟩
def R.trbLINK_DOWN : Field := ⟨blkBase .trb 0 + 0x000C, 3, 0⟩
def R.trbCAS : Field := ⟨blkBase .trb 0 + 0x000C, 12, 4⟩
def R.trbLOG : Field := ⟨blkBase .trb 0 + 0x000D, 1, 0⟩
def R.trbSW : Field := ⟨blkBase .trb 0 + 0x000F, 35, 0⟩
def R.trbLOG_NEXT : Field := ⟨blkBase .trb 0 + 0x0010, 35, 0⟩
def R.trbLOG_READ : Field := ⟨blkBase .trb 0 + 0x0011, 35, 0⟩
def R.trbLOG_DROP_CNT : Field := ⟨blkBase .trb 0 + 0x0012, 35, 0⟩
def R.trbTRB_SUM : Field := ⟨blkBase .trb 0 + 0x0013, 15, 0⟩
def R.trbTRB_IRQ : Field := ⟨blkBase .trb 0 + 0x0014, 15, 0⟩
def R.trbTRB_SWSET : Field := ⟨blkBase .trb 0 + 0x0015, 35, 0⟩
def R.trbTRB_SWDETAIL : Field := ⟨blkBase .trb 0 + 0x0016, 35, 0⟩
def R.trbLOGW (i : Nat) : Field := ⟨blkBase .trb 0 + 0x1000 + i, 35, 0⟩
def R.gpGPIO_OUT : Field := ⟨blkBase .gp 0 + 0x0000, 31, 0⟩
def R.gpGPIO_DIR : Field := ⟨blkBase .gp 0 + 0x0001, 31, 0⟩
def R.gpGPIO_IN : Field := ⟨blkBase .gp 0 + 0x0002, 31, 0⟩
def R.gpGPIO_SET : Field := ⟨blkBase .gp 0 + 0x0003, 31, 0⟩
def R.gpGPIO_CLR : Field := ⟨blkBase .gp 0 + 0x0004, 31, 0⟩
def R.gpGPIO_RISE : Field := ⟨blkBase .gp 0 + 0x0005, 31, 0⟩
def R.gpGPIO_FALL : Field := ⟨blkBase .gp 0 + 0x0006, 31, 0⟩
def R.gpGPIO_EVT : Field := ⟨blkBase .gp 0 + 0x0007, 31, 0⟩
def R.gpENC_COUNT (e : Nat) : Field := ⟨blkBase .gp 0 + 0x0010 + 4 * e, 35, 0⟩
def R.gpENC_DIFF (e : Nat) : Field := ⟨blkBase .gp 0 + 0x0011 + 4 * e, 0, 0⟩
def R.gpENC_TERM (e : Nat) : Field := ⟨blkBase .gp 0 + 0x0011 + 4 * e, 1, 1⟩
def R.gpENC_MODE (e : Nat) : Field := ⟨blkBase .gp 0 + 0x0011 + 4 * e, 3, 2⟩
def R.gpENC_INV (e : Nat) : Field := ⟨blkBase .gp 0 + 0x0011 + 4 * e, 4, 4⟩
def R.gpENC_FILT (e : Nat) : Field := ⟨blkBase .gp 0 + 0x0011 + 4 * e, 6, 5⟩
def R.gpENC_ERR (e : Nat) : Field := ⟨blkBase .gp 0 + 0x0012 + 4 * e, 0, 0⟩
def R.gpENC_OPEN (e : Nat) : Field := ⟨blkBase .gp 0 + 0x0012 + 4 * e, 1, 1⟩
def R.gpENC_ERR_CNT (e : Nat) : Field := ⟨blkBase .gp 0 + 0x0013 + 4 * e, 35, 0⟩
def R.gpPPS_WIDTH : Field := ⟨blkBase .gp 0 + 0x0030, 9, 0⟩
def R.gpPPS_OUT_EN : Field := ⟨blkBase .gp 0 + 0x0030, 10, 10⟩
def R.gpTICK_OUT_EN : Field := ⟨blkBase .gp 0 + 0x0030, 11, 11⟩
def R.gpTICK_OUT_FRAME : Field := ⟨blkBase .gp 0 + 0x0030, 12, 12⟩
def R.gpPPS_CAP_S : Field := ⟨blkBase .gp 0 + 0x0031, 35, 0⟩
def R.gpPPS_CAP_NS : Field := ⟨blkBase .gp 0 + 0x0032, 29, 0⟩
def R.gpTICK_CAP_S : Field := ⟨blkBase .gp 0 + 0x0033, 35, 0⟩
def R.gpTICK_CAP_NS : Field := ⟨blkBase .gp 0 + 0x0034, 29, 0⟩
def R.gpPPS_CAP : Field := ⟨blkBase .gp 0 + 0x0035, 0, 0⟩
def R.gpPPS_OVR : Field := ⟨blkBase .gp 0 + 0x0035, 1, 1⟩
def R.gpTICK_CAP : Field := ⟨blkBase .gp 0 + 0x0035, 2, 2⟩
def R.gpTICK_OVR : Field := ⟨blkBase .gp 0 + 0x0035, 3, 3⟩
def R.dcDRAIN_LIMIT : Field := ⟨blkBase .dma 0 + 0x0000, 15, 0⟩

def rowsSm0 : List Row :=
  [⟨0x0000, 1, 1, 1, 1, 0, 0, .rw, 1, false, true⟩,
   ⟨0x0000, 1, 1, 1, 1, 1, 1, .rw, 1, false, true⟩,
   ⟨0x0001, 1, 1, 1, 1, 22, 8, .rw, 0, false, true⟩,
   ⟨0x0002, 1, 1, 1, 1, 0, 0, .ro, 0, false, true⟩,
   ⟨0x0002, 1, 1, 1, 1, 1, 1, .w1c, 0, false, true⟩,
   ⟨0x0002, 1, 1, 1, 1, 2, 2, .w1c, 0, false, true⟩,
   ⟨0x0002, 1, 1, 1, 1, 3, 3, .w1c, 0, false, true⟩,
   ⟨0x0002, 1, 1, 1, 1, 4, 4, .ro, 0, false, true⟩,
   ⟨0x0002, 1, 1, 1, 1, 5, 5, .ro, 0, false, true⟩,
   ⟨0x0003, 1, 1, 1, 1, 35, 0, .rw, 0, false, true⟩,
   ⟨0x0004, 1, 1, 1, 1, 7, 0, .ro, 0, false, true⟩,
   ⟨0x0004, 1, 1, 1, 1, 9, 8, .ro, 0, false, true⟩,
   ⟨0x0004, 1, 1, 1, 1, 10, 10, .ro, 0, false, true⟩,
   ⟨0x0005, 1, 1, 1, 1, 35, 0, .rw, 0, false, true⟩,
   ⟨0x0006, 1, 1, 1, 1, 15, 0, .rw, 1024, false, true⟩,
   ⟨0x0007, 1, 1, 1, 1, 22, 0, .ro, 0, false, true⟩]
def rowsSm1 : List Row :=
  [⟨0x0007, 1, 1, 1, 1, 28, 23, .ro, 0, false, true⟩,
   ⟨0x0008, 1, 1, 1, 1, 35, 0, .rw, 0, false, true⟩,
   ⟨0x0009, 1, 1, 1, 1, 22, 0, .ro, 0, false, true⟩,
   ⟨0x000A, 8, 1, 1, 1, 31, 0, .ro, 0, false, true⟩,
   ⟨0x0012, 1, 1, 1, 1, 9, 0, .ro, 0, false, true⟩,
   ⟨0x0013, 1, 1, 1, 1, 35, 0, .ro, 0, false, true⟩]
/-- Register rows of the `sm` block. -/
def rowsSm : List Row := rowsSm0 ++ rowsSm1

def rowsBm0 : List Row :=
  [⟨0x0000, 1, 1, 1, 1, 0, 0, .rw, 1, false, true⟩,
   ⟨0x0000, 1, 1, 1, 1, 8, 1, .rw, 12, false, true⟩,
   ⟨0x0000, 1, 1, 1, 1, 9, 9, .w1s, 0, false, false⟩,
   ⟨0x0001, 1, 1, 1, 1, 0, 0, .ro, 0, false, true⟩,
   ⟨0x0001, 1, 1, 1, 1, 1, 1, .ro, 0, false, true⟩,
   ⟨0x0001, 1, 1, 1, 1, 2, 2, .w1c, 0, false, true⟩,
   ⟨0x0001, 1, 1, 1, 1, 3, 3, .w1c, 0, false, true⟩,
   ⟨0x0001, 1, 1, 1, 1, 4, 4, .ro, 0, false, true⟩,
   ⟨0x0002, 1, 1, 1, 1, 35, 0, .rw, 0, false, true⟩,
   ⟨0x0003, 1, 1, 1, 1, 15, 0, .rw, 1024, false, true⟩,
   ⟨0x0004, 1, 1, 1, 1, 35, 0, .ro, 0, false, true⟩,
   ⟨0x0005, 1, 1, 1, 1, 2, 0, .ro, 0, false, true⟩,
   ⟨0x0005, 1, 1, 1, 1, 4, 3, .ro, 0, false, true⟩,
   ⟨0x0006, 1, 1, 1, 1, 35, 0, .rw, 0, false, true⟩,
   ⟨0x0007, 1, 1, 1, 1, 35, 0, .ro, 0, false, true⟩,
   ⟨0x0008, 1, 1, 1, 1, 4, 3, .ro, 0, false, true⟩]
def rowsBm1 : List Row :=
  [⟨0x0009, 1, 1, 1, 1, 28, 0, .ro, 0, false, true⟩,
   ⟨0x000A, 1, 1, 1, 1, 35, 0, .ro, 0, false, true⟩]
/-- Register rows of the `bm` block. -/
def rowsBm : List Row := rowsBm0 ++ rowsBm1

def rowsVp0 : List Row :=
  [⟨0x0000, 1, 1, 1, 1, 0, 0, .rw, 1, false, true⟩,
   ⟨0x0000, 1, 1, 1, 1, 2, 1, .rw, 0, false, false⟩,
   ⟨0x0000, 1, 1, 1, 1, 3, 3, .rw, 0, false, true⟩,
   ⟨0x0000, 1, 1, 1, 1, 4, 4, .w1s, 0, false, false⟩,
   ⟨0x0001, 1, 1, 1, 1, 15, 0, .rw, 50, false, true⟩,
   ⟨0x0002, 1, 1, 1, 1, 15, 0, .rw, 1000, false, true⟩,
   ⟨0x0003, 1, 1, 1, 1, 15, 0, .rw, 100, false, true⟩,
   ⟨0x0004, 1, 1, 1, 1, 2, 0, .ro, 0, false, true⟩,
   ⟨0x0004, 1, 1, 1, 1, 5, 4, .ro, 3, false, true⟩,
   ⟨0x0004, 1, 1, 1, 1, 6, 6, .ro, 0, false, false⟩,
   ⟨0x0004, 1, 1, 1, 1, 7, 7, .ro, 0, false, false⟩,
   ⟨0x0004, 1, 1, 1, 1, 12, 8, .ro, 0, false, false⟩,
   ⟨0x0004, 1, 1, 1, 1, 16, 13, .ro, 0, false, false⟩,
   ⟨0x0005, 1, 1, 1, 1, 6, 0, .w1c, 0, false, false⟩,
   ⟨0x0006, 1, 1, 1, 1, 0, 0, .w1c, 0, false, true⟩,
   ⟨0x0006, 1, 1, 1, 1, 1, 1, .w1c, 0, false, true⟩]
def rowsVp1 : List Row :=
  [⟨0x0007, 1, 1, 1, 1, 35, 0, .rw, 0, false, true⟩,
   ⟨0x0008, 1, 1, 1, 1, 35, 0, .rw, 0, false, true⟩,
   ⟨0x0009, 1, 1, 1, 1, 35, 0, .rw, 0, false, true⟩,
   ⟨0x000A, 1, 1, 1, 1, 35, 0, .rw, 0, false, true⟩,
   ⟨0x000B, 1, 1, 1, 1, 35, 0, .rw, 0, false, true⟩,
   ⟨0x000C, 1, 1, 1, 1, 35, 0, .rw, 0, false, true⟩,
   ⟨0x0010, 1, 1, 1, 1, 35, 35, .w1c, 0, false, true⟩,
   ⟨0x0010, 1, 1, 1, 1, 34, 0, .ro, 0, false, true⟩,
   ⟨0x0011, 11, 1, 1, 1, 35, 0, .ro, 0, false, true⟩,
   ⟨0x0020, 8, 1, 1, 1, 35, 0, .rw, 0, false, true⟩,
   ⟨0x0100, 256, 1, 1, 1, 35, 0, .rw, 0, false, true⟩,
   ⟨0x1000, 2048, 1, 1, 1, 35, 0, .rw, 0, false, true⟩]
/-- Register rows of the `vp` block. -/
def rowsVp : List Row := rowsVp0 ++ rowsVp1

def rowsSc0 : List Row :=
  [⟨0x0000, 1, 1, 1, 1, 0, 0, .rw, 1, false, true⟩,
   ⟨0x0000, 1, 1, 1, 1, 2, 1, .rw, 0, false, false⟩,
   ⟨0x0000, 1, 1, 1, 1, 3, 3, .rw, 0, false, true⟩,
   ⟨0x0000, 1, 1, 1, 1, 4, 4, .rw, 1, false, true⟩,
   ⟨0x0001, 1, 1, 1, 1, 15, 0, .rw, 0, false, true⟩,
   ⟨0x0002, 1, 1, 1, 1, 15, 0, .rw, 1000, false, true⟩,
   ⟨0x0003, 1, 1, 1, 1, 15, 0, .rw, 0, false, true⟩,
   ⟨0x0003, 1, 1, 1, 1, 34, 34, .w1s, 0, false, false⟩,
   ⟨0x0003, 1, 1, 1, 1, 35, 35, .w1s, 0, false, false⟩,
   ⟨0x0004, 1, 1, 1, 1, 2, 0, .ro, 0, false, true⟩,
   ⟨0x0004, 1, 1, 1, 1, 5, 4, .ro, 1, false, true⟩,
   ⟨0x0004, 1, 1, 1, 1, 10, 8, .ro, 0, false, false⟩,
   ⟨0x0004, 1, 1, 1, 1, 11, 11, .ro, 0, false, false⟩,
   ⟨0x0004, 1, 1, 1, 1, 12, 12, .ro, 0, false, true⟩,
   ⟨0x0005, 1, 1, 1, 1, 6, 0, .w1c, 0, false, false⟩,
   ⟨0x0006, 1, 1, 1, 1, 0, 0, .w1c, 0, false, true⟩]
def rowsSc1 : List Row :=
  [⟨0x0006, 1, 1, 1, 1, 1, 1, .w1c, 0, false, true⟩,
   ⟨0x0006, 1, 1, 1, 1, 2, 2, .w1c, 0, false, true⟩,
   ⟨0x0006, 1, 1, 1, 1, 3, 3, .w1c, 0, false, true⟩,
   ⟨0x0006, 1, 1, 1, 1, 4, 4, .w1c, 0, false, true⟩,
   ⟨0x0006, 1, 1, 1, 1, 5, 5, .w1c, 0, false, true⟩,
   ⟨0x0007, 1, 1, 1, 1, 5, 0, .ro, 0, false, true⟩,
   ⟨0x0007, 1, 1, 1, 1, 6, 6, .ro, 0, false, true⟩,
   ⟨0x0007, 1, 1, 1, 1, 9, 8, .ro, 0, false, true⟩,
   ⟨0x0007, 1, 1, 1, 1, 35, 35, .w1s, 0, false, false⟩,
   ⟨0x0008, 1, 1, 1, 1, 15, 0, .ro, 0, false, true⟩,
   ⟨0x0009, 1, 1, 1, 1, 7, 0, .rw, 0, false, false⟩,
   ⟨0x0009, 1, 1, 1, 1, 15, 8, .rw, 0, false, false⟩,
   ⟨0x000A, 1, 1, 1, 1, 35, 0, .rw, 0, false, true⟩,
   ⟨0x000B, 1, 1, 1, 1, 35, 0, .ro, 0, false, true⟩,
   ⟨0x000C, 1, 1, 1, 1, 35, 0, .rw, 0, false, true⟩,
   ⟨0x000D, 1, 1, 1, 1, 35, 0, .rw, 0, false, true⟩]
def rowsSc2 : List Row :=
  [⟨0x000E, 1, 1, 1, 1, 35, 0, .rw, 0, false, true⟩,
   ⟨0x000F, 1, 1, 1, 1, 35, 0, .rw, 0, false, true⟩,
   ⟨0x1000, 64, 1, 1, 1, 35, 0, .rw, 0, false, true⟩,
   ⟨0x1040, 24, 1, 1, 1, 35, 0, .rw, 0, false, true⟩,
   ⟨0x1060, 16, 1, 1, 1, 35, 0, .rw, 0, false, true⟩,
   ⟨0x1070, 16, 1, 1, 1, 35, 0, .rw, 0, false, true⟩,
   ⟨0x1080, 16, 1, 1, 1, 35, 0, .rw, 0, false, true⟩,
   ⟨0x1090, 16, 1, 1, 1, 15, 0, .rw, 0, false, true⟩,
   ⟨0x10A0, 1, 1, 1, 1, 7, 1, .rw, 0, false, true⟩,
   ⟨0x10A1, 1, 1, 1, 1, 4, 0, .rw, 0, false, true⟩,
   ⟨0x10A2, 1, 1, 1, 1, 15, 0, .ro, 0, false, true⟩]
/-- Register rows of the `sc` block. -/
def rowsSc : List Row := rowsSc0 ++ rowsSc1 ++ rowsSc2

def rowsCal0 : List Row :=
  [⟨0x0000, 1, 1, 1, 1, 0, 0, .rw, 1, false, true⟩,
   ⟨0x0000, 1, 1, 1, 1, 1, 1, .rw, 1, false, true⟩,
   ⟨0x0001, 1, 1, 1, 1, 35, 0, .rw, 12851347456, false, true⟩,
   ⟨0x0002, 1, 1, 1, 1, 2, 0, .ro, 0, false, true⟩,
   ⟨0x0002, 1, 1, 1, 1, 6, 3, .ro, 0, false, true⟩,
   ⟨0x0002, 1, 1, 1, 1, 7, 7, .ro, 0, false, true⟩,
   ⟨0x0002, 1, 1, 1, 1, 11, 8, .ro, 0, false, false⟩,
   ⟨0x0002, 1, 1, 1, 1, 12, 12, .ro, 0, false, false⟩,
   ⟨0x0002, 1, 1, 1, 1, 16, 13, .ro, 0, false, false⟩,
   ⟨0x0002, 1, 1, 1, 1, 17, 17, .ro, 0, false, false⟩,
   ⟨0x0002, 1, 1, 1, 1, 18, 18, .ro, 0, false, false⟩,
   ⟨0x0002, 1, 1, 1, 1, 21, 19, .ro, 0, false, false⟩,
   ⟨0x0003, 1, 1, 1, 1, 15, 0, .ro, 0, false, true⟩,
   ⟨0x0004, 1, 1, 1, 1, 35, 0, .ro, 0, false, true⟩,
   ⟨0x0005, 1, 1, 1, 1, 0, 0, .w1c, 0, false, true⟩,
   ⟨0x0005, 1, 1, 1, 1, 1, 1, .w1c, 0, false, true⟩]
def rowsCal1 : List Row :=
  [⟨0x0005, 1, 1, 1, 1, 2, 2, .w1c, 0, false, true⟩,
   ⟨0x0005, 1, 1, 1, 1, 3, 3, .w1c, 0, false, true⟩,
   ⟨0x0005, 1, 1, 1, 1, 4, 4, .w1c, 0, false, true⟩,
   ⟨0x0005, 1, 1, 1, 1, 5, 5, .w1c, 0, false, true⟩,
   ⟨0x0005, 1, 1, 1, 1, 6, 6, .w1c, 0, false, true⟩,
   ⟨0x0005, 1, 1, 1, 1, 7, 7, .w1c, 0, false, true⟩,
   ⟨0x0005, 1, 1, 1, 1, 8, 8, .w1c, 0, false, true⟩,
   ⟨0x0005, 1, 1, 1, 1, 9, 9, .w1c, 0, false, true⟩,
   ⟨0x0005, 1, 1, 1, 1, 10, 10, .w1c, 0, false, true⟩,
   ⟨0x0006, 1, 1, 1, 1, 4, 0, .ro, 0, false, true⟩,
   ⟨0x0007, 1, 1, 1, 1, 14, 0, .ro, 0, false, true⟩,
   ⟨0x0008, 1, 1, 1, 1, 35, 0, .rw, 0, false, true⟩,
   ⟨0x0009, 1, 1, 1, 1, 35, 0, .rw, 0, false, true⟩,
   ⟨0x000A, 1, 1, 1, 1, 35, 0, .rw, 0, false, true⟩,
   ⟨0x000B, 1, 1, 1, 1, 35, 0, .rw, 0, false, true⟩,
   ⟨0x000C, 1, 1, 1, 1, 35, 0, .rw, 0, false, true⟩]
def rowsCal2 : List Row :=
  [⟨0x000D, 1, 1, 1, 1, 35, 0, .rw, 0, false, true⟩,
   ⟨0x000E, 1, 1, 1, 1, 35, 0, .rw, 0, false, true⟩,
   ⟨0x0010, 1, 1, 1, 1, 35, 0, .ro, 0, false, true⟩,
   ⟨0x0011, 1, 1, 1, 1, 29, 0, .ro, 0, false, true⟩,
   ⟨0x0012, 1, 1, 1, 1, 35, 0, .ro, 0, false, true⟩,
   ⟨0x0018, 8, 1, 1, 1, 35, 0, .ro, 0, false, true⟩,
   ⟨0x0020, 1, 1, 1, 1, 31, 0, .rw, 0, false, true⟩,
   ⟨0x0021, 9, 1, 1, 1, 31, 0, .ro, 0, false, true⟩]
/-- Register rows of the `cal` block. -/
def rowsCal : List Row := rowsCal0 ++ rowsCal1 ++ rowsCal2

def rowsFp0 : List Row :=
  [⟨0x0000, 1, 1, 1, 1, 0, 0, .rw, 1, false, true⟩,
   ⟨0x0000, 1, 1, 1, 1, 1, 1, .rw, 1, false, true⟩,
   ⟨0x0000, 1, 1, 1, 1, 2, 2, .rw, 0, false, true⟩,
   ⟨0x0000, 1, 1, 1, 1, 3, 3, .rw, 0, false, true⟩,
   ⟨0x0000, 1, 1, 1, 1, 4, 4, .rw, 0, false, true⟩,
   ⟨0x0000, 1, 1, 1, 1, 6, 5, .rw, 0, false, true⟩,
   ⟨0x0001, 1, 1, 1, 1, 31, 0, .rw, 0, false, true⟩,
   ⟨0x0002, 1, 1, 1, 1, 15, 0, .rw, 100, false, true⟩,
   ⟨0x0003, 1, 1, 1, 1, 0, 0, .ro, 0, false, true⟩,
   ⟨0x0003, 1, 1, 1, 1, 3, 1, .ro, 0, false, true⟩,
   ⟨0x0004, 1, 1, 1, 1, 0, 0, .w1c, 0, false, true⟩,
   ⟨0x0004, 1, 1, 1, 1, 1, 1, .w1c, 0, false, true⟩,
   ⟨0x0004, 1, 1, 1, 1, 2, 2, .w1c, 0, false, true⟩,
   ⟨0x0004, 1, 1, 1, 1, 3, 3, .w1c, 0, false, true⟩,
   ⟨0x0004, 1, 1, 1, 1, 4, 4, .w1c, 0, false, true⟩,
   ⟨0x0004, 1, 1, 1, 1, 5, 5, .w1c, 0, false, true⟩]
def rowsFp1 : List Row :=
  [⟨0x0005, 1, 1, 1, 1, 35, 0, .rw, 0, false, true⟩,
   ⟨0x0006, 1, 1, 1, 1, 35, 0, .rw, 0, false, true⟩,
   ⟨0x0007, 1, 1, 1, 1, 35, 0, .rw, 0, false, true⟩,
   ⟨0x0008, 1, 1, 1, 1, 35, 0, .rw, 0, false, true⟩,
   ⟨0x0009, 1, 1, 1, 1, 35, 0, .rw, 0, false, true⟩,
   ⟨0x000A, 1, 1, 1, 1, 35, 0, .rw, 0, false, true⟩,
   ⟨0x000B, 1, 1, 1, 1, 35, 0, .rw, 0, false, true⟩,
   ⟨0x000C, 1, 1, 1, 1, 35, 0, .rw, 0, false, true⟩,
   ⟨0x2000, 1024, 8, 1, 1, 0, 0, .rw, 0, false, true⟩,
   ⟨0x2000, 1024, 8, 1, 1, 12, 1, .rw, 0, false, true⟩,
   ⟨0x2000, 1024, 8, 1, 1, 28, 13, .rw, 0, false, true⟩,
   ⟨0x2001, 1024, 8, 1, 1, 11, 0, .rw, 0, false, true⟩,
   ⟨0x2001, 1024, 8, 1, 1, 12, 12, .rw, 0, false, true⟩,
   ⟨0x2001, 1024, 8, 1, 1, 14, 13, .rw, 0, false, true⟩,
   ⟨0x2001, 1024, 8, 1, 1, 29, 15, .rw, 0, false, true⟩,
   ⟨0x2002, 1024, 8, 1, 1, 22, 0, .rw, 0, false, true⟩]
def rowsFp2 : List Row :=
  [⟨0x2003, 1024, 8, 1, 1, 19, 0, .rw, 0, false, true⟩,
   ⟨0x2003, 1024, 8, 1, 1, 35, 20, .rw, 0, false, true⟩,
   ⟨0x2004, 1024, 8, 1, 1, 15, 0, .ro, 0, false, true⟩,
   ⟨0x2004, 1024, 8, 1, 1, 17, 16, .ro, 0, false, true⟩,
   ⟨0x2004, 1024, 8, 1, 1, 18, 18, .ro, 1, false, false⟩,
   ⟨0x2004, 1024, 8, 1, 1, 19, 19, .w1s, 0, false, false⟩,
   ⟨0x2005, 1024, 8, 1, 1, 35, 0, .ro, 0, false, true⟩,
   ⟨0x2006, 1024, 8, 1, 1, 35, 0, .rw, 0, false, true⟩,
   ⟨0x2007, 1024, 8, 1, 1, 35, 0, .rw, 0, false, true⟩,
   ⟨0x8000, 32768, 1, 1, 1, 35, 0, .rw, 0, false, true⟩]
/-- Register rows of the `fp` block. -/
def rowsFp : List Row := rowsFp0 ++ rowsFp1 ++ rowsFp2

def rowsFc0 : List Row :=
  [⟨0x8000, 4096, 8, 1, 1, 0, 0, .rw, 0, false, true⟩,
   ⟨0x8000, 4096, 8, 1, 1, 3, 1, .rw, 0, false, true⟩,
   ⟨0x8000, 4096, 8, 1, 1, 4, 4, .rw, 0, false, true⟩,
   ⟨0x8000, 4096, 8, 1, 1, 5, 5, .rw, 0, false, true⟩,
   ⟨0x8000, 4096, 8, 1, 1, 17, 6, .rw, 0, false, true⟩,
   ⟨0x8000, 4096, 8, 1, 1, 20, 18, .rw, 0, false, true⟩,
   ⟨0x8001, 4096, 8, 1, 1, 35, 0, .rw, 0, false, true⟩,
   ⟨0x8002, 4096, 8, 1, 1, 11, 0, .rw, 0, false, true⟩,
   ⟨0x8002, 4096, 8, 1, 1, 27, 12, .rw, 0, false, true⟩,
   ⟨0x8003, 4096, 8, 1, 1, 31, 0, .rw, 0, false, true⟩,
   ⟨0x8004, 4096, 8, 1, 1, 15, 0, .ro, 0, false, true⟩,
   ⟨0x8004, 4096, 8, 1, 1, 16, 16, .ro, 0, false, true⟩,
   ⟨0x8005, 4096, 8, 1, 1, 35, 0, .ro, 0, false, true⟩,
   ⟨0x8006, 4096, 8, 1, 1, 35, 0, .rw, 0, false, true⟩,
   ⟨0x8007, 4096, 8, 1, 1, 35, 0, .rw, 0, false, true⟩,
   ⟨0x0000, 1, 1, 1, 1, 15, 0, .rw, 34997, false, true⟩]
def rowsFc1 : List Row :=
  [⟨0x0001, 1, 1, 1, 1, 15, 0, .rw, 50036, false, true⟩,
   ⟨0x0002, 1, 1, 1, 1, 3, 0, .rw, 15, false, true⟩,
   ⟨0x0003, 1, 1, 1, 1, 19, 0, .rw, 1000, false, true⟩,
   ⟨0x0004, 1, 1, 1, 1, 1, 0, .ro, 0, false, true⟩,
   ⟨0x0005, 1, 1, 1, 1, 35, 0, .ro, 0, false, true⟩,
   ⟨0x0006, 1, 1, 1, 1, 0, 0, .w1c, 0, false, true⟩,
   ⟨0x0006, 1, 1, 1, 1, 1, 1, .w1c, 0, false, true⟩,
   ⟨0x0006, 1, 1, 1, 1, 2, 2, .w1c, 0, false, true⟩,
   ⟨0x0006, 1, 1, 1, 1, 3, 3, .w1c, 0, false, true⟩,
   ⟨0x0006, 1, 1, 1, 1, 4, 4, .w1c, 0, false, true⟩,
   ⟨0x0007, 1, 1, 1, 1, 35, 0, .rw, 0, false, true⟩,
   ⟨0x0008, 1, 1, 1, 1, 35, 0, .ro, 0, false, true⟩,
   ⟨0x0009, 1, 1, 1, 1, 35, 0, .rw, 0, false, true⟩,
   ⟨0x0010, 1, 1, 1, 1, 35, 0, .rw, 0, false, true⟩,
   ⟨0x0011, 1, 1, 1, 1, 35, 0, .rw, 0, false, true⟩,
   ⟨0x0012, 1, 1, 1, 1, 1, 0, .wo, 0, false, false⟩]
def rowsFc2 : List Row :=
  [⟨0x0013, 1, 1, 1, 1, 2, 0, .ro, 0, false, true⟩,
   ⟨0x0013, 1, 1, 1, 1, 19, 3, .ro, 0, false, true⟩,
   ⟨0x0014, 1, 1, 1, 1, 17, 0, .ro, 0, false, true⟩,
   ⟨0x0100, 16, 16, 1, 1, 19, 0, .rw, 10000, false, true⟩,
   ⟨0x0100, 16, 16, 1, 1, 20, 20, .rw, 0, false, true⟩,
   ⟨0x0100, 16, 16, 1, 1, 21, 21, .w1s, 0, false, false⟩,
   ⟨0x0100, 16, 16, 1, 1, 22, 22, .w1s, 0, false, false⟩,
   ⟨0x0101, 16, 16, 1, 1, 3, 0, .ro, 0, false, true⟩,
   ⟨0x0101, 16, 16, 1, 1, 4, 4, .w1c, 0, false, true⟩,
   ⟨0x0102, 16, 16, 1, 1, 35, 0, .rw, 0, false, true⟩,
   ⟨0x0104, 16, 16, 2, 4, 11, 0, .ro, 0, false, true⟩,
   ⟨0x0105, 16, 16, 2, 4, 35, 0, .ro, 0, false, true⟩,
   ⟨0x0106, 16, 16, 2, 4, 35, 0, .ro, 0, false, true⟩,
   ⟨0x0107, 16, 16, 2, 4, 35, 0, .ro, 0, false, true⟩,
   ⟨0x1000, 4096, 1, 1, 1, 31, 0, .ro, 0, false, true⟩,
   ⟨0x0103, 16, 16, 1, 1, 0, 1, .ro, 0, false, false⟩]
def rowsFc3 : List Row :=
  [⟨0x010C, 16, 16, 4, 1, 0, 1, .ro, 0, false, false⟩]
/-- Register rows of the `fc` block. -/
def rowsFc : List Row := rowsFc0 ++ rowsFc1 ++ rowsFc2 ++ rowsFc3

def rowsQe0 : List Row :=
  [⟨0x0000, 1, 1, 1, 1, 7, 0, .rw, 0, false, true⟩,
   ⟨0x0001, 1, 1, 1, 1, 0, 0, .ro, 0, false, false⟩,
   ⟨0x0001, 1, 1, 1, 1, 1, 1, .ro, 0, false, false⟩,
   ⟨0x0002, 1, 1, 1, 1, 0, 0, .w1c, 0, false, true⟩,
   ⟨0x0002, 1, 1, 1, 1, 1, 1, .w1c, 0, false, true⟩,
   ⟨0x0002, 1, 1, 1, 1, 2, 2, .w1c, 0, false, true⟩,
   ⟨0x0003, 1, 1, 1, 1, 16, 0, .ro, 0, false, false⟩,
   ⟨0x0004, 1, 1, 1, 1, 16, 0, .rw, 0, false, true⟩,
   ⟨0x0005, 1, 1, 1, 1, 35, 0, .rw, 0, false, true⟩,
   ⟨0x0006, 1, 1, 1, 1, 35, 0, .rw, 0, false, true⟩,
   ⟨0x0007, 1, 1, 1, 1, 17, 0, .ro, 0, false, true⟩,
   ⟨0x0008, 1, 1, 1, 1, 35, 0, .rw, 0, false, true⟩,
   ⟨0x0010, 1, 1, 1, 1, 17, 0, .rw, 0, false, true⟩,
   ⟨0x0011, 1, 1, 1, 1, 35, 0, .rw, 0, false, true⟩,
   ⟨0x0012, 1, 1, 1, 1, 35, 0, .rw, 0, false, true⟩,
   ⟨0x0013, 1, 1, 1, 1, 1, 0, .wo, 0, false, false⟩]
def rowsQe1 : List Row :=
  [⟨0x0014, 1, 1, 1, 1, 0, 0, .ro, 0, false, true⟩]
/-- Register rows of the `qe` block. -/
def rowsQe : List Row := rowsQe0 ++ rowsQe1

def rowsIdn0 : List Row :=
  [⟨0x8000, 4096, 8, 1, 1, 0, 0, .rw, 0, false, true⟩,
   ⟨0x8000, 4096, 8, 1, 1, 1, 1, .rw, 0, false, true⟩,
   ⟨0x8000, 4096, 8, 1, 1, 4, 2, .ro, 3, false, true⟩,
   ⟨0x8000, 4096, 8, 1, 1, 7, 5, .rw, 0, false, true⟩,
   ⟨0x8000, 4096, 8, 1, 1, 17, 8, .rw, 0, false, true⟩,
   ⟨0x8000, 4096, 8, 1, 1, 29, 18, .rw, 0, false, true⟩,
   ⟨0x8001, 4096, 8, 1, 1, 4, 0, .rw, 0, false, true⟩,
   ⟨0x8001, 4096, 8, 1, 1, 27, 5, .rw, 0, false, true⟩,
   ⟨0x8002, 4096, 8, 1, 1, 22, 0, .rw, 0, false, true⟩,
   ⟨0x8003, 4096, 8, 1, 1, 17, 0, .rw, 0, false, true⟩,
   ⟨0x8003, 4096, 8, 1, 1, 35, 18, .rw, 0, false, true⟩,
   ⟨0x8004, 4096, 8, 1, 1, 35, 0, .rw, 0, false, true⟩,
   ⟨0x0000, 1, 1, 1, 1, 0, 0, .rw, 1, false, true⟩,
   ⟨0x0000, 1, 1, 1, 1, 1, 1, .rw, 0, false, true⟩,
   ⟨0x0000, 1, 1, 1, 1, 2, 2, .w1s, 0, false, false⟩,
   ⟨0x0000, 1, 1, 1, 1, 3, 3, .w1s, 0, false, false⟩]
def rowsIdn1 : List Row :=
  [⟨0x0000, 1, 1, 1, 1, 4, 4, .w1s, 0, false, false⟩,
   ⟨0x0001, 1, 1, 1, 1, 35, 0, .rw, 0, false, true⟩,
   ⟨0x0002, 1, 1, 1, 1, 35, 0, .rw, 0, false, true⟩,
   ⟨0x0003, 1, 1, 1, 1, 0, 0, .ro, 0, false, true⟩,
   ⟨0x0003, 1, 1, 1, 1, 1, 1, .ro, 0, false, true⟩,
   ⟨0x0003, 1, 1, 1, 1, 2, 2, .ro, 0, false, true⟩,
   ⟨0x0003, 1, 1, 1, 1, 18, 3, .ro, 0, false, false⟩,
   ⟨0x0004, 1, 1, 1, 1, 22, 0, .rw, 0, false, true⟩,
   ⟨0x0005, 1, 1, 1, 1, 22, 0, .rw, 0, false, true⟩,
   ⟨0x0006, 1, 1, 1, 1, 35, 0, .rw, 34225520640, false, true⟩,
   ⟨0x0007, 1, 1, 1, 1, 15, 0, .rw, 1000, false, true⟩,
   ⟨0x0007, 1, 1, 1, 1, 31, 16, .rw, 0, false, true⟩,
   ⟨0x0008, 1, 1, 1, 1, 22, 0, .rw, 0, false, true⟩,
   ⟨0x0009, 1, 1, 1, 1, 22, 0, .rw, 0, false, true⟩,
   ⟨0x000A, 1, 1, 1, 1, 35, 0, .rw, 34225520640, false, true⟩,
   ⟨0x000B, 1, 1, 1, 1, 12, 0, .rw, 0, false, true⟩]
def rowsIdn2 : List Row :=
  [⟨0x000C, 1, 1, 1, 1, 0, 0, .w1c, 0, false, true⟩,
   ⟨0x000C, 1, 1, 1, 1, 1, 1, .w1c, 0, false, true⟩,
   ⟨0x000C, 1, 1, 1, 1, 2, 2, .w1c, 0, false, true⟩,
   ⟨0x000C, 1, 1, 1, 1, 3, 3, .w1c, 0, false, true⟩,
   ⟨0x000C, 1, 1, 1, 1, 4, 4, .w1c, 0, false, true⟩,
   ⟨0x000C, 1, 1, 1, 1, 5, 5, .w1c, 0, false, true⟩,
   ⟨0x000D, 1, 1, 1, 1, 2, 0, .ro, 0, false, true⟩,
   ⟨0x000E, 1, 1, 1, 1, 35, 0, .rw, 0, false, true⟩,
   ⟨0x000F, 1, 1, 1, 1, 35, 0, .rw, 0, false, true⟩,
   ⟨0x0010, 1, 1, 1, 1, 35, 0, .rw, 0, false, true⟩,
   ⟨0x0011, 1, 1, 1, 1, 35, 0, .rw, 0, false, true⟩,
   ⟨0x0012, 1, 1, 1, 1, 35, 0, .ro, 0, false, true⟩,
   ⟨0x0013, 1, 1, 1, 1, 34, 0, .ro, 0, false, false⟩,
   ⟨0x0018, 8, 1, 1, 1, 0, 0, .rw, 0, false, true⟩,
   ⟨0x0018, 8, 1, 1, 1, 2, 1, .rw, 0, false, true⟩,
   ⟨0x0018, 8, 1, 1, 1, 7, 3, .rw, 0, false, true⟩]
def rowsIdn3 : List Row :=
  [⟨0x0018, 8, 1, 1, 1, 25, 8, .rw, 0, false, true⟩,
   ⟨0x8005, 4096, 8, 3, 1, 0, 1, .ro, 0, false, false⟩]
/-- Register rows of the `idn` block. -/
def rowsIdn : List Row := rowsIdn0 ++ rowsIdn1 ++ rowsIdn2 ++ rowsIdn3

def rowsRm0 : List Row :=
  [⟨0x0000, 1, 1, 1, 1, 1, 0, .ro, 0, false, false⟩,
   ⟨0x0000, 1, 1, 1, 1, 2, 2, .rw, 0, false, false⟩,
   ⟨0x0000, 1, 1, 1, 1, 3, 3, .ro, 0, false, false⟩,
   ⟨0x0000, 1, 1, 1, 1, 7, 4, .ro, 0, false, false⟩,
   ⟨0x0001, 1, 1, 1, 1, 35, 5, .rw, 0, false, false⟩,
   ⟨0x0002, 1, 1, 1, 1, 35, 0, .rw, 0, false, false⟩,
   ⟨0x0003, 1, 1, 1, 1, 35, 5, .rw, 0, false, false⟩,
   ⟨0x0004, 1, 1, 1, 1, 35, 0, .rw, 0, false, false⟩,
   ⟨0x0005, 1, 1, 1, 1, 11, 0, .rw, 0, false, false⟩,
   ⟨0x0006, 1, 1, 1, 1, 6, 0, .w1c, 0, false, false⟩,
   ⟨0x0007, 1, 1, 1, 1, 4, 0, .ro, 0, false, false⟩,
   ⟨0x0007, 1, 1, 1, 1, 8, 5, .ro, 0, false, false⟩,
   ⟨0x0008, 3, 2, 1, 1, 35, 0, .rw, 0, false, false⟩,
   ⟨0x0009, 3, 2, 1, 1, 35, 0, .rw, 0, false, false⟩,
   ⟨0x0010, 3, 4, 1, 1, 35, 0, .rw, 0, false, false⟩,
   ⟨0x0011, 3, 4, 1, 1, 35, 0, .rw, 0, false, false⟩]
def rowsRm1 : List Row :=
  [⟨0x0012, 3, 4, 1, 1, 35, 0, .rw, 0, false, false⟩,
   ⟨0x0013, 3, 4, 1, 1, 35, 0, .rw, 0, false, false⟩,
   ⟨0x0020, 1, 1, 1, 1, 35, 0, .ro, 0, false, true⟩,
   ⟨0x0021, 1, 1, 1, 1, 5, 0, .ro, 0, false, true⟩,
   ⟨0x0022, 1, 1, 1, 1, 0, 0, .ro, 0, false, false⟩,
   ⟨0x0022, 1, 1, 1, 1, 1, 1, .w1s, 0, false, false⟩,
   ⟨0x0023, 1, 1, 1, 1, 35, 0, .rw, 0, false, true⟩,
   ⟨0x0024, 1, 1, 1, 1, 0, 0, .rw, 0, false, false⟩,
   ⟨0x0024, 1, 1, 1, 1, 1, 1, .w1s, 0, false, false⟩,
   ⟨0x0024, 1, 1, 1, 1, 2, 2, .ro, 0, false, true⟩,
   ⟨0x0025, 1, 1, 1, 1, 23, 0, .rw, 1000000, false, true⟩,
   ⟨0x0026, 1, 1, 1, 1, 23, 0, .rw, 0, false, true⟩,
   ⟨0x0030, 1, 1, 1, 1, 35, 0, .rw, 0, false, true⟩,
   ⟨0x0031, 1, 1, 1, 1, 35, 0, .rw, 0, false, true⟩,
   ⟨0x0032, 1, 1, 1, 1, 35, 0, .rw, 0, false, true⟩,
   ⟨0x0033, 1, 1, 1, 1, 35, 0, .rw, 0, false, true⟩]
def rowsRm2 : List Row :=
  [⟨0x0034, 1, 1, 1, 1, 35, 0, .rw, 0, false, true⟩,
   ⟨0x0040, 3, 32, 16, 2, 35, 4, .rw, 0, false, false⟩,
   ⟨0x0040, 3, 32, 16, 2, 3, 0, .rw, 0, false, false⟩,
   ⟨0x0041, 3, 32, 16, 2, 35, 4, .rw, 0, false, false⟩]
/-- Register rows of the `rm` block. -/
def rowsRm : List Row := rowsRm0 ++ rowsRm1 ++ rowsRm2

def rowsIc0 : List Row :=
  [⟨0x0000, 1, 1, 1, 1, 0, 0, .rw, 1, false, true⟩,
   ⟨0x0001, 1, 1, 1, 1, 0, 0, .w1c, 0, false, true⟩,
   ⟨0x0001, 1, 1, 1, 1, 1, 1, .w1c, 0, false, true⟩,
   ⟨0x0008, 32, 1, 1, 1, 15, 0, .rw, 0, false, true⟩,
   ⟨0x0008, 32, 1, 1, 1, 16, 16, .ro, 0, false, false⟩,
   ⟨0x0040, 4, 16, 1, 1, 8, 0, .ro, 511, false, false⟩,
   ⟨0x0041, 4, 16, 1, 1, 8, 0, .wo, 0, false, false⟩,
   ⟨0x0042, 4, 16, 1, 1, 3, 0, .ro, 0, false, false⟩,
   ⟨0x0042, 4, 16, 1, 1, 7, 4, .ro, 0, false, false⟩,
   ⟨0x0042, 4, 16, 1, 1, 8, 8, .ro, 0, false, false⟩,
   ⟨0x0043, 4, 16, 1, 1, 35, 0, .rw, 0, false, true⟩,
   ⟨0x0048, 4, 16, 8, 1, 8, 0, .ro, 0, false, false⟩,
   ⟨0x0048, 4, 16, 8, 1, 12, 9, .ro, 0, false, false⟩,
   ⟨0x0100, 256, 1, 1, 1, 0, 0, .rw, 0, false, true⟩,
   ⟨0x0100, 256, 1, 1, 1, 4, 1, .rw, 0, false, true⟩,
   ⟨0x0100, 256, 1, 1, 1, 8, 5, .rw, 1, false, true⟩]
def rowsIc1 : List Row :=
  [⟨0x0100, 256, 1, 1, 1, 9, 9, .ro, 0, false, true⟩,
   ⟨0x0100, 256, 1, 1, 1, 10, 10, .ro, 0, false, false⟩,
   ⟨0x0100, 256, 1, 1, 1, 12, 11, .ro, 0, false, false⟩,
   ⟨0x0100, 256, 1, 1, 1, 13, 13, .w1s, 0, false, false⟩,
   ⟨0x0100, 256, 1, 1, 1, 14, 14, .w1s, 0, false, false⟩,
   ⟨0x0044, 4, 16, 4, 1, 0, 1, .ro, 0, false, false⟩]
/-- Register rows of the `ic` block. -/
def rowsIc : List Row := rowsIc0 ++ rowsIc1

def rowsDma0 : List Row :=
  [⟨0x0100, 64, 32, 1, 1, 0, 0, .rw, 0, false, true⟩,
   ⟨0x0100, 64, 32, 1, 1, 3, 1, .rw, 0, false, true⟩,
   ⟨0x0100, 64, 32, 1, 1, 7, 4, .rw, 0, false, true⟩,
   ⟨0x0100, 64, 32, 1, 1, 8, 8, .rw, 0, false, true⟩,
   ⟨0x0100, 64, 32, 1, 1, 10, 9, .rw, 0, false, true⟩,
   ⟨0x0100, 64, 32, 1, 1, 13, 11, .rw, 0, false, true⟩,
   ⟨0x0100, 64, 32, 1, 1, 14, 14, .rw, 0, false, true⟩,
   ⟨0x0100, 64, 32, 1, 1, 15, 15, .rw, 0, false, true⟩,
   ⟨0x0100, 64, 32, 1, 1, 16, 16, .rw, 0, false, true⟩,
   ⟨0x0100, 64, 32, 1, 1, 19, 17, .rw, 0, false, true⟩,
   ⟨0x0101, 64, 32, 1, 1, 35, 0, .rw, 0, false, true⟩,
   ⟨0x0102, 64, 32, 1, 1, 23, 0, .rw, 0, false, true⟩,
   ⟨0x0103, 64, 32, 1, 1, 35, 0, .rw, 0, false, true⟩,
   ⟨0x0104, 64, 32, 1, 1, 23, 0, .rw, 0, false, true⟩,
   ⟨0x0105, 64, 32, 1, 1, 35, 0, .rw, 0, false, true⟩,
   ⟨0x0106, 64, 32, 1, 1, 23, 0, .rw, 0, false, true⟩]
def rowsDma1 : List Row :=
  [⟨0x0107, 64, 32, 1, 1, 35, 0, .rw, 0, false, true⟩,
   ⟨0x0108, 64, 32, 1, 1, 23, 0, .rw, 0, false, true⟩,
   ⟨0x0109, 64, 32, 1, 1, 35, 0, .rw, 0, false, true⟩,
   ⟨0x010A, 64, 32, 1, 1, 23, 0, .rw, 0, false, true⟩,
   ⟨0x010A, 64, 32, 1, 1, 31, 24, .rw, 0, false, true⟩,
   ⟨0x010B, 64, 32, 1, 1, 31, 0, .rw, 0, false, true⟩,
   ⟨0x010C, 64, 32, 1, 1, 31, 0, .rw, 0, false, true⟩,
   ⟨0x010D, 64, 32, 1, 1, 1, 0, .ro, 0, false, false⟩,
   ⟨0x010D, 64, 32, 1, 1, 2, 2, .ro, 0, false, false⟩,
   ⟨0x010D, 64, 32, 1, 1, 3, 3, .ro, 0, false, false⟩,
   ⟨0x010D, 64, 32, 1, 1, 4, 4, .w1c, 0, false, true⟩,
   ⟨0x010D, 64, 32, 1, 1, 8, 5, .ro, 0, false, true⟩,
   ⟨0x010D, 64, 32, 1, 1, 13, 9, .w1c, 0, false, true⟩,
   ⟨0x010D, 64, 32, 1, 1, 14, 14, .w1c, 0, false, true⟩,
   ⟨0x010D, 64, 32, 1, 1, 15, 15, .w1c, 0, false, true⟩,
   ⟨0x010D, 64, 32, 1, 1, 16, 16, .w1c, 0, false, true⟩]
def rowsDma2 : List Row :=
  [⟨0x010E, 64, 32, 1, 1, 35, 0, .ro, 0, false, true⟩,
   ⟨0x010F, 64, 32, 1, 1, 35, 0, .ro, 0, false, true⟩,
   ⟨0x0110, 64, 32, 1, 1, 0, 0, .w1s, 0, false, false⟩,
   ⟨0x0110, 64, 32, 1, 1, 1, 1, .w1s, 0, false, false⟩,
   ⟨0x0111, 64, 32, 1, 1, 0, 0, .rw, 1, false, true⟩,
   ⟨0x0111, 64, 32, 1, 1, 3, 1, .ro, 0, false, true⟩,
   ⟨0x0112, 64, 32, 1, 1, 35, 0, .rw, 0, false, true⟩,
   ⟨0x0000, 1, 1, 1, 1, 15, 0, .rw, 1000, false, true⟩,
   ⟨0x0113, 64, 32, 13, 1, 0, 1, .ro, 0, false, false⟩]
/-- Register rows of the `dma` block. -/
def rowsDma : List Row := rowsDma0 ++ rowsDma1 ++ rowsDma2

def rowsMw0 : List Row :=
  [⟨0x0000, 1, 1, 1, 1, 0, 0, .w1c, 0, false, true⟩,
   ⟨0x0000, 1, 1, 1, 1, 1, 1, .w1c, 0, false, true⟩,
   ⟨0x0001, 1, 1, 1, 1, 35, 0, .ro, 0, false, true⟩,
   ⟨0x0002, 1, 1, 1, 1, 4, 0, .ro, 0, false, true⟩,
   ⟨0x0003, 1, 1, 1, 1, 15, 0, .rw, 100, false, true⟩,
   ⟨0x0004, 1, 1, 1, 1, 35, 0, .rw, 0, false, true⟩,
   ⟨0x0005, 1, 1, 1, 1, 35, 0, .rw, 0, false, true⟩,
   ⟨0x0006, 1, 1, 1, 1, 4, 0, .ro, 0, false, true⟩,
   ⟨0x0006, 1, 1, 1, 1, 9, 5, .ro, 0, false, true⟩,
   ⟨0x0010, 21, 1, 1, 1, 3, 0, .rw, 0, false, true⟩,
   ⟨0x0010, 21, 1, 1, 1, 4, 4, .rw, 0, false, true⟩,
   ⟨0x0010, 21, 1, 1, 1, 10, 5, .ro, 0, false, false⟩,
   ⟨0x0040, 28, 1, 1, 1, 35, 0, .rw, 0, false, true⟩]
/-- Register rows of the `mw` block. -/
def rowsMw : List Row := rowsMw0

def rowsCas0 : List Row :=
  [⟨0x0000, 1, 1, 1, 1, 4, 0, .ro, 0, false, true⟩,
   ⟨0x0000, 1, 1, 1, 1, 5, 5, .ro, 0, false, true⟩,
   ⟨0x0000, 1, 1, 1, 1, 6, 6, .ro, 0, false, true⟩,
   ⟨0x0000, 1, 1, 1, 1, 11, 7, .ro, 0, false, true⟩,
   ⟨0x0000, 1, 1, 1, 1, 12, 12, .rw, 1, false, true⟩,
   ⟨0x0001, 1, 1, 1, 1, 0, 0, .w1c, 0, false, true⟩,
   ⟨0x0001, 1, 1, 1, 1, 1, 1, .w1c, 0, false, true⟩,
   ⟨0x0001, 1, 1, 1, 1, 2, 2, .w1c, 0, false, true⟩,
   ⟨0x0001, 1, 1, 1, 1, 3, 3, .w1c, 0, false, true⟩,
   ⟨0x0001, 1, 1, 1, 1, 4, 4, .w1c, 0, false, true⟩,
   ⟨0x0001, 1, 1, 1, 1, 5, 5, .w1c, 0, false, true⟩,
   ⟨0x0002, 1, 1, 1, 1, 15, 0, .rw, 10, false, true⟩,
   ⟨0x0003, 1, 1, 1, 1, 15, 0, .rw, 2000, false, true⟩,
   ⟨0x0004, 1, 1, 1, 1, 15, 0, .rw, 5, false, true⟩,
   ⟨0x0005, 1, 1, 1, 1, 1, 0, .rw, 1, false, true⟩,
   ⟨0x0006, 1, 1, 1, 1, 1, 0, .rw, 0, false, true⟩]
def rowsCas1 : List Row :=
  [⟨0x0006, 1, 1, 1, 1, 6, 2, .rw, 0, false, true⟩,
   ⟨0x0007, 1, 1, 1, 1, 15, 0, .rw, 100, false, true⟩,
   ⟨0x0007, 1, 1, 1, 1, 31, 16, .rw, 500, false, true⟩,
   ⟨0x0008, 1, 1, 1, 1, 15, 0, .rw, 0, false, true⟩,
   ⟨0x0009, 1, 1, 1, 1, 4, 0, .ro, 0, false, true⟩,
   ⟨0x0009, 1, 1, 1, 1, 8, 5, .ro, 0, false, true⟩,
   ⟨0x000A, 1, 1, 1, 1, 35, 0, .ro, 0, false, true⟩,
   ⟨0x000B, 1, 1, 1, 1, 35, 0, .rw, 0, false, true⟩,
   ⟨0x000C, 1, 1, 1, 1, 35, 0, .rw, 0, false, true⟩,
   ⟨0x000D, 1, 1, 1, 1, 35, 0, .rw, 0, false, true⟩,
   ⟨0x0010, 32, 1, 1, 1, 2, 0, .ro, 7, false, true⟩,
   ⟨0x0010, 32, 1, 1, 1, 7, 3, .ro, 0, false, true⟩,
   ⟨0x0100, 4, 64, 1, 1, 0, 0, .rw, 1, false, true⟩,
   ⟨0x0100, 4, 64, 1, 1, 3, 1, .ro, 0, false, true⟩,
   ⟨0x0100, 4, 64, 1, 1, 5, 4, .ro, 0, false, true⟩,
   ⟨0x0100, 4, 64, 1, 1, 6, 6, .ro, 0, false, true⟩]
def rowsCas2 : List Row :=
  [⟨0x0100, 4, 64, 1, 1, 7, 7, .ro, 0, false, true⟩,
   ⟨0x0100, 4, 64, 1, 1, 12, 8, .ro, 0, false, true⟩,
   ⟨0x0101, 4, 64, 1, 1, 25, 0, .ro, 0, false, true⟩,
   ⟨0x0102, 4, 64, 1, 1, 15, 0, .rw, 0, false, true⟩,
   ⟨0x0103, 4, 64, 1, 1, 15, 0, .rw, 100, false, true⟩,
   ⟨0x0104, 4, 64, 1, 1, 35, 0, .rw, 0, false, true⟩,
   ⟨0x0105, 4, 64, 1, 1, 35, 0, .rw, 0, false, true⟩,
   ⟨0x0106, 4, 64, 58, 1, 0, 1, .ro, 0, false, false⟩]
/-- Register rows of the `cas` block. -/
def rowsCas : List Row := rowsCas0 ++ rowsCas1 ++ rowsCas2

def rowsHst0 : List Row :=
  [⟨0x0000, 1, 1, 1, 1, 1, 0, .rw, 1, false, true⟩,
   ⟨0x0000, 1, 1, 1, 1, 2, 2, .ro, 0, false, true⟩,
   ⟨0x0000, 1, 1, 1, 1, 3, 3, .ro, 0, false, true⟩,
   ⟨0x0001, 1, 1, 1, 1, 0, 0, .w1c, 0, false, true⟩,
   ⟨0x0001, 1, 1, 1, 1, 1, 1, .w1c, 0, false, true⟩,
   ⟨0x0001, 1, 1, 1, 1, 2, 2, .w1c, 0, false, true⟩,
   ⟨0x0001, 1, 1, 1, 1, 3, 3, .w1c, 0, false, true⟩,
   ⟨0x0002, 1, 1, 1, 1, 20, 0, .ro, 0, false, true⟩,
   ⟨0x0003, 1, 1, 1, 1, 15, 0, .rw, 50037, false, true⟩,
   ⟨0x0003, 1, 1, 1, 1, 23, 16, .rw, 1, false, true⟩,
   ⟨0x0004, 1, 1, 1, 1, 3, 0, .rw, 1, false, true⟩,
   ⟨0x0004, 1, 1, 1, 1, 7, 4, .rw, 15, false, true⟩,
   ⟨0x0005, 1, 1, 1, 1, 15, 0, .rw, 100, false, true⟩,
   ⟨0x0006, 1, 1, 1, 1, 31, 0, .w1s, 0, false, false⟩,
   ⟨0x0007, 1, 1, 1, 1, 35, 0, .rw, 0, false, true⟩,
   ⟨0x0008, 1, 1, 1, 1, 35, 0, .rw, 0, false, true⟩]
def rowsHst1 : List Row :=
  [⟨0x0009, 1, 1, 1, 1, 35, 0, .rw, 0, false, true⟩,
   ⟨0x0040, 16, 2, 1, 1, 31, 0, .rw, 0, false, true⟩,
   ⟨0x0041, 16, 2, 1, 1, 31, 0, .rw, 0, false, true⟩,
   ⟨0x0041, 16, 2, 1, 1, 32, 32, .rw, 0, false, true⟩,
   ⟨0x0041, 16, 2, 1, 1, 33, 33, .rw, 0, false, true⟩,
   ⟨0x0041, 16, 2, 1, 1, 34, 34, .rw, 0, false, true⟩,
   ⟨0x0100, 4, 16, 1, 1, 31, 0, .rw, 0, false, true⟩,
   ⟨0x0101, 4, 16, 1, 1, 31, 0, .rw, 0, false, true⟩,
   ⟨0x0102, 4, 16, 1, 1, 3, 0, .rw, 2, false, true⟩,
   ⟨0x0102, 4, 16, 1, 1, 7, 4, .rw, 2, false, true⟩,
   ⟨0x0102, 4, 16, 1, 1, 12, 8, .rw, 0, false, true⟩,
   ⟨0x0102, 4, 16, 1, 1, 13, 13, .rw, 0, false, true⟩,
   ⟨0x0102, 4, 16, 1, 1, 14, 14, .rw, 0, false, true⟩,
   ⟨0x0103, 4, 16, 1, 1, 31, 0, .rw, 0, false, true⟩,
   ⟨0x0104, 4, 16, 1, 1, 31, 0, .rw, 0, false, true⟩,
   ⟨0x0105, 4, 16, 1, 1, 31, 0, .rw, 0, false, true⟩]
def rowsHst2 : List Row :=
  [⟨0x0106, 4, 16, 1, 1, 31, 0, .rw, 0, false, true⟩,
   ⟨0x0107, 4, 16, 1, 1, 15, 0, .rw, 0, false, true⟩,
   ⟨0x0108, 4, 16, 1, 1, 15, 0, .rw, 0, false, true⟩,
   ⟨0x0109, 4, 16, 1, 1, 15, 0, .ro, 0, false, true⟩,
   ⟨0x0109, 4, 16, 1, 1, 31, 16, .ro, 0, false, true⟩,
   ⟨0x010A, 4, 16, 1, 1, 15, 0, .ro, 0, false, true⟩,
   ⟨0x010B, 4, 16, 1, 1, 0, 0, .w1c, 0, false, true⟩,
   ⟨0x010C, 4, 16, 4, 1, 0, 1, .ro, 0, false, false⟩]
/-- Register rows of the `hst` block. -/
def rowsHst : List Row := rowsHst0 ++ rowsHst1 ++ rowsHst2

def rowsPwr0 : List Row :=
  [⟨0x0000, 1, 1, 1, 1, 2, 0, .ro, 0, false, true⟩,
   ⟨0x0000, 1, 1, 1, 1, 5, 3, .ro, 0, false, true⟩,
   ⟨0x0001, 1, 1, 1, 1, 0, 0, .w1s, 0, false, false⟩,
   ⟨0x0001, 1, 1, 1, 1, 1, 1, .ro, 1, false, false⟩,
   ⟨0x0002, 1, 1, 1, 1, 2, 0, .ro, 0, true, true⟩,
   ⟨0x0002, 1, 1, 1, 1, 6, 3, .ro, 0, false, false⟩,
   ⟨0x0002, 1, 1, 1, 1, 7, 7, .w1c, 0, true, true⟩,
   ⟨0x0003, 1, 1, 1, 1, 35, 0, .rw, 0, true, true⟩,
   ⟨0x0004, 1, 1, 1, 1, 0, 0, .w1s, 0, false, false⟩,
   ⟨0x0004, 1, 1, 1, 1, 1, 1, .w1s, 0, false, false⟩,
   ⟨0x0004, 1, 1, 1, 1, 2, 2, .w1s, 0, false, false⟩,
   ⟨0x0005, 1, 1, 1, 1, 22, 0, .rw, 0, false, false⟩,
   ⟨0x0006, 1, 1, 1, 1, 22, 0, .rw, 0, false, true⟩,
   ⟨0x0007, 1, 1, 1, 1, 22, 0, .w1c, 0, false, true⟩,
   ⟨0x0008, 1, 1, 1, 1, 22, 0, .ro, 0, false, true⟩,
   ⟨0x0009, 1, 1, 1, 1, 0, 0, .ro, 0, false, true⟩]
def rowsPwr1 : List Row :=
  [⟨0x0009, 1, 1, 1, 1, 1, 1, .ro, 0, false, true⟩,
   ⟨0x0009, 1, 1, 1, 1, 4, 2, .rw, 0, false, false⟩,
   ⟨0x000A, 1, 1, 1, 1, 9, 0, .rw, 0, false, true⟩,
   ⟨0x000B, 1, 1, 1, 1, 9, 0, .ro, 950, false, true⟩,
   ⟨0x000C, 1, 1, 1, 1, 0, 0, .ro, 0, false, true⟩,
   ⟨0x000C, 1, 1, 1, 1, 1, 1, .ro, 0, false, true⟩,
   ⟨0x000C, 1, 1, 1, 1, 2, 2, .ro, 0, false, true⟩,
   ⟨0x000C, 1, 1, 1, 1, 3, 3, .w1c, 0, false, true⟩,
   ⟨0x000C, 1, 1, 1, 1, 4, 4, .ro, 0, false, true⟩,
   ⟨0x000C, 1, 1, 1, 1, 5, 5, .w1c, 0, false, true⟩,
   ⟨0x000D, 1, 1, 1, 1, 15, 0, .ro, 0, false, true⟩,
   ⟨0x000E, 1, 1, 1, 1, 16, 0, .ro, 0, false, true⟩,
   ⟨0x000F, 1, 1, 1, 1, 11, 0, .ro, 0, false, true⟩,
   ⟨0x0010, 1, 1, 1, 1, 15, 0, .rw, 0, false, true⟩]
/-- Register rows of the `pwr` block. -/
def rowsPwr : List Row := rowsPwr0 ++ rowsPwr1

def rowsTrb0 : List Row :=
  [⟨0x0000, 1, 1, 1, 1, 15, 0, .w1c, 0, true, true⟩,
   ⟨0x0000, 1, 1, 1, 1, 16, 16, .w1c, 0, true, true⟩,
   ⟨0x0000, 1, 1, 1, 1, 17, 17, .w1c, 0, true, true⟩,
   ⟨0x0000, 1, 1, 1, 1, 18, 18, .w1c, 0, true, true⟩,
   ⟨0x0000, 1, 1, 1, 1, 19, 19, .w1c, 0, true, true⟩,
   ⟨0x0000, 1, 1, 1, 1, 20, 20, .w1c, 0, true, true⟩,
   ⟨0x0001, 1, 1, 1, 1, 0, 0, .w1c, 0, true, true⟩,
   ⟨0x0001, 1, 1, 1, 1, 1, 1, .w1c, 0, true, true⟩,
   ⟨0x0001, 1, 1, 1, 1, 2, 2, .w1c, 0, true, true⟩,
   ⟨0x0001, 1, 1, 1, 1, 3, 3, .w1c, 0, true, true⟩,
   ⟨0x0001, 1, 1, 1, 1, 4, 4, .w1c, 0, true, true⟩,
   ⟨0x0001, 1, 1, 1, 1, 5, 5, .w1c, 0, true, true⟩,
   ⟨0x0001, 1, 1, 1, 1, 13, 6, .w1c, 0, true, true⟩,
   ⟨0x0002, 1, 1, 1, 1, 3, 0, .w1c, 0, true, true⟩,
   ⟨0x0002, 1, 1, 1, 1, 7, 4, .w1c, 0, true, true⟩,
   ⟨0x0002, 1, 1, 1, 1, 11, 8, .w1c, 0, true, true⟩]
def rowsTrb1 : List Row :=
  [⟨0x0002, 1, 1, 1, 1, 15, 12, .w1c, 0, true, true⟩,
   ⟨0x0002, 1, 1, 1, 1, 16, 16, .w1c, 0, true, true⟩,
   ⟨0x0002, 1, 1, 1, 1, 17, 17, .w1c, 0, true, true⟩,
   ⟨0x0003, 1, 1, 1, 1, 10, 0, .w1c, 0, true, true⟩,
   ⟨0x0004, 1, 1, 1, 1, 15, 0, .w1c, 0, true, true⟩,
   ⟨0x0004, 1, 1, 1, 1, 31, 16, .w1c, 0, true, true⟩,
   ⟨0x0005, 1, 1, 1, 1, 3, 0, .w1c, 0, true, true⟩,
   ⟨0x0005, 1, 1, 1, 1, 7, 4, .w1c, 0, true, true⟩,
   ⟨0x0005, 1, 1, 1, 1, 11, 8, .w1c, 0, true, true⟩,
   ⟨0x0006, 1, 1, 1, 1, 7, 0, .w1c, 0, true, true⟩,
   ⟨0x0007, 1, 1, 1, 1, 23, 0, .w1c, 0, true, true⟩,
   ⟨0x0007, 1, 1, 1, 1, 28, 24, .w1c, 0, true, true⟩,
   ⟨0x0008, 1, 1, 1, 1, 7, 0, .w1c, 0, true, true⟩,
   ⟨0x0009, 1, 1, 1, 1, 6, 0, .w1c, 0, true, true⟩,
   ⟨0x000A, 1, 1, 1, 1, 35, 0, .w1c, 0, true, true⟩,
   ⟨0x000B, 1, 1, 1, 1, 27, 0, .w1c, 0, true, true⟩]
def rowsTrb2 : List Row :=
  [⟨0x000C, 1, 1, 1, 1, 3, 0, .w1c, 0, true, true⟩,
   ⟨0x000C, 1, 1, 1, 1, 12, 4, .w1c, 0, true, true⟩,
   ⟨0x000D, 1, 1, 1, 1, 1, 0, .w1c, 0, true, true⟩,
   ⟨0x000F, 1, 1, 1, 1, 35, 0, .w1c, 0, true, true⟩,
   ⟨0x0010, 1, 1, 1, 1, 35, 0, .ro, 0, true, true⟩,
   ⟨0x0011, 1, 1, 1, 1, 35, 0, .rw, 0, true, true⟩,
   ⟨0x0012, 1, 1, 1, 1, 35, 0, .rw, 0, true, true⟩,
   ⟨0x0013, 1, 1, 1, 1, 15, 0, .ro, 0, true, true⟩,
   ⟨0x0014, 1, 1, 1, 1, 15, 0, .rw, 65535, false, true⟩,
   ⟨0x0015, 1, 1, 1, 1, 35, 0, .w1s, 0, false, false⟩,
   ⟨0x0016, 1, 1, 1, 1, 35, 0, .rw, 0, false, true⟩,
   ⟨0x1000, 1024, 1, 1, 1, 35, 0, .ro, 0, true, true⟩]
/-- Register rows of the `trb` block. -/
def rowsTrb : List Row := rowsTrb0 ++ rowsTrb1 ++ rowsTrb2

def rowsGp0 : List Row :=
  [⟨0x0000, 1, 1, 1, 1, 31, 0, .rw, 0, false, true⟩,
   ⟨0x0001, 1, 1, 1, 1, 31, 0, .rw, 0, false, true⟩,
   ⟨0x0002, 1, 1, 1, 1, 31, 0, .ro, 0, false, true⟩,
   ⟨0x0003, 1, 1, 1, 1, 31, 0, .wo, 0, false, false⟩,
   ⟨0x0004, 1, 1, 1, 1, 31, 0, .wo, 0, false, false⟩,
   ⟨0x0005, 1, 1, 1, 1, 31, 0, .rw, 0, false, true⟩,
   ⟨0x0006, 1, 1, 1, 1, 31, 0, .rw, 0, false, true⟩,
   ⟨0x0007, 1, 1, 1, 1, 31, 0, .w1c, 0, false, true⟩,
   ⟨0x0010, 8, 4, 1, 1, 35, 0, .rw, 0, false, true⟩,
   ⟨0x0011, 8, 4, 1, 1, 0, 0, .rw, 1, false, true⟩,
   ⟨0x0011, 8, 4, 1, 1, 1, 1, .rw, 0, false, true⟩,
   ⟨0x0011, 8, 4, 1, 1, 3, 2, .rw, 0, false, true⟩,
   ⟨0x0011, 8, 4, 1, 1, 4, 4, .rw, 0, false, true⟩,
   ⟨0x0011, 8, 4, 1, 1, 6, 5, .rw, 1, false, true⟩,
   ⟨0x0012, 8, 4, 1, 1, 0, 0, .w1c, 0, false, true⟩,
   ⟨0x0012, 8, 4, 1, 1, 1, 1, .w1c, 0, false, true⟩]
def rowsGp1 : List Row :=
  [⟨0x0013, 8, 4, 1, 1, 35, 0, .rw, 0, false, true⟩,
   ⟨0x0030, 1, 1, 1, 1, 9, 0, .rw, 100, false, true⟩,
   ⟨0x0030, 1, 1, 1, 1, 10, 10, .rw, 0, false, true⟩,
   ⟨0x0030, 1, 1, 1, 1, 11, 11, .rw, 0, false, true⟩,
   ⟨0x0030, 1, 1, 1, 1, 12, 12, .rw, 0, false, true⟩,
   ⟨0x0031, 1, 1, 1, 1, 35, 0, .ro, 0, false, true⟩,
   ⟨0x0032, 1, 1, 1, 1, 29, 0, .ro, 0, false, true⟩,
   ⟨0x0033, 1, 1, 1, 1, 35, 0, .ro, 0, false, true⟩,
   ⟨0x0034, 1, 1, 1, 1, 29, 0, .ro, 0, false, true⟩,
   ⟨0x0035, 1, 1, 1, 1, 0, 0, .w1c, 0, false, true⟩,
   ⟨0x0035, 1, 1, 1, 1, 1, 1, .w1c, 0, false, true⟩,
   ⟨0x0035, 1, 1, 1, 1, 2, 2, .w1c, 0, false, true⟩,
   ⟨0x0035, 1, 1, 1, 1, 3, 3, .w1c, 0, false, true⟩]
/-- Register rows of the `gp` block. -/
def rowsGp : List Row := rowsGp0 ++ rowsGp1

/-- The rows of a block kind. -/
def blkRows : Blk → List Row
  | .sm => rowsSm
  | .bm => rowsBm
  | .vp => rowsVp
  | .sc => rowsSc
  | .cal => rowsCal
  | .fp => rowsFp
  | .fc => rowsFc
  | .qe => rowsQe
  | .idn => rowsIdn
  | .rm => rowsRm
  | .ic => rowsIc
  | .dma => rowsDma
  | .mw => rowsMw
  | .cas => rowsCas
  | .hst => rowsHst
  | .pwr => rowsPwr
  | .trb => rowsTrb
  | .gp => rowsGp

def coldSm (o : Nat) : Nat :=
  if o = 0x0000 then 0x3 else
  if o = 0x0006 then 0x400 else
  0
def coldBm (o : Nat) : Nat :=
  if o = 0x0000 then 0x19 else
  if o = 0x0003 then 0x400 else
  0
def coldVp (o : Nat) : Nat :=
  if o = 0x0000 then 0x1 else
  if o = 0x0001 then 0x32 else
  if o = 0x0002 then 0x3E8 else
  if o = 0x0003 then 0x64 else
  if o = 0x0004 then 0x30 else
  0
def coldSc (o : Nat) : Nat :=
  if o = 0x0000 then 0x11 else
  if o = 0x0002 then 0x3E8 else
  if o = 0x0004 then 0x10 else
  0
def coldCal (o : Nat) : Nat :=
  if o = 0x0000 then 0x3 else
  if o = 0x0001 then 0x2FE000000 else
  0
def coldFp (o : Nat) : Nat :=
  if o = 0x0000 then 0x3 else
  if o = 0x0002 then 0x64 else
  if 0x2004 ≤ o ∧ o < 0x2004 + 8192 ∧ (o - 0x2004) % 8 = 0 then 0x40000 else
  0
def coldFc (o : Nat) : Nat :=
  if o = 0x0000 then 0x88B5 else
  if o = 0x0001 then 0xC374 else
  if o = 0x0002 then 0xF else
  if o = 0x0003 then 0x3E8 else
  if 0x0100 ≤ o ∧ o < 0x0100 + 256 ∧ (o - 0x0100) % 16 = 0 then 0x2710 else
  0
def coldQe (_ : Nat) : Nat := 0
def coldIdn (o : Nat) : Nat :=
  if 0x8000 ≤ o ∧ o < 0x8000 + 32768 ∧ (o - 0x8000) % 8 = 0 then 0xC else
  if o = 0x0000 then 0x1 else
  if o = 0x0006 then 0x7F8000000 else
  if o = 0x0007 then 0x3E8 else
  if o = 0x000A then 0x7F8000000 else
  0
def coldRm (o : Nat) : Nat :=
  if o = 0x0025 then 0xF4240 else
  0
def coldIc (o : Nat) : Nat :=
  if o = 0x0000 then 0x1 else
  if 0x0040 ≤ o ∧ o < 0x0040 + 64 ∧ (o - 0x0040) % 16 = 0 then 0x1FF else
  if 0x0100 ≤ o ∧ o < 0x0100 + 256 then 0x20 else
  0
def coldDma (o : Nat) : Nat :=
  if 0x0111 ≤ o ∧ o < 0x0111 + 2048 ∧ (o - 0x0111) % 32 = 0 then 0x1 else
  if o = 0x0000 then 0x3E8 else
  0
def coldMw (o : Nat) : Nat :=
  if o = 0x0003 then 0x64 else
  0
def coldCas (o : Nat) : Nat :=
  if o = 0x0000 then 0x1000 else
  if o = 0x0002 then 0xA else
  if o = 0x0003 then 0x7D0 else
  if o = 0x0004 then 0x5 else
  if o = 0x0005 then 0x1 else
  if o = 0x0007 then 0x1F40064 else
  if 0x0010 ≤ o ∧ o < 0x0010 + 32 then 0x7 else
  if 0x0100 ≤ o ∧ o < 0x0100 + 256 ∧ (o - 0x0100) % 64 = 0 then 0x1 else
  if 0x0103 ≤ o ∧ o < 0x0103 + 256 ∧ (o - 0x0103) % 64 = 0 then 0x64 else
  0
def coldHst (o : Nat) : Nat :=
  if o = 0x0000 then 0x1 else
  if o = 0x0003 then 0x1C375 else
  if o = 0x0004 then 0xF1 else
  if o = 0x0005 then 0x64 else
  if 0x0102 ≤ o ∧ o < 0x0102 + 64 ∧ (o - 0x0102) % 16 = 0 then 0x22 else
  0
def coldPwr (o : Nat) : Nat :=
  if o = 0x0001 then 0x2 else
  if o = 0x000B then 0x3B6 else
  0
def coldTrb (o : Nat) : Nat :=
  if o = 0x0014 then 0xFFFF else
  0
def coldGp (o : Nat) : Nat :=
  if 0x0011 ≤ o ∧ o < 0x0011 + 32 ∧ (o - 0x0011) % 4 = 0 then 0x21 else
  if o = 0x0030 then 0x64 else
  0

/-- The nonzero Cold columns of a block's word (fields whose Cold column depends on the part are added in `coldWord`). -/
def blkCold : Blk → Nat → Nat
  | .sm => coldSm
  | .bm => coldBm
  | .vp => coldVp
  | .sc => coldSc
  | .cal => coldCal
  | .fp => coldFp
  | .fc => coldFc
  | .qe => coldQe
  | .idn => coldIdn
  | .rm => coldRm
  | .ic => coldIc
  | .dma => coldDma
  | .mw => coldMw
  | .cas => coldCas
  | .hst => coldHst
  | .pwr => coldPwr
  | .trb => coldTrb
  | .gp => coldGp

end Sys2Proof.Machine
end

