-- ==== Sys2Proof/Machine/State.lean ====
section
/-! DEFINITION. The state of a module as plain data: everything the spec gives it. Every register word of every register block and
every word of every memory lives in `mem`, keyed by its 36-bit physical word address; the other fields hold what the spec gives
a unit beside its registers (queues, pointers, pending work, timers). -/

namespace Sys2Proof.Machine

/-- A memory error overlay on a word (Stream, cluster, keyed by its address) or a burst (Bulk, keyed by its first word). -/
inductive EccErr where
  /-- A correctable error: stored bit position (Stream, cluster) or symbols corrected (Bulk). -/
  | corr (pos : Nat)
  /-- An uncorrectable error. -/
  | unc
  deriving DecidableEq, Repr

/-- Why the machine stops. -/
inductive Fault where
  /-- The state of an island released by FORCE_REL is undefined (R391). Raised by no command: one that acts there goes on, and the words of
  that island are left open (`islUndefined`). Safe. -/
  | islandUndefined (island : Nat)
  deriving DecidableEq, Repr

/-- Why a command has no meaning. -/
inductive Refusal where
  /-- The command of this mnemonic has no meaning in the model. Raised by no command once every arm of `exec` has its meaning.
  Safe: nothing is claimed about it. -/
  | notModelled (mnemonic : String)
  deriving DecidableEq, Repr

/-! ### Memories -/

/-- A shared-class access waiting at a bank of Stream Memory (R54, R56): what it does. -/
inductive SmKind where
  | read
  | write (w : Word)
  | half (hi : Bool) (h : Half)
  | fadd (w : Word)
  | swap (w : Word)
  deriving DecidableEq, Repr

/-- A waiting Midway-side access: crossbar port 0 to 3 (MP0 to MP3), address, kind, the transaction it belongs to and its word's place
there. -/
structure SmReq where
  port : Nat
  addr : Nat
  kind : SmKind
  txn : Nat
  idx : Nat
  deriving DecidableEq, Repr

/-- A memory's answer to a transaction: its tag, status (Table MWD-3) and words. -/
structure MemResp where
  tag : Nat
  status : Nat
  words : List Word
  deriving DecidableEq, Repr

/-- Stream Memory beside its words and registers (R55, R56, R63, R64, R66): arbitration pointers per bank and class, the
completion register of each bank, words awaiting a corrected write-back, scrubber progress per bank, and waiting accesses. -/
structure StreamSt where
  ownPtr : List (Nat × Nat)
  shPtr : List (Nat × Nat)
  rmw : List (Nat × (Nat × Word))
  wback : List Nat
  scrubRows : List (Nat × Nat)
  wait : List SmReq
  resp : List MemResp
  deriving DecidableEq, Repr

/-- A combining-buffer entry of Bulk Memory (R74): its burst's first word, the words it holds, single halves it holds of other words
(address, whether the upper half, value), and when it was opened. -/
structure CombEntry where
  burst : Nat
  words : List (Nat × Word)
  halves : List (Nat × Bool × Half)
  born : Nat
  deriving DecidableEq, Repr

/-- Bulk Memory beside its words and registers: combining buffer, oldest entry first (R74), last answer, last refresh per channel
(R75), hot devices (R75), and whether training has ended (R78). -/
structure BulkSt where
  comb : List CombEntry
  resp : MemResp
  refresh : List (Nat × Nat)
  hot : List Nat
  trained : Bool
  deriving DecidableEq, Repr

/-! ### Vector pipes -/

/-- A captured stream descriptor (Table VEC-1). -/
structure SDesc where
  base : Nat
  stride : Int
  len : Nat
  mode : Nat
  dbl : Bool
  idx : Nat
  idxq : Bool
  w3 : Nat
  w4 : Nat
  deriving DecidableEq, Repr

/-- A captured operand (R82). -/
inductive VCap where
  | none
  | str (d ix : SDesc)
  | long (first cnt : Nat) (dbl : Bool)
  | chain (n : Nat)
  | scal (v : Nat)
  deriving DecidableEq, Repr

/-- The four captured operands. -/
structure VCaps where
  d : VCap
  a : VCap
  b : VCap
  c : VCap
  deriving DecidableEq, Repr

/-- A fault of an element access: cause (Table VEC-6), operand (Table VEC-7 OPER), address. -/
structure VFlt where
  cause : Nat
  oper : Nat
  addr : Nat
  deriving DecidableEq, Repr

/-- A prefetched index value, or the fault its read met (R95). -/
inductive VIx where
  | ok (x : Nat)
  | bad (f : VFlt)
  deriving DecidableEq, Repr

/-- A computed element waiting to be written: element, word writes, chain-port value, flags. -/
structure VOut where
  i : Nat
  wr : List (Nat × Word)
  ch : Option Nat
  fl : Arf
  deriving DecidableEq, Repr

/-- An instruction in a pipe's queue (R92, R93): number, words, origin, failed fetch (cause and address), and the Progress Record
of a resume (R103). -/
structure VEntry where
  id : Nat
  w0 : Word
  w1 : Word
  w2 : Word
  org : VOrg
  bad : Option (Nat × Nat)
  res : Option (List Word)
  deriving DecidableEq, Repr

/-- A Stream Memory access a pipe presents (R57): its class (owner or shared), its address, the key its word is kept under when it is a
read, the word when it is a write. -/
structure VReq where
  own : Bool
  addr : Nat
  key : Nat
  put : Option Word
  deriving DecidableEq, Repr

/-- The instruction a pipe is running. `refTag`: reference tag (R122); `pstep`: probe step count (R83); `drm`: DRM at start-up; `k0`:
element it began at; `bound`: its chain roles are bound (R86); `cyc`: its VEC cycles since it began, stalls left out (R95); `gi`: next
element group to read; `ixg`: next group whose indexes are to be read; `wg`: next group to be written; `ixA`, `ixB`: indexes read
ahead, from group `gi` on; `outs`: groups computed and not yet written; `part`, `partB`: reduction partial, and what it was before the
last group; `acc`, `accFl`, `accFlB`: the sum and flags of the row or reduction being formed, and the flags before the last group;
`todo`: accesses of the present cycle not yet granted; `got`: words its reads of this cycle delivered (none: uncorrectable); `olds`:
words its writes of this cycle replaced; `cut`: the element below which a chain partner's elements end, with the fault due there;
`flt`: a fault found, taken once earlier elements are written; `waitSince`, `waitTo`: since when it has waited for a chain port, and
up to when that is counted. -/
structure VRun where
  ent : VEntry
  caps : VCaps
  refTag : Nat
  pstep : Int
  drm : Nat
  k0 : Nat
  bound : Bool
  cyc : Nat
  gi : Nat
  ixg : Nat
  wg : Nat
  ixA : List VIx
  ixB : List VIx
  outs : List (List VOut)
  part : Option Nat
  partB : Option Nat
  acc : Nat
  accFl : Arf
  accFlB : Arf
  todo : Option (List VReq)
  got : List (Nat × Option Word)
  olds : List (Nat × Word)
  cut : Option (Nat × VFlt)
  flt : Option (Nat × VFlt)
  waitSince : Option Nat
  waitTo : Nat
  deriving DecidableEq, Repr

/-- A VECTOR_BLOCK active on a pipe (R93): its action, list address, length, instructions fetched, instructions ended. -/
structure VBlock where
  act : Nat
  addr : Nat
  len : Nat
  fetched : Nat
  ended : Nat
  deriving DecidableEq, Repr

/-- Power transitions of a pipe or cluster (R104, R105, R157). -/
inductive PowPhase where
  | steady
  /-- In the power-down entry; `wake`: an issue or WAKE arrived meanwhile. -/
  | entering (gated wake : Bool)
  | waking
  deriving DecidableEq, Repr

/-- A vector pipe beside its registers. `longW`: writes to the long-register window that wait for the running instruction (address, word,
bits written; R108); `hist`: destination ranges of instructions that ran back to back before the present one, with their last result
cycle counted from its first cycle (R97). -/
structure PipeSt where
  calQ : List VEntry
  rmQ : List VEntry
  run : Option VRun
  blocks : List VBlock
  pow : PowPhase
  idleSince : Nat
  sleep : Bool
  longW : List (Nat × Word × Nat)
  hist : List (List (Int × Int) × Int)
  waitFrom : Option Nat
  deriving DecidableEq, Repr

/-- A producer and a consumer paired at a chain port (R86, R87): buffered element values with their width in words, the element counts
each declared, whether each has ended, elements pushed and taken, and where a faulted partner stopped the pair. -/
structure ChPair where
  fifo : List (Nat × Nat)
  prodN : Option Nat
  consN : Option Nat
  prodEnd : Bool
  consEnd : Bool
  pushed : Nat
  taken : Nat
  abortAt : Option Nat
  deriving DecidableEq, Repr

/-- A chain port (R86, R87): the pipes bound as producer and consumer, and the pairings under way, oldest first: the k-th producer is
paired with the k-th consumer. -/
structure ChainPort where
  prod : Option Nat
  cons : Option Nat
  pairs : List ChPair
  deriving DecidableEq, Repr

/-- What a unit reports to Calliope across its pass. -/
inductive CalMsg where
  /-- A VECTOR_BLOCK action has completed (R93). -/
  | blockDone (act : Nat)
  /-- A Calliope-origin vector fault of pipe p (R101). -/
  | pipeFault (p : Nat)
  /-- Cluster n became HALTED (R153). -/
  | clusterHalted (n : Nat)
  /-- Cluster n became FAULTED (R155). -/
  | clusterFault (n : Nat)
  /-- DMA channel c ended: with ARRIVED or DONE, or with an error. -/
  | dmaDone (c : Nat)
  deriving DecidableEq, Repr

/-- A trouble notice or a pending Trouble Log entry: CAUSE, UNIT, DETAIL (R401, Table TRB-1). -/
structure Notice where
  cause : Nat
  unit : Nat
  detail : Word
  deriving DecidableEq, Repr

/-! ### Signal clusters -/

/-- A register an operation of a cluster can write (Table CLU-4, with the loop-target register of R174). D registers by physical
number. -/
inductive ClDst where
  | d (phys : Nat)
  | ac (k : Nat)
  | p (k : Nat)
  | m (k : Nat)
  | b (k : Nat)
  | l (k : Nat)
  | c (k : Nat)
  | ltgt
  /-- No register: only flags are raised (R176). -/
  | flags
  deriving DecidableEq, Repr

/-- A result in flight (R139, R140): destination, value, flags, the cycle it lands in, the cycle and slot it was issued in, and
for a load that met an uncorrectable error the address of its bundle (R147). -/
structure ClFly where
  dst : ClDst
  val : Nat
  fl : Arf
  land : Nat
  issue : Nat
  slot : Nat
  ue : Option Nat
  deriving DecidableEq, Repr

/-- What a store writes into one word: the whole word, or one half (R173). -/
inductive ClPut where
  | word (w : Word)
  | half (hi : Bool) (h : Half)
  deriving DecidableEq, Repr

/-- A store in flight (R141): physical word address, what it writes, the cycle it reaches memory in. -/
structure ClStore where
  addr : Nat
  put : ClPut
  reach : Nat
  deriving DecidableEq, Repr

/-- An active loop level (R149): iterations left, first body bundle, end bundle, rotation. -/
structure ClLoop where
  left : Nat
  first : Nat
  fin : Nat
  rot : Bool
  deriving DecidableEq, Repr

/-- How a run is ending while RUN_STATE is FINISHING (R153 to R155). -/
inductive ClEnd where
  | halt
  | fault
  | stop
  deriving DecidableEq, Repr

/-- A Midway access to a cluster's memories that is to be retried in the next CLU cycle (R145), with its tag. -/
structure ClRetry where
  tag : Nat
  acc : WinAcc
  deriving DecidableEq, Repr

/-- A signal cluster beside its registers and memories. `cyc`: the CLU cycle the next bundle issues in; `iss`: that of the last one;
`run0`: the cycle of the run's first bundle; `levels`: active loop levels, innermost first; `bun`: operation words of the bundle being assembled; `due`:
the end bundle of the innermost level has just issued (its PC); `touch`: sub-banks the cluster accessed in the last cycle (Y unit,
sub-bank); `shOld`: shared words its stores wrote in the last cycle, with the values before; `waking`: the instant a wake ends;
`startWait`: the entry point and instant of a start waiting for a wake; `resp`: answers to Midway accesses; `sleep`: a SLEEP waits for
the end of the run (R188). -/
structure ClusterSt where
  cyc : Nat
  iss : Nat
  run0 : Nat
  levels : List ClLoop
  ltgt : Nat
  fly : List ClFly
  stores : List ClStore
  divFree : Nat
  bun : List Word
  due : Option Nat
  ending : Option ClEnd
  stopCause : Nat
  touch : List (Bool × Nat)
  shOld : List (Nat × Word)
  retry : List ClRetry
  resp : List MemResp
  waking : Option Nat
  startWait : Option (Nat × Nat)
  idleSince : Nat
  sleep : Bool
  deriving DecidableEq, Repr

/-! ### Ringmaster and the interrupt controller -/

/-- What a store-buffer entry holds (R267). -/
inductive SbKind where
  | word (w : Word)
  | half (hi : Bool) (h : Half)
  | dbl (lo hi : Word)
  deriving DecidableEq, Repr

/-- A store-buffer entry: word address, content, and the level it was stored at. -/
structure SbEnt where
  addr : Nat
  kind : SbKind
  level : Nat
  deriving DecidableEq, Repr

/-- Power of a core (R393, R297): the instant a wake ends. -/
inductive CorePow where
  | on
  | off
  | waking (due : Nat)
  deriving DecidableEq, Repr

/-- Why a core awaits words from another module or the host: an operation's own access (its opcode), a fill of its data or return stack
(`q`), a fetch. -/
inductive CoreAsk where
  | op (op : Nat)
  | fill (q : Bool)
  | fetch
  deriving DecidableEq, Repr

/-- What a core's issue waits for: RM0's boot ROM, whose code lies in no memory of the map (R383); a WAIT; replies from another module or
the host (the address and tag of each packet whose reply is awaited; address, status and word of what is answered); or a pipe's reply
to an operation (opcode, the record it offers). -/
inductive CoreHold where
  | none
  | rom
  | wait
  | remote (ask : CoreAsk) (need : List (Nat × Nat)) (got : List (Nat × Nat × Word))
  | vec (op : Nat) (ws : List Word)
  deriving DecidableEq, Repr

/-- A Ringmaster core beside its registers and local memory: PC (address of the word of the next operation) and slot, held data and
return entries (top first), store buffer (oldest first), failing addresses of posted writes whose exception is due, MONITOR's stack
pointers while EMERG is 1 (R278), when its watchdog last restarted and whether it has warned, the words it has fetched for the present
operation by address (R263), the priority at which an interrupt entry in progress began (R280), whether its request line has risen in
WAIT (R297), and cycles its present operation still takes (R265). -/
structure CoreSt where
  pc : Nat
  slot : Nat
  ds : List Word
  rs : List Word
  sb : List SbEnt
  perr : List Nat
  emD : Nat
  emQ : Nat
  hold : CoreHold
  pw : CorePow
  wdFrom : Nat
  wdWarned : Bool
  words : List (Nat × Word)
  ent : Option Nat
  rose : Bool
  busy : Nat
  deriving DecidableEq, Repr

/-- The interrupt controller beside its registers: when each running hold-off ends (R296), what each core's last CLAIM
returned (R291), and the pending sources whose targets are all STOPPED (R297). -/
structure IntSt where
  hoDue : List (Nat × Nat)
  claimed : List (Nat × Nat)
  noAvail : List Nat
  deriving DecidableEq, Repr

/-! ### Identification unit -/

/-- The identification unit beside its registers: channels back in ON since the last PROBE_STEP (R259), and the high word's address of
the last step status written (R251), and whether PROBE_OFF has been 1 since the last PROBE_STEP that found it 0 (R251). -/
structure IdentSt where
  fresh : List Nat
  lastStat : Option Nat
  off : Bool
  deriving DecidableEq, Repr

/-! ### Field ports and signal queues -/

/-- A sample record of an accepted frame awaiting classification (Table FLD-3, R221): its port, node, KIND, CHAN, TAG, TSTEP and
values, and the octets of buffer its frame gives back with its last record. -/
structure RxRec where
  node : Nat
  series : Bool
  chan : Nat
  tag : Nat
  tstep : Nat
  vals : List Word
  size : Nat
  deriving DecidableEq, Repr

/-- A FRAME_EMIT at a port: next stream, streams left, PSTEP and APPLY (R230, R248). -/
structure Emit where
  next : Nat
  left : Nat
  pstep : Nat
  apply : Bool
  deriving DecidableEq, Repr

/-- What a queued frame is, in transmission order (R231). -/
inductive TxCls where
  | ptp
  | sched
  | keep
  | other
  deriving DecidableEq, Repr

/-- A frame queued for transmission: class, stream and node of an output frame, its payload words; or for ARP replies and command
traffic the destination and the host words carried; of a PTP message `stream` is the messageType (0 Sync, 2 Pdelay_Req, 3 Pdelay_Resp). -/
structure TxFrame where
  cls : TxCls
  stream : Nat
  node : Nat
  words : List Word
  dstMac : Nat
  dstIp : Nat
  dstPort : Nat
  host : List HWord
  deriving DecidableEq, Repr

/-- A frame as sent: encapsulation, VLAN tag, addresses and payload (R211, Table FLD-6). -/
structure SentFrame where
  udp : Bool
  vlan : Nat
  pcp : Nat
  mac : Nat
  ip : Nat
  port : Nat
  srcIp : Nat
  srcPort : Nat
  frame : TxFrame
  deriving DecidableEq, Repr

/-- A field port beside its registers: records received and not yet classified, octets they hold in the frame buffer, sample FIFO
(queue, value, tag), FRAME_EMITs being assembled, frames queued, the last frame sent, Keeper timers and reference times by stream
(R233), since when LINK reads 0 and whether that is reported (R237); peer delay (R219): number and departure of the outstanding
Pdelay_Req, its receipt there and the response's arrival here, the delay last measured in ns. -/
structure PortSt where
  recs : List RxRec
  bufUsed : Nat
  fifo : List (Nat × Word × Word)
  emits : List Emit
  tx : List TxFrame
  sent : Option SentFrame
  timer : List (Nat × Nat)
  refT : List (Nat × Nat)
  downAt : Option Nat
  downRep : Bool
  pdSeq : Nat
  pdReq : Option (Nat × Nat)
  pdResp : Option (Nat × Nat)
  pdelay : Option Int
  deriving DecidableEq, Repr

/-- The field side beside its registers: ports; classifier entries by index (R220); queue descriptors (R223); hold buffer (R227),
ticks left of the frozen view, a thaw that is due, a deferred freeze with the ticks left of its view (`some none`: no limit); queues
whose slot was last written with tag 0, which a slot never written reads as too (R226); rotation between ports (R224); FRAME_EMITs in flight;
opening times of coalescer buffers (2c + b) (R235); time discipline: instant of the last sync information, intervals in a row
below 100 ns (R218). -/
structure FieldSt where
  ports : List PortSt
  cls : List (Nat × Word × Word)
  qd : List (Nat × Word × Word)
  hold : List (Nat × Word × Word)
  viewLeft : Option Nat
  thawDue : Bool
  freezePend : Option (Option Nat)
  tagZero : List Nat
  rot : Nat
  emitFly : List (Nat × Emit)
  winOpen : List (Nat × Nat)
  lastSync : Option Nat
  syncRun : Nat
  deriving DecidableEq, Repr
/-! ### Cascade -/

/-- A block of a Briby link (Table CAS-1): a HEADER's content, the stream bits of a DATA block, a GAP block's content with the credits
of classes 2 and 3 that it returns (R333). -/
inductive BBlock where
  | header (c : BitVec 56)
  | data (d : BitVec 64)
  | gap (c : BitVec 56) (c2 c3 : Nat)
  deriving DecidableEq, Repr

/-- A Briby link beside its registers: packets ready but without credit, with the link in whose receive buffer each waits if it is one
being forwarded (R333), packets sent since the last GAP block arrived, the blocks sent since then, credits held for classes 2 and 3, the TX_STAMP of the last GAP block
with its arrival (R334), round trips of the present window, when the link left UP and whether that is reported (R331), the last HELLO (R335), and whether the link is used for nothing but HELLO. -/
structure LinkSt where
  wait : List (BPkt × Option Nat)
  sent : List BPkt
  blocks : List BBlock
  cred2 : Nat
  cred3 : Nat
  gap : Option (Nat × Nat)
  rtts : List Nat
  leftAt : Option Nat
  downRep : Bool
  hello : Option (Word × Word)
  dup : Bool
  deriving DecidableEq, Repr

/-- A tick's instant and place (R340): Device Time in ns, MINOR_TICK, FRAME_NUM. -/
structure Mark where
  at_ : Nat
  minor : Nat
  frame : Nat
  deriving DecidableEq, Repr

/-- Segments of a COMMAND or REPLY received so far, by source and tag (R372). -/
structure Asm where
  src : Nat
  tag : Nat
  segs : List (Nat × List Word)
  deriving DecidableEq, Repr

/-- What a remote access of this module is for (R337): a transaction of Midway; an access a core waits for; a posted write of a master, with
its address; a host command. -/
inductive RemWho where
  | txn
  | core
  | post (m a : Nat)
  | host
  deriving DecidableEq, Repr

/-- An outstanding remote access of this module (R337): its tag, what it is for, its way, and the status and words once its response has
arrived. -/
structure RemReq where
  tag : Nat
  who : RemWho
  dest : Nat
  link : Nat
  resp : Option (Nat × List Word)
  deriving DecidableEq, Repr

/-- The cascade beside its registers: links, when the last TIME packet came (R342), markers awaiting their instant (R341), the last
marker with its PERIOD_NS, the continued grid (next instant; whether it has no holdover limit, R345), the last tick raised on its
own, when the master was declared lost and whether holdover expired, values assembled in the present frame (R344), closed digests
by frame, the DIGEST awaited (frame and tick-0 instant), digests received before the own frame closed, the last packet from the pair's
peer, the instant of a takeover, assemblies and remote accesses. -/
structure CasSt where
  links : List LinkSt
  lastTime : Option Nat
  marks : List Mark
  lastMark : Option (Mark × Nat)
  grid : Option Mark
  gridFree : Bool
  ownLast : Option Nat
  lostAt : Option Nat
  hoDone : Bool
  digVals : List Word
  digs : List (Nat × Nat)
  digDue : Option (Nat × Nat)
  digIn : List (Nat × Nat)
  peerAt : Nat
  tookAt : Option Nat
  asmC : List Asm
  asmR : List Asm
  rem : List RemReq
  remTag : Nat
  deriving DecidableEq, Repr

/-! ### Host interface -/

/-- The path a command packet came by (R371, R372): a ring; UDP with arrival port, source MAC, address and port; another module with
its tag; the UART. -/
inductive CmdPath where
  | ring (r : Nat)
  | udp (port mac ip uport : Nat)
  | fwd (m tag : Nat)
  | uart
  deriving DecidableEq, Repr

/-- A host command whose words lie in another module (R366, R337), one access after the other: where its reply goes, its packet type (a
read, a write, an atomic and its operation), the address awaited and its tag, words still to write, reads still to make, words read (0
for a write made), the conversion of what is read, the conversion exceptions of what is written, and a READ_BLOCK's host address. -/
structure FarJob where
  path : CmdPath
  hdr : List HWord
  pt : Nat
  op : Nat
  addr : Nat
  tag : Nat
  todo : List Word
  left : Nat
  got : List Word
  conv : Nat
  signed : Bool
  sat : Bool
  detail : Nat
  haddr : Option Nat
  deriving DecidableEq, Repr

/-- A command packet with its path. -/
structure InPkt where
  path : CmdPath
  words : List HWord
  deriving DecidableEq, Repr

/-- A ring pair beside its registers: the fetched packet, whether it has been executed and waits for its reply, and replies waiting
to be written with whether each completes its packet (R358, R359). -/
structure RingSt where
  pkt : Option (List HWord)
  ran : Bool
  replies : List (List HWord × Bool)
  deriving DecidableEq, Repr

/-- A UDP packet executed recently (R371): source address, port, TAG, and its reply. -/
structure Recent where
  ip : Nat
  port : Nat
  tag : Nat
  reply : Option (List HWord)
  deriving DecidableEq, Repr

/-- A command forwarded to another module or broadcast (R372): its path, header, Briby tag, destination (`none`: broadcast), when
FWD_TIMEOUT ends, modules that have replied. -/
structure Fwd where
  path : CmdPath
  hdr : List HWord
  tag : Nat
  dest : Option Nat
  due : Nat
  replied : List Nat
  deriving DecidableEq, Repr

/-- An image loading session (R363): whether its slot is a flash slot, the slot, KIND, total words, words received. -/
structure Session where
  flash : Bool
  slot : Nat
  kind : Nat
  total : Nat
  got : Nat
  deriving DecidableEq, Repr

/-- A run of a parameter set (R368): address and converted words. -/
structure PRun where
  addr : Nat
  words : List Word
  deriving DecidableEq, Repr

/-- A parameter set: state (0 EMPTY, 1 OPEN, 2 SEALED, 3 APPLYING, 4 PARTIAL), runs, the path and header of a deferred PARAM_SEAL,
FRAME_NUM at its last application. -/
structure PSet where
  st : Nat
  runs : List PRun
  defer : Option (CmdPath × List HWord)
  frame : Nat
  deriving DecidableEq, Repr

/-- A READ_BLOCK or WRITE_BLOCK under way (R366). -/
structure BlockXfer where
  path : CmdPath
  hdr : List HWord
  out : Bool
  addr : Nat
  count : Nat
  conv : Nat
  signed : Bool
  sat : Bool
  haddr : Nat
  deriving DecidableEq, Repr

/-- A key-hash slot (R195, R370). -/
inductive KeySlot where
  | blank
  | programmed (hash : Nat)
  | revoked
  deriving DecidableEq, Repr

/-- The host interface beside its registers: rings, packets in the UDP and forward buffer with the one being executed first, packets that
came before Monitor runs (R379), recent UDP packets, forwarded commands, sessions, parameter sets, block
transfers, commands on words of another module, latches of BAR0 (R353) with the slot of a preceding read at +0, MSI-X mask and pending bits with vectors delivered last
(R357), flash slots (words; whether valid), key slots, the flash slot booted and the one BOOT_SELECT names, replies sent on the UART, data of the last BAR0
read, the field repair record in the boot flash, as (bank, stored bit position) of each fault it lists (R67), and whether the training cache there is good (R78). -/
structure HostSt where
  rings : List RingSt
  mail : List InPkt
  early : List InPkt
  recent : List Recent
  fwds : List Fwd
  fwdTag : Nat
  sess : List Session
  psets : List PSet
  xfers : List BlockXfer
  far : List FarJob
  rdLatch : Nat
  hiLatch : Nat
  lastRd : Option Nat
  msixMask : BitVec 32
  msixPend : BitVec 32
  msixSent : List Nat
  flash : List (Nat × Word)
  flashLen : List Nat
  flashOk : List Bool
  imgLen : List Nat
  keys : List KeySlot
  booted : Nat
  bootSel : Nat
  uartOut : List (List HWord)
  barData : Option (List HWord)
  fieldRec : Option (List (Nat × Nat))
  trainOk : Bool
  deriving DecidableEq, Repr

/-! ### Midway and DMA -/

/-- Where a Midway transaction stands (R304 to R314): held at its master port; waiting at its Turnstile since an instant; granted at
an instant and not yet answered by its target; answered. -/
inductive TPhase where
  | held
  | waiting (since : Nat)
  | granted (at_ : Nat)
  | answered (at_ : Nat) (status : Nat) (words : List Word) (cvx : Nat)
  deriving DecidableEq, Repr

/-- A transaction outstanding in Midway: its number, request, the target port of its next beat, times aged (R311), phase; for a DMA channel
what it serves (1 data, 2 index, 3 write, 4 SYNC), the start it belongs to and the first word or offset it carries; the Briby tag of a
remote one; words whose beats have been granted, words granted and not yet answered, the first status that is not OK, and the words
that have come, by place. -/
structure Txn where
  tid : Nat
  req : TxnReq
  port : Nat
  age : Nat
  ph : TPhase
  tagk : Nat
  gen : Nat
  first : Nat
  rem : Option Nat
  off : Nat
  left : Nat
  st : Nat
  got : List (Nat × Word)
  deriving DecidableEq, Repr

/-- Midway beside its registers: the number of the next transaction, outstanding transactions in issue order, Turnstile pointers (R310),
instants from which a port has had a request waiting, transactions timed out whose responses may still come (R314), the last response delivered (master, ID, status,
words). -/
structure MwySt where
  next : Nat
  txns : List Txn
  ptr : List (Nat × Nat)
  waitFrom : List (Nat × Nat)
  late : List (Nat × Nat)
  rsp : Option (Nat × Nat × Nat × List Word)
  deriving DecidableEq, Repr

/-- An active DMA channel (R316 to R322): channel, start number, captured descriptor words 0 to 12, started by DMA_START, length T, next
word to read, words staged in order, words that came ahead of an earlier one, words in flight, next word to write, offsets asked for,
in flight, prefetched with the run the first belongs to, and come ahead of an earlier one, target ports written, SYNCs still to issue,
SYNCs unacknowledged. -/
structure DmaCh where
  c : Nat
  gen : Nat
  desc : List Nat
  cal : Bool
  t : Nat
  rdK : Nat
  got : List Word
  early : List (Nat × Word)
  fly : Nat
  wrK : Nat
  ixAsk : Nat
  ixFly : Nat
  ix : List Word
  ixRun : Nat
  ixEarly : List (Nat × Word)
  ports : List Nat
  toSync : List Nat
  syncOut : Nat
  deriving DecidableEq, Repr

/-- The DMA engine beside its registers: active channels, the number of starts, rotation pointers (2 × port + 1 for writes). -/
structure DmaSt where
  chans : List DmaCh
  gen : Nat
  ptr : List (Nat × Nat)
  deriving DecidableEq, Repr

/-! ### Reset, clocks and power -/

/-- Where the reset controller stands: AON power off; in reset or about to release (R387); running; in a warm reset's quiesce (R386); in
a warm reset that a pin holds (R384). -/
inductive RPhase where
  | off
  | release
  | run
  | quiesce
  | warmHeld
  deriving DecidableEq, Repr

/-- The reset controller and power manager beside their registers. `pinC`, `pinW`, `pinP`: nCOLD, nWARM, PERST# hold the module (R384); `thHold`, `boHold`,
`refHold`: a thermal trip, brown-out or reference loss holds it; `code`, `merged`: codes of the reset under way; `coldPend`: a
cold request that waits for the quiesce; `startAt`, `startWarm`: the start in progress (R379, R380); `rel208`: the release is to
raise source 208 when RMC leaves reset (R400); `bootDue`: the boot ROM has Monitor still to start (R383); `heldUp`: islands a warm reset that a pin
holds is to release; `lockPend`: islands awaiting clock lock; `lockOnce`: islands that have lost lock since the last cold reset (R388); `overN`, `underN`: power
windows in a row above the cap, and at or below 90 % of it (R392); `cool`: since when TJ is below 95 °C (R397); `tjAt`, `winAt`: the last
measurement of TJ and the end of the last power window; `noIn`: the input is lost (R395); `holdAt`, `endAt`: hold-up's start and end (R395); `held`: requests held during hold-up; `pgood`: PWR_GOOD (R429); `mon`: Monitor as last loaded:
BOOT_SELECT at that time, its recorded CRC-32C, the ranges it fills (R383); PMBus status bits and the last answer (R398). -/
structure PwrSt where
  ph : RPhase
  pinC : Bool
  pinW : Bool
  pinP : Bool
  thHold : Bool
  boHold : Bool
  refHold : Bool
  code : Nat
  merged : List Nat
  coldPend : Option Nat
  startAt : Nat
  startWarm : Bool
  rel208 : Bool
  bootDue : Bool
  heldUp : BitVec 23
  lockPend : BitVec 23
  lockOnce : BitVec 23
  overN : Nat
  underN : Nat
  cool : Option Nat
  tjAt : Nat
  winAt : Nat
  noIn : Bool
  holdAt : Option Nat
  endAt : Option Nat
  held : List (Nat × Bool)
  pgood : Bool
  mon : Option (Nat × Nat × List (Nat × Nat))
  pmInput : BitVec 8
  pmTemp : BitVec 8
  pmCml : Bool
  pmOut : Option (List Nat)
  deriving DecidableEq, Repr

/-! ### Calliope -/

/-- A timetable in a slot (R198): image store slot, INDEX, header words (Table TTB-5), and its actions' words, four each. -/
structure TT where
  img : Nat
  idx : Nat
  hdr : List Word
  acts : List Word
  deriving DecidableEq, Repr

/-- A tick source (R181): TICK_SRC; TIME: the instant of tick number 0 on the grid unmoved by steps of Device Time, and the period,
in ns; DISTANCE: encoder, count of threshold 0, EDGES; number of the next tick or threshold; DISTANCE (R183): MIN_SPACING and MAX_SPACING
in ns, FAST_LIMIT. -/
structure TickSrc where
  kind : Nat
  base : Int
  per : Nat
  enc : Nat
  anc : Nat
  edges : Nat
  n : Nat
  min : Nat
  max : Nat
  fast : Nat
  deriving DecidableEq, Repr

/-- A BARRIER in force (R190): action index, pipes, clusters, DMA channels (bit masks), the frame and tick that end it, and whether
that tick has arrived with completions outstanding. -/
structure CalBar where
  ix : Nat
  pipes : Nat
  clus : Nat
  dmas : Nat
  dlF : Nat
  dlT : Nat
  missed : Bool
  deriving DecidableEq, Repr

/-- A timetable being loaded (R198): into the active (0), standby (1) or next (2) slot, its image store slot and INDEX. -/
structure CalLoad where
  into : Nat
  img : Nat
  idx : Nat
  deriving DecidableEq, Repr

/-- An arm or re-arm under way (R197, R199): image store slot, timetable, grid origin in ns, whether it is a re-arm, whether Calliope
is to be HELD after it, and the command packet to be answered (its path and header). -/
structure CalArm where
  img : Nat
  idx : Nat
  origin : Nat
  rearm : Bool
  held : Bool
  cmd : Option (CmdPath × List HWord)
  deriving DecidableEq, Repr

/-- Calliope beside its registers. Slots; loads under way; tick source; the next tick comes from the new timetable's source after the
entry tick; frame and number of the next own tick; ticks raised and on their way (those of CASCADE with frame and number); position
of the next action (frame, index); the last tick that arrived; whether the next tick is an entry tick (R203); late ticks with their
arrival (R185); barrier; blocks outstanding (pipe, number) and each
pipe's last block's action; DMA channels whose start is outstanding; pipes
presented once for resumption (R193); units added under R189; pending target (slot 1 or 2, image, INDEX); DISTANCE: thresholds
reached and not yet handled, when a tick was last delivered, from when MAX_SPACING counts, a crossing waits for the end of the spacing, coalesced ticks of the
frame; TICK_LOSS is out; the first tick after the arm has arrived; arm under way; what was playing at a warm reset (image, INDEX,
STATE, ticks of its frame), until Calliope counts its grid again; a host switch is due at the next frame (R206). -/
structure CalSt where
  act : Option TT
  sby : Option TT
  nxt : Option TT
  loads : List CalLoad
  src : Option TickSrc
  newSrc : Bool
  nextF : Nat
  nextM : Nat
  flying : List (Option (Nat × Nat))
  df : Nat
  ix : Nat
  arr : Option (Nat × Nat)
  entry : Bool
  lates : List (Nat × Nat × Nat)
  bar : Option CalBar
  blks : List (Nat × Nat)
  blkIx : List Nat
  dmas : Nat
  resumed : Nat
  lossAdd : Nat
  target : Option (Nat × Nat × Nat)
  crossQ : Nat
  deliv : Option Nat
  lossFrom : Nat
  spacing : Bool
  fast : Nat
  lossOut : Bool
  ticked : Bool
  arm : Option CalArm
  was : Option (Nat × Nat × Nat × Nat)
  holdSw : Bool
  deriving DecidableEq, Repr

/-! ### GPIO, encoders and timing pins -/

/-- The GPIO and timing block beside its registers: filtered levels of each encoder's A and B; when PPS_OUT and TICK_OUT last rose and
how long each stays high, in ns (R414); whether the PPS_IN and TICK_IN pairs are frozen, and their pending captures (R415). -/
structure GpSt where
  encAB : List (Bool × Bool)
  pps : Option (Nat × Nat)
  tick : Option (Nat × Nat)
  frz : List Bool
  pend : List (Option Nat)
  deriving DecidableEq, Repr


/-! ### The module -/

/-- What a module is, which no command changes: its part; the CASC_ID and CASC_MASTER straps (R335); vendor ID, serial number, MAC
address of FP0, grade, Monitor and boot ROM versions (Table HCI-5); column faults the factory fuses list, as (bank, stored bit position)
(R67, R68). -/
structure Cfg where
  part : Part
  cascId : Nat
  cascMaster : Bool
  vendor : Nat
  serial : Nat
  mac0 : Nat
  coated : Bool
  monVer : Nat
  romVer : Nat
  fuseCols : List (Nat × Nat)
  deriving DecidableEq, Repr

structure State where
  cfg : Cfg
  mem : List (Nat × Word)
  ecc : List (Nat × EccErr)
  hostMem : List (Nat × HWord)
  free : Nat
  now : Nat
  devTime : Nat
  slew : Int
  unitT : List (Nat × Nat)
  aonOn : Bool
  up : BitVec 23
  forced : BitVec 23
  raiseQ : List Nat
  noticeQ : List Notice
  logQ : List (Notice × Nat × Nat)
  calIn : List CalMsg
  sm : StreamSt
  bm : BulkSt
  pipes : List PipeSt
  chains : List ChainPort
  vecId : Nat
  clusters : List ClusterSt
  cores : List CoreSt
  ic : IntSt
  probeOk : Bool
  idn : IdentSt
  fld : FieldSt
  stepOfs : Int
  cas : CasSt
  hst : HostSt
  mw : MwySt
  dma : DmaSt
  pwr : PwrSt
  cal : CalSt
  gp : GpSt
  rstReq : List (Nat × Bool)
  pending : List Instr
  deriving DecidableEq, Repr

/-! ### The machine after reset -/

/-- A pipe as a reset leaves it. -/
def pipeZero : PipeSt :=
  { calQ := [], rmQ := [], run := none, blocks := [], pow := .steady, idleSince := 0, sleep := false, longW := [], hist := [],
    waitFrom := none }
/-- A chain port as a reset leaves it. -/
def chainZero : ChainPort :=
  { prod := none, cons := none, pairs := [] }
/-- A cluster as a reset leaves it. -/
def clZero : ClusterSt :=
  { cyc := 0, iss := 0, run0 := 0, levels := [], ltgt := 0, fly := [], stores := [], divFree := 0, bun := [], due := none, ending := none,
    stopCause := 0, touch := [], shOld := [], retry := [], resp := [], waking := none, startWait := none, idleSince := 0,
    sleep := false }
/-- A core as a reset leaves it. -/
def coreZero : CoreSt :=
  { pc := 0, slot := 0, ds := [], rs := [], sb := [], perr := [], emD := 0, emQ := 0, hold := .none, pw := .on, wdFrom := 0,
    wdWarned := false, words := [], ent := none, rose := false, busy := 0 }
/-- A port as a reset leaves it. -/
def portZero : PortSt :=
  { recs := [], bufUsed := 0, fifo := [], emits := [], tx := [], sent := none, timer := [], refT := [], downAt := none,
    downRep := false, pdSeq := 0, pdReq := none, pdResp := none, pdelay := none }
/-- A link as a reset leaves it: 32 credits of each class (R333). -/
def linkZero : LinkSt :=
  { wait := [], sent := [], blocks := [], cred2 := 32, cred3 := 32, gap := none, rtts := [], leftAt := none, downRep := false, hello := none,
    dup := false }
/-- A ring pair as a reset leaves it. -/
def ringZero : RingSt := { pkt := none, ran := false, replies := [] }
/-- Stream Memory's arbiters as a reset leaves them. -/
def smZero : StreamSt := { ownPtr := [], shPtr := [], rmw := [], wback := [], scrubRows := [], wait := [], resp := [] }
/-- The Bulk Memory controller as a reset leaves it. -/
def bmZero : BulkSt := { comb := [], resp := ⟨0, 0, []⟩, refresh := [], hot := [], trained := false }
/-- The field side as a reset leaves it. -/
def fldZero (p : Part) : FieldSt :=
  { ports := List.replicate p.ports portZero, cls := [], qd := [], hold := [], viewLeft := none, thawDue := false,
    freezePend := none, tagZero := [], rot := 0, emitFly := [], winOpen := [], lastSync := none, syncRun := 0 }
/-- The cascade as a reset leaves it. -/
def casZero (p : Part) : CasSt :=
  { links := List.replicate p.links linkZero, lastTime := none, marks := [], lastMark := none, grid := none, gridFree := false,
    ownLast := none, lostAt := none, hoDone := false, digVals := [], digs := [], digDue := none, digIn := [], peerAt := 0, tookAt := none, asmC := [],
    asmR := [], rem := [], remTag := 0 }
/-- A parameter set in state EMPTY. -/
def psetZero : PSet := { st := 0, runs := [], defer := none, frame := 0 }
/-- The host interface of a module with empty flash slots and blank key slots. -/
def hstZero : HostSt :=
  { rings := List.replicate 4 ringZero, mail := [], early := [], recent := [], fwds := [], fwdTag := 0, sess := [],
    psets := List.replicate 16 psetZero, xfers := [], far := [], rdLatch := 0, hiLatch := 0, lastRd := none, msixMask := 0xFFFFFFFF#32,
    msixPend := 0#32, msixSent := [], flash := [], flashLen := [0, 0], flashOk := [false, false], imgLen := [0, 0],
    keys := [.blank, .blank], booted := 0, bootSel := 0, uartOut := [], barData := none,
    fieldRec := none, trainOk := true }
/-- Midway as a reset leaves it. -/
def mwZero : MwySt := { next := 1, txns := [], ptr := [], waitFrom := [], late := [], rsp := none }
/-- The DMA engine as a reset leaves it. -/
def dmaZero : DmaSt := { chans := [], gen := 0, ptr := [] }
/-- The reset controller at the start of a cold release (R387). -/
def pwrZero : PwrSt :=
  { ph := .release, pinC := false, pinW := false, pinP := false, thHold := false,
    boHold := false, refHold := false, code := 1, merged := [], coldPend := none, startAt := 0, startWarm := false,
    rel208 := false, bootDue := false, heldUp := 0#23, lockPend := 0#23, lockOnce := 0#23, overN := 0, underN := 0, cool := none, tjAt := 0, winAt := 0, noIn := false,
    holdAt := none, endAt := none, held := [], pgood := true, mon := none, pmInput := 0#8, pmTemp := 0#8, pmCml := false,
    pmOut := none }
/-- Calliope as a reset leaves it. -/
def calZero : CalSt :=
  { act := none, sby := none, nxt := none, loads := [], src := none, newSrc := false, nextF := 0, nextM := 0, flying := [],
    df := 0, ix := 0, arr := none, entry := false, lates := [], bar := none, blks := [], blkIx := [0, 0, 0, 0],
    dmas := 0, resumed := 0, lossAdd := 0, target := none, crossQ := 0, deliv := none, lossFrom := 0, spacing := false, fast := 0,
    lossOut := false, ticked := false, arm := none, was := none, holdSw := false }
/-- The GPIO block with every encoder input low and nothing captured. -/
def gpZero : GpSt :=
  { encAB := List.replicate 8 (false, false), pps := none, tick := none, frz := [false, false], pend := [none, none] }

/-- A module just after power-on (Table MRP-4 code 1): AON is in its cold release, every other island in reset, every register at its
Cold value, LAST_RESET naming the power-on, memories as R69, R78 leave them, no command waiting. -/
def State.cold (c : Cfg) : State :=
  { cfg := c, mem := [(0x201E0002, 8#36)], ecc := [], hostMem := [], free := 0, now := 0, devTime := 0, slew := 0,
    unitT := [], aonOn := true, up := 0#23, forced := 0#23, raiseQ := [], noticeQ := [], logQ := [], calIn := [], sm := smZero,
    bm := bmZero, pipes := List.replicate c.part.pipes pipeZero, chains := List.replicate 4 chainZero, vecId := 0,
    clusters := List.replicate c.part.clusters clZero, cores := List.replicate c.part.cores coreZero,
    ic := ⟨[], [], []⟩, probeOk := false, idn := ⟨[], none, false⟩, fld := fldZero c.part, stepOfs := 0, cas := casZero c.part,
    hst := hstZero, mw := mwZero, dma := dmaZero, pwr := pwrZero, cal := calZero, gp := gpZero, rstReq := [], pending := [] }

/-- The module of the model's reset state: a Z36-1604, module 0 and no master by its straps, serial number and MAC addresses 0, no
column fault in the fuses (log entry 2). -/
def Cfg.default : Cfg :=
  { part := .z1604, cascId := 0, cascMaster := false, vendor := 0, serial := 0, mac0 := 0, coated := false,
    monVer := 1, romVer := 1, fuseCols := [] }

/-- The machine right after reset (R384, R385). -/
def State.reset : State := State.cold Cfg.default

end Sys2Proof.Machine
end

