-- ==== Sys2Proof/Machine/Ops.lean ====
section
/-! DEFINITION. The named operations over the word store, register fields, time, raises and trouble notices, and the island
gate: what every meaning is written with. -/

namespace Sys2Proof.Machine

/-! ### Sparse stores in one canonical form -/

/-- The value at key `k`, `d` where the store lists none. -/
def kvGet {α : Type} (d : α) : List (Nat × α) → Nat → α
  | [], _ => d
  | (i, v) :: r, k => if i = k then v else kvGet d r k

/-- Set key `k` to `v`; an entry equal to the default `d` is not listed. -/
def kvSet {α : Type} [DecidableEq α] (d : α) (m : List (Nat × α)) (k : Nat) (v : α) : List (Nat × α) :=
  m.filter (fun e => decide (e.1 < k)) ++ ((if v = d then [] else [(k, v)]) ++ m.filter (fun e => decide (k < e.1)))

/-- Remove key `k`. -/
def kvDel {α : Type} (m : List (Nat × α)) (k : Nat) : List (Nat × α) := m.filter (fun e => decide (e.1 ≠ k))

/-- The entry listed at key `k`, if any. -/
def kvFind {α : Type} (m : List (Nat × α)) (k : Nat) : Option α := (m.find? (fun e => decide (e.1 = k))).map Prod.snd

/-! ### Address map of register words -/

/-- The register block an address lies in: its kind, its index and the offset (R6; the base addresses are the owning
chapters'). -/
def blkOf (a : Nat) : Option (Blk × Nat × Nat) :=
  if a < 0x10000000 then none
  else if a < 0x20000000 then
    let o := a % 0x100000
    if 0x30000 ≤ o ∧ o < 0x40000 ∧ a < 0x11000000 then some (.sc, (a - 0x10000000) / 0x100000, o - 0x30000) else none
  else if 0x20290000 ≤ a then none
  else
    let o := a % 0x10000
    match (a - 0x20000000) / 0x10000 with
    | 0x00 => some (.mw, 0, o) | 0x01 => some (.dma, 0, o) | 0x02 => some (.cal, 0, o) | 0x04 => some (.sm, 0, o)
    | 0x05 => some (.bm, 0, o)
    | 0x06 => some (.vp, 0, o) | 0x07 => some (.vp, 1, o) | 0x08 => some (.vp, 2, o) | 0x09 => some (.vp, 3, o)
    | 0x10 => some (.fp, 0, o) | 0x11 => some (.fp, 1, o) | 0x12 => some (.fp, 2, o) | 0x13 => some (.fp, 3, o)
    | 0x14 => some (.fp, 4, o) | 0x15 => some (.fp, 5, o) | 0x16 => some (.fp, 6, o) | 0x17 => some (.fp, 7, o)
    | 0x18 => some (.fc, 0, o) | 0x19 => some (.qe, 0, o) | 0x1A => some (.idn, 0, o) | 0x1C => some (.hst, 0, o)
    | 0x1D => some (.gp, 0, o) | 0x1E => some (.pwr, 0, o) | 0x1F => some (.trb, 0, o)
    | 0x20 => some (.rm, 0, o) | 0x21 => some (.rm, 1, o) | 0x22 => some (.rm, 2, o) | 0x23 => some (.rm, 3, o)
    | 0x24 => some (.ic, 0, o) | 0x28 => some (.cas, 0, o)
    | _ => none

/-- Base of core n's local memory. -/
def coreLocal (n : Nat) : Nat := 0x30000000 + n * 0x10000

/-- Cold values that depend on the part or on the block's index: LVT_BASE (Table MEM-4), the stack registers, STOPPED and
region 0 of a core (Table RMC-7), and Midway's QOS (Table MWD-1). -/
def coldSpecial (part : Part) (b : Blk) (i o : Nat) : Nat :=
  match b with
  | .sm => if o = 1 then part.streamWords - 2 * part.queues else 0
  | .rm =>
    let l := coreLocal i
    if o = 0x08 then l + 0xE000 else if o = 0x09 then l + 0xF000 else if o = 0x10 then l + 0xD000
    else if o = 0x11 then l + 0xE000 else if o = 0x12 then l + 0xE000 else if o = 0x13 then l + 0xF000
    else if o = 0x22 then b2n (decide (i ≠ 0))
    else if o = 0x40 then 0xF else if o = 0x41 then 0xFFFFFFFF0 else 0
  | .mw => if 0x10 ≤ o ∧ o < 0x25 then qosCold (o - 0x10) else 0
  | _ => 0
where
  /-- Cold QoS by master (Table MWD-1). -/
  qosCold (m : Nat) : Nat :=
    if m < 4 then 8 else if m < 8 then 0 else if m = 8 then 15 else if m = 9 then 12 else if m < 12 then 13
    else if m < 16 then 10 else if m < 20 then 6 else 4

/-- What an unlisted address reads as: the Cold column of its register word, zero for every memory word. -/
def coldWord (part : Part) (a : Nat) : Word :=
  match blkOf a with
  | none => 0#36
  | some (b, i, o) => mkW (blkCold b o + coldSpecial part b i o)

/-- The canonical form of the word store: addresses strictly rising, and no entry equal to what an unlisted address reads as. -/
abbrev Memory.wf (part : Part) (m : List (Nat × Word)) : Prop :=
  m.Pairwise (fun x y => x.1 < y.1) ∧ ∀ e ∈ m, e.2 ≠ coldWord part e.1

/-! ### Words and fields -/

/-- The word at a physical address. -/
def rd (s : State) (a : Nat) : Word := kvGet (coldWord s.cfg.part a) s.mem a
/-- Store a word at a physical address, keeping the canonical form. -/
def wr (s : State) (a : Nat) (w : Word) : State := { s with mem := kvSet (coldWord s.cfg.part a) s.mem a w }
/-- A word as a natural number. -/
def rdN (s : State) (a : Nat) : Nat := (rd s a).toNat
/-- Store a natural number as a word. -/
def wrN (s : State) (a n : Nat) : State := wr s a (mkW n)

/-- The value of a register field. -/
def rf (s : State) (f : Field) : Nat := bits (rdN s f.addr) f.hi f.lo
/-- Write a register field, leaving the other bits of its word. -/
def wf (s : State) (f : Field) (v : Nat) : State := wrN s f.addr (putBits (rdN s f.addr) f.hi f.lo v)
/-- A one-bit field read as a truth value. -/
def rb (s : State) (f : Field) : Bool := rf s f % 2 == 1
/-- Write a truth value into a one-bit field. -/
def wb (s : State) (f : Field) (b : Bool) : State := wf s f (b2n b)
/-- One bit `i` of a multi-bit field as a field of its own. -/
def fbit (f : Field) (i : Nat) : Field := ⟨f.addr, f.lo + i, f.lo + i⟩
/-- Add to a counter, which saturates at its all-ones value (R71). -/
def cntAdd (s : State) (f : Field) (n : Nat) : State :=
  wf s f (min (rf s f + n) (2 ^ (f.hi + 1 - f.lo) - 1))
/-- Increment a counter (R71). -/
def cnt (s : State) (f : Field) : State := cntAdd s f 1
/-- OR a value into a field of sticky bits. -/
def stick (s : State) (f : Field) (v : Nat) : State := wf s f (rf s f ||| v)

/-- Consecutive words from an address. -/
def rdBlock (s : State) (a n : Nat) : List Word := (List.range n).map (fun i => rd s (a + i))
/-- Store consecutive words. -/
def wrBlock (s : State) : Nat → List Word → State
  | _, [] => s
  | a, w :: ws => wrBlock (wr s a w) (a + 1) ws

/-! ### Free values -/

/-- A free word (a value the spec leaves open) and the state with its counter advanced. -/
def freeWord (s : State) : Word × State := (Config.freeWord s.free, { s with free := s.free + 1 })
/-- A free natural number. -/
def freeNat (s : State) : Nat × State := (Config.freeNat s.free, { s with free := s.free + 1 })

/-! ### Time (R19, R20) -/

/-- What of a Device Time offset is slewed away in `d` nanoseconds: at most 200 ppm (R218). -/
def slewed (s : State) (d : Nat) : Int :=
  if 0 ≤ s.slew then min s.slew ((d / 5000 : Nat) : Int) else -(min (-s.slew) ((d / 5000 : Nat) : Int))
/-- Let `d` nanoseconds pass. -/
def elapse (s : State) (d : Nat) : State :=
  let k := slewed s d
  { s with now := s.now + d, devTime := ((s.devTime : Int) + d + k).toNat, slew := s.slew - k }
/-- Let time pass until at least the instant `t`. -/
def atLeast (s : State) (t : Nat) : State := elapse s (t - s.now)
/-- Let time pass until Device Time is at least `t`: slewing may take some of it away, so thrice. -/
def devAtLeast (s : State) (t : Nat) : State :=
  let go := fun s : State => elapse s (t - s.devTime)
  go (go (go s))
/-- Seconds word of a Device Time in nanoseconds (R19). -/
def dtSec (t : Nat) : Nat := t / 1000000000 % 2 ^ 36
/-- Nanoseconds word of a Device Time (R19). -/
def dtNs (t : Nat) : Nat := t % 1000000000
/-- Time tag of an instant (R20). -/
def tagOf (t : Nat) : Nat := (t / 1000000000 * 64000000 + t % 1000000000 * 64 / 1000) % 2 ^ 36
/-- Time tag of the present. -/
def tagNow (s : State) : Nat := tagOf s.devTime
/-- Interval between two tags (R21). -/
def tagDiff (later earlier : Nat) : Nat := (later + 2 ^ 36 - earlier % 2 ^ 36) % 2 ^ 36

/-! ### Raises and trouble notices -/

/-- A unit raises an interrupt source: the raise is on its way to the controller (R287). -/
def raise (s : State) (src : Nat) : State := { s with raiseQ := s.raiseQ ++ [src] }
/-- Raise a source when a condition holds. -/
def raiseIf (s : State) (c : Bool) (src : Nat) : State := if c then raise s src else s
/-- A unit sends a trouble notice: register index, bit, instance, DETAIL word (R401). -/
def notice (s : State) (reg b unit detail : Nat) : State :=
  { s with noticeQ := s.noticeQ ++ [⟨64 * reg + b, unit, mkW detail⟩] }

/-- Operating modes (Table MRP-1). -/
def mBOOT : Nat := 0
def mRECOVERY : Nat := 1
def mCONFIGURE : Nat := 2
def mRUN : Nat := 3
def mDERATED : Nat := 4
def mHOLD : Nat := 5
def mSHADOW : Nat := 6
def mTEST : Nat := 7
/-- The mode in force (R376). -/
def mode (s : State) : Nat := rf s R.pwrMODE

/-! ### Islands -/

/-- Island numbers in the mask layout of Table MRP-11. -/
def iVEC : Nat := 0
def iCLU (n : Nat) : Nat := 1 + n
def iRMC : Nat := 17
def iMWY : Nat := 18
def iBLK : Nat := 19
def iFLD : Nat := 20
def iCAS : Nat := 21
def iHST : Nat := 22
def iAON : Nat := 23

/-- Whether an island is released and clocked. -/
def isUp (s : State) (i : Nat) : Bool := s.up.getLsbD i

/-- When an island was last released. -/
def islAt (s : State) (i : Nat) : Nat := (kvFind s.unitT (8192 + i)).getD 0

/-- No command changes what the module is or the queue of waiting commands: `t` with both as in `s`. -/
def keep (s t : State) : State := { t with cfg := s.cfg, pending := s.pending }

/-- First word of Bulk Memory. -/
def bulkBase : Nat := 0x200000000
/-- The island a register block lies in; 23 is AON. -/
def blkIsl (b : Blk) (i : Nat) : Nat :=
  match b with
  | .sm | .vp => iVEC
  | .sc => iCLU i
  | .rm | .ic => iRMC
  | .mw | .dma | .cal | .qe | .idn => iMWY
  | .bm => iBLK
  | .fp | .fc => iFLD
  | .cas => iCAS
  | .hst => iHST
  | .pwr | .trb | .gp => 23
/-- The island a memory word lies in. -/
def memIsl (a : Nat) : Nat :=
  if a < 0x10000000 then iVEC else if a < 0x20000000 then iCLU ((a - 0x10000000) / 0x100000)
  else if bulkBase ≤ a then iBLK else if 0x30000000 ≤ a then iRMC else 23
/-- The island a word of the address space lies in. -/
def addrIsl (a : Nat) : Nat := match blkOf a with | some (b, i, _) => blkIsl b i | none => memIsl a

/-- What a command does in an island that FORCE_REL released without a lock (R391): the island's state is undefined, so any word of it may
come to hold anything, and nothing leaves it (log entry 65). -/
def islUndefined (i : Nat) (s : State) : State :=
  let a := freeNat s
  let w := freeWord a.2
  if addrIsl a.1 = i then wr w.2 a.1 w.1 else w.2
/-- A command that acts in an island: in an island that FORCE_REL released without a lock its effect is undefined (R391); in an island that
is not released nothing happens; otherwise the effect is `k`. -/
def gate (i : Nat) (s : State) (k : State → State) : Host.Outcome State Fault Refusal :=
  .next (keep s (if s.forced.getLsbD i then islUndefined i s else if isUp s i then k s else s))

/-- A command that acts in the AON island: nothing happens while AON power is off. -/
def gateAon (s : State) (k : State → State) : Host.Outcome State Fault Refusal :=
  .next (keep s (if s.aonOn then k s else s))

/-- Apply `k` when a condition holds. -/
def iff (c : Bool) (k : State → State) (s : State) : State := if c then k s else s

end Sys2Proof.Machine
end

