-- ==== Sys2Proof/Machine/Stream.lean ====
section
/-! DEFINITION. Stream Memory: reads, writes, read-modify-writes, errors, arbitration of the shared class, scrubbing,
initialisation and the Latest Value Table base (R52 to R71, R80). -/

namespace Sys2Proof.Machine

/-- Response status codes (Table MWD-3). -/
def stOK : Nat := 0
def stBUS : Nat := 1
def stOWNED : Nat := 2
def stDATA : Nat := 3
def stLOST : Nat := 4
def stTIMEOUT : Nat := 5

/-- The bank of a Stream Memory address (R52). -/
def smBank (s : State) (a : Nat) : Nat := a % s.cfg.part.banks
/-- Whether a bank is marked off (R68). -/
def bankOff (s : State) (b : Nat) : Bool := bit (rf s (R.smBANK_OFF (b / 32))) (b % 32)
/-- First word of the Latest Value Table area (R70). -/
def lvtBase (s : State) : Nat := rf s R.smLVT_BASE * 256
/-- Whether an address lies in the Latest Value Table area (R70). -/
def inLvt (s : State) (a : Nat) : Bool := decide (lvtBase s ≤ a) && decide (a < lvtBase s + 2 * s.cfg.part.queues)

/-- The error overlay of a word. -/
def eccAt (s : State) (a : Nat) : Option EccErr := kvFind s.ecc a
/-- Remove a word's error and any write-back due for it (R64, R65). -/
def eccClear (s : State) (a : Nat) : State :=
  { s with ecc := kvDel s.ecc a, sm := { s.sm with wback := s.sm.wback.filter (fun x => decide (x ≠ a)) } }

/-- Record a corrected error (R64, R80): the word awaits its write-back. -/
def smCorrected (s : State) (a pos : Nat) : State :=
  let s := cnt (wb s R.smCE true) R.smCE_CNT
  let s := wf (wf s R.smCE_ADDR a) R.smCE_POS pos
  let s := { s with sm := { s.sm with wback := if s.sm.wback.contains a then s.sm.wback else s.sm.wback ++ [a] } }
  if rf s R.smCE_CNT = rf s R.smCE_THRESH then notice (raise s 224) 6 0 0 a else s
/-- Record an uncorrectable error (R65, R80). -/
def smUncorrectable (s : State) (a : Nat) : State :=
  let s := if rb s R.smUE then s else wf s R.smUE_ADDR a
  notice (raise (cnt (wb s R.smUE true) R.smUE_CNT) 225) 6 1 0 a

/-- Write the completion register of a bank, if it holds a word (R63). -/
def smComplete (s : State) (b : Nat) : State :=
  match kvFind s.sm.rmw b with
  | none => s
  | some (a, w) => eccClear (wr { s with sm := { s.sm with rmw := kvDel s.sm.rmw b } } a w) a

/-- An owner-class read: status, word (R53, R64, R65, R68). A pending completion is not waited for (R63). -/
def smReadOwn (s : State) (a : Nat) : Nat × Word × State :=
  if bankOff s (smBank s a) then (stBUS, 0#36, s) else
  match eccAt s a with
  | none => (stOK, rd s a, s)
  | some (.corr p) => (stOK, rd s a, smCorrected s a p)
  | some .unc => (stDATA, 0#36, smUncorrectable s a)
/-- An owner-class full-word write (R53, R65, R68). -/
def smWriteOwn (s : State) (a : Nat) (w : Word) : Nat × State :=
  if bankOff s (smBank s a) then (stBUS, s) else (stOK, eccClear (wr s a w) a)

/-- A shared-class read: the bank's pending completion comes first (R63). -/
def smRead (s : State) (a : Nat) : Nat × Word × State := smReadOwn (smComplete s (smBank s a)) a
/-- A shared-class full-word write. -/
def smWrite (s : State) (a : Nat) (w : Word) : Nat × State := smWriteOwn (smComplete s (smBank s a)) a w
/-- A read-modify-write (half write, fetch-and-add, swap): status and old word; the merged word is held in the bank's completion
register (R62, R63, R65). -/
def smRmw (s : State) (a : Nat) (f : Word → Word) : Nat × Word × State :=
  let r := smRead s a
  if r.1 = stOK then
    let s := r.2.2
    (stOK, r.2.1, { s with sm := { s.sm with rmw := kvDel s.sm.rmw (smBank s a) ++ [(smBank s a, (a, f r.2.1))] } })
  else r

/-- Replace one half of a word (R14). -/
def putHalf (hi : Bool) (h : Half) (w : Word) : Word :=
  if hi then mkW (h.toNat * 2 ^ 18 + w.toNat % 2 ^ 18) else mkW (w.toNat / 2 ^ 18 * 2 ^ 18 + h.toNat)

/-- Perform a granted shared-class access of a kind: status, word answered, state (R53, R62, R63). -/
def smPerform (s : State) (a : Nat) (k : SmKind) : Nat × Word × State :=
  match k with
  | .read => smRead s a
  | .write w => let r := smWrite s a w; (r.1, 0#36, r.2)
  | .half hi h => let r := smRmw s a (putHalf hi h); (r.1, 0#36, r.2.2)
  | .fadd w => smRmw s a (fun o => o + w)
  | .swap w => smRmw s a (fun _ => w)

/-- Requester positions of the rotation that a part has (R55): pipes 0 to 3, then MP0 to MP3 as 4 to 7. -/
def smPresent (s : State) (r : Nat) : Bool := if r < 4 then decide (r < s.cfg.part.pipes) else true

/-- The rotating-priority winner among candidates, starting at a pointer (R55). -/
def rotWin (ptr n : Nat) (cands : List Nat) : Option Nat :=
  ((List.range n).map (fun i => (ptr + i) % n)).find? (fun r => cands.contains r)

/-- A word of a granted transaction is answered: when the last one is, the transaction is (R304). One that is no longer outstanding
takes no answer (R314). -/
def txnWord (s : State) (tid idx st : Nat) (w : Word) : State :=
  let one := fun (t : Txn) =>
    if t.tid ≠ tid then t else
    let t := { t with left := t.left - 1, st := if t.st = stOK then st else t.st, got := kvDel t.got idx ++ [(idx, w)] }
    match t.ph with
    | .granted _ =>
      if t.left = 0 then { t with ph := .answered s.now t.st ((List.range t.got.length).map (kvGet 0#36 t.got)) 0 } else t
    | _ => t
  { s with mw := { s.mw with txns := s.mw.txns.map one } }
/-- What a port presents: at most 8 of its accesses, in the order received, one to a bank (R56). -/
def smPresents (s : State) (port : Nat) : List SmReq :=
  ((s.sm.wait.filter (fun r => decide (r.port = port))).foldl
    (fun l r => if l.any (fun q => decide (smBank s q.addr = smBank s r.addr)) then l else l ++ [r]) []).take 8
/-- Grant a port's access presented to a bank (R56): it is performed, and its answer goes to its transaction. -/
def smGrantPort (s : State) (b port : Nat) : State :=
  match (smPresents s port).find? (fun r => decide (smBank s r.addr = b)) with
  | none => s
  | some q =>
    let s := { s with sm := { s.sm with wait := s.sm.wait.erase q } }
    let r := smPerform s q.addr q.kind
    let s := r.2.2
    txnWord { s with sm := { s.sm with resp := [⟨q.txn, r.1, [r.2.1]⟩] } } q.txn q.idx r.1 r.2.1
/-- Rotation positions of the ports that present an access to a bank. -/
def smWaiting (s : State) (b : Nat) : List Nat :=
  ((List.range 4).filter (fun p => (smPresents s p).any (fun r => decide (smBank s r.addr = b)))).map (fun p => 4 + p)
/-- A bank's shared-class pointer moves to the position past the winner (R55). -/
def smTurn (s : State) (b x : Nat) : State := { s with sm := { s.sm with shPtr := kvSet 0 s.sm.shPtr b ((x + 1) % 8) } }

/-- SHARED_ACCESS_GRANT (R54, R55, R56): the bank grants the waiting Midway-side access that rotating priority chooses, in a cycle
owner-class requests leave free; a bank holding a completion grants none (R63). -/
def execSharedAccessGrant (b : Nat) (s : State) : Host.Outcome State Fault Refusal :=
  gate iVEC s fun s =>
    if (kvFind s.sm.rmw b).isSome then s else
    match rotWin (kvGet 0 s.sm.shPtr b) 8 (smWaiting s b) with
    | none => s
    | some r => smGrantPort (smTurn s b r) b (r - 4)

/-- A shared-class access that the model makes at once (log entry 5), at rotation position `x` (0 to 3 a pipe, 4 to 7 MP0 to MP3): its bank
goes on granting by rotation (R54, R55) until this access, behind those already waiting at its own port (R56), is granted. The number
argument bounds the grants before it. -/
def smServe : Nat → State → Nat → Nat → SmKind → Nat × Word × State
  | 0, s, _, a, k => smPerform s a k
  | n + 1, s, x, a, k =>
    let b := smBank s a
    let s := smComplete s b
    let ws := smWaiting s b
    match rotWin (kvGet 0 s.sm.shPtr b) 8 (x :: ws) with
    | none => smPerform s a k
    | some y =>
      let s := smTurn s b y
      if y = x ∧ ws.contains x = false then smPerform s a k else smServe n (smGrantPort s b (y - 4)) x a k
/-- The position of the Midway-side port an address reaches (R303). -/
def smPos (a : Nat) : Nat := 4 + a / 8 % 4
/-- A Midway-side access made at once. -/
def smAccess (s : State) (a : Nat) (k : SmKind) : Nat × Word × State := smServe (s.sm.wait.length + 1) s (smPos a) a k

/-- RMW_COMPLETION (R63). -/
def execRmwCompletion (b : Nat) (s : State) : Host.Outcome State Fault Refusal :=
  gate iVEC s fun s => smComplete s b

/-- CORRECTED_WRITE_BACK (R64): the first corrected word awaiting the bank is stored with valid check bits. -/
def execCorrectedWriteBack (b : Nat) (s : State) : Host.Outcome State Fault Refusal :=
  gate iVEC s fun s =>
    match s.sm.wback.find? (fun a => decide (smBank s a = b)) with
    | none => s
    | some a => eccClear s a

/-- Rows of a bank. -/
def smRows : Nat := 32768
/-- Completed passes of the scrubber over all banks that are not marked off. -/
def scrubPasses (s : State) : Nat :=
  let on := (List.range s.cfg.part.banks).filter (fun b => !bankOff s b)
  on.foldl (fun m b => min m (kvGet 0 s.sm.scrubRows b / smRows)) (on.head?.elim 0 (fun b => kvGet 0 s.sm.scrubRows b / smRows))

/-- PATROL_SCRUB (R54, R66, R68): the scrubber of a bank reads its next row in a cycle nothing else wants. -/
def execPatrolScrub (b : Nat) (s : State) : Host.Outcome State Fault Refusal :=
  gate iVEC s fun s =>
    if rb s R.smSCRUB_EN ∧ b < s.cfg.part.banks ∧ bankOff s b = false ∧ (kvFind s.sm.rmw b).isNone ∧ (smWaiting s b).isEmpty then
      let n := kvGet 0 s.sm.scrubRows b
      let old := scrubPasses s
      let s := (smReadOwn s (n % smRows * s.cfg.part.banks + b)).2.2
      let s := { s with sm := { s.sm with scrubRows := kvSet 0 s.sm.scrubRows b (n + 1) } }
      if old < scrubPasses s then cnt s R.smSCRUB_PASSES else s
    else s

/-- Write LVT_BASE: taken only in CONFIGURE and only where every slot lies in Stream Memory (R70). -/
def lvtBaseWrite (s : State) (w : Word) : State :=
  let b := bits w.toNat 22 8
  if mode s = mCONFIGURE ∧ b * 256 + 2 * s.cfg.part.queues ≤ s.cfg.part.streamWords then wf s R.smLVT_BASE b else s

/-- LVT_BASE_WRITE (R70). -/
def execLvtBaseWrite (w : Word) (s : State) : Host.Outcome State Fault Refusal := gate iVEC s fun s => lvtBaseWrite s w

end Sys2Proof.Machine
end

