-- ==== Sys2Proof/Machine/Bulk.lean ====
section
/-! DEFINITION. Bulk Memory: bursts, the write-combining buffer, errors, refresh, scrubbing, training and zero fill (R72 to R80). -/

namespace Sys2Proof.Machine

/-- Whether an address is a Bulk Memory word of the part. -/
def isBulk (s : State) (a : Nat) : Bool := decide (bulkBase ≤ a) && decide (a < bulkBase + s.cfg.part.bulkWords)
/-- First word of the burst an address lies in (R72). -/
def burstOf (a : Nat) : Nat := a / 16 * 16
/-- Channel of a burst (Table MEM-6). -/
def bulkChan (s : State) (a : Nat) : Nat := if s.cfg.part.channels = 1 then 0 else (a - bulkBase) / 32 % 2

/-- The buffer entry of a burst. -/
def combFind (s : State) (b : Nat) : Option CombEntry := s.bm.comb.find? (fun e => decide (e.burst = b))
/-- Drop the buffer entry of a burst. -/
def combDrop (s : State) (b : Nat) : State :=
  { s with bm := { s.bm with comb := s.bm.comb.filter (fun e => decide (e.burst ≠ b)) } }

/-- Record a corrected burst (R76): written back, counted, source 227 at the threshold. -/
def bmCorrected (s : State) (b syms src : Nat) : State :=
  let s := { s with ecc := kvDel s.ecc b }
  let s := cnt (wb s R.bmCE true) R.bmCE_CNT
  let s := wf (wf (wf s R.bmCE_ADDR b) R.bmCE_SYMS syms) R.bmCE_SRC src
  if rf s R.bmCE_CNT = rf s R.bmCE_THRESH then notice (raise s 227) 6 3 0 b else s
/-- Record an uncorrectable burst (R76). -/
def bmUncorrectable (s : State) (b src : Nat) : State :=
  let s := if rb s R.bmUE then s else wf (wf s R.bmUE_ADDR b) R.bmUE_SRC src
  notice (raise (cnt (wb s R.bmUE true) R.bmUE_CNT) 228) 6 4 0 b
/-- A burst with errors in five or more symbols that is taken for a correctable one (R73): 1 to 4 symbols are said to be corrected, and
its words are free values. -/
def bmMiscorrected (s : State) (b src : Nat) : State :=
  let n := freeNat s
  let s := (List.range 16).foldl (fun s i => let w := freeWord s; wr w.2 (b + i) w.1) n.2
  bmCorrected s b (1 + n.1 % 4) src
/-- Read a burst from the devices for a purpose (0 read, 1 scrubber, 2 read-modify-write): whether it delivers data. The code corrects
errors in at most four symbols; more are reported as uncorrectable, or miscorrected: which is free (R73). -/
def bmReadBurst (s : State) (b src : Nat) : Bool × State :=
  match eccAt s b with
  | none => (true, s)
  | some (.corr n) =>
    if n ≤ 4 then (true, bmCorrected s b n src) else
    let f := freeNat s
    if f.1 % 2 = 0 then (false, bmUncorrectable f.2 b src) else (true, bmMiscorrected f.2 b src)
  | some .unc => (false, bmUncorrectable s b src)

/-- Store a list of addressed words. -/
def wrAll (s : State) (ws : List (Nat × Word)) : State := ws.foldl (fun s e => wr s e.1 e.2) s

/-- One half of a word written over it (R14). -/
def wrHalf (s : State) (e : Nat × Bool × Half) : State := wr s e.1 (putHalf e.2.1 e.2.2 (rd s e.1))
/-- Whether an entry holds its whole burst. -/
def combFull (e : CombEntry) : Bool := decide (e.words.length = 16)
/-- Write a buffer entry: a complete one replaces its burst; another is merged by read-modify-write, and discarded where the burst
is uncorrectable (R74, R76). -/
def combWrite (s : State) (e : CombEntry) : State :=
  let s := combDrop s e.burst
  if combFull e then wrAll { s with ecc := kvDel s.ecc e.burst } e.words
  else
    let r := bmReadBurst s e.burst 2
    if r.1 then e.halves.foldl wrHalf (wrAll r.2 e.words) else r.2

/-- Merge one write of halves of a word into an entry, the later write winning. -/
def combPut (e : CombEntry) (a : Nat) (w : Word) (hi lo : Bool) : CombEntry :=
  let h : Bool → Half := fun up => BitVec.ofNat 18 (if up then w.toNat / 2 ^ 18 else w.toNat)
  let rest := e.halves.filter (fun x => decide (x.1 ≠ a))
  if hi && lo then { e with words := kvDel e.words a ++ [(a, w)], halves := rest }
  else if hi || lo then
    match kvFind e.words a with
    | some o => { e with words := kvDel e.words a ++ [(a, putHalf hi (h hi) o)] }
    | none =>
      match e.halves.find? (fun x => decide (x.1 = a) && decide (x.2.1 ≠ hi)) with
      | some o => { e with words := e.words ++ [(a, putHalf hi (h hi) (putHalf o.2.1 o.2.2 0#36))], halves := rest }
      | none => { e with halves := rest ++ [(a, hi, h hi)] }
  else e
/-- Merge the halves written of consecutive words into an entry. -/
def combPuts (e : CombEntry) : Nat → List (Word × Bool × Bool) → CombEntry
  | _, [] => e
  | a, (w, hi, lo) :: ws => combPuts (combPut e a w hi lo) (a + 1) ws

/-- A partial write within one burst (R74): merges into its entry or opens one, the oldest entry of the channel yielding when the
channel's 32 entries are in use; an entry that becomes complete is written. -/
def bulkMasked (s : State) (a : Nat) (ws : List (Word × Bool × Bool)) : State :=
  let b := burstOf a
  match combFind s b with
  | some e =>
    let e' := combPuts e a ws
    if combFull e' then combWrite s e'
    else { s with bm := { s.bm with comb := s.bm.comb.map (fun x => if x.burst = b then e' else x) } }
  | none =>
    let mine := s.bm.comb.filter (fun e => decide (bulkChan s e.burst = bulkChan s b))
    let s := if mine.length < 32 then s else match mine with | e :: _ => combWrite s e | [] => s
    let e := combPuts ⟨b, [], [], s.now⟩ a ws
    if combFull e then combWrite s e else { s with bm := { s.bm with comb := s.bm.comb ++ [e] } }
/-- A partial write of whole words within one burst. -/
def bulkPartial (s : State) (a : Nat) (ws : List Word) : State := bulkMasked s a (ws.map (fun w => (w, true, true)))

/-- An aligned 16-word write (R74, R76). -/
def bulkBurst (s : State) (b : Nat) (ws : List Word) : State :=
  let s := combDrop s b
  wrBlock { s with ecc := kvDel s.ecc b } b ws

/-- Whether a Midway write into the image store is refused (R194, R208): the image loader, Monitor's image commands, is no Midway master. -/
def imgGuards (s : State) (a : Nat) : Bool :=
  let b := rf s R.calIMG_BASE
  rb s R.calIMG_PROT && decide (b ≤ a) && decide (a < b + 0x2000000)

/-- A write within one burst: a full and aligned one replaces it, another combines (R74). -/
def bulkWrite (s : State) (a : Nat) (ws : List (Word × Bool × Bool)) : State :=
  if a % 16 = 0 ∧ ws.length = 16 ∧ ws.all (fun e => e.2.1 && e.2.2) = true then bulkBurst s a (ws.map Prod.fst) else bulkMasked s a ws

/-- The word a read returns, the buffer's contents first (R74). -/
def bulkWord (s : State) (a : Nat) : Word :=
  match combFind s (burstOf a) with
  | some e => (kvFind e.words a).getD ((e.halves.filter (fun x => decide (x.1 = a))).foldl (fun w x => putHalf x.2.1 x.2.2 w) (rd s a))
  | none => rd s a
/-- A read of n words within one burst (R74, R75, R76): status, words. -/
def bulkRead (s : State) (a n : Nat) : Nat × List Word × State :=
  let r := bmReadBurst s (burstOf a) 0
  if r.1 then (stOK, (List.range n).map (fun i => bulkWord r.2 (a + i)), r.2) else (stDATA, List.replicate n 0#36, r.2)

/-- Whether n words from a lie in one burst of the part's Bulk Memory. -/
def inBurst (s : State) (a n : Nat) : Bool := isBulk s a && decide (0 < n) && decide (a % 16 + n ≤ 16)

/-- BULK_PARTIAL_WRITE (R74). -/
def execBulkPartialWrite (a : Nat) (ws : List Word) (s : State) : Host.Outcome State Fault Refusal :=
  gate iBLK s fun s =>
    if inBurst s a ws.length then bulkPartial s a ws else s

/-- BULK_BURST_WRITE (R74). -/
def execBulkBurstWrite (a : Nat) (ws : List Word) (s : State) : Host.Outcome State Fault Refusal :=
  gate iBLK s fun s => if isBulk s a ∧ a % 16 = 0 ∧ ws.length = 16 then bulkBurst s a ws else s

/-- COMBINE_ENTRY_TIMEOUT (R74): 1,024 BLK cycles (1.28 µs) after its first write an incomplete entry is written. -/
def execCombineEntryTimeout (burst : Nat) (s : State) : Host.Outcome State Fault Refusal :=
  gate iBLK s fun s =>
    match combFind s burst with
    | none => s
    | some e => combWrite (atLeast s (e.born + 1280)) e

/-- Start a flush (R74). -/
def bulkFlush (s : State) : State := wb s R.bmFLUSH true
/-- FLUSH (R74). -/
def execFlush (s : State) : Host.Outcome State Fault Refusal := gate iBLK s bulkFlush
/-- Write every buffer entry, oldest first. -/
def bulkDrain (s : State) : State := s.bm.comb.foldl combWrite s
/-- FLUSH_DONE (R74). -/
def execFlushDone (s : State) : Host.Outcome State Fault Refusal :=
  gate iBLK s fun s => if rb s R.bmFLUSH then wb (bulkDrain s) R.bmFLUSH false else s

/-- BULK_READ (R75): a read of n words served at the controller, its answer under a tag. -/
def execBulkRead (a n tag : Nat) (s : State) : Host.Outcome State Fault Refusal :=
  gate iBLK s fun s =>
    if inBurst s a n then
      let r := bulkRead s a n
      let s := r.2.2
      { s with bm := { s.bm with resp := ⟨tag, r.1, if r.1 = stOK then r.2.1 else []⟩ } }
    else s

/-- Refresh interval in nanoseconds (R75). -/
def refreshNs (s : State) : Nat := if rb s R.bmHOT_REFRESH then 1950 else 3900
/-- BULK_REFRESH (R75): the interval of a channel has passed and its devices are refreshed. -/
def execBulkRefresh (ch : Nat) (s : State) : Host.Outcome State Fault Refusal :=
  gate iBLK s fun s =>
    if ch < s.cfg.part.channels then
      let s := atLeast s (kvGet 0 s.bm.refresh ch + refreshNs s)
      { s with bm := { s.bm with refresh := kvSet 0 s.bm.refresh ch s.now } }
    else s

/-- DRAM_TEMPERATURE_REPORT (R75): HOT_REFRESH reads 1 while any device is above 85 °C; setting it from 0 is a trouble event
(TRB6 bit 5). -/
def execDramTemperatureReport (dev : Nat) (hot : Bool) (s : State) : Host.Outcome State Fault Refusal :=
  gate iBLK s fun s =>
    let was := rb s R.bmHOT_REFRESH
    let l := s.bm.hot.filter (fun d => decide (d ≠ dev))
    let l := if hot then dev :: l else l
    let s := wb { s with bm := { s.bm with hot := l } } R.bmHOT_REFRESH (!l.isEmpty)
    if !was && !l.isEmpty then notice s 6 5 0 0 else s

/-- Bursts of the part's Bulk Memory. -/
def bulkBursts (s : State) : Nat := s.cfg.part.bulkWords / 16
/-- BULK_SCRUB_READ (R77). -/
def execBulkScrubRead (s : State) : Host.Outcome State Fault Refusal :=
  gate iBLK s fun s =>
    if rb s R.bmSCRUB_EN then
      let i := rf s R.bmSCRUB_POS
      let s := (bmReadBurst s (bulkBase + 16 * i) 1).2
      if i + 1 = bulkBursts s then cnt (wf s R.bmSCRUB_POS 0) R.bmSCRUB_PASSES else wf s R.bmSCRUB_POS (i + 1)
    else s

/-- BULK_TRAINING_DONE (R78): training has ended: from the cache, or in full (TRAINED_FULL, TRB6 bit 6) where the cache failed its check
(`bad`, or no good cache in the boot flash); Monitor then rewrites the cache. -/
def execBulkTrainingDone (bad : Bool) (s : State) : Host.Outcome State Fault Refusal :=
  gate iBLK s fun s =>
    if s.bm.trained then s else
    let full := bad || !s.hst.trainOk
    let s := { s with bm := { s.bm with trained := true }, hst := { s.hst with trainOk := true } }
    let s := wb s R.bmTRAINED_FULL full
    if full then notice s 6 6 0 0 else s

end Sys2Proof.Machine
end

