-- ==== Sys2Proof/Machine/Float.lean ====
section
/-! DEFINITION. Floating point: F36, F72, binary32 and binary64 (Table WRD-3, R18, R36 to R45), exact in `Nat` and `Int`,
rounded once. -/

namespace Sys2Proof.Machine

/-- A rounding direction (Table ARI-4). -/
inductive Rm where
  | near | zero | up | down
  deriving DecidableEq, Repr

/-- The rounding a 3-bit RND field selects under DRM; `none`: reserved, illegal at issue (Table ARI-4). -/
def rmOf (rnd drm : Nat) : Option Rm :=
  match (if rnd = 7 then drm % 4 else rnd) with
  | 0 => some .near | 1 => some .zero | 2 => some .up | 3 => some .down | _ => none

/-- A binary format: exponent width and fraction width (Table WRD-3). -/
structure Fmt where
  ew : Nat
  fw : Nat
  deriving DecidableEq, Repr

def fF36 : Fmt := ⟨8, 27⟩
def fF72 : Fmt := ⟨11, 60⟩
def fB32 : Fmt := ⟨8, 23⟩
def fB64 : Fmt := ⟨11, 52⟩

/-- Exponent bias. -/
def fmtBias (f : Fmt) : Nat := 2 ^ (f.ew - 1) - 1
/-- The all-ones exponent field. -/
def fmtTop (f : Fmt) : Nat := 2 ^ f.ew - 1
/-- The pattern of a sign, exponent field and fraction field. -/
def fpPack (f : Fmt) (s : Bool) (e m : Nat) : Nat := (b2n s * 2 ^ f.ew + e) * 2 ^ f.fw + m
/-- The default quiet NaN: sign 0, quiet bit 1, payload zero (R18). -/
def fpDefNaN (f : Fmt) : Nat := fpPack f false (fmtTop f) (2 ^ (f.fw - 1))
def fpInf (f : Fmt) (s : Bool) : Nat := fpPack f s (fmtTop f) 0
def fpZero (f : Fmt) (s : Bool) : Nat := fpPack f s 0 0
def fpMaxFin (f : Fmt) (s : Bool) : Nat := fpPack f s (fmtTop f - 1) (2 ^ f.fw - 1)

/-- The value of a pattern (R18): a finite value is (−1)^s × m × 2^e. -/
inductive FV where
  | nan (s quiet : Bool) (frac : Nat)
  | inf (s : Bool)
  | fin (s : Bool) (m : Nat) (e : Int)
  deriving DecidableEq, Repr

/-- The value of a pattern (R18). -/
def fpVal (f : Fmt) (w : Nat) : FV :=
  let m := w % 2 ^ f.fw
  let e := w / 2 ^ f.fw % 2 ^ f.ew
  let s := bit w (f.fw + f.ew)
  if e = fmtTop f then
    if m = 0 then .inf s else .nan s (bit m (f.fw - 1)) m
  else if e = 0 then .fin s m (1 - (fmtBias f : Int) - f.fw)
  else .fin s (m + 2 ^ f.fw) ((e : Int) - fmtBias f - f.fw)

def fpIsNaN (f : Fmt) (w : Nat) : Bool := match fpVal f w with | .nan _ _ _ => true | _ => false
def fpIsSNaN (f : Fmt) (w : Nat) : Bool := match fpVal f w with | .nan _ q _ => !q | _ => false
def fpSign (f : Fmt) (w : Nat) : Bool := bit w (f.fw + f.ew)
/-- The pattern with its quiet bit set. -/
def fpQuiet (f : Fmt) (w : Nat) : Nat := if bit w (f.fw - 1) then w else w + 2 ^ (f.fw - 1)
/-- The pattern with its sign bit set to `s`. -/
def fpWithSign (f : Fmt) (s : Bool) (w : Nat) : Nat := b2n s * 2 ^ (f.fw + f.ew) + w % 2 ^ (f.fw + f.ew)

/-- Whether an inexact value of sign `s` with kept part `q`, remainder `r` of `2^k`, is rounded away from zero. -/
def roundsUp (rm : Rm) (s : Bool) (q r k : Nat) : Bool :=
  match rm with
  | .near => decide (2 ^ k < 2 * r) || (decide (2 * r = 2 ^ k) && decide (q % 2 = 1))
  | .zero => false
  | .up => decide (0 < r) && !s
  | .down => decide (0 < r) && s

/-- Keep m / 2^k rounded; the second part: inexact. -/
def roundMag (rm : Rm) (s : Bool) (m k : Nat) : Nat × Bool :=
  let q := m / 2 ^ k
  let r := m % 2 ^ k
  (if k ≠ 0 ∧ roundsUp rm s q r k then q + 1 else q, decide (r ≠ 0))

/-- Round (−1)^s × m × 2^e, m > 0, into a format (R36 to R38): the pattern and the flags. Where m carries a sticky low bit it
has at least two bits more than the format keeps. -/
def fpRound (f : Fmt) (rm : Rm) (s : Bool) (m : Nat) (e : Int) : Nat × Arf :=
  if m = 0 then (fpZero f s, 0#7) else
  let eMin : Int := 1 - fmtBias f
  let top : Int := e + Nat.log2 m                       -- 2^top ≤ value < 2^(top+1)
  let eR : Int := if top < eMin then eMin else top
  let sh : Int := eR - f.fw - e
  let r := if sh ≤ 0 then (m * 2 ^ (-sh).toNat, false) else roundMag rm s m sh.toNat
  let body : Nat := (eR - eMin).toNat * 2 ^ f.fw + r.1
  if fmtTop f * 2 ^ f.fw ≤ body then
    let big := match rm with
      | .near => fpInf f s
      | .zero => fpMaxFin f s
      | .up => if s then fpMaxFin f s else fpInf f s
      | .down => if s then fpInf f s else fpMaxFin f s
    (big, fOF ||| fNX)
  else
    -- tininess after rounding (R37): the value rounded with an unbounded exponent lies below 2^eMin
    let shU : Int := top - f.fw - e
    let rU := if shU ≤ 0 then m * 2 ^ (-shU).toNat else (roundMag rm s m shU.toNat).1
    let tiny := decide (top + 1 < eMin) || (decide (top + 1 = eMin) && decide (rU < 2 ^ (f.fw + 1)))
    (b2n s * 2 ^ (f.fw + f.ew) + body, flagIf r.2 fNX ||| flagIf (tiny && r.2) fUF)

/-- A signed exact value with its rounding; an exact zero takes sign `zs`. -/
def fpRoundInt (f : Fmt) (rm : Rm) (zs : Bool) (v : Int) (e : Int) : Nat × Arf :=
  if v = 0 then (fpZero f zs, 0#7) else fpRound f rm (decide (v < 0)) v.natAbs e

/-- NaN results (R39): the first NaN operand, quieted, and NV for any signalling NaN; `none` when no operand is a NaN. -/
def fpNaNs (f : Fmt) (ops : List Nat) : Option (Nat × Arf) :=
  match ops.find? (fpIsNaN f) with
  | none => none
  | some w => some (fpQuiet f w, flagIf (ops.any (fpIsSNaN f)) fNV)

/-- Sign of an exact zero sum (R40). -/
def zeroSumSign (rm : Rm) (sa sb : Bool) : Bool := if sa = sb then sa else decide (rm = .down)
def sgn (s : Bool) (m : Nat) : Int := if s then -(m : Int) else m

/-- Exact sum of two finite values, as an integer and an exponent. -/
def exactSum (s1 : Bool) (m1 : Nat) (e1 : Int) (s2 : Bool) (m2 : Nat) (e2 : Int) : Int × Int :=
  let e := if e1 ≤ e2 then e1 else e2
  (sgn s1 m1 * 2 ^ (e1 - e).toNat + sgn s2 m2 * 2 ^ (e2 - e).toNat, e)

/-- Sum of two values, rounded (R36, R39, R40). -/
def fvAdd (f : Fmt) (rm : Rm) : FV → FV → Nat × Arf
  | .inf s1, .inf s2 => if s1 = s2 then (fpInf f s1, 0#7) else (fpDefNaN f, fNV)
  | .inf s1, _ => (fpInf f s1, 0#7)
  | _, .inf s2 => (fpInf f s2, 0#7)
  | .fin s1 m1 e1, .fin s2 m2 e2 =>
    let v := exactSum s1 m1 e1 s2 m2 e2
    fpRoundInt f rm (if m1 = 0 ∧ m2 = 0 then zeroSumSign rm s1 s2 else decide (rm = .down)) v.1 v.2
  | _, _ => (fpDefNaN f, fNV)

/-- a + b (R36). -/
def fpAdd (f : Fmt) (rm : Rm) (a b : Nat) : Nat × Arf :=
  match fpNaNs f [a, b] with
  | some r => r
  | none => fvAdd f rm (fpVal f a) (fpVal f b)
/-- −x: only the sign bit changes (R43). -/
def fpNeg (f : Fmt) (w : Nat) : Nat := fpWithSign f (!fpSign f w) w
/-- |x| (R43). -/
def fpAbs (f : Fmt) (w : Nat) : Nat := fpWithSign f false w
/-- a − b: a NaN b keeps its own sign (R39). -/
def fpSub (f : Fmt) (rm : Rm) (a b : Nat) : Nat × Arf :=
  match fpNaNs f [a, b] with
  | some r => r
  | none => fvAdd f rm (fpVal f a) (fpVal f (fpNeg f b))

/-- The exact product of two values, `none` for 0 × ∞. -/
def fvMul : FV → FV → Option FV
  | .inf s1, .inf s2 => some (.inf (s1 ^^ s2))
  | .inf s1, .fin s2 m _ => if m = 0 then none else some (.inf (s1 ^^ s2))
  | .fin s1 m _, .inf s2 => if m = 0 then none else some (.inf (s1 ^^ s2))
  | .fin s1 m1 e1, .fin s2 m2 e2 => some (.fin (s1 ^^ s2) (m1 * m2) (e1 + e2))
  | _, _ => none

/-- a × b (R36, R39, R40). -/
def fpMul (f : Fmt) (rm : Rm) (a b : Nat) : Nat × Arf :=
  match fpNaNs f [a, b] with
  | some r => r
  | none =>
    match fvMul (fpVal f a) (fpVal f b) with
    | some (.inf s) => (fpInf f s, 0#7)
    | some (.fin s m e) => fpRound f rm s m e
    | _ => (fpDefNaN f, fNV)

/-- Negate a value. -/
def fvNeg : FV → FV
  | .nan s q m => .nan s q m
  | .inf s => .inf (!s)
  | .fin s m e => .fin (!s) m e

/-- ±(a × b) + c, rounded once (R36, R39). -/
def fpFma (f : Fmt) (rm : Rm) (negProd : Bool) (a b c : Nat) : Nat × Arf :=
  let p := fvMul (fpVal f a) (fpVal f b)
  match fpNaNs f [a, b, c] with
  | some r => (r.1, r.2 ||| flagIf (!fpIsNaN f a && !fpIsNaN f b && p.isNone) fNV)
  | none =>
    match p with
    | none => (fpDefNaN f, fNV)
    | some v => fvAdd f rm (if negProd then fvNeg v else v) (fpVal f c)

/-- a ÷ b (R36, R39, Table ARI-7). -/
def fpDiv (f : Fmt) (rm : Rm) (a b : Nat) : Nat × Arf :=
  match fpNaNs f [a, b] with
  | some r => r
  | none =>
    match fpVal f a, fpVal f b with
    | .inf _, .inf _ => (fpDefNaN f, fNV)
    | .inf s1, .fin s2 _ _ => (fpInf f (s1 ^^ s2), 0#7)
    | .fin s1 _ _, .inf s2 => (fpZero f (s1 ^^ s2), 0#7)
    | .fin s1 m1 e1, .fin s2 m2 e2 =>
      let s := s1 ^^ s2
      if m2 = 0 then (if m1 = 0 then (fpDefNaN f, fNV) else (fpInf f s, fDZ))
      else if m1 = 0 then (fpZero f s, 0#7)
      else
        let k := 2 * f.fw + 6
        let n := m1 * 2 ^ k
        let q := n / m2
        fpRound f rm s (2 * q + b2n (decide (n % m2 ≠ 0))) (e1 - e2 - k - 1)
    | _, _ => (fpDefNaN f, fNV)

/-- The integer square root, bit by bit: the largest r < 2^k above `r0` with r² ≤ n. -/
def isqrt (n : Nat) : Nat → Nat → Nat
  | 0, r => r
  | k + 1, r => if (r + 2 ^ k) * (r + 2 ^ k) ≤ n then isqrt n k (r + 2 ^ k) else isqrt n k r

/-- √a (R36, R39, R40). -/
def fpSqrt (f : Fmt) (rm : Rm) (a : Nat) : Nat × Arf :=
  match fpNaNs f [a] with
  | some r => r
  | none =>
    match fpVal f a with
    | .inf s => if s then (fpDefNaN f, fNV) else (fpInf f false, 0#7)
    | .fin s m e =>
      if m = 0 then (fpZero f s, 0#7)
      else if s then (fpDefNaN f, fNV)
      else
        let odd := e % 2 ≠ 0
        let m' := (if odd then m * 2 else m) * 2 ^ (2 * (f.fw + 4))
        let e' := (if odd then e - 1 else e) - 2 * (f.fw + 4)
        let r := isqrt m' (Nat.log2 m' / 2 + 1) 0
        fpRound f rm false (2 * r + b2n (decide (r * r ≠ m'))) (e' / 2 - 1)
    | _ => (fpDefNaN f, fNV)

/-- Exact comparison of two non-NaN values: negative, zero or positive; −0 = +0 (R41). -/
def fvCmp : FV → FV → Int
  | .inf s1, .inf s2 => if s1 = s2 then 0 else if s1 then -1 else 1
  | .inf s1, _ => if s1 then -1 else 1
  | _, .inf s2 => if s2 then 1 else -1
  | .fin s1 m1 e1, .fin s2 m2 e2 => (exactSum s1 m1 e1 (!s2) m2 e2).1
  | _, _ => 0

/-- A comparison relation. -/
inductive Rel where
  | eq | ne | lt | le | gt | ge | un
  deriving DecidableEq, Repr

/-- Whether a relation holds of a comparison result. -/
def relHolds (r : Rel) (c : Int) : Bool :=
  match r with
  | .eq => decide (c = 0) | .ne => decide (c ≠ 0) | .lt => decide (c < 0) | .le => decide (c ≤ 0)
  | .gt => decide (0 < c) | .ge => decide (0 ≤ c) | .un => false

/-- Quiet comparisons set NV only for a signalling NaN (R41). -/
def relQuiet (r : Rel) : Bool := match r with | .eq => true | .ne => true | .un => true | _ => false

/-- Floating comparison (R41): truth and flags. -/
def fpCmp (f : Fmt) (r : Rel) (a b : Nat) : Bool × Arf :=
  let anyNaN := fpIsNaN f a || fpIsNaN f b
  let anyS := fpIsSNaN f a || fpIsSNaN f b
  if anyNaN then
    (decide (r = .ne) || decide (r = .un), flagIf (if relQuiet r then anyS else true) fNV)
  else (relHolds r (fvCmp (fpVal f a) (fpVal f b)), 0#7)

/-- minimumNumber (`max = false`) or maximumNumber (R42). -/
def fpMinMax (f : Fmt) (max : Bool) (a b : Nat) : Nat × Arf :=
  let nv := flagIf (fpIsSNaN f a || fpIsSNaN f b) fNV
  if fpIsNaN f a && fpIsNaN f b then (fpQuiet f a, nv)
  else if fpIsNaN f a then (b, nv)
  else if fpIsNaN f b then (a, nv)
  else
    let c := fvCmp (fpVal f a) (fpVal f b)
    let aLess := decide (c < 0) || (decide (c = 0) && fpSign f a && !fpSign f b)
    (if max then (if aLess then b else a) else (if aLess || decide (c = 0) && decide (a = b) then a else b), nv)

/-- Conversion between floating formats (R26, R44). -/
def fpConv (src dst : Fmt) (rm : Rm) (w : Nat) : Nat × Arf :=
  match fpVal src w with
  | .nan s q m =>
    let m' := if src.fw ≤ dst.fw then m * 2 ^ (dst.fw - src.fw) else m / 2 ^ (src.fw - dst.fw)
    (fpQuiet dst (fpPack dst s (fmtTop dst) m'), flagIf (!q) fNV)
  | .inf s => (fpInf dst s, 0#7)
  | .fin s m e => fpRound dst rm s m e

/-- A fixed-point value v × 2^(−k) to floating (R44). -/
def fixToFp (dst : Fmt) (rm : Rm) (k : Nat) (v : Int) : Nat × Arf :=
  fpRoundInt dst rm false v (-(k : Int))

/-- Floating to a w-bit fixed-point format with k fraction bits (R44): pattern and flags. -/
def fpToFix (src : Fmt) (rm : Rm) (w k : Nat) (x : Nat) : Nat × Arf :=
  match fpVal src x with
  | .nan _ _ _ => (0, fNV)
  | .inf s => (if s then 2 ^ (w - 1) else 2 ^ (w - 1) - 1, fNV)
  | .fin s m e =>
    let e' := e + k
    let r := if 0 ≤ e' then (m * 2 ^ e'.toNat, false) else roundMag rm s m (-e').toNat
    let v := sgn s r.1
    let t := satTo w v
    (toBits w t.1, if t.2 then fNV else flagIf r.2 fNX)

end Sys2Proof.Machine
end

