-- ==== Sys2Proof/Machine/VecDef.lean ====
section
/-! DEFINITION. Vector instructions: words, operand specifiers, captured descriptors, element addresses, ranges and the checks at
issue (R82 to R91, R97, R110 to R116, R124, R127 to R132). -/

namespace Sys2Proof.Machine

/-- A decoded vector instruction (Table VEC-4). -/
structure VI where
  op : Nat
  typ : Nat
  rnd : Nat
  sat : Bool
  conv : Bool
  planned : Bool
  res : Nat
  d : Nat
  a : Nat
  b : Nat
  c : Nat
  n : Nat
  mod : Nat
  deriving DecidableEq, Repr

/-- The fields of three instruction words (Table VEC-4). -/
def viDecode (w0 w1 w2 : Word) : VI :=
  let x := w0.toNat
  let y := w1.toNat
  let z := w2.toNat
  ⟨bits x 35 26, bits x 25 23, bits x 22 20, bit x 19, bit x 18, bit x 17, bits x 16 0,
    bits y 35 27, bits y 26 18, bits y 17 9, bits y 8 0, bits z 35 12, bits z 11 0⟩

/-- The three words of an operation code with its fields (Table VEC-4). -/
def viWords (op : Nat) (f : VFields) : Word × Word × Word :=
  (mkW (op * 2 ^ 26 + f.typ.toNat * 2 ^ 23 + f.rnd.toNat * 2 ^ 20 + b2n f.sat * 2 ^ 19 + b2n f.conv * 2 ^ 18
      + b2n f.planned * 2 ^ 17 + f.res.toNat),
   mkW (f.d.toNat * 2 ^ 27 + f.a.toNat * 2 ^ 18 + f.b.toNat * 2 ^ 9 + f.c.toNat),
   mkW (f.n.toNat * 2 ^ 12 + f.mod.toNat))

/-- An operand specifier (Table VEC-5). -/
inductive VOpd where
  | none
  | stream (n : Nat)
  | long (first cnt : Nat)
  | chain (n : Nat)
  | scal (k : Nat)
  | bad
  deriving DecidableEq, Repr

/-- Decode a 9-bit operand specifier (Table VEC-5). -/
def vOpd (x : Nat) : VOpd :=
  let lo := x % 64
  match x / 64 % 8 with
  | 0 => if lo = 0 then .none else .bad
  | 1 => if lo < 32 then .stream lo else .bad
  | 2 => if lo < 16 then .long lo 1 else .bad
  | 3 => if lo < 8 then .long (2 * lo) 2 else .bad
  | 4 => if lo < 4 then .long (4 * lo) 4 else .bad
  | 5 => if lo < 2 then .long (8 * lo) 8 else .bad
  | 6 => if lo < 4 then .chain lo else .bad
  | _ => if lo < 8 then .scal lo else .bad

/-- Capture stream descriptor n of pipe p (R82, Table VEC-1). -/
def vDesc (s : State) (p n : Nat) : SDesc :=
  let w (k : Nat) := rdN s (blkBase .vp p + 0x100 + 8 * n + k)
  let w2 := w 2
  ⟨w 0, sext 36 (w 1), bits w2 23 0, bits w2 26 24, bit w2 27, bits w2 32 28, bit w2 33, w 3, w 4⟩

/-- Capture an operand: a descriptor with its index stream's, a register group, a port, or a scalar's value (R82). `dbl`: the
operand is a double. -/
def vCap (s : State) (p : Nat) (dbl : Bool) : VOpd → VCap
  | .none => .none
  | .stream n => let d := vDesc s p n; .str d (vDesc s p d.idx)
  | .long f c => .long f c dbl
  | .chain n => .chain n
  | .scal k => .scal (rf s (R.vpK p k) + if dbl then rf s (R.vpK p (k + 1)) * 2 ^ 36 else 0)
  | .bad => .none

/-- Inner length of a TWO_D stream. -/
def sdInner (d : SDesc) : Nat := d.w3 % 2 ^ 24
/-- Address of element i of a LINEAR or TWO_D stream, or queue number of a QSNAP one (Table VEC-2). -/
def sdAddr (d : SDesc) (i : Nat) : Nat :=
  let st := d.stride
  let v : Int := if d.mode = 1 then
      (d.base : Int) + (i % sdInner d : Nat) * st + (i / sdInner d : Nat) * sext 36 d.w4
    else (d.base : Int) + i * st
  toBits 36 v

/-- Operand classes (Table VIN-1). -/
inductive VCls where
  | m | g | q | p | l | x | k
  deriving DecidableEq, Repr

/-- The class of a captured operand. -/
def vCls : VCap → Option VCls
  | .none => none
  | .str d _ => match d.mode with
    | 0 => some .m | 1 => some .m | 2 => some .g | 3 => some .q | 4 => some .p | _ => none
  | .long _ _ _ => some .l
  | .chain _ => some .x
  | .scal _ => some .k

/-- What an operation accepts (Tables VIN-3 to VIN-10): TYPE codes; whether it takes RND; the classes accepted in D, A, B, C. -/
structure VAcc where
  types : List Nat
  takesRnd : Bool
  d : List VCls
  a : List VCls
  b : List VCls
  c : List VCls
  deriving DecidableEq, Repr

/-- Kinds of operation. -/
inductive VKind where
  | elem | qget | red | row | fly | fence | nop
  deriving DecidableEq, Repr

def vKind (op : Nat) : VKind :=
  if op = 0x040 then .qget else if op = 0x041 ∨ op = 0x042 then .row else if op = 0x043 then .fly
  else if op = 0x3F0 then .fence else if op = 0 then .nop
  else if 0x030 ≤ op ∧ op ≤ 0x033 then .red else .elem

/-- Element-wise classes of Table VIN-1; a PRBS stream only under TYPE 0, 4 and 5. -/
def vSrcCls (typ : Nat) : List VCls :=
  if typ = 0 ∨ typ = 4 ∨ typ = 5 then [.m, .g, .p, .l, .x, .k] else [.m, .g, .l, .x, .k]
def vDstCls : List VCls := [.m, .g, .l, .x]
def vTriCls : List VCls := [.l, .x, .k]

/-- Acceptance of an operation under a TYPE and MOD; `none`: a reserved OP (R110). VBAND, VXCOR and VBFLY have no Options entry, which R88
asks for: the model takes them to have RND, under every TYPE, so a reserved code rejects them (log entry 35). -/
def vAcc (op typ mod : Nat) : Option VAcc :=
  let s := vSrcCls typ
  let d := vDstCls
  let one (ts : List Nat) (r : Bool) : Option VAcc := some ⟨ts, r, d, s, [], []⟩
  let two (ts : List Nat) (r : Bool) : Option VAcc := some ⟨ts, r, d, s, s, []⟩
  let tri (ts : List Nat) (r : Bool) : Option VAcc := some ⟨ts, r, d, s, s, vTriCls⟩
  let shf (ts : List Nat) : Option VAcc := some ⟨ts, false, d, s, if bit mod 6 then s else [], []⟩
  match op with
  | 0x001 => one [0, 1, 2, 3, 4, 5] false
  | 0x002 => two [0, 1, 2, 3, 4, 5] true
  | 0x003 => two [0, 1, 2, 3, 4, 5] true
  | 0x004 => one [0, 1, 2, 3, 4, 5] false
  | 0x005 => one [0, 1, 2, 3, 4, 5] false
  | 0x006 => two [0, 1, 2, 3, 4, 5] false
  | 0x007 => two [0, 1, 2, 3, 4, 5] false
  | 0x008 => two [4, 5] false
  | 0x009 => two [0] false
  | 0x00A => two [0] false
  | 0x00B => two [0] false
  | 0x00C => one [0] false
  | 0x00D => shf [0, 1, 2, 3]
  | 0x00E => shf [0, 1, 2, 3]
  | 0x00F => shf [0, 2]
  | 0x010 => two [0, 1, 2, 3, 4, 5] false
  | 0x011 => tri [0, 1, 2, 3, 4, 5] false
  | 0x012 => tri [0, 1, 4, 5] false
  | 0x013 => tri [1, 4, 5] true
  | 0x014 => some ⟨[0], false, [.m, .l, .x], [.k], [], []⟩
  | 0x020 => two [0, 1, 2, 3, 4, 5] true
  | 0x021 => two [0, 1] false
  | 0x022 => tri [4, 5] true
  | 0x023 => tri [0, 1] false
  | 0x024 => one [0, 1] false
  | 0x025 => one [0, 1, 2, 3, 4, 5] true
  | 0x028 => two [0, 1, 4, 5] true
  | 0x029 => two [0] false
  | 0x02A => one [4, 5] true
  | 0x030 => some ⟨[0, 1, 4, 5], true, [.m, .l], s, [], []⟩
  | 0x031 => some ⟨[0, 1, 4, 5], true, [.m, .l], s, s, []⟩
  | 0x032 => some ⟨[0, 1, 4, 5], false, [.m, .l], s, [], []⟩
  | 0x033 => some ⟨[0, 1, 4, 5], false, [.m, .l], s, [], []⟩
  | 0x040 => some ⟨[0, 1, 4], false, d, [.q], if mod % 4 = 1 then [.m, .l, .k] else [], []⟩
  | 0x041 => some ⟨[0, 1, 4], true, [.m, .l], [.m, .l], [.m, .l], [.k]⟩
  | 0x042 => some ⟨[1, 4], true, [.m, .l], [.m, .l], [.p], [.k]⟩
  | 0x043 => some ⟨[1, 4], true, [.m], [.m, .g], [.m, .g], [.l]⟩
  | _ => none

/-- The MOD bits and values an operation defines (Table VIN-2); `false`: a reserved bit or value. -/
def vModOk (op typ mod : Nat) : Bool :=
  match op with
  | 0x00D | 0x00E | 0x00F => decide (mod < 128) && (!bit mod 6 || decide (mod % 64 = 0))
  | 0x010 => decide (mod < 7) && (decide (mod ≠ 6) || decide (typ = 4) || decide (typ = 5))
  | 0x014 => decide (mod < 64) && decide (mod % 32 ≤ 24)
  | 0x025 => decide (mod < 64) && decide (mod % 8 ≤ 5) && (!bit mod 3 || decide (mod % 8 = 4) || decide (mod % 8 = 5))
      && (!bit mod 4 || decide (typ = 4) || decide (typ = 5))
  | 0x030 | 0x031 => decide (mod < 16) && (decide (typ < 4) || decide (mod = 0))
  | 0x032 | 0x033 => decide (mod < 4) && (decide (typ ≠ 5) || !bit mod 0)
  | 0x040 => decide (mod < 12)
  | 0x041 => decide (mod < 128) && decide (mod ≠ 0)
  | 0x042 => decide (mod % 256 < 128) && (decide (typ = 1) || decide (bits mod 11 8 = 0))
  | 0x043 => decide (mod % 32 ≤ 22)
  | _ => decide (mod = 0)

/-- Width an operand must have: `some true` a double, `some false` a word, `none` either (R112, R120, R124, R127). -/
def vDbl (op typ mod : Nat) (pos : Nat) : Option Bool :=
  let t5 := decide (typ = 5)
  match op, pos with
  | 0x010, 0 => some false
  | 0x011, 1 => some false
  | 0x021, 0 => some true
  | 0x023, 0 => some true
  | 0x023, 3 => some true
  | 0x024, 1 => some true
  | 0x025, 1 => some (decide (mod % 8 = 5))
  | 0x029, 0 => some true
  | 0x030, 0 => if typ < 4 then none else some t5
  | 0x031, 0 => if typ < 4 then none else some t5
  | 0x032, 0 => some (t5 || bit mod 0)
  | 0x033, 0 => some (t5 || bit mod 0)
  | 0x040, 0 => some (decide (mod / 4 % 4 ≠ 0))
  | 0x041, 0 => if typ = 4 then some false else none
  | 0x042, 0 => if typ = 4 then some false else none
  | 0x043, _ => some true
  | _, _ => some t5

/-- VFMA, VMACD, VIDX and the rest: the per-group rate r (Table ARI-10, R111). -/
def vRate (op typ mod : Nat) : Nat :=
  if op = 0x028 then (if typ < 2 then 12 else if typ = 4 then 10 else 18)
  else if op = 0x029 then 12
  else if op = 0x02A then (if typ = 4 then 10 else 18)
  else if op = 0x043 then 4
  else if typ = 5 ∨ (op = 0x025 ∧ mod % 8 = 5) then 4 else 1

/-- Rows of a row instruction: width W, and the row count (R127, R128); `c` is the captured C scalar. -/
def vRowW (op mod c : Nat) : Nat := if op = 0x041 then mod % 128 else c % 2 ^ 24
def vRowCount (op n mod c : Nat) : Nat :=
  if op = 0x041 then n / vRowW op mod c else mod % 64 + 1 + b2n (bit mod 6)

/-- Elements a long register group holds (Table VEC-3). -/
def longCap (cnt : Nat) (dbl : Bool) : Nat := if dbl then cnt * 64 else cnt * 128

/-- Lowest and highest address of elements lo to hi of a LINEAR or TWO_D stream (R97), as unwrapped integers. -/
def sdSpanR (d : SDesc) (lo hi : Nat) : Int × Int :=
  let w := sdInner d
  let at_ (i : Nat) : Int := if d.mode = 1 then
      (d.base : Int) + (i % w : Nat) * d.stride + (i / w : Nat) * sext 36 d.w4
    else (d.base : Int) + i * d.stride
  let cands := if d.mode = 1 then
      let whole := [(lo / w + 1) * w, (lo / w + 1) * w + w - 1, hi / w * w - w, hi / w * w - 1]
      [lo, min hi (lo / w * w + w - 1), max lo (hi / w * w), hi] ++ (if lo / w + 1 < hi / w then whole else [])
    else [lo, hi]
  let vs := cands.map at_
  (vs.foldl min (at_ lo), vs.foldl max (at_ lo) + (if d.dbl then 1 else 0))
/-- The same of the first n elements. -/
def sdSpan (d : SDesc) (n : Nat) : Int × Int := sdSpanR d 0 (n - 1)

/-- Base of long-register positions in the range space (beyond every address). -/
def longBase : Int := 2 ^ 40

/-- Capacity of the B operand of VBAND (R127). -/
def bandCap : VCap → Nat
  | .str d _ => d.len
  | .long _ c dbl => longCap c dbl
  | _ => 0
/-- Element of B that VBAND's term k of row ρ names (R127). -/
def bandE (cs row k : Nat) : Int := (row * (cs % 2 ^ 18) + k : Nat) - sext 18 (cs / 2 ^ 18)
/-- Elements an operand carries (R85). -/
def vCarried (v : VI) (pos c : Nat) : Nat :=
  if pos ≠ 0 then v.n else
  match vKind v.op with
  | .red => min v.n 1
  | .row => vRowCount v.op v.n v.mod c
  | _ => v.n
/-- The elements of an operand that an instruction accesses, as first and last (R97): of B of VBAND those of its unclipped terms (R127), of
A of VXCOR those of one row (R128). -/
def vSpanEls (v : VI) (pos cs : Nat) (c : VCap) : Option (Nat × Nat) :=
  let n := vCarried v pos cs
  if n = 0 then none
  else if v.op = 0x041 ∧ pos = 2 then
    let rows := v.n / vRowW v.op v.mod cs
    let lo := max 0 (bandE cs 0 0)
    let hi := min ((bandCap c : Int) - 1) (bandE cs (rows - 1) (vRowW v.op v.mod cs - 1))
    if lo ≤ hi then some (lo.toNat, hi.toNat) else none
  else if v.op = 0x042 ∧ pos = 1 then some (0, vRowW v.op v.mod cs - 1)
  else some (0, n - 1)
/-- The ranges of an operand (R97): memory addresses, and long registers placed beyond them. `sm`: Stream Memory words; `lvt`, `q`: the
Latest Value Table area. The destination of VBFLY reaches to its highest bottom output (R130). An index stream is read in words
whatever its DBL holds (log entry 35). -/
def vRanges (sm lvt q : Nat) (v : VI) (pos cs : Nat) (c : VCap) : List (Int × Int) :=
  match c with
  | .none => []
  | .str d ix =>
    match vSpanEls v pos cs c with
    | none => []
    | some (lo, hi) =>
      let ixr := sdSpanR { ix with dbl := false } lo hi
      match d.mode with
      | 2 => [ixr, (0, (sm : Int) - 1)]
      | 3 => ((lvt : Int), (lvt : Int) + 2 * q - 1) :: (if d.idxq then [ixr] else [])
      | 4 => []
      | _ =>
        let r := sdSpanR d lo hi
        [if v.op = 0x043 ∧ pos = 0 then (r.1, r.2 + 2 ^ (v.mod % 32 + 1)) else r]
  | .long f c _ => [(longBase + f * 128, longBase + (f + c) * 128 - 1)]
  | .chain _ => []
  | .scal _ => []

/-- Whether two lists of ranges overlap. -/
def rangesOverlap (xs ys : List (Int × Int)) : Bool :=
  xs.any (fun x => ys.any (fun y => decide (x.1 ≤ y.2) && decide (y.1 ≤ x.2)))

/-- Whether an index stream is a usable one (R91). Its DBL is not looked at: R112 gives the width of operands, and an index stream is
none (log entry 35). -/
def ixOk (ix : SDesc) : Bool := decide (ix.mode < 2) && (decide (ix.mode = 0) || decide (sdInner ix ≠ 0))

/-- A captured descriptor's own checks (R91). -/
def capOk (s : State) : VCap → Bool
  | .str d ix => match d.mode with
    | 0 => true
    | 1 => decide (sdInner d ≠ 0)
    | 2 => ixOk ix
    | 3 => !d.idxq || ixOk ix
    | 4 => rb s (R.idnVALID (d.w3 % 2 ^ 12))
    | _ => false
  | _ => true

/-- Whether a captured operand has the width the operation requires (R91, R112). -/
def capDblOk (want : Option Bool) : VCap → Bool
  | .str d _ => match d.mode with
    | 3 => !d.dbl
    | 4 => true
    | _ => match want with | some b => decide (d.dbl = b) | none => true
  | _ => true

/-- Everything captured at start-up (R82). -/
def vCaps (s : State) (p : Nat) (v : VI) : VCaps :=
  let g (pos x : Nat) := vCap s p ((vDbl v.op v.typ v.mod pos).getD false) (vOpd x)
  ⟨g 0 v.d, g 1 v.a, g 2 v.b, g 3 v.c⟩

/-- Value of a captured scalar, 0 otherwise. -/
def capScal : VCap → Nat
  | .scal v => v
  | _ => 0

/-- Capacity of a long-register operand against the elements it carries (R85, R91; B of VBAND is clipped instead, R127; C of VBFLY
has its own rule, R130). -/
def capSizeOk (v : VI) (pos c : Nat) : VCap → Bool
  | .long _ n dbl =>
    if (v.op = 0x041 ∧ pos = 2) ∨ (v.op = 0x043 ∧ pos = 3) then true
    else decide (vCarried v pos c ≤ longCap n dbl)
  | _ => true

/-- Whether a scalar specifier may carry a double (R85). -/
def scalOk (dbl : Bool) : VOpd → Bool
  | .scal k => !dbl || decide (k % 2 = 0)
  | _ => true

/-- The chain ports named. -/
def vChains (c : VCaps) : List Nat :=
  let f : VCap → List Nat | .chain n => [n] | _ => []
  f c.d ++ f c.a ++ f c.b ++ f c.c

/-- An operand position: acceptable class, or None where the operation does not read it (R91, R116). VIDX alone may leave its A
unnamed (R119). -/
def posOk (op pos : Nat) (cl : List VCls) (o : VOpd) (c : VCap) : Bool :=
  match o with
  | .bad => false
  | .none => cl.isEmpty || (decide (op = 0x014) && decide (pos = 1))
  | _ => match vCls c with
    | some k => cl.contains k
    | none => false

/-- Row shape of VBAND and VXCOR (R127, R128). -/
def rowOk (v : VI) (c : Nat) : Bool :=
  match v.op with
  | 0x041 => decide (v.n % vRowW v.op v.mod c = 0)
  | 0x042 => decide (1 ≤ vRowW v.op v.mod c) && decide (vRowCount v.op v.n v.mod c * vRowW v.op v.mod c = v.n)
  | _ => true

/-- The twiddle table of VBFLY is large enough (R130). -/
def flyOk (v : VI) (c : VCaps) : Bool :=
  if v.op ≠ 0x043 then true else
  match c.c with
  | .long _ n _ => decide ((min v.n (2 ^ (v.mod % 32)) - 1) * 2 ^ (v.mod / 32 % 32) < longCap n true)
  | _ => false

/-- Whether the three words pass the checks at issue (R90, R91, R110, R115, R132). -/
def vLegal (s : State) (p : Nat) (w0 w1 w2 : Word) : Bool :=
  let v := viDecode w0 w1 w2
  if w0 = 0#36 ∧ w1 = 0#36 ∧ w2 = 0#36 then true
  else if v.op = 0x3F0 then
    decide (bits w0.toNat 25 0 = 0) && decide (w1 = 0#36) && decide (v.n = 0) && decide (v.mod < 2 ^ s.cfg.part.pipes)
  else
    match vAcc v.op v.typ v.mod with
    | none => false
    | some acc =>
      let c := vCaps s p v
      let cs := capScal c.c
      let lvt := rf s R.smLVT_BASE * 256
      let rg (x : VCap) (pos : Nat) := vRanges s.cfg.part.streamWords lvt s.cfg.part.queues v pos cs x
      decide (v.res = 0) && acc.types.contains v.typ && (!acc.takesRnd || (rmOf v.rnd 0).isSome) && vModOk v.op v.typ v.mod
      && posOk v.op 0 acc.d (vOpd v.d) c.d && posOk v.op 1 acc.a (vOpd v.a) c.a
      && posOk v.op 2 acc.b (vOpd v.b) c.b && posOk v.op 3 acc.c (vOpd v.c) c.c
      && capOk s c.d && capOk s c.a && capOk s c.b && capOk s c.c
      && capDblOk (vDbl v.op v.typ v.mod 0) c.d && capDblOk (vDbl v.op v.typ v.mod 1) c.a
      && capDblOk (vDbl v.op v.typ v.mod 2) c.b && capDblOk (vDbl v.op v.typ v.mod 3) c.c
      && scalOk ((vDbl v.op v.typ v.mod 1).getD false) (vOpd v.a) && scalOk ((vDbl v.op v.typ v.mod 2).getD false) (vOpd v.b)
      && scalOk ((vDbl v.op v.typ v.mod 3).getD false) (vOpd v.c)
      && rowOk v cs && capSizeOk v 0 cs c.d && capSizeOk v 1 cs c.a && capSizeOk v 2 cs c.b && capSizeOk v 3 cs c.c
      && decide ((vChains c).Nodup) && flyOk v c
      && (match vKind v.op with
          | .red => !rangesOverlap (rg c.d 0) (rg c.a 1 ++ rg c.b 2 ++ rg c.c 3)
          | .row => !rangesOverlap (rg c.d 0) (rg c.a 1 ++ rg c.b 2 ++ rg c.c 3)
          | _ => true)

end Sys2Proof.Machine
end

