-- ==== Sys2Proof/Machine/VecLane.lean ====
section
/-! DEFINITION. What a vector lane computes for one element, what a reduction group and a row fold to, and a butterfly (R116 to
R131). Elements are natural-number patterns: 36 bits for a word, 72 for a double. -/

namespace Sys2Proof.Machine

/-- Rounding in force for an instruction; a reserved code never reaches a lane. -/
def viRm (v : VI) (drm : Nat) : Rm := (rmOf v.rnd drm).getD .near

/-- Apply a lane function to each half independently (R14): flags combine. -/
def perHalf (f : Nat → Nat → Nat → Nat × Arf) (a b c : Nat) : Nat × Arf :=
  let h := f (a / 2 ^ 18 % 2 ^ 18) (b / 2 ^ 18 % 2 ^ 18) (c / 2 ^ 18 % 2 ^ 18)
  let l := f (a % 2 ^ 18) (b % 2 ^ 18) (c % 2 ^ 18)
  (h.1 * 2 ^ 18 + l.1, h.2 ||| l.2)

/-- Dispatch by TYPE: fixed-point words, halves, or floating elements. -/
def byType (typ : Nat) (fx : Nat → Nat → Nat → Nat → Nat × Arf) (fp : Fmt → Nat → Nat → Nat → Nat × Arf) (a b c : Nat) :
    Nat × Arf :=
  if typ < 2 then fx 36 a b c
  else if typ < 4 then perHalf (fx 18) a b c
  else if typ = 4 then fp fF36 a b c
  else fp fF72 a b c

/-- A result with no flag. -/
def noFl (n : Nat) : Nat × Arf := (n, 0#7)

/-- The comparison COND codes (Table VIN-2). -/
def relOf (n : Nat) : Rel :=
  match n with
  | 0 => .eq | 1 => .ne | 2 => .lt | 3 => .le | 4 => .gt | 5 => .ge | _ => .un

def vMin (max : Bool) (typ a b : Nat) : Nat × Arf :=
  byType typ (fun w a b _ => noFl (if (if max then sext w a < sext w b else sext w b < sext w a) then b else a))
    (fun f a b _ => fpMinMax f max a b) a b 0

/-- VLERP for floating types (R118). -/
def fpLerp (f : Fmt) (rm : Rm) (a b c : Nat) : Nat × Arf :=
  match fpNaNs f [a, b, c] with
  | some r => r
  | none =>
    let t := fpSub f rm b a
    if fpIsNaN f t.1 then (fpDefNaN f, fNV)
    else
      let r := fpFma f rm false c t.1 a
      (r.1, t.2 ||| r.2)

/-- A format of a VCVT side (R120): floating, or fixed with a width and fraction bits. -/
inductive CvtFmt where
  | flt (f : Fmt)
  | fix (w frac : Nat)
  deriving DecidableEq, Repr

def cvtFmt (typ : Nat) (ieee : Bool) : CvtFmt :=
  match typ with
  | 0 => .fix 36 0 | 1 => .fix 36 35 | 2 => .fix 18 0 | 3 => .fix 18 17
  | 4 => .flt (if ieee then fB32 else fF36)
  | _ => .flt (if ieee then fB64 else fF72)

/-- Number of bits a format occupies. -/
def cvtBits : CvtFmt → Nat
  | .flt f => f.ew + f.fw + 1
  | .fix w _ => w

/-- One conversion between two formats (R44, R120). -/
def cvtVal (src dst : CvtFmt) (conv : Bool) (rm : Rm) (x : Nat) : Nat × Arf :=
  if src = dst then noFl x else
  match src, dst with
  | .fix w1 k1, .fix w2 k2 =>
    let v := sext w1 x
    if k2 < k1 then roundSat conv w2 (k1 - k2) v else satOrWrap w2 true (v * 2 ^ (k2 - k1))
  | .fix w1 k1, .flt f => fixToFp f rm k1 (sext w1 x)
  | .flt f, .fix w2 k2 => fpToFix f rm w2 k2 x
  | .flt f, .flt g => fpConv f g rm x

/-- A whole VCVT or CVT element: half selection of TYPE 2 and 3 sides, unused bits ignored or zero (R120). -/
def cvtElem (st dt : Nat) (si di hsel conv : Bool) (rm : Rm) (a : Nat) : Nat × Arf :=
  let sf := cvtFmt st si
  let df := cvtFmt dt di
  let x := if st = 2 ∨ st = 3 then (if hsel then a / 2 ^ 18 else a) % 2 ^ 18 else a % 2 ^ cvtBits sf
  let r := cvtVal sf df conv rm x
  (if (dt = 2 ∨ dt = 3) ∧ hsel then r.1 * 2 ^ 18 else r.1, r.2)

/-- Shift count of VSHL, VSHRA, VSHRL for an element of width w (Table VIN-2). -/
def shCount (v : VI) (w b : Nat) : Nat := min (if bit v.mod 6 then b % 64 else v.mod % 64) w

/-- Index of VIDX (R119). -/
def vidx (mod i : Nat) : Nat :=
  let m := mod % 32
  let lo := i % 2 ^ m
  (i - lo) + if bit mod 5 then revBits m lo else lo

/-- One element of an element-wise operation (Table VIN-3, R116 to R120). -/
def vLane (v : VI) (rm : Rm) (i a b c : Nat) : Nat × Arf :=
  let t := v.typ
  match v.op with
  | 0x001 => noFl a
  | 0x002 => byType t (fun w a b _ => satOrWrap w v.sat (sext w a + sext w b)) (fun f a b _ => fpAdd f rm a b) a b 0
  | 0x003 => byType t (fun w a b _ => satOrWrap w v.sat (sext w a - sext w b)) (fun f a b _ => fpSub f rm a b) a b 0
  | 0x004 => byType t (fun w a _ _ => satOrWrap w v.sat (-(sext w a))) (fun f a _ _ => noFl (fpNeg f a)) a 0 0
  | 0x005 => byType t (fun w a _ _ => satOrWrap w v.sat (sext w a).natAbs) (fun f a _ _ => noFl (fpAbs f a)) a 0 0
  | 0x006 => vMin false t a b
  | 0x007 => vMin true t a b
  | 0x008 => byType t (fun _ a _ _ => noFl a) (fun f a b _ => noFl (fpWithSign f (fpSign f b) a)) a b 0
  | 0x009 => noFl (a &&& b)
  | 0x00A => noFl (a ||| b)
  | 0x00B => noFl (a ^^^ b)
  | 0x00C => noFl (2 ^ 36 - 1 - a)
  | 0x00D => byType t (fun w a b _ => satOrWrap w v.sat (sext w a * 2 ^ shCount v w b)) (fun _ a _ _ => noFl a) a b 0
  | 0x00E => byType t (fun w a b _ => noFl (toBits w (dropBits v.conv (sext w a) (shCount v w b)))) (fun _ a _ _ => noFl a) a b 0
  | 0x00F => byType t (fun w a b _ => noFl (a / 2 ^ shCount v w b)) (fun _ a _ _ => noFl a) a b 0
  | 0x010 =>
    let r := relOf (v.mod % 8)
    byType t (fun w a b _ => noFl (if relHolds r (sext w a - sext w b) then 2 ^ w - 1 else 0))
      (fun f a b _ => let q := fpCmp f r a b; (if q.1 then 2 ^ 36 - 1 else 0, q.2)) a b 0
  | 0x011 => byType t (fun _ a b c => noFl (if a ≠ 0 then b else c)) (fun _ a b c => noFl (if a ≠ 0 then b else c)) a b c
  | 0x012 =>
    let m := vMin true t a b
    let r := vMin false t m.1 c
    (r.1, m.2 ||| r.2)
  | 0x013 =>
    byType t (fun w a b c => roundSat v.conv w 35 (sext w a * 2 ^ 35 + sext w c * (sext w b - sext w a)))
      (fun f a b c => fpLerp f rm a b c) a b c
  | 0x014 => noFl ((a + vidx v.mod i) % 2 ^ 36)
  | 0x020 =>
    byType t (fun w a b _ =>
        if t = 1 ∨ t = 3 then roundSat v.conv w (w - 1) (sext w a * sext w b) else satOrWrap w v.sat (sext w a * sext w b))
      (fun f a b _ => fpMul f rm a b) a b 0
  | 0x021 => noFl (toBits 72 (sext 36 a * sext 36 b))
  | 0x022 => byType t (fun _ a _ _ => noFl a) (fun f a b c => fpFma f rm false a b c) a b c
  | 0x023 => let r := accAdd 72 c (sext 36 a * sext 36 b); (r.1, r.2)
  | 0x024 => if t = 0 then satOrWrap 36 true (sext 72 a) else roundSat v.conv 36 35 (sext 72 a)
  | 0x025 => cvtElem (v.mod % 8) t (bit v.mod 3) (bit v.mod 4) (bit v.mod 5) v.conv rm a
  | 0x028 =>
    if t = 0 then let r := idiv36 (sext 36 a) (sext 36 b); (toBits 36 r.1, r.2.2)
    else if t = 1 then let r := qdiv35 (sext 36 a) (sext 36 b); (toBits 36 r.1, r.2)
    else byType t (fun _ a _ _ => noFl a) (fun f a b _ => fpDiv f rm a b) a b 0
  | 0x029 =>
    let r := idiv36 (sext 36 a) (sext 36 b)
    (toBits 36 r.1 + toBits 36 r.2.1 * 2 ^ 36, r.2.2)
  | 0x02A => byType t (fun _ a _ _ => noFl a) (fun f a _ _ => fpSqrt f rm a) a 0 0
  | _ => noFl 0

/-- What VQGET delivers for a slot (v, t), or a stale fault (R122, R123). `never`: the slot has not been written since cold reset (R226). -/
def vqget (mod age ref v t sub : Nat) (never : Bool) : Option Nat :=
  let ag := tagDiff ref t
  let stale := decide (age ≠ 0) && (never || decide (age < ag))
  let val := if stale then (match mod % 4 with | 0 => some v | 1 => some sub | 2 => some 0 | _ => none) else some v
  match val with
  | none => none
  | some x => match mod / 4 % 4 with
    | 0 => some x
    | 1 => some (x + t * 2 ^ 36)
    | _ => some (x + (min ag (2 ^ 35 - 1) + b2n stale * 2 ^ 35) * 2 ^ 36)

/-! ### Reductions (R124 to R126) -/

/-- A tree level: adjacent pairs combined; a node with a single operand passes it through (R125). -/
def treePairs (f : Nat × Arf → Nat × Arf → Nat × Arf) : List (Option (Nat × Arf)) → List (Option (Nat × Arf))
  | some x :: some y :: r => some (f x y) :: treePairs f r
  | x :: y :: r => x.or y :: treePairs f r
  | l => l

/-- Four levels of pairing over 16 lanes. -/
def treeFold (f : Nat × Arf → Nat × Arf → Nat × Arf) (l : List (Option (Nat × Arf))) : Option (Nat × Arf) :=
  (treePairs f (treePairs f (treePairs f (treePairs f l)))).head?.join

/-- One fixed-point term of VRSUM or VRDOT after its pre-shift (R124). -/
def redTerm (dot : Bool) (sh a b : Nat) : Int := (if dot then sext 36 a * sext 36 b else sext 36 a) / (2 ^ sh : Int)

/-- The value of a group (elements as index, a, b): the tree over lanes 0 to 15, a lane without an element dropping out (R125). -/
def redGroupFp (f : Fmt) (rm : Rm) (dot : Bool) (els : List (Nat × Nat × Nat)) : Option (Nat × Arf) :=
  treeFold (fun x y => let r := fpAdd f rm x.1 y.1; (r.1, x.2 ||| y.2 ||| r.2))
    ((List.range 16).map fun l => (els.find? fun e => decide (e.1 % 16 = l)).map fun e =>
      if dot then fpMul f rm e.2.1 e.2.2 else noFl e.2.1)

/-- Whether a candidate (value x) replaces the best so far (value m) in VRMIN or VRMAX, elements in ascending index (R126). -/
def redBetter (max abs : Bool) (typ m x : Nat) : Bool :=
  if typ < 2 then
    let key (n : Nat) : Int := if abs then (sext 36 n).natAbs else sext 36 n
    if max then decide (key m < key x) else decide (key x < key m)
  else
    let f := if typ = 4 then fF36 else fF72
    if fpIsNaN f x then false
    else if fpIsNaN f m then true
    else
      let m' := if abs then fpAbs f m else m
      let x' := if abs then fpAbs f x else x
      let c := fvCmp (fpVal f x') (fpVal f m')
      let zlt (p q : Nat) : Bool := decide (c = 0) && fpSign f p && !fpSign f q
      if max then decide (0 < c) || zlt m' x' else decide (c < 0) || zlt x' m'

/-- Fold one group (elements as index, a, b) into a reduction's partial; `none`: no element yet. The partial is a value with, for
VRMIN and VRMAX, the index in bits 59:36 of a 72-bit image (Table VIN-6). -/
def redGroup (v : VI) (rm : Rm) (part : Option Nat) (els : List (Nat × Nat × Nat)) : Option Nat × Arf :=
  match v.op with
  | 0x030 | 0x031 =>
    let dot := decide (v.op = 0x031)
    if v.typ < 2 then
      let r := accAdd 72 (part.getD 0) (els.foldl (fun t e => t + redTerm dot (v.mod % 16) e.2.1 e.2.2) 0)
      (some r.1, r.2)
    else
      let f := if v.typ = 4 then fF36 else fF72
      match redGroupFp f rm dot els with
      | none => (part, 0#7)
      | some g => match part with
        | none => (some g.1, g.2)
        | some q => let r := fpAdd f rm q g.1; (some r.1, g.2 ||| r.2)
  | _ =>
    let max := decide (v.op = 0x033)
    let f := if v.typ = 4 then fF36 else fF72
    let nv := flagIf (decide (4 ≤ v.typ) && els.any (fun e => fpIsSNaN f e.2.1)) fNV
    let wide := decide (v.typ = 5)
    let val (n : Nat) := if wide then n else n % 2 ^ 36
    let img (e : Nat × Nat × Nat) := if wide then e.2.1 else e.2.1 + e.1 * 2 ^ 36
    (els.foldl (fun acc e => match acc with
      | none => some (img e)
      | some m => if redBetter max (bit v.mod 1) v.typ (val m) e.2.1 then some (img e) else some m) part, nv)

/-- The value a reduction writes to D from its partial (Table VIN-6). `dbl`: D is a double. -/
def redResult (v : VI) (dbl : Bool) (p : Nat) : Nat × Arf :=
  match v.op with
  | 0x030 => if 4 ≤ v.typ ∨ dbl then noFl p else satOrWrap 36 true (sext 72 p)
  | 0x031 =>
    if 4 ≤ v.typ ∨ dbl then noFl p
    else if v.typ = 0 then satOrWrap 36 true (sext 72 p) else roundSat v.conv 36 35 (sext 72 p)
  | _ =>
    let f := if v.typ = 4 then fF36 else fF72
    let val := if v.typ = 5 then p else p % 2 ^ 36
    let val' := if 4 ≤ v.typ ∧ fpIsNaN f val then fpQuiet f val else val
    noFl (if v.typ = 5 then val' else if dbl then val' + p / 2 ^ 36 * 2 ^ 36 else val')

/-! ### Rows (R127, R128) -/

/-- Accumulate one term into a row: exact in the 80-bit lane accumulator, or one fused multiply-add. `b` as an element value. -/
def rowAcc (v : VI) (rm : Rm) (acc a b : Nat) : Nat × Arf :=
  if v.typ = 4 then fpFma fF36 rm false a b acc else accAdd 80 acc (sext 36 a * sext 36 b)
/-- A correlation term A × chip: at TYPE 1 ±A at Q70 scale (R113). -/
def rowChip (v : VI) (rm : Rm) (acc a : Nat) (plus : Bool) : Nat × Arf :=
  if v.typ = 4 then fpFma fF36 rm false a (if plus then 0x3F8000000 else 0xBF8000000) acc
  else accAdd 80 acc ((if plus then sext 36 a else -(sext 36 a)) * 2 ^ 35)
/-- The value a row writes to D (R127, R128). -/
def rowResult (v : VI) (dbl : Bool) (acc : Nat) : Nat × Arf :=
  if v.typ = 4 then noFl acc else
  let x : Int := sext 80 acc
  let sh := if v.op = 0x042 then bits v.mod 11 8 else 0
  if dbl then
    let y := dropBits v.conv x sh
    (toBits 72 y, flagIf (decide (y < -(2 ^ 71)) || decide (2 ^ 71 ≤ y)) fAOV)
  else if v.typ = 0 then satOrWrap 36 true x
  else roundSat v.conv 36 (35 + sh) x

/-! ### Butterflies (R130, R131) -/

/-- Correctly rounded sum of exact values given as (value, exponent) pairs. -/
def exactRound (f : Fmt) (rm : Rm) (zs : Bool) (ts : List (Int × Int)) : Nat × Arf :=
  let e := ts.foldl (fun m t => if t.2 < m then t.2 else m) 0
  fpRoundInt f rm zs (ts.foldl (fun s t => s + t.1 * 2 ^ (t.2 - e).toNat) 0) e

/-- x·y ± z·u as one correctly rounded value with the special cases of R39 (F36). -/
def fpTwoProd (rm : Rm) (neg : Bool) (x y z u : Nat) : Nat × Arf :=
  match fpNaNs fF36 [x, y, z, u] with
  | some r => r
  | none =>
    match fvMul (fpVal fF36 x) (fpVal fF36 y), fvMul (fpVal fF36 z) (fpVal fF36 u) with
    | some p, some q => fvAdd fF36 rm p (if neg then fvNeg q else q)
    | _, _ => (fpDefNaN fF36, fNV)

/-- A ± t scaled by 1/2 before rounding when `h` (R131, F36). -/
def fpAddHalf (rm : Rm) (h neg : Bool) (a t : Nat) : Nat × Arf :=
  match fpNaNs fF36 [a, t] with
  | some r => r
  | none =>
    let half : FV → FV | .fin s m e => .fin s m (e - 1) | x => x
    let g (x : FV) := if h then half x else x
    fvAdd fF36 rm (g (fpVal fF36 a)) (g (if neg then fvNeg (fpVal fF36 t) else fpVal fF36 t))

/-- Complex halves of a double: real at the lower address (R130). -/
def cRe (x : Nat) : Nat := x % 2 ^ 36
def cIm (x : Nat) : Nat := x / 2 ^ 36 % 2 ^ 36

/-- The top and bottom outputs of a butterfly and its flags (R130, R131). -/
def vFly (v : VI) (rm : Rm) (a b w : Nat) : (Nat × Nat) × Arf :=
  let inv := bit v.mod 10
  let h := bit v.mod 11
  if v.typ = 4 then
    let wi := if inv then fpNeg fF36 (cIm w) else cIm w
    let tr := fpTwoProd rm true (cRe w) (cRe b) wi (cIm b)
    let ti := fpTwoProd rm false (cRe w) (cIm b) wi (cRe b)
    let p := fpAddHalf rm h false (cRe a) tr.1
    let q := fpAddHalf rm h false (cIm a) ti.1
    let r := fpAddHalf rm h true (cRe a) tr.1
    let u := fpAddHalf rm h true (cIm a) ti.1
    ((p.1 + q.1 * 2 ^ 36, r.1 + u.1 * 2 ^ 36), tr.2 ||| ti.2 ||| p.2 ||| q.2 ||| r.2 ||| u.2)
  else
    let wr := sext 36 (cRe w)
    let wi := if inv then -(sext 36 (cIm w)) else sext 36 (cIm w)
    let br := sext 36 (cRe b)
    let bi := sext 36 (cIm b)
    let tr := wr * br - wi * bi
    let ti := wr * bi + wi * br
    let k := if h then 36 else 35
    let o (x : Nat) (t : Int) := roundSat v.conv 36 k (sext 36 x * 2 ^ 35 + t)
    let p := o (cRe a) tr
    let q := o (cIm a) ti
    let r := o (cRe a) (-tr)
    let u := o (cIm a) (-ti)
    ((p.1 + q.1 * 2 ^ 36, r.1 + u.1 * 2 ^ 36), p.2 ||| q.2 ||| r.2 ||| u.2)

end Sys2Proof.Machine
end

