-- ==== Sys2Proof/Machine/ClusterOps.lean ====
section
/-! DEFINITION. The operations of a signal cluster: for each, which encodings are legal and what it does in its issue cycle
(Tables COP-1 to COP-6, R163 to R180). -/

namespace Sys2Proof.Machine

/-- What an operation sees at issue: the state, its cluster, cycle and slot, and BODY (Table CLU-2). -/
structure ClIn where
  s : State
  n : Nat
  cyc : Nat
  slot : Nat
  body : Nat

/-- What an operation asks of the sequencer. -/
inductive ClCtl where
  | none
  | br (target : Nat)
  | halt
  | loop (count fin : Nat) (rot : Bool)
  deriving DecidableEq, Repr

/-- A result of an operation: destination, value, flags, latency, and whether it is a load that met an uncorrectable error. -/
structure ClRes where
  dst : ClDst
  val : Nat
  fl : Arf
  lat : Nat
  ue : Bool
  deriving DecidableEq, Repr

/-- Everything an operation does: results, stores, sub-banks it accesses, sequencing, cycles it occupies the divider, words it read
with a corrected error. -/
structure ClOut where
  res : List ClRes := []
  st : List (Nat × ClPut) := []
  touch : List (Bool × Nat) := []
  ctl : ClCtl := .none
  div : Nat := 0
  ce : List Nat := []
  deriving DecidableEq, Repr

/-- The effect of an operation, or the cause it faults with (Table CLU-9). -/
inductive ClEff where
  | ok (o : ClOut)
  | bad (cause : Nat)
  deriving DecidableEq, Repr

/-! ### Fields (Table COP-1) -/

def ClIn.f (x : ClIn) (hi lo : Nat) : Nat := bits x.body hi lo
def ClIn.dst (x : ClIn) : Nat := x.f 21 16
def ClIn.srca (x : ClIn) : Nat := x.f 15 10
def ClIn.srcb (x : ClIn) : Nat := x.f 9 4
def ClIn.opt (x : ClIn) (i : Nat) : Bool := bit x.body i
/-- The rounding an RND value selects under the cluster's DRM (R165). -/
def ClIn.rm (x : ClIn) (rnd : Nat) : Option Rm := rmOf rnd (rf x.s (R.scDRM x.n))

/-! ### Registers -/

/-- Physical number of a logical data register under a Carousel position (R138). -/
def physD (cpos r : Nat) : Nat := if r < 32 then r else 32 + (r - 32 + cpos) % 32
def ClIn.phys (x : ClIn) (r : Nat) : Nat := physD (rf x.s (R.scCPOS x.n)) r
/-- A data register's value at issue. -/
def ClIn.d (x : ClIn) (r : Nat) : Nat := rf x.s (R.scD x.n (x.phys r))
/-- A double operand named by its even register (R15, R164). -/
def ClIn.dd (x : ClIn) (r : Nat) : Nat := x.d r + x.d (r + 1) * 2 ^ 36
def ClIn.a (x : ClIn) : Nat := x.d x.srca
def ClIn.b (x : ClIn) : Nat := x.d x.srcb
/-- The 80 bits of accumulator k, from its save image (R17). -/
def acRead (s : State) (n k : Nat) : Nat :=
  rf s (R.scAC n (3 * k)) + rf s (R.scAC n (3 * k + 1)) * 2 ^ 36 + rf s (R.scAC n (3 * k + 2)) % 256 * 2 ^ 72
/-- Write accumulator k: its save image repeats bit 79 in bits 35:8 of word 2 (R17). -/
def acWrite (s : State) (n k v : Nat) : State :=
  let s := wf s (R.scAC n (3 * k)) v
  let s := wf s (R.scAC n (3 * k + 1)) (v / 2 ^ 36)
  wf s (R.scAC n (3 * k + 2)) (toBits 36 (sext 8 (v / 2 ^ 72)))

/-! ### Results -/

def ClEff.one (d : ClDst) (v : Nat × Arf) (lat : Nat) : ClEff := .ok { res := [⟨d, v.1, v.2, lat, false⟩] }
/-- One result into the register DST names. -/
def ClIn.toD (x : ClIn) (v : Nat × Arf) (lat : Nat) : ClEff := .one (.d (x.phys x.dst)) v lat
/-- One result into the double DST names: the low word carries the flags. -/
def ClIn.toDD (x : ClIn) (v : Nat × Arf) (lat : Nat) : ClEff :=
  .ok { res := [⟨.d (x.phys x.dst), v.1 % 2 ^ 36, v.2, lat, false⟩, ⟨.d (x.phys (x.dst + 1)), v.1 / 2 ^ 36 % 2 ^ 36, 0#7, lat, false⟩] }
def ClIn.toAc (x : ClIn) (v : Nat × Arf) : ClEff := .one (.ac x.dst) v 1
/-- Causes (Table CLU-9). -/
def clILLEGAL : Nat := 1
def clADDR : Nat := 2
def clDIVZERO : Nat := 3
def clLOOPDEPTH : Nat := 4
def clMEMUE : Nat := 5
def clPROGUE : Nat := 6
def ill : ClEff := .bad clILLEGAL
def clNothing : ClEff := .ok {}

/-- An even register number. -/
def evenR (r : Nat) : Bool := r % 2 == 0
/-- An accumulator field (R164). -/
def acF (r : Nat) : Bool := decide (r < 8)

/-- NOP: all other BODY bits zero. -/
def clNop (x : ClIn) : Bool × ClEff := (decide (x.body = 0), clNothing)

/-! ### Units M0 and M1 (Table COP-2) -/

/-- Multiply-accumulate: ± an exact product, the accumulator read unless CLR (R166). -/
def accProd (x : ClIn) (w acc : Nat) (p : Int) : Nat × Arf :=
  accAdd w (if x.opt 1 then 0 else acc) (if x.opt 0 then -p else p)
/-- The two halves of a dual accumulation put together. -/
def dualAcc (x : ClIn) (p1 p0 : Int) : Nat × Arf :=
  let o := acRead x.s x.n x.dst
  let r1 := accProd x 40 (o / 2 ^ 40 % 2 ^ 40) p1
  let r0 := accProd x 40 (o % 2 ^ 40) p0
  (r1.1 * 2 ^ 40 + r0.1, r1.2 ||| r0.2)
def h1 (a : Nat) : Int := sext 18 (a / 2 ^ 18)
def h0 (a : Nat) : Int := sext 18 a

def clMac (x : ClIn) : Bool × ClEff :=
  (acF x.dst, x.toAc (accProd x 80 (acRead x.s x.n x.dst) (sext 36 x.a * sext 36 x.b)))
def clMach (x : ClIn) : Bool × ClEff := (acF x.dst, x.toAc (dualAcc x (h1 x.a * h1 x.b) (h0 x.a * h0 x.b)))
def clMacx (x : ClIn) : Bool × ClEff := (acF x.dst, x.toAc (dualAcc x (h1 x.a * h0 x.b) (h0 x.a * h1 x.b)))
/-- ACLD (R167). -/
def clAcld (x : ClIn) : Bool × ClEff :=
  (acF x.dst && (x.opt 0 || evenR x.srca),
   x.toAc (noFl (toBits 80 (if x.opt 0 then sext 36 x.a * 2 ^ 35 else sext 72 (x.dd x.srca)))))

def ClIn.acA (x : ClIn) : Int := sext 80 (acRead x.s x.n x.srca)
def ClIn.sub1 (x : ClIn) : Int := sext 40 (acRead x.s x.n x.srca / 2 ^ 40)
def ClIn.sub0 (x : ClIn) : Int := sext 40 (acRead x.s x.n x.srca)
/-- Two half results as one word. -/
def twoHalves (p1 p0 : Nat × Arf) : Nat × Arf := (p1.1 * 2 ^ 18 + p0.1, p1.2 ||| p0.2)

def clSacq (x : ClIn) : Bool × ClEff := (acF x.srca, x.toD (roundSat (x.opt 3) 36 35 x.acA) 4)
def clSaci (x : ClIn) : Bool × ClEff := (acF x.srca, x.toD (satOrWrap 36 true x.acA) 4)
def clSach (x : ClIn) : Bool × ClEff :=
  (acF x.srca, x.toD (let r := roundSat (x.opt 3) 18 53 x.acA; (if x.opt 2 then r.1 * 2 ^ 18 else r.1, r.2)) 4)
def clSacd (x : ClIn) : Bool × ClEff :=
  (acF x.srca, x.toD (twoHalves (roundSat (x.opt 3) 18 17 x.sub1) (roundSat (x.opt 3) 18 17 x.sub0)) 4)
def clSacdi (x : ClIn) : Bool × ClEff := (acF x.srca, x.toD (twoHalves (satOrWrap 18 true x.sub1) (satOrWrap 18 true x.sub0)) 4)
def clSacw (x : ClIn) : Bool × ClEff := (acF x.srca && evenR x.dst, x.toDD (satOrWrap 72 true x.acA) 4)

/-- The vector operation of the same effect (R168, R169), word or half TYPE, with its options. -/
def asVec (op typ : Nat) (sat conv : Bool) (mod : Nat) : VI :=
  { op := op, typ := typ, rnd := 0, sat := sat, conv := conv, planned := false, res := 0, d := 0, a := 0, b := 0, c := 0, n := 1, mod := mod }
def lane2 (op typ : Nat) (sat conv : Bool) (mod a b : Nat) : Nat × Arf := vLane (asVec op typ sat conv mod) .near 0 a b 0

def clMul (x : ClIn) : Bool × ClEff := (true, x.toD (lane2 0x020 0 (x.opt 0) false 0 x.a x.b) 4)
def clMulq (x : ClIn) : Bool × ClEff := (true, x.toD (lane2 0x020 1 true (x.opt 3) 0 x.a x.b) 4)
def clMulh (x : ClIn) : Bool × ClEff := (true, x.toD (lane2 0x020 2 (x.opt 0) false 0 x.a x.b) 4)
def clMulhq (x : ClIn) : Bool × ClEff := (true, x.toD (lane2 0x020 3 true (x.opt 3) 0 x.a x.b) 4)
def clMuld (x : ClIn) : Bool × ClEff := (evenR x.dst, x.toDD (noFl (toBits 72 (sext 36 x.a * sext 36 x.b))) 4)

/-- An F36 operation rounded under RND in OPT[2:0]; a reserved code is illegal (R163, R165). -/
def clFp (x : ClIn) (lat : Nat) (k : Rm → Nat × Arf) : Bool × ClEff :=
  match x.rm (x.f 2 0) with
  | none => (false, ill)
  | some rm => (true, x.toD (k rm) lat)
def clFadd (x : ClIn) : Bool × ClEff := clFp x 4 fun rm => fpAdd fF36 rm x.a x.b
def clFsub (x : ClIn) : Bool × ClEff := clFp x 4 fun rm => fpSub fF36 rm x.a x.b
def clFmul (x : ClIn) : Bool × ClEff := clFp x 4 fun rm => fpMul fF36 rm x.a x.b
def clFma (x : ClIn) : Bool × ClEff := clFp x 4 fun rm => fpFma fF36 rm false x.a x.b (x.d x.dst)
def clFnma (x : ClIn) : Bool × ClEff := clFp x 4 fun rm => fpFma fF36 rm true x.a x.b (x.d x.dst)

/-! ### Units A0 and A1 (Table COP-3) -/

/-- An A-unit operation as its vector operation: TYPE 2 under H, TYPE 0 otherwise (R169). -/
def clA (x : ClIn) (op : Nat) (h sat conv : Bool) (mod b : Nat) : ClEff :=
  x.toD (lane2 op (if h then 2 else 0) sat conv mod x.a b) 1
def ClIn.imm10 (x : ClIn) : Int := sext 10 (x.f 9 0)

def clAdd (x : ClIn) : Bool × ClEff := (true, clA x 0x002 (x.opt 3) (x.opt 2) false 0 x.b)
def clSub (x : ClIn) : Bool × ClEff := (true, clA x 0x003 (x.opt 3) (x.opt 2) false 0 x.b)
def clAddi (x : ClIn) : Bool × ClEff := (true, x.toD (noFl (toBits 36 ((x.a : Int) + x.imm10))) 1)
def clNeg (x : ClIn) : Bool × ClEff := (decide (x.srcb = 0), clA x 0x004 (x.opt 3) (x.opt 2) false 0 0)
def clAbs (x : ClIn) : Bool × ClEff := (decide (x.srcb = 0), clA x 0x005 (x.opt 3) (x.opt 2) false 0 0)
def clMin (x : ClIn) : Bool × ClEff := (true, clA x 0x006 (x.opt 3) false false 0 x.b)
def clMax (x : ClIn) : Bool × ClEff := (true, clA x 0x007 (x.opt 3) false false 0 x.b)
def clAnd (x : ClIn) : Bool × ClEff := (true, x.toD (noFl (x.a &&& x.b)) 1)
def clOr (x : ClIn) : Bool × ClEff := (true, x.toD (noFl (x.a ||| x.b)) 1)
def clXor (x : ClIn) : Bool × ClEff := (true, x.toD (noFl (x.a ^^^ x.b)) 1)
def clAndn (x : ClIn) : Bool × ClEff := (true, x.toD (noFl (x.a &&& (2 ^ 36 - 1 - x.b))) 1)
def clNot (x : ClIn) : Bool × ClEff := (decide (x.srcb = 0), x.toD (noFl (2 ^ 36 - 1 - x.a)) 1)
def clMov (x : ClIn) : Bool × ClEff := (decide (x.srcb = 0), x.toD (noFl x.a) 1)
def clShl (x : ClIn) : Bool × ClEff := (true, clA x 0x00D (x.opt 3) (x.opt 2) false 64 x.b)
def clShra (x : ClIn) : Bool × ClEff := (true, clA x 0x00E (x.opt 3) false (x.opt 1) 64 x.b)
def clShrl (x : ClIn) : Bool × ClEff := (true, clA x 0x00F (x.opt 3) false false 64 x.b)
/-- Shift-immediate forms: [9] SAT, [8] H, [7] CONV, [6] 0, [5:0] CNT. -/
def clShli (x : ClIn) : Bool × ClEff := (!x.opt 6, clA x 0x00D (x.opt 8) (x.opt 9) false (x.f 5 0) 0)
def clShrai (x : ClIn) : Bool × ClEff := (!x.opt 6, clA x 0x00E (x.opt 8) false (x.opt 7) (x.f 5 0) 0)
def clShrli (x : ClIn) : Bool × ClEff := (!x.opt 6, clA x 0x00F (x.opt 8) false false (x.f 5 0) 0)

/-- A result into the condition register CD names. -/
def ClIn.toC (x : ClIn) (v : Bool × Arf) : ClEff := .one (.c (x.f 21 19)) (b2n v.1, v.2) 1
def ClIn.cmpCode (x : ClIn) : Nat := x.f 18 16
/-- Formats C and CI: CD not 0, COND valid (R163, R170). -/
def cmpF (x : ClIn) (low : Bool) (codes : Nat) : Bool :=
  decide (x.f 21 19 ≠ 0) && decide (x.cmpCode < codes) && (!low || decide (x.f 3 0 = 0))
def clCmp (x : ClIn) : Bool × ClEff := (cmpF x true 6, x.toC (relHolds (relOf x.cmpCode) (sext 36 x.a - sext 36 x.b), 0#7))
def clCmpu (x : ClIn) : Bool × ClEff := (cmpF x true 6, x.toC (relHolds (relOf x.cmpCode) ((x.a : Int) - (x.b : Int)), 0#7))
def clFcmp (x : ClIn) : Bool × ClEff := (cmpF x true 7, x.toC (fpCmp fF36 (relOf x.cmpCode) x.a x.b))
def clCmpi (x : ClIn) : Bool × ClEff := (cmpF x false 6, x.toC (relHolds (relOf x.cmpCode) (sext 36 x.a - x.imm10), 0#7))
/-- A condition source: field 0 reads as 1 (R170). -/
def ClIn.cSrc (x : ClIn) (i : Nat) : Bool := decide (i = 0) || bit (rf x.s (R.scC x.n)) (i - 1)
def clClog (x : ClIn) : Bool × ClEff :=
  let ca := x.cSrc (x.f 18 16)
  let cb := x.cSrc (x.f 15 13)
  (decide (x.f 21 19 ≠ 0) && decide (x.f 10 0 = 0),
   x.toC ((match x.f 12 11 with | 0 => ca && cb | 1 => ca || cb | 2 => ca != cb | _ => ca && !cb), 0#7))

/-- The register RCLS and RNUM name (R171). -/
def clsDst (c k : Nat) : ClDst := match c with | 0 => .p k | 1 => .m k | 2 => .b k | _ => .l k
def clsField (n c k : Nat) : Field := match c with | 0 => R.scP n k | 1 => R.scM n k | 2 => R.scB n k | _ => R.scL n k
def clMvr (x : ClIn) : Bool × ClEff := (decide (x.f 9 0 = 0), .one (clsDst (x.f 21 20) (x.f 19 16)) (noFl x.a) 1)
def clMvri (x : ClIn) : Bool × ClEff :=
  (true, .one (clsDst (x.f 21 20) (x.f 19 16)) (noFl (toBits 36 (sext 16 (x.f 15 0)))) 1)
def clGetr (x : ClIn) : Bool × ClEff := (decide (x.f 9 0 = 0), x.toD (noFl (rf x.s (clsField x.n (x.f 15 14) (x.f 13 10)))) 1)
/-- Format K: DST in 23:18, IMM18. -/
def clSets (x : ClIn) : Bool × ClEff := (true, .one (.d (x.phys (x.f 23 18))) (noFl (toBits 36 (sext 18 (x.f 17 0)))) 1)
def clSeth (x : ClIn) : Bool × ClEff :=
  (true, .one (.d (x.phys (x.f 23 18))) (noFl (x.f 17 0 * 2 ^ 18 + x.d (x.f 23 18) % 2 ^ 18)) 1)

/-! ### Units X and Y (Table COP-4) -/

def ClIn.isY (x : ClIn) : Bool := x.slot == 5
def ClIn.ptr (x : ClIn) : Nat := x.f 15 12
def ClIn.ea (x : ClIn) : Nat := rf x.s (R.scP x.n x.ptr)
def ClIn.dreg (x : ClIn) : Nat := x.f 21 16
/-- Reverse the order of 16 bits (R148). -/
def rev16 (v : Nat) : Nat := revBits 16 (v % 2 ^ 16)
/-- The modifier (R172). -/
def ClIn.modi (x : ClIn) : Int := if x.opt 9 then sext 9 (x.f 8 0) else sext 36 (rf x.s (R.scM x.n (x.f 3 0)))
/-- The pointer after its update (R148). -/
def ptrNext (mode p : Nat) (m : Int) (base len : Nat) : Nat :=
  match mode with
  | 0 => toBits 36 ((p : Int) + m)
  | 1 => if len = 0 then toBits 36 ((p : Int) + m)
         else toBits 36 ((base : Int) + ((p : Int) - (base : Int) + m) % (len : Int))
  | _ => p / 2 ^ 16 * 2 ^ 16 + rev16 (rev16 p + rev16 (toBits 16 m))
/-- The pointer update of every operation of Table COP-4 (latency 1). -/
def ClIn.ptrRes (x : ClIn) : ClRes :=
  ⟨.p x.ptr, ptrNext (x.f 11 10) x.ea x.modi (rf x.s (R.scB x.n x.ptr)) (rf x.s (R.scL x.n x.ptr)), 0#7, 1, false⟩
/-- Legal MEM encodings (R163, R172). -/
def memF (x : ClIn) (dregOk : Bool) : Bool :=
  decide (x.f 11 10 < 3) && (x.opt 9 || decide (x.f 8 4 = 0)) && (x.isY == decide (8 ≤ x.ptr)) && dregOk
/-- The range of Table CLU-7 a local address lies in: 0 X or Y memory, 1 the shared region. -/
def localRange (y : Bool) (a : Nat) : Option Nat :=
  if a < 0x8000 then some 0 else if !y ∧ a < 0x8800 then some 1 else none
/-- Physical word address of a local address. -/
def clPhys (n : Nat) (y : Bool) (a : Nat) : Nat :=
  0x10000000 + n * 0x100000 + (if y then 0x8000 + a else if a < 0x8000 then a else 0x10000 + (a - 0x8000))
/-- Sub-banks an access to w words touches (R145, R173). -/
def subBanks (y : Bool) (a w : Nat) : List (Bool × Nat) :=
  (List.range w).filterMap (fun i => if a + i < 0x8000 then some (y, (a + i) / 4096) else none)
/-- Check the address of an access of w words (R144, R173) and go on. -/
def ClIn.access (x : ClIn) (w : Nat) (k : ClOut → ClEff) : ClEff :=
  let r := localRange x.isY x.ea
  if r.isSome ∧ localRange x.isY (x.ea + (w - 1)) = r then k { res := [x.ptrRes], touch := subBanks x.isY x.ea w }
  else .bad clADDR
/-- One loaded word: value through `g`, into a data register, latency 4; its error state (R147). -/
def ClIn.ldWord (x : ClIn) (i reg : Nat) (g : Nat → Nat) : ClRes × List Nat :=
  let a := clPhys x.n x.isY (x.ea + i)
  let e := kvFind x.s.ecc a
  (⟨.d (x.phys reg), g (rdN x.s a), 0#7, 4, decide (e = some .unc)⟩, match e with | some (.corr _) => [a] | _ => [])
def ClIn.load (x : ClIn) (g : Nat → Nat) : Bool × ClEff :=
  (memF x true, x.access 1 fun o => let r := x.ldWord 0 x.dreg g; .ok { o with res := r.1 :: o.res, ce := r.2 })
def clLd (x : ClIn) : Bool × ClEff := x.load id
def clLdh0 (x : ClIn) : Bool × ClEff := x.load fun w => toBits 36 (h0 w)
def clLdh1 (x : ClIn) : Bool × ClEff := x.load fun w => toBits 36 (h1 w)
/-- LDD: one access; an uncorrectable error in either word leaves both registers unwritten (R147). -/
def clLdd (x : ClIn) : Bool × ClEff :=
  (memF x (evenR x.dreg), x.access 2 fun o =>
    let r := x.ldWord 0 x.dreg id
    let q := x.ldWord 1 (x.dreg + 1) id
    let u := r.1.ue || q.1.ue
    .ok { o with res := { r.1 with ue := u } :: { q.1 with ue := u } :: o.res, ce := r.2 ++ q.2 })
def ClIn.store (x : ClIn) (ok : Bool) (puts : List ClPut) : Bool × ClEff :=
  (memF x ok, x.access puts.length fun o =>
    .ok { o with st := (List.range puts.length).zip puts |>.map (fun e => (clPhys x.n x.isY (x.ea + e.1), e.2)) })
def clSt (x : ClIn) : Bool × ClEff := x.store true [.word (mkW (x.d x.dreg))]
def clSth0 (x : ClIn) : Bool × ClEff := x.store true [.half false (BitVec.ofNat 18 (x.d x.dreg))]
def clSth1 (x : ClIn) : Bool × ClEff := x.store true [.half true (BitVec.ofNat 18 (x.d x.dreg))]
def clStd (x : ClIn) : Bool × ClEff := x.store (evenR x.dreg) [.word (mkW (x.d x.dreg)), .word (mkW (x.d (x.dreg + 1)))]
def clModp (x : ClIn) : Bool × ClEff := (memF x (decide (x.dreg = 0)), .ok { res := [x.ptrRes] })

/-! ### Unit B (Table COP-5) -/

def clBr (x : ClIn) : Bool × ClEff := (decide (x.f 21 16 = 0), .ok { ctl := .br (x.f 15 0) })
def clBrr (x : ClIn) : Bool × ClEff :=
  (decide (x.dst = 0) && decide (x.f 9 0 = 0), .ok { ctl := .br (x.a % 2 ^ 16) })
def clHalt (x : ClIn) : Bool × ClEff := (decide (x.f 21 0 = 0), .ok { ctl := .halt })
def clLend (x : ClIn) : Bool × ClEff := (decide (x.f 21 16 = 0), .one .ltgt (noFl (x.f 15 0)) 1)
/-- LOOPR: count bits 24:0 of a data register, at most 2^24 (R149). OPC bit 0 is ROT. -/
def clLoopr (x : ClIn) : Bool × ClEff :=
  let c := x.d (x.f 21 16) % 2 ^ 25
  (true, if 2 ^ 24 < c then ill else .ok { ctl := .loop c (x.f 15 0) (x.opt 22) })
/-- LOOPI: the end bundle is LTGT (R174). -/
def clLoopi (ltgt : Nat) (x : ClIn) : Bool × ClEff := (true, .ok { ctl := .loop (x.f 23 0) ltgt (x.opt 24) })

/-! ### Unit S (Table COP-6) -/

/-- A search step (R176): the candidate and its index replace the double when it ranks strictly better; else nothing is written. -/
def clSearch (x : ClIn) (max : Bool) : Bool × ClEff :=
  let best := x.d x.dst
  let flt := x.opt 1
  let win := redBetter max (x.opt 0) (if flt then 4 else 0) best x.a
  let nv := flagIf (flt && (fpIsSNaN fF36 best || fpIsSNaN fF36 x.a)) fNV
  (evenR x.dst, if win then x.toDD (x.a + x.b * 2 ^ 36, nv) 2 else .one .flags (0, nv) 2)
def clSmax (x : ClIn) : Bool × ClEff := clSearch x true
def clSmin (x : ClIn) : Bool × ClEff := clSearch x false

/-- An operation of the divider (R50, R177): occupies it for its latency; faults where it would set DZ under DZ_TRAP. -/
def ClIn.divide (x : ClIn) (lat : Nat) (e : Nat × Arf → Nat → ClEff) (r : Nat × Arf) : ClEff :=
  if (r.2 &&& fDZ) ≠ 0#7 ∧ rb x.s (R.scDZ_TRAP x.n) then .bad clDIVZERO
  else match e r lat with
    | .ok o => .ok { o with div := lat }
    | b => b
def clDiv (x : ClIn) : Bool × ClEff :=
  (true, x.divide 12 x.toD (let r := idiv36 (sext 36 x.a) (sext 36 x.b); (toBits 36 r.1, r.2.2)))
def clDivr (x : ClIn) : Bool × ClEff :=
  (evenR x.dst, x.divide 12 x.toDD
    (let r := idiv36 (sext 36 x.a) (sext 36 x.b); (toBits 36 r.1 + toBits 36 r.2.1 * 2 ^ 36, r.2.2)))
def clQdiv (x : ClIn) : Bool × ClEff :=
  (true, x.divide 12 x.toD (let r := qdiv35 (sext 36 x.a) (sext 36 x.b); (toBits 36 r.1, r.2)))
def clFdiv (x : ClIn) : Bool × ClEff :=
  match x.rm (x.f 2 0) with
  | none => (false, ill)
  | some rm => (true, x.divide 10 x.toD (fpDiv fF36 rm x.a x.b))
def clFsqrt (x : ClIn) : Bool × ClEff :=
  match x.rm (x.f 2 0) with
  | none => (false, ill)
  | some rm => (decide (x.srcb = 0), x.divide 10 x.toD (fpSqrt fF36 rm x.a))

/-- CVT (R178). -/
def clCvt (x : ClIn) : Bool × ClEff :=
  let st := x.f 9 7
  let dt := x.f 6 4
  let typ (c : Nat) : Nat := if c = 5 then 4 else c
  let rnd := x.f 2 0
  let fixed := decide (st < 4) && decide (dt < 4)
  let dyn := rf x.s (R.scDRM x.n)
  let eff (conv : Bool) (rm : Rm) := x.toD (cvtElem (typ st) (typ dt) (decide (st = 5)) (decide (dt = 5)) (x.opt 3) conv rm x.a) 2
  (decide (st < 6) && decide (dt < 6) && (rmOf rnd dyn).isSome && !(fixed && (decide (rnd = 1) || decide (rnd = 2))),
   match rmOf rnd dyn with
   | none => ill
   | some rm => if fixed ∧ (rm = .zero ∨ rm = .up) then ill else eff (decide (rm = .near)) rm)
/-- RSAT (R179). -/
def clRsat (x : ClIn) : Bool × ClEff :=
  (evenR x.srca, x.toD (if x.opt 0 then satOrWrap 36 true (sext 72 (x.dd x.srca)) else roundSat (x.opt 3) 36 35 (sext 72 (x.dd x.srca))) 2)
/-- The length of the run of bits below bit `i` that equal `b`. -/
def signRun (v : Nat) (b : Bool) : Nat → Nat
  | 0 => 0
  | i + 1 => if bit v i = b then 1 + signRun v b i else 0
def clCls (x : ClIn) : Bool × ClEff := (true, x.toD (noFl (signRun x.a (bit x.a 35) 35)) 2)
def clPopc (x : ClIn) : Bool × ClEff := (true, x.toD (noFl (popBits 36 x.a)) 2)
/-- Field position and width (R180); width 0 where the field is empty. -/
def ClIn.fieldPW (x : ClIn) : Nat × Nat :=
  let pos := x.b % 64
  (pos, if 36 ≤ pos then 0 else min (x.b / 64 % 64) (36 - pos))
def clExtu (x : ClIn) : Bool × ClEff := (true, x.toD (noFl (x.a / 2 ^ x.fieldPW.1 % 2 ^ x.fieldPW.2)) 2)
def clExts (x : ClIn) : Bool × ClEff :=
  let w := x.fieldPW.2
  (true, x.toD (noFl (if w = 0 then 0 else toBits 36 (sext w (x.a / 2 ^ x.fieldPW.1)))) 2)
def clIns (x : ClIn) : Bool × ClEff :=
  let p := x.fieldPW
  (true, x.toD (noFl (if p.2 = 0 then x.d x.dst else putBits (x.d x.dst) (p.1 + p.2 - 1) p.1 (x.a % 2 ^ p.2))) 2)
def clBrev (x : ClIn) : Bool × ClEff := (true, x.toD (noFl (revBits 36 x.a)) 2)

/-! ### Operation codes -/

/-- The operation a slot's OPC names, with its legality and effect; `none`: a code the unit's table does not list (R163). -/
def clOp (ltgt : Nat) (x : ClIn) : Option (Bool × ClEff) :=
  let opc := x.f 27 22
  if opc = 0 then some (clNop x) else
  if x.slot < 2 then
    match opc with
    | 0x01 => some (clMac x) | 0x02 => some (clMach x) | 0x03 => some (clMacx x) | 0x04 => some (clAcld x)
    | 0x08 => some (clSacq x) | 0x09 => some (clSaci x) | 0x0A => some (clSach x) | 0x0B => some (clSacd x)
    | 0x0C => some (clSacdi x) | 0x0D => some (clSacw x)
    | 0x10 => some (clMul x) | 0x11 => some (clMulq x) | 0x12 => some (clMulh x) | 0x13 => some (clMulhq x)
    | 0x14 => some (clMuld x) | 0x18 => some (clFadd x) | 0x19 => some (clFsub x) | 0x1A => some (clFmul x)
    | 0x1B => some (clFma x) | 0x1C => some (clFnma x)
    | _ => none
  else if x.slot < 4 then
    match opc with
    | 0x01 => some (clAdd x) | 0x02 => some (clSub x) | 0x03 => some (clAddi x) | 0x04 => some (clNeg x)
    | 0x05 => some (clAbs x) | 0x06 => some (clMin x) | 0x07 => some (clMax x) | 0x08 => some (clAnd x)
    | 0x09 => some (clOr x) | 0x0A => some (clXor x) | 0x0B => some (clAndn x) | 0x0C => some (clNot x)
    | 0x0D => some (clMov x) | 0x10 => some (clShl x) | 0x11 => some (clShra x) | 0x12 => some (clShrl x)
    | 0x13 => some (clShli x) | 0x14 => some (clShrai x) | 0x15 => some (clShrli x)
    | 0x18 => some (clCmp x) | 0x19 => some (clCmpu x) | 0x1A => some (clFcmp x) | 0x1B => some (clCmpi x)
    | 0x1C => some (clClog x) | 0x20 => some (clMvr x) | 0x21 => some (clMvri x) | 0x22 => some (clGetr x)
    | 0x38 | 0x39 | 0x3A | 0x3B => some (clSets x)
    | 0x3C | 0x3D | 0x3E | 0x3F => some (clSeth x)
    | _ => none
  else if x.slot < 6 then
    match opc with
    | 0x01 => some (clLd x) | 0x02 => some (clLdh0 x) | 0x03 => some (clLdh1 x) | 0x04 => some (clLdd x)
    | 0x08 => some (clSt x) | 0x09 => some (clSth0 x) | 0x0A => some (clSth1 x) | 0x0B => some (clStd x)
    | 0x10 => some (clModp x)
    | _ => none
  else if x.slot = 6 then
    match opc with
    | 0x01 => some (clBr x) | 0x02 => some (clBrr x) | 0x03 => some (clHalt x) | 0x04 => some (clLend x)
    | 0x06 | 0x07 => some (clLoopr x)
    | _ => if 0x38 ≤ opc then some (clLoopi ltgt x) else none
  else
    match opc with
    | 0x01 => some (clSmax x) | 0x02 => some (clSmin x)
    | 0x08 => some (clDiv x) | 0x09 => some (clDivr x) | 0x0A => some (clQdiv x) | 0x0B => some (clFdiv x)
    | 0x0C => some (clFsqrt x) | 0x10 => some (clCvt x) | 0x11 => some (clRsat x)
    | 0x18 => some (clCls x) | 0x19 => some (clPopc x) | 0x1A => some (clExtu x) | 0x1B => some (clExts x)
    | 0x1C => some (clIns x) | 0x1D => some (clBrev x)
    | _ => none

/-- Whether an OPC of a slot uses the divider (R50). -/
def usesDivider (slot opc : Nat) : Bool := decide (slot = 7) && decide (8 ≤ opc) && decide (opc ≤ 0x0C)

end Sys2Proof.Machine
end

