-- ==== Sys2Proof/Machine/Crc.lean ====
section
/-! DEFINITION. PACK9 streams (R24) and the CRC-32C of R194. -/

namespace Sys2Proof.Machine

/-- Words as one bit stream, bit b of word j at 36j + b (R24). -/
def packNat : List Word → Nat
  | [] => 0
  | w :: ws => w.toNat + 2 ^ 36 * packNat ws
/-- The low n octets of a stream, the first lowest. -/
def octets : Nat → Nat → List Nat
  | 0, _ => []
  | n + 1, v => v % 256 :: octets n (v / 256)
/-- The PACK9 octets of words. -/
def pack9Bytes (ws : List Word) : List Nat := octets ((36 * ws.length + 7) / 8) (packNat ws)
/-- Octets as one number, the first lowest. -/
def fromOctets : List Nat → Nat
  | [] => 0
  | b :: bs => b % 256 + 256 * fromOctets bs
/-- The low n words of a stream. -/
def unpackWords : Nat → Nat → List Word
  | 0, _ => []
  | n + 1, v => BitVec.ofNat 36 v :: unpackWords n (v / 2 ^ 36)

/-- CRC-32C of one octet's bits, lowest first. -/
def crcBits : Nat → Nat → Nat
  | 0, c => c
  | n + 1, c => crcBits n (if c % 2 = 1 then (c / 2) ^^^ 0x82F63B78 else c / 2)
/-- CRC-32C: reflected 0x1EDC_6F41, initial value and final XOR all ones (R194). -/
def crc32c (bs : List Nat) : Nat := bs.foldl (fun c b => crcBits 8 (c ^^^ (b % 256))) 0xFFFFFFFF ^^^ 0xFFFFFFFF

end Sys2Proof.Machine
end

