-- ==== Sys2Proof/Machine/Notices.lean ====
section
/-! DEFINITION. Trouble notices with the DETAIL word of their register (Table TRB-4), changes of the operating mode (R377), and the
enable and disable of units (R396). -/

namespace Sys2Proof.Machine

/-- TRB1 DETAIL: input power, junction temperature in °C, old mode (Table TRB-4). -/
def trb1 (s : State) (b old : Nat) : State :=
  let tj := toBits 11 (sext 12 (rf s R.pwrTJ) / 8)
  notice s 1 b 0 (rf s R.pwrPIN_MW + tj * 2 ^ 17 + old * 2 ^ 28)
/-- TRB3 DETAIL: the action index of the last miss or fault, and the frame. -/
def trb3 (s : State) (b : Nat) : State :=
  notice s 3 b 0 (rf s R.calLAST_ACTION + rf s R.calFRAME_NUM % 2 ^ 21 * 2 ^ 15)

/-- A change of MODE records the old mode, raises source 204 and enters the trouble record; naming the current mode changes
nothing (R377). -/
def setMode (s : State) (m : Nat) : State :=
  let old := mode s
  if old = m then s else
  let s := { s with pwr := { s.pwr with overN := 0 } }
  trb1 (raise (wf (wf s R.pwrPREV_MODE old) R.pwrMODE m) 204) (6 + m) old
/-- TX_INHIBIT is set on every port (R343, R346). -/
def txInhibit (s : State) : State := (List.range s.cfg.part.ports).foldl (fun s p => wb s (R.fpTX_INHIBIT p) true) s
/-- Whether a derate cause is set (R392). -/
def derateCause (s : State) : Bool := rb s R.pwrLOW_SUPPLY || rb s R.pwrTHERM_HOT || rb s R.pwrCAP_CAUSE

/-- Codes of UNIT_STATE (R396). -/
def usON : Nat := 0
def usDRAINING : Nat := 1
def usISOLATING : Nat := 2
def usOFF : Nat := 3
def usWAKING : Nat := 4

/-- A number for each unit, the key of its transition times. -/
def unitKey : UnitRef → Nat
  | .pipe p => p
  | .cluster n => 8 + n
  | .port p => 32 + p
  | .link l => 48 + l
  | .dma c => 64 + c
  | .probe c => 128 + c
/-- Whether the part has a unit (Table SCP-1). -/
def unitHas (s : State) : UnitRef → Bool
  | .pipe p => decide (p < s.cfg.part.pipes)
  | .cluster n => decide (n < s.cfg.part.clusters)
  | .port p => decide (p < s.cfg.part.ports)
  | .link l => decide (l < s.cfg.part.links)
  | .dma c => decide (c < 64)
  | .probe c => decide (c < 4096)
/-- A unit's ENABLE field. -/
def unitEn : UnitRef → Field
  | .pipe p => R.vpENABLE p
  | .cluster n => R.scENABLE n
  | .port p => R.fpENABLE p
  | .link l => R.casENABLE l
  | .dma c => R.dcENABLE c
  | .probe c => R.idnENABLE c
/-- A unit's UNIT_STATE field. -/
def unitSt : UnitRef → Field
  | .pipe p => R.vpUNIT_STATE p
  | .cluster n => R.scUNIT_STATE n
  | .port p => R.fpUNIT_STATE p
  | .link l => R.casUNIT_STATE l
  | .dma c => R.dcUNIT_STATE c
  | .probe c => R.idnUNIT_STATE c
/-- Enter a UNIT_STATE, noting the instant. -/
def unitGo (s : State) (u : UnitRef) (st : Nat) : State :=
  wf { s with unitT := kvDel s.unitT (unitKey u) ++ [(unitKey u, s.now)] } (unitSt u) st
/-- When a unit entered its UNIT_STATE. -/
def unitSince (s : State) (u : UnitRef) : Nat := (kvFind s.unitT (unitKey u)).getD 0
/-- Start the wake of a unit in OFF (R396): a link trains (R348). -/
def unitWake (s : State) (u : UnitRef) : State :=
  let s := unitGo s u usWAKING
  match u with | .link l => wf s (R.casLSTATE l) 1 | _ => s
/-- A write of ENABLE (R396): a change starts a disable in ON, returns a DRAINING unit to ON at once, wakes an OFF unit; in
ISOLATING and WAKING the field itself remembers the request. -/
def unitEnable (s : State) (u : UnitRef) (en : Bool) : State :=
  if rb s (unitEn u) = en then s else
  let st := rf s (unitSt u)
  let s := wb s (unitEn u) en
  if st = usON ∧ en = false then unitGo s u usDRAINING
  else if st = usDRAINING ∧ en then unitGo s u usON
  else if st = usOFF ∧ en then unitWake s u
  else s

end Sys2Proof.Machine
end

