-- ==== Sys2Proof/Machine/CasBase.lean ====
section
/-! DEFINITION. Sending packets on Briby links (R331 to R333, R336). -/

namespace Sys2Proof.Machine

def link (s : State) (l : Nat) : LinkSt := s.cas.links.getD l linkZero
def modLink (s : State) (l : Nat) (k : LinkSt → LinkSt) : State :=
  { s with cas := { s.cas with links := s.cas.links.set l (k (link s l)) } }
/-- Links of the part. -/
def linkIds (s : State) : List Nat := List.range s.cfg.part.links

/-- Class of a packet type (Table CAS-3). -/
def bpClass (pt : Nat) : Nat :=
  if pt = 0xB ∨ pt = 0xC then 0 else if pt = 0xD ∨ pt = 0xE ∨ pt = 0xF then 1
  else if pt = 0x2 ∨ pt = 0x5 ∨ pt = 0xA then 2 else 3
/-- Whether a link is UP and may start packets (R331, R348). -/
def linkUp (s : State) (l : Nat) : Bool :=
  decide (l < s.cfg.part.links) && decide (rf s (R.casLSTATE l) = 2) && decide (rf s (R.casUNIT_STATE l) = usON)
/-- The link stamp counter, `quarter` quarters of a nanosecond past Device Time (R334). -/
def linkStamp (s : State) (quarter : Nat) : Nat := (s.devTime * 4 + quarter % 4) % 2 ^ 26
/-- The GAP block that leaves link l now (R334): TX_STAMP, and ECHO, the stamp of the last one received advanced by the time since then; with
the credits it returns. -/
def gapBlock (s : State) (l c2 c3 : Nat) : BBlock :=
  let now := linkStamp s (Config.txQuarter l s.devTime)
  let echo := match (link s l).gap with
    | some (st, at_) => (st + now + 2 ^ 26 - at_) % 2 ^ 26
    | none => Config.gapEcho l s.devTime % 2 ^ 26
  .gap (BitVec.ofNat 56 (now * 2 ^ 26 + echo)) c2 c3
/-- HEADER content of a packet (Table CAS-2). -/
def headBits (p : BPkt) : BitVec 56 :=
  BitVec.ofNat 56 (p.ptype % 16 * 2 ^ 52 + p.dest % 32 * 2 ^ 47 + p.src % 32 * 2 ^ 42 + p.words.length % 32 * 2 ^ 37 + p.tag % 128 * 2 ^ 30 +
    p.addr % 2 ^ 30)
/-- The DATA blocks of a packet's words: its PACK9 stream, 64 bits a block, the last filled with zeros (R332). -/
def dataBlocks (ws : List Word) : List BBlock :=
  (List.range ((36 * ws.length + 63) / 64)).map fun i => .data (BitVec.ofNat 64 (packNat ws / 2 ^ (64 * i)))
/-- The blocks of a packet on link l: HEADER, DATA, and a GAP (R332). -/
def pktBlocks (s : State) (l : Nat) (p : BPkt) : List BBlock := .header (headBits p) :: dataBlocks p.words ++ [gapBlock s l 0 0]
/-- A packet leaves on a link. -/
def putPkt (s : State) (l : Nat) (p : BPkt) : State :=
  modLink s l fun k => { k with sent := k.sent ++ [p], blocks := k.blocks ++ pktBlocks s l p }
/-- A packet of a type leaves the receive buffer of link l: a GAP block returns its credit (R333). -/
def creditBack (s : State) (l pt : Nat) : State :=
  if bpClass pt < 2 ∨ rf s (R.casLSTATE l) ≠ 2 then s else
  modLink s l fun k => { k with blocks := k.blocks ++ [gapBlock s l (b2n (bpClass pt == 2)) (b2n (bpClass pt == 3))] }
/-- A packet that was being forwarded from a link leaves that link's receive buffer. -/
def creditFrom (s : State) (o : Option Nat) (pt : Nat) : State := match o with | some l => creditBack s l pt | none => s
/-- Credits a link holds for a packet's class; classes 0 and 1 need none (R333). -/
def hasCredit (k : LinkSt) (p : BPkt) : Bool :=
  decide (bpClass p.ptype < 2) || (decide (bpClass p.ptype = 2) && decide (0 < k.cred2)) || (decide (bpClass p.ptype = 3) && decide (0 < k.cred3))
/-- Use a credit of a packet's class. -/
def useCredit (s : State) (l : Nat) (p : BPkt) : State :=
  modLink s l fun k => if bpClass p.ptype = 2 then { k with cred2 := k.cred2 - 1 } else if bpClass p.ptype = 3 then { k with cred3 := k.cred3 - 1 } else k
/-- Send a packet on a link, one being forwarded from link `o`: classes 2 and 3 need credit (R333); a link with a duplicate number carries
nothing but HELLO (R335). -/
def briSendFrom (s : State) (o : Option Nat) (l : Nat) (p : BPkt) : State :=
  if linkUp s l = false ∨ ((link s l).dup = true ∧ p.ptype ≠ 0xE) then creditFrom s o p.ptype
  else if hasCredit (link s l) p then creditFrom (putPkt (useCredit s l p) l p) o p.ptype
  else modLink s l fun k => { k with wait := k.wait ++ [(p, o)] }
def briSend (s : State) (l : Nat) (p : BPkt) : State := briSendFrom s none l p

/-- This module's number (R335). -/
def cascId (s : State) : Nat := rf s R.casCASC_ID
def isMaster (s : State) : Bool := rb s R.casIS_MASTER
/-- The link on the way to module m, if any (R336). -/
def route (s : State) (m : Nat) : Option Nat :=
  let l := rf s (R.casROUTE m)
  if m < 32 ∧ l < s.cfg.part.links then some l else none
/-- Send a unicast packet, one being forwarded from link `o`: whether there was a route. -/
def briToFrom (s : State) (o : Option Nat) (p : BPkt) : Bool × State :=
  match route s p.dest with
  | some l => (true, briSendFrom s o l p)
  | none => (false, s)
def briTo (s : State) (p : BPkt) : Bool × State := briToFrom s none p
/-- Send a packet down: on every link whose peer has chosen it as UP (R336). -/
def briDown (s : State) (p : BPkt) : State :=
  (linkIds s).foldl (fun s l => if rb s (R.casPEER_DOWN l) then briSend s l { p with dest := rf s (R.casPEER_ID l) } else s) s
/-- Send a packet on every link. -/
def briAll (s : State) (p : BPkt) : State :=
  (linkIds s).foldl (fun s l => briSend s l { p with dest := rf s (R.casPEER_ID l) }) s

/-- A coalescer class that opened a window is forwarded to the master (R347). -/
def evtForward (s : State) (c node : Nat) (tag : Word) : State :=
  if isUp s iCAS ∧ bit (rf s R.casEVT_FWD) c ∧ isMaster s = false then
    (briTo s ⟨0x8, rf s R.casMASTER_ID, cascId s, 0, c, [mkW node, tag]⟩).2
  else s

/-- Whether Calliope is not IDLE: TIME_STEPPED, RESOURCE_LOSS and other Calliope events have a running timetable to be about. -/
def calBusy (s : State) : Bool := decide (rf s R.calSTATE ≠ 0)

/-! ### Device Time discipline (R218) -/

/-- Step Device Time by an offset (R182, R218): the grid does not move. -/
def timeStep (s : State) (off : Int) : State :=
  let s := { s with devTime := ((s.devTime : Int) + off).toNat, slew := 0, stepOfs := s.stepOfs + off }
  let s := raiseIf s (!rb s R.fcTIME_STEP) 147
  let s := notice (wb s R.fcTIME_STEP true) 7 27 0 0
  if isUp s iMWY ∧ calBusy s then trb3 (wb s R.calTIME_STEPPED true) 9 else s
/-- Sync information measured an offset (source less own) in nanoseconds (R218): a large one steps Device Time, a smaller one is
slewed away; 16 consecutive intervals below 100 ns are LOCKED. -/
def timeOffset (s : State) (off : Int) : State :=
  let s := wf { s with fld := { s.fld with lastSync := some s.now } } R.fcOFFSET_NS (toBits 36 off)
  if rf s R.fcSTEP_LIMIT * 1000 < off.natAbs then
    let s := timeStep s off
    wf { s with fld := { s.fld with syncRun := 0 } } R.fcSYNC_STATE 1
  else
    let n := if off.natAbs < 100 then min 16 (s.fld.syncRun + 1) else 0
    wf { s with slew := off, fld := { s.fld with syncRun := n } } R.fcSYNC_STATE (if n = 16 then 2 else 1)
/-- HOLDOVER is entered (R218). -/
def timeHoldover (s : State) : State :=
  let s := raiseIf s (!rb s R.fcSYNC_LOST) 147
  notice (wf (wb { s with fld := { s.fld with syncRun := 0 } } R.fcSYNC_LOST true) R.fcSYNC_STATE 3) 7 27 0 0
/-- A write of TIME_SRC (R218): no source is FREE, a source is being acquired. -/
def timeSrcWrite (s : State) (v : Nat) : State :=
  let old := rf s R.fcTIME_SRC
  let s := wf s R.fcTIME_SRC v
  if v = old then s
  else wf { s with fld := { s.fld with lastSync := some s.now, syncRun := 0 } } R.fcSYNC_STATE (if v < 9 then 1 else 0)

/-- SYNC_HOLDOVER_TIMEOUT (R218): 3 s without sync information. -/
def execSyncHoldoverTimeout (s : State) : Host.Outcome State Fault Refusal :=
  gate iFLD s fun s =>
    let st := rf s R.fcSYNC_STATE
    match s.fld.lastSync with
    | some t => if rf s R.fcTIME_SRC < 9 ∧ (st = 1 ∨ st = 2) then timeHoldover (atLeast s (t + 3000000000)) else s
    | none => s

end Sys2Proof.Machine
end

