-- ==== Sys2Proof/Machine/Conv.lean ====
section
/-! DEFINITION. Conversion between device words and host words (R22 to R27, Table WRD-5). CONV codes as in Table MWD-5: 1 LOW32, 2 I32,
3 PACK9, 4 F32, 5 F64. Exceptions: bit 0 NX, 1 UF, 2 OF, 3 NV, 4 SAT (Table HCI-3). -/

namespace Sys2Proof.Machine

/-- Conversion exceptions of arithmetic flags. -/
def cvxOf (f : Arf) : Nat :=
  b2n (f.getLsbD 0) + 2 * b2n (f.getLsbD 1) + 4 * b2n (f.getLsbD 2) + 8 * b2n (f.getLsbD 4) + 16 * b2n (f.getLsbD 5)
/-- Host words that n device words occupy (Table WRD-5, R24). -/
def hostLen (conv n : Nat) : Nat := if conv = 3 then (9 * n + 7) / 8 else n
/-- A number as n host words, bits 31:0 first. -/
def natHost : Nat → Nat → List HWord
  | 0, _ => []
  | n + 1, v => BitVec.ofNat 32 v :: natHost n (v / 2 ^ 32)
/-- Host words as one number, the first lowest. -/
def hostNat : List HWord → Nat
  | [] => 0
  | h :: r => h.toNat + 2 ^ 32 * hostNat r

/-- LOW32 outward (R23). -/
def low32Out (signed sat : Bool) (w : Word) : HWord × Nat :=
  if sat = false then (BitVec.ofNat 32 w.toNat, 0)
  else
    let v : Int := if signed then sext 36 w.toNat else (w.toNat : Int)
    let lo : Int := if signed then -(2 ^ 31) else 0
    let hi : Int := if signed then 2 ^ 31 - 1 else 2 ^ 32 - 1
    let c := max lo (min hi v)
    (BitVec.ofInt 32 c, if c = v then 0 else 16)
/-- LOW32 inward (R23). -/
def low32In (signed : Bool) (h : HWord) : Word := if signed then h.signExtend 36 else h.zeroExtend 36

/-- F64 outward, a double at a time. -/
def f64Out : List Word → List HWord × Nat
  | a :: b :: r =>
    let c := fpConv fF72 fB64 .near (a.toNat + 2 ^ 36 * b.toNat)
    let q := f64Out r
    (natHost 2 c.1 ++ q.1, cvxOf c.2 ||| q.2)
  | _ => ([], 0)
/-- F64 inward, a double at a time. -/
def f64In : List HWord → List Word × Nat
  | a :: b :: r =>
    let v := a.toNat + 2 ^ 32 * b.toNat
    let c := fpConv fB64 fF72 .near v
    let q := f64In r
    (unpackWords 2 c.1 ++ q.1, cvxOf c.2 ||| q.2)
  | _ => ([], 0)
/-- Join the exceptions of word conversions. -/
def joinCv {α : Type} (l : List (α × Nat)) : List α × Nat := (l.map Prod.fst, l.foldl (fun a e => a ||| e.2) 0)

/-- Device words to host words (R23, R24, R26): host words and exceptions. -/
def convOut (conv : Nat) (signed sat : Bool) (ws : List Word) : List HWord × Nat :=
  match conv with
  | 1 => joinCv (ws.map (low32Out signed sat))
  | 2 => joinCv (ws.map (low32Out true true))
  | 3 => (natHost (hostLen 3 ws.length) (packNat ws), 0)
  | 4 => joinCv (ws.map fun w => (BitVec.ofNat 32 (fpConv fF36 fB32 .near w.toNat).1, cvxOf (fpConv fF36 fB32 .near w.toNat).2))
  | _ => f64Out ws
/-- Host words to n device words (R23 to R25): words and exceptions. -/
def convIn (conv : Nat) (signed : Bool) (n : Nat) (hs : List HWord) : List Word × Nat :=
  match conv with
  | 1 => ((hs.take n).map (low32In signed), 0)
  | 2 => ((hs.take n).map (low32In true), 0)
  | 3 => (unpackWords n (hostNat hs), 0)
  | 4 => joinCv ((hs.take n).map fun h =>
      (BitVec.ofNat 36 (fpConv fB32 fF36 .near h.toNat).1, cvxOf (fpConv fB32 fF36 .near h.toNat).2))
  | _ => f64In (hs.take n)

end Sys2Proof.Machine
end

