-- ==== Sys2Proof/Machine/MwyBase.lean ====
section
/-! DEFINITION. Midway: masters, decoding, issue and the rules that hold a transaction at its master port (R302 to R309, R312, R313);
and the start, end and abort of DMA channels (R315 to R320, R323, R324). -/

namespace Sys2Proof.Machine

/-! ### Decoding (R303, R313) -/

/-- Base of the cascade window. -/
def cascBase : Nat := 0x800000000
/-- Module a cascade-window address names. -/
def cascMod (a : Nat) : Nat := (a - cascBase) / 0x40000000
/-- Whether the unit whose register block an address lies in is present (R3). -/
def blkPresent (s : State) (b : Blk) (i : Nat) : Bool :=
  match b with
  | .vp => decide (i < s.cfg.part.pipes)
  | .fp => decide (i < s.cfg.part.ports)
  | .rm => decide (i < s.cfg.part.cores)
  | .sc => decide (i < s.cfg.part.clusters)
  | _ => true
/-- The address a transaction is really for: the cascade window's own module is local (R337). -/
def mwAddr (s : State) (a : Nat) : Nat :=
  if cascBase ≤ a ∧ cascMod a = cascId s then (a - cascBase) % 0x40000000 else a
/-- The target port of an address (Table MWD-2); `none`: a decode error (R313). -/
def mwPort (s : State) (a0 : Nat) : Option Nat :=
  let a := mwAddr s a0
  if a < 0x800000 then if a < s.cfg.part.streamWords then some (a / 8 % 4) else none
  else if bulkBase ≤ a ∧ a < 0x400000000 then
    if isBulk s a then some (4 + if s.cfg.part.channels = 1 then (a - bulkBase) / 16 % 2 else (a - bulkBase) / 16 % 4) else none
  else if 0x10000000 ≤ a ∧ a < 0x11000000 then
    let n := (a - 0x10000000) / 0x100000
    if n < s.cfg.part.clusters then some (8 + n) else none
  else if 0x20000000 ≤ a ∧ a < 0x21000000 then
    match blkOf a with
    | some (b, i, _) => if blkPresent s b i then some 24 else none
    | none => none
  else if 0x30000000 ≤ a ∧ a < 0x30040000 then
    if (a - 0x30000000) / 0x10000 < s.cfg.part.cores then some 25 else none
  else if 0x40000000 ≤ a ∧ a < 0x80000000 then some 26
  else if cascBase ≤ a ∧ a < 2 ^ 36 then some 27
  else none

/-- A decode error (R313, R329): answered BUS_ERR. -/
def decErr (s : State) (a m : Nat) : State :=
  let was := rb s R.mwDEC_ERR
  let s := if was then s else wf (wf s R.mwDEC_ADDR a) R.mwDEC_MASTER m
  notice (raiseIf (wb s R.mwDEC_ERR true) (!was) 240) 9 0 0 1

/-- Whether a master is present (R302). -/
def mwMaster (s : State) (m : Nat) : Bool :=
  if m < 4 then decide (m < s.cfg.part.cores)
  else if m < 12 then true
  else if m < 16 then decide (m - 12 < s.cfg.part.pipes)
  else if m < 20 then decide (m - 16 < s.cfg.part.links)
  else decide (m = 20)
/-- Whether Table MWD-1 allows a master LOOSE ordering (R308). -/
def mwLoose (s : State) (m : Nat) : Bool :=
  rb s (R.mwORDER m) && (decide (m < 8) || decide (16 ≤ m))

/-- Words of response a transaction needs buffer space for (R309). -/
def tWords (k : TKind) : Nat :=
  match k with
  | .read n => n | .fadd _ => 1 | .swap _ => 1 | .hread n _ _ => n | _ => 0
def tHeld (t : Txn) : Bool := decide (t.ph = .held)
def tWaiting (t : Txn) : Bool := match t.ph with | .waiting _ => true | _ => false
/-- The island a target port lies in. -/
def portIsland (s : State) (port a : Nat) : Nat :=
  if port < 4 then iVEC else if port < 8 then iBLK else if port < 24 then iCLU (port - 8)
  else if port = 25 then iRMC else if port = 26 then iHST else if port = 27 then iCAS
  else match blkOf (mwAddr s a) with | some (b, i, _) => blkIsl b i | none => 23
/-- Whether a block or memory answers: island 23 stands for AON. -/
def islandUp (s : State) (i : Nat) : Bool := if i = 23 then s.aonOn else isUp s i
/-- Whether a memory is still being initialised, so that Midway holds its requests (R69, R78, R159). -/
def memHolds (s : State) (port : Nat) : Bool :=
  (decide (port < 4) && !rb s R.smINIT_DONE) || (decide (4 ≤ port) && decide (port < 8) && !rb s R.bmINIT_DONE) ||
  (decide (8 ≤ port) && decide (port < 24) && rf s (R.scINIT_DONE (port - 8)) == 0)
/-- The target ports a transaction has beats for (R303): a Stream Memory access that crosses an 8-word boundary has a second one, for the
port of that beat's first word. 31 stands for a decode error. -/
def tPorts (t : Txn) : List Nat :=
  let n := match t.req.kind with | .read n => n | .write ws => ws.length | _ => 1
  if t.port < 4 ∨ 0 < t.off then
    let p := t.req.addr / 8 % 4
    match t.req.kind with
    | .sync _ => [t.port]
    | _ => if t.req.addr % 8 + n ≤ 8 then [p] else [p, (p + 1) % 4]
  else [t.port]
/-- The ports a transaction's beats still have to pass, the present one first. -/
def tAhead (t : Txn) : List Nat := if t.off = 0 then tPorts t else (tPorts t).drop 1

/-- Whether the Midway port of a cluster has closed to its memories (R158). Its register block stays open: R157 has its control words
written in every power state, and R396 an ENABLE written in ISOLATING. -/
def portShut (s : State) (port a : Nat) : Bool :=
  decide (8 ≤ port) && decide (port < 24) && decide (a % 0x100000 < 0x30000) && decide (rf s (R.scUNIT_STATE (port - 8)) = usISOLATING)
/-- Transactions of a master in the matrix, ahead of it those already admitted. -/
def mwIn (s : State) (m : Nat) : List Txn := s.mw.txns.filter (fun t => decide (t.req.master = m) && !tHeld t)
/-- Whether a held transaction may enter the matrix (R304, R307, R309): STRICT waits for its ID's other targets. -/
def mwMayEnter (s : State) (t : Txn) : Bool :=
  let m := t.req.master
  let inn := mwIn s m
  decide (inn.length < 32) && !memHolds s t.port &&
  (mwLoose s m || inn.all (fun u => decide (u.req.id ≠ t.req.id) || (decide (tPorts u = [t.port]) && decide (tPorts t = [t.port])))) &&
  decide ((inn.map (fun u => tWords u.req.kind)).sum + tWords t.req.kind ≤ 64)
/-- Replace the transactions and keep OUTST of every master up to date. -/
def mwSet (s : State) (ts : List Txn) (m : Nat) : State :=
  let s := { s with mw := { s.mw with txns := ts } }
  if m < 21 then wf s (R.mwOUTST m) (min 32 (ts.filter (fun t => decide (t.req.master = m))).length) else s
/-- A port has a request waiting from now on, if it had none. -/
def mwWaits (s : State) (port : Nat) : State :=
  if (kvFind s.mw.waitFrom port).isSome then s else { s with mw := { s.mw with waitFrom := s.mw.waitFrom ++ [(port, s.now)] } }
/-- Let the first held transactions of a master enter, in issue order; a decode error is found as it enters, and answered (R313). The
number argument bounds the walk. -/
def mwAdmit : Nat → State → Nat → State
  | 0, s, _ => s
  | n + 1, s, m =>
    match s.mw.txns.find? (fun t => decide (t.req.master = m) && tHeld t) with
    | none => s
    | some t =>
      if mwMayEnter s t then
        let up := islandUp s (portIsland s t.port t.req.addr) && !portShut s t.port t.req.addr
        let s := if t.port = 31 then decErr s t.req.addr m else if up then mwWaits s t.port else s
        let p : TPhase := if t.port = 31 then .answered s.now stBUS [] 0
          else if up then .waiting s.now else .answered s.now stTIMEOUT [] 0
        mwAdmit n (mwSet s (s.mw.txns.map (fun u => if u.tid = t.tid then { u with ph := p } else u)) m) m
      else s
/-- Admit what may enter of every master. -/
def mwAdmitAll (s : State) : State := (List.range 21).foldl (mwAdmit 64) s
/-- Whether a request is well formed (R304). -/
def tOk (q : TxnReq) : Bool :=
  match q.kind with
  | .read n => decide (1 ≤ n) && decide (q.addr % 16 + n ≤ 16)
  | .write ws => decide (1 ≤ ws.length) && decide (q.addr % 16 + ws.length ≤ 16)
  | .hread n _ _ => decide (1 ≤ n) && decide (n ≤ 16)
  | .hwrite hs => decide (1 ≤ hs.length)
  | .sync p => decide (p < 28)
  | _ => true
/-- A master issues a transaction (R304, R313). -/
def mwIssue (s : State) (q : TxnReq) (tagk gen first : Nat) : State :=
  let port := match q.kind with
    | .hread _ _ _ => some 26 | .hwrite _ => some 26 | .sync p => some p | _ => mwPort s q.addr
  let t : Txn := ⟨s.mw.next, q, port.getD 31, 0, .held, tagk, gen, first, none, 0, 0, stOK, []⟩
  let s := { s with mw := { s.mw with next := s.mw.next + 1 } }
  mwAdmit 64 (mwSet s (s.mw.txns ++ [t]) q.master) q.master
/-- MIDWAY_TRANSACTION (R304): DMA ports issue through their beats. -/
def execMidwayTransaction (t : TxnReq) (s : State) : Host.Outcome State Fault Refusal :=
  gate iMWY s fun s =>
    if mwMaster s t.master ∧ t.id < 32 ∧ t.addr < 2 ^ 36 ∧ (t.master < 4 ∨ 8 ≤ t.master) ∧ tOk t then mwIssue s t 0 0 0 else s

/-- QoS of a request (R312): the queue engine and the identification unit carry 15 on the accesses of R229 and R247 that Calliope waits
for. -/
def tQos (s : State) (t : Txn) : Nat :=
  let m := t.req.master
  if m = 8 ∨ ((m = 9 ∨ m = 11) ∧ t.req.qos = 15) then 15 else if 4 ≤ m ∧ m < 8 then t.req.qos else rf s (R.mwQOS m)
/-- Effective QoS (R311). -/
def tEff (s : State) (t : Txn) : Nat := if tQos s t = 15 then 15 else min 14 (tQos s t + t.age)
/-- When a waiting request is next older by 256 MWY cycles (320 ns). -/
def tAgeAt (t : Txn) : Nat := match t.ph with | .waiting w => w + 320 * (t.age + 1) | _ => 0
/-- QOS_AGING (R311): of the waiting requests of a master and ID, the one due first completes another 256 MWY cycles. -/
def execQosAging (m id : Nat) (s : State) : Host.Outcome State Fault Refusal :=
  gate iMWY s fun s =>
    let ws := s.mw.txns.filter (fun t => decide (t.req.master = m) && decide (t.req.id = id) && tWaiting t)
    match ws.find? (fun t => ws.all (fun u => decide (tAgeAt t ≤ tAgeAt u))) with
    | none => s
    | some t =>
      let s := atLeast s (tAgeAt t)
      mwSet s (s.mw.txns.map (fun u => if u.tid = t.tid then { u with age := u.age + 1 } else u)) m

/-- Every bank of Stream Memory holds zeros with valid check bits (R69). -/
def smInit (s : State) : State :=
  let n := s.cfg.part.streamWords
  wb { s with mem := s.mem.filter (fun e => decide (n ≤ e.1)), ecc := s.ecc.filter (fun e => decide (n ≤ e.1)) } R.smINIT_DONE true
/-- All of Bulk Memory holds zeros (R78). -/
def bmInit (s : State) : State :=
  let mem := s.mem.filter (fun e => decide (e.1 < bulkBase))
  let ecc := s.ecc.filter (fun e => decide (e.1 < bulkBase))
  wb { s with mem := mem, ecc := ecc, bm := { s.bm with comb := [] } } R.bmINIT_DONE true
/-- STREAM_INIT_DONE (R69): every bank holds zeros with valid check bits, and Midway holds its requests no
longer. -/
def execStreamInitDone (s : State) : Host.Outcome State Fault Refusal :=
  gate iVEC s fun s =>
    if rb s R.smINIT_DONE then s else
    mwAdmitAll (smInit (atLeast s (islAt s iVEC + 32768)))

/-- BULK_ZERO_FILL_DONE (R78): Midway holds Bulk Memory's requests no longer. -/
def execBulkZeroFillDone (s : State) : Host.Outcome State Fault Refusal :=
  gate iBLK s fun s =>
    if s.bm.trained ∧ rb s R.bmINIT_DONE = false then mwAdmitAll (bmInit s) else s

/-! ### DMA channels (R315 to R320) -/

def dmaFind (s : State) (c : Nat) : Option DmaCh := s.dma.chans.find? (fun k => decide (k.c = c))
def dmaPut (s : State) (k : DmaCh) : State :=
  { s with dma := { s.dma with chans := s.dma.chans.filter (fun j => decide (j.c ≠ k.c)) ++ [k] } }
def dmaDrop (s : State) (c : Nat) : State :=
  { s with dma := { s.dma with chans := s.dma.chans.filter (fun j => decide (j.c ≠ c)) } }
/-- Captured descriptor fields (Table MWD-5). -/
def dd (d : List Nat) (i hi lo : Nat) : Nat := bits (d.getD i 0) hi lo
def ddIndex (d : List Nat) : Bool := dd d 0 0 0 == 1
def ddHside (d : List Nat) : Nat := dd d 0 10 9
def ddConv (d : List Nat) : Nat := dd d 0 13 11
def ddIxDst (d : List Nat) : Bool := dd d 0 16 16 == 1
def ddRun (d : List Nat) : Nat := dd d 10 31 24 + 1
def ddHaddr (d : List Nat) : Nat := dd d 11 31 0 + dd d 12 31 0 * 2 ^ 32
/-- Line length and line count of a side (0 source, 1 destination). -/
def ddLlen (d : List Nat) (side : Nat) : Nat := dd d (2 + 4 * side) 23 0
def ddLines (d : List Nat) (side : Nat) : Nat := dd d (4 + 4 * side) 23 0
/-- Whether a side is host memory. -/
def ddHost (d : List Nat) (side : Nat) : Bool := decide (ddHside d = side + 1)
/-- Transfer length in device words (R317, R318). -/
def ddLen (d : List Nat) : Nat :=
  if ddIndex d then dd d 10 23 0 * ddRun d
  else if ddHost d 0 then ddLlen d 1 * ddLines d 1 else ddLlen d 0 * ddLines d 0
/-- The descriptor check (R316 to R319). -/
def ddOk (s : State) (d : List Nat) : Bool :=
  let h := ddHside d
  let cv := ddConv d
  decide (h < 3) && (if h = 0 then decide (cv = 0) else decide (1 ≤ cv) && decide (cv ≤ 5) && decide (ddHaddr d % 4 = 0)) &&
  (if ddIndex d then
    let ixa := dd d 9 35 0
    let n := dd d 10 23 0
    decide (1 ≤ n) && (decide (ixa < s.cfg.part.streamWords) || isBulk s ixa) &&
    !(ddHost d 0 && !ddIxDst d) && !(ddHost d 1 && ddIxDst d) && (decide (cv ≠ 5) || decide (ddRun d % 2 = 0))
  else
    let side := fun i => ddHost d i || (decide (1 ≤ ddLlen d i) && decide (1 ≤ ddLines d i) &&
      (decide (cv ≠ 5) || decide (ddLlen d i % 2 = 0)))
    side 0 && side 1 && (decide (h ≠ 0) || decide (ddLlen d 0 * ddLines d 0 = ddLlen d 1 * ddLines d 1)))

/-- Raise a channel's source where the IE bit its start captured selects it (R316, R329). -/
def dmaRaise (s : State) (c k : Nat) : State :=
  raiseIf s (bit (match dmaFind s c with | some x => dd x.desc 0 19 17 | none => rf s (R.dcIE c)) k) (56 + c)
/-- ERR with its code and address, and the trouble bit (R323). -/
def dmaErrSet (s : State) (c code addr : Nat) : State :=
  let s := wf (wf (wb s (R.dcERR c) true) (R.dcERR_CODE c) code) (R.dcERR_ADDR c) addr
  let d := code + addr % 2 ^ 32 * 16
  if c < 36 then notice s 10 c c d else notice s 11 (c - 36) c d
/-- A channel ends by an error (R323): ERR, its code and address, its trouble bit, its source. -/
def dmaErr (s : State) (c code addr : Nat) : State := dmaDrop (dmaRaise (wf (dmaErrSet s c code addr) (R.dcSTATE c) 0) c 2) c
/-- A start is accepted or refused (R316): `cal`: by DMA_START, which Calliope learns of by the second part. -/
def dmaStart (s : State) (c : Nat) (cal : Bool) : Bool × State :=
  if rf s (R.dcSTATE c) ≠ 0 ∨ rf s (R.dcUNIT_STATE c) ≠ usON then
    (false, wb (raiseIf s (!rb s (R.dcSTART_BUSY c)) (56 + c)) (R.dcSTART_BUSY c) true)
  else
    let d := (List.range 13).map (fun i => rdN s ((R.dcMODE c).addr + i))
    let s := wb (wb s (R.dcDONE c) false) (R.dcARRIVED c) false
    if ddOk s d = false then (true, dmaErr s c 1 0)
    else
      let g := s.dma.gen + 1
      let t := ddLen d
      let s := dmaPut { s with dma := { s.dma with gen := g } }
        ⟨c, g, d, cal, t, 0, [], [], 0, 0, 0, 0, [], 0, [], [], [], 0⟩
      (true, wf (wf s (R.dcSTATE c) 1) (R.dcREMAIN c) t)
/-- ABORT (R324): nothing happens on an IDLE channel. -/
def dmaAbort (s : State) (c : Nat) : State :=
  if rf s (R.dcSTATE c) = 0 then s
  else dmaDrop (dmaRaise (wf (wb s (R.dcABORTED c) true) (R.dcSTATE c) 0) c 2) c
/-- A channel that is not IDLE ends as under ABORT with ERR and a code: DRAIN_CUT or RESET (R325, R326). -/
def dmaCut (s : State) (c code : Nat) : State :=
  if rf s (R.dcSTATE c) = 0 then s else dmaErr (wb s (R.dcABORTED c) true) c code 0
/-- A write of START and ABORT: with both set it aborts (R324). -/
def dmaCtl (s : State) (c : Nat) (start abort : Bool) : State :=
  if abort then dmaAbort s c else if start then (dmaStart s c false).2 else s
/-- DMA_CHANNEL_START (R316): a write of 1 to START. -/
def execDmaChannelStart (c : Nat) (s : State) : Host.Outcome State Fault Refusal :=
  gate iMWY s fun s => if c < 64 then dmaCtl s c true false else s
/-- ABORT (R324). -/
def execAbort (c : Nat) (s : State) : Host.Outcome State Fault Refusal :=
  gate iMWY s fun s => if c < 64 then dmaAbort s c else s

end Sys2Proof.Machine
end

