-- ==== Sys2Proof/Machine/Cluster.lean ====
section
/-! DEFINITION. The sequencer of a signal cluster: bundles, landing of results and stores, loops and branches, start, halt, stop,
faults, power, and Midway access to its memories (R133 to R162). -/

namespace Sys2Proof.Machine

/-! ### The cluster's own state -/

def cl (s : State) (n : Nat) : ClusterSt := s.clusters.getD n clZero
def setCl (s : State) (n : Nat) (c : ClusterSt) : State := { s with clusters := s.clusters.set n c }
def modCl (s : State) (n : Nat) (k : ClusterSt → ClusterSt) : State := setCl s n (k (cl s n))

/-- Run states (Table CLU-8). -/
def rsREADY : Nat := 0
def rsRUNNING : Nat := 1
def rsFINISHING : Nat := 2
def rsHALTED : Nat := 3
def rsFAULTED : Nat := 4
def rsSTOPPED : Nat := 5
def runState (s : State) (n : Nat) : Nat := rf s (R.scRUN_STATE n)
def clBusy (s : State) (n : Nat) : Bool := decide (runState s n = rsRUNNING) || decide (runState s n = rsFINISHING)
/-- Power codes of POWER (Tables VEC-9, CLU-11). -/
def pwACTIVE : Nat := 0
def pwIDLE : Nat := 1
def pwRETAINED : Nat := 2
def pwGATED : Nat := 3
/-- Whether the part has cluster n (R133). -/
def hasCl (s : State) (n : Nat) : Bool := decide (n < s.cfg.part.clusters)

/-- TRB4 DETAIL (Table TRB-4). -/
def clDetail (s : State) (n : Nat) : Nat :=
  rf s (R.scFAULT_CAUSE n) + rf s (R.scFAULT_IMPRECISE n) * 2 ^ 6 + rf s (R.scFAULT_PC n) * 2 ^ 16

/-- A command that acts in island CLUn. -/
def gateCl (n : Nat) (s : State) (k : State → State) : Host.Outcome State Fault Refusal :=
  gate (iCLU n) s fun s => if hasCl s n then k s else s

/-! ### Landing (R139 to R142, R147) -/

/-- Write a landed result. -/
def clWriteDst (s : State) (n : Nat) (d : ClDst) (v : Nat) : State :=
  match d with
  | .d p => wf s (R.scD n p) v
  | .ac k => acWrite s n k v
  | .p k => wf s (R.scP n k) v
  | .m k => wf s (R.scM n k) v
  | .b k => wf s (R.scB n k) v
  | .l k => wf s (R.scL n k) v
  | .c k => wf s (fbit (R.scC n) (k - 1)) v
  | .ltgt => modCl s n fun c => { c with ltgt := v % 2 ^ 16 }
  | .flags => s

/-- Landing order: by landing cycle, then issue, then slot (R142: the later issue, and the higher slot, is written last). -/
def flyBefore (a b : ClFly) : Bool :=
  decide (a.land < b.land) || decide (a.land = b.land) && (decide (a.issue < b.issue) || decide (a.issue = b.issue) && decide (a.slot ≤ b.slot))
def flyInsert (a : ClFly) : List ClFly → List ClFly
  | [] => [a]
  | b :: r => if flyBefore a b then a :: b :: r else b :: flyInsert a r
def flySort (l : List ClFly) : List ClFly := l.foldr flyInsert []
/-- Whether two of the results land in one register in one cycle (R142). -/
def flyCollide : List ClFly → Bool
  | [] => false
  | a :: r => r.any (fun b => decide (a.land = b.land) && decide (a.dst = b.dst) && decide (a.dst ≠ .flags)) || flyCollide r

/-- Enter FINISHING on a fault (R155). -/
def clFault (s : State) (n cause pc : Nat) (imprecise : Bool) : State :=
  let s := wf s (R.scFAULT_CAUSE n) cause
  let s := wb s (R.scFAULT_IMPRECISE n) imprecise
  let s := wf s (R.scFAULT_PC n) pc
  let s := wf s (R.scRUN_STATE n) rsFINISHING
  modCl s n fun c => { c with ending := some .fault, bun := [] }

/-- One result lands: a load that met an uncorrectable error writes nothing and stops the cluster with MEM_UE (R147, R155). A result that
loses a collision raises its flags all the same: R142 speaks of the register only (log entry 12). -/
def clLandOne (n : Nat) (s : State) (f : ClFly) : State :=
  match f.ue with
  | some pc => if (cl s n).ending = some .fault then s else clFault s n clMEMUE pc true
  | none => stick (clWriteDst s n f.dst f.val) (R.scARF n) f.fl.toNat

/-- Every result due by a cycle lands. -/
def clLandResults (s : State) (n upTo : Nat) : State :=
  let due := flySort ((cl s n).fly.filter (fun f => decide (f.land ≤ upTo)))
  let s := modCl s n fun c => { c with fly := c.fly.filter (fun f => decide (upTo < f.land)) }
  let s := due.foldl (clLandOne n) s
  iff (flyCollide due) (fun s => wb s (R.scWCOL n) true) s

/-- A store writes its word. A full word takes valid check bits. -/
def clPutWord (s : State) (a : Nat) (p : ClPut) : State :=
  match p with
  | .word w => { wr s a w with ecc := kvDel s.ecc a }
  | .half hi h => wr s a (putHalf2 hi h (rd s a))
where
  /-- Replace one half of a word (R14). -/
  putHalf2 (hi : Bool) (h : Half) (w : Word) : Word :=
    if hi then mkW (h.toNat * 2 ^ 18 + w.toNat % 2 ^ 18) else mkW (w.toNat / 2 ^ 18 * 2 ^ 18 + h.toNat)

/-- Every store due by a cycle reaches memory, in issue order; the words of the shared region it replaces in that cycle are kept
for the comparison of R146. -/
def clLandStores (s : State) (n upTo : Nat) : State :=
  let due := (cl s n).stores.filter (fun f => decide (f.reach ≤ upTo))
  let base := clPhys n false 0x8000
  let sh := due.filter (fun f => decide (f.reach = upTo) && decide (base ≤ f.addr) && decide (f.addr < base + 0x800))
  let s := modCl s n fun c => { c with stores := c.stores.filter (fun f => decide (upTo < f.reach)), shOld := sh.map (fun f => (f.addr, rd s f.addr)) }
  due.foldl (fun s f => clPutWord s f.addr f.put) s

/-- Everything due by a cycle lands. -/
def clLand (s : State) (n upTo : Nat) : State := clLandStores (clLandResults s n upTo) n upTo

/-! ### Loops (R149 to R151) -/

/-- The end bundle at `pc` ends an iteration: levels afterwards, iteration ends of rotating levels, and the body to repeat
(R150). -/
def loopEnd (pc : Nat) : List ClLoop → List ClLoop × Nat × Option Nat
  | [] => ([], 0, none)
  | l :: r =>
    if l.fin = pc then
      if 1 < l.left then ({ l with left := l.left - 1 } :: r, b2n l.rot, some l.first)
      else let q := loopEnd pc r; (q.1, b2n l.rot + q.2.1, q.2.2)
    else (l :: r, 0, none)

/-- Evaluate a loop end that is due (R150). -/
def clLoopEnd (s : State) (n : Nat) : State :=
  match (cl s n).due with
  | none => s
  | some pc =>
    let r := loopEnd pc (cl s n).levels
    let s := modCl s n fun c => { c with levels := r.1, due := none }
    let s := wf s (R.scCPOS n) (rf s (R.scCPOS n) + r.2.1)
    match r.2.2 with
    | some t => wf s (R.scPC n) t
    | none => s

/-- Levels left after a branch to `t`: a target outside a level's body closes it and every level inside it (R151). -/
def branchLevels (t : Nat) : List ClLoop → List ClLoop
  | [] => []
  | l :: r =>
    let r' := branchLevels t r
    if r'.length = r.length ∧ l.first ≤ t ∧ t ≤ l.fin then l :: r' else r'

/-! ### Bundles (R134 to R137) -/

/-- Whether a condition field lets an operation execute (Table CLU-3, R136). -/
def clCond (s : State) (n cond : Nat) : Bool :=
  let k := cond % 8
  let v := decide (k = 0) || bit (rf s (R.scC n)) (k - 1)
  if cond < 8 then v else !v
def opEnd (w : Word) : Bool := bit w.toNat 35
def opUnit (w : Word) : Nat := bits w.toNat 34 32
def opCond (w : Word) : Nat := bits w.toNat 31 28
def opBody (w : Word) : Nat := bits w.toNat 27 0
/-- Physical address of a program word. -/
def clProg (n w : Nat) : Nat := 0x10000000 + n * 0x100000 + 0x20000 + w
/-- UNIT strictly ascends, and END stands on the last operation only (R134). -/
def bundleShape : List Word → Bool
  | [] => false
  | [w] => opEnd w
  | w :: v :: r => !opEnd w && decide (opUnit w < opUnit v) && bundleShape (v :: r)
/-- Number of words of the bundle at a program address. -/
def bundleLen (s : State) (n : Nat) : Nat → Nat → Nat
  | _, 0 => 0
  | pc, k + 1 => if opEnd (rd s (clProg n pc)) then 1 else 1 + bundleLen s n (pc + 1) k

/-- The effects of a bundle's operations, or the cause of its fault: the lowest slot's (R136, R155). -/
def bundleEff (s : State) (n : Nat) : List Word → Nat ⊕ List (Nat × ClOut)
  | [] => .inr []
  | w :: r =>
    let x : ClIn := ⟨s, n, (cl s n).cyc, opUnit w, opBody w⟩
    match clOp (cl s n).ltgt x with
    | none => .inl clILLEGAL
    | some (legal, e) =>
      if !legal then .inl clILLEGAL
      else if !clCond s n (opCond w) then bundleEff s n r
      else if usesDivider x.slot (x.f 27 22) ∧ (cl s n).cyc < (cl s n).divFree then .inl clILLEGAL
      else match e with
        | .bad c => .inl c
        | .ok o => match bundleEff s n r with
          | .inl c => .inl c
          | .inr l => .inr ((x.slot, o) :: l)

/-- The sequencing a bundle asks for: at most one operation is of the B unit. -/
def bundleCtl (l : List (Nat × ClOut)) : ClCtl := ((l.find? (fun e => decide (e.1 = 6))).map (fun e => e.2.ctl)).getD .none
/-- A LOOP's own faults (R149, R175). -/
def loopFault (levels : List ClLoop) (pc : Nat) : ClCtl → Option Nat
  | .loop count fin _ =>
    if fin ≤ pc then some clILLEGAL
    else if levels.head?.elim false (fun l => decide (l.fin < fin)) then some clILLEGAL
    else if 0 < count ∧ 3 ≤ levels.length then some clLOOPDEPTH
    else none
  | _ => none

/-- An access of the cluster's to a DMA-owned sub-bank (R145). -/
def clOwnCheck (n : Nat) (s : State) (o : ClOut) : State :=
  if o.touch.any (fun t => bit (rf s (if t.1 then R.scOWN_Y n else R.scOWN_X n)) t.2) then
    notice (cnt (wb s (R.scOWNVIOL n) true) (R.scOWNVIOL_CNT n)) 4 (16 + n) n (clDetail s n)
  else s
/-- A corrected single-bit error of a word: counted and written back (R147). -/
def clCorrected (n : Nat) (s : State) (a : Nat) : State := cnt { s with ecc := kvDel s.ecc a } (R.scCE_CNT n)

/-- Put one operation's results and stores in flight (R139 to R141). -/
def clLaunch (n pc : Nat) (s : State) (e : Nat × ClOut) : State :=
  let s := e.2.ce.foldl (clCorrected n) s
  let s := clOwnCheck n s e.2
  modCl s n fun c => { c with
    fly := c.fly ++ e.2.res.map (fun r => ⟨r.dst, r.val, r.fl, c.cyc + r.lat, c.cyc, e.1, if r.ue then some pc else none⟩)
    stores := c.stores ++ e.2.st.map (fun q => ⟨q.1, q.2, c.cyc + 3⟩)
    divFree := if e.2.div = 0 then c.divFree else c.cyc + e.2.div
    touch := c.touch ++ e.2.touch }

/-- After a bundle of `len` words at `pc` has issued: the next bundle's place and cycle (R143, R149 to R151, R153). -/
def clSequence (s : State) (n pc len : Nat) (k : ClCtl) : State :=
  let next := (pc + len) % 2 ^ 16
  let go (s : State) (t d : Nat) : State := wf (modCl s n fun c => { c with cyc := c.cyc + d }) (R.scPC n) t
  match k with
  | .halt =>
    let s := go s next 1
    wf (modCl s n fun c => { c with levels := [], ending := some .halt }) (R.scRUN_STATE n) rsFINISHING
  | .br t => go (modCl s n fun c => { c with levels := branchLevels t c.levels }) t 4
  | .loop 0 fin _ => go s ((fin + bundleLen s n fin 8) % 2 ^ 16) 4
  | .loop (count + 1) fin rot => go (modCl s n fun c => { c with levels := ⟨count + 1, next, fin, rot⟩ :: c.levels }) next 1
  | .none =>
    let s := if (cl s n).levels.head?.elim false (fun l => decide (l.fin = pc)) then modCl s n fun c => { c with due := some pc } else s
    go s next 1

/-! ### Midway access to X, Y and shared memory (R144 to R147, R157) -/

/-- What a window access asks for: its offset, and a write's merge. -/
def winOff : WinAcc → Nat
  | .read o => o
  | .write o _ _ _ => o
/-- A word with the halves of a write merged in. -/
def winMerge (old w : Word) (hi lo : Bool) : Word :=
  mkW ((if hi then w.toNat else old.toNat) / 2 ^ 18 * 2 ^ 18 + (if lo then w.toNat else old.toNat) % 2 ^ 18)

/-- The access itself: status (Table MWD-3), word, state (R145, R147). -/
def winPerform (s : State) (n : Nat) (w : WinAcc) : Nat × Word × State :=
  let a := 0x10000000 + n * 0x100000 + winOff w
  match w with
  | .read _ =>
    match kvFind s.ecc a with
    | some .unc => (3, 0#36, s)
    | some (.corr _) => (0, rd s a, clCorrected n s a)
    | none => (0, rd s a, s)
  | .write _ v hi lo =>
    let s' := wr s a (winMerge (rd s a) v hi lo)
    (0, 0#36, if hi && lo then { s' with ecc := kvDel s'.ecc a } else s')

/-- A Midway access in a CLU cycle: `none` where it is to be retried in the next one (R145), else its status and word. The closed port of
a cluster in ISOLATING (R158) answers nothing, which Midway makes a TIMEOUT (R314, log entry 55). -/
def winAccess (s : State) (n : Nat) (w : WinAcc) (first : Bool) : Option (Nat × Word) × State :=
  let o := winOff w
  let base := 0x10000000 + n * 0x100000
  if rf s (R.scINIT_DONE n) = 0 then (none, s)
  else if rf s (R.scUNIT_STATE n) = usISOLATING then (some (5, 0#36), s)
  else if 0x10000 ≤ o then
    if 0x10800 ≤ o then (some (1, 0#36), s)
    else if rf s (R.scPOWER n) = pwGATED then
      match w with
      | .read _ => (some (0, 0#36), s)
      | .write _ _ _ _ => (some (4, 0#36), wb s (R.scSHARED_LOST n) true)
    else
      match kvFind (cl s n).shOld (base + o), w with
      | some old, .read _ => (some (0, old), s)
      | some _, .write _ _ _ _ => (some (4, 0#36), wb s (R.scSHARED_LOST n) true)
      | none, _ => let r := winPerform s n w; (some (r.1, r.2.1), r.2.2)
  else if 2 ≤ rf s (R.scPOWER n) then (some (1, 0#36), s)
  else
    let y := decide (0x8000 ≤ o)
    let b := o % 0x8000 / 4096
    let dma := bit (rf s (if y then R.scOWN_Y n else R.scOWN_X n)) b
    if dma = false ∧ clBusy s n then (some (2, 0#36), cnt s (R.scOWN_REJECT_CNT n))
    else if first ∧ dma ∧ (cl s n).touch.contains (y, b) then (none, s)
    else let r := winPerform s n w; (some (r.1, r.2.1), r.2.2)

/-- Whether the CLU cycle after the last bundle's issues none: a killed cycle, or one of a run that has ended (R143, R151, R153). -/
def clQuiet (s : State) (n : Nat) : Bool := decide (runState s n ≠ rsRUNNING) || decide ((cl s n).iss + 1 < (cl s n).cyc)
/-- Try one access: its answer is kept under its tag, or it waits to be retried in the next cycle (R145), which is at once where that cycle
issues no bundle. -/
def winTry (n : Nat) (s : State) (q : ClRetry) : State :=
  let r := winAccess s n q.acc true
  let r := if r.1.isNone ∧ clQuiet s n = true then winAccess r.2 n q.acc false else r
  match r.1 with
  | none => modCl r.2 n fun c => { c with retry := c.retry ++ [q] }
  | some (st, w) => modCl r.2 n fun c => { c with resp := c.resp ++ [⟨q.tag, st, [w]⟩] }
/-- The retried accesses of the last cycle are tried again (R145). -/
def winRetry (s : State) (n : Nat) : State :=
  let qs := (cl s n).retry
  qs.foldl (winTry n) (modCl s n fun c => { c with retry := [] })

/-- A bundle's cycle (R134 to R155): a due loop end is evaluated, what is due lands, the bundle is fetched and checked, its
operations read their sources together, and the next bundle's place follows. A faulting bundle has no effect. -/
def clCycle (s : State) (n : Nat) (ws : List Word) : State :=
  let s := clLoopEnd s n
  let s := clLand (modCl s n fun c => { c with bun := [], touch := [] }) n (cl s n).cyc
  if runState s n ≠ rsRUNNING then s else
  let pc := rf s (R.scPC n)
  let at_ := (List.range ws.length).map (fun i => clProg n (pc + i))
  if at_.any (fun a => decide (kvFind s.ecc a = some .unc)) then clFault s n clPROGUE pc false else
  let s := (at_.filter (fun a => (kvFind s.ecc a).isSome)).foldl (clCorrected n) s
  if !bundleShape ws ∨ 2 ^ 16 < pc + ws.length ∨ 8 < ws.length then clFault s n clILLEGAL pc false else
  match bundleEff s n ws with
  | .inl c => clFault s n c pc false
  | .inr l =>
    let k := bundleCtl l
    match loopFault (cl s n).levels pc k with
    | some c => clFault s n c pc false
    | none => clSequence (l.foldl (clLaunch n pc) (modCl s n fun c => { c with iss := c.cyc })) n pc ws.length k
/-- A bundle issues, and the Midway accesses to be retried are tried again in its cycle (R145). -/
def clBundle (s : State) (n : Nat) (ws : List Word) : State := winRetry (clCycle s n ws) n

/-- One operation of the bundle cluster n is issuing: the bundle issues with the operation that carries END, or that breaks the
bundle rules (R134). -/
def clIssue (n : Nat) (w : Word) (s : State) : State :=
  if runState s n ≠ rsRUNNING then s else
  let b := (cl s n).bun ++ [w]
  let asc := match (cl s n).bun.getLast? with | some v => decide (opUnit v < opUnit w) | none => true
  if opEnd w ∨ b.length = 8 ∨ asc = false then clBundle s n b else modCl s n fun c => { c with bun := b }

/-- Fetch the words of the bundle at PC (R135). -/
def clFetch (s : State) (n : Nat) : List Word := rdBlock s (clProg n (rf s (R.scPC n))) (bundleLen s n (rf s (R.scPC n)) 8)
/-- A running cluster fetches and issues its next bundle. A loop end that is due comes first. -/
def clStep (s : State) (n : Nat) : State :=
  if runState s n ≠ rsRUNNING then s else
  let s := clLoopEnd s n
  clBundle s n (clFetch s n)

/-! ### Start, stop, finish (R152 to R156) -/

/-- The start is carried out. -/
def clBegin (s : State) (n entry : Nat) : State :=
  let s := wf (wb (wf s (R.scFAULT_CAUSE n) 0) (R.scFAULT_IMPRECISE n) false) (R.scFAULT_PC n) 0
  let s := wf (wf s (R.scPC n) entry) (R.scCPOS n) 0
  let s := cnt s (R.scSTART_CNT n)
  let s := wf (wf s (R.scRUN_STATE n) rsRUNNING) (R.scPOWER n) pwACTIVE
  modCl s n fun c => { c with cyc := c.cyc + 2, run0 := c.cyc + 2, levels := [], ltgt := 0, bun := [], due := none, ending := none,
                              touch := [], shOld := [], startWait := none }

/-- Wake time in nanoseconds from a power state (R157). -/
def clWakeNs (pw : Nat) : Nat := if pw = pwRETAINED then 300 else 1200
/-- Begin a wake, if none is in progress. -/
def clWake (s : State) (n : Nat) : State :=
  if 2 ≤ rf s (R.scPOWER n) ∧ (cl s n).waking.isNone ∧ rf s (R.scUNIT_STATE n) = usON then
    modCl s n fun c => { c with waking := some (s.now + clWakeNs (rf s (R.scPOWER n))) }
  else s

/-- A start request at an entry point (R152, R157). -/
def clStart (s : State) (n entry : Nat) : State :=
  let off := rf s (R.scUNIT_STATE n) ≠ usON
  let s := if clBusy s n then wb s (R.scSTART_LATE n) true else s
  let s := if off ∨ runState s n = rsFAULTED then wb s (R.scSTART_REFUSED n) true else s
  if clBusy s n ∨ off ∨ runState s n = rsFAULTED then s
  else if 2 ≤ rf s (R.scPOWER n) then
    let s := clWake s n
    modCl s n fun c => { c with startWait := some (entry, (c.startWait.map Prod.snd).getD s.now) }
  else clBegin s n entry

/-- A stop with a cause ends issue before the next bundle (R154). -/
def clStop (s : State) (n cause : Nat) : State :=
  if runState s n ≠ rsRUNNING then s else
  let s := clLoopEnd s n
  wf (modCl s n fun c => { c with bun := [], ending := some .stop, stopCause := cause }) (R.scRUN_STATE n) rsFINISHING

/-! ### Power (R157) -/

/-- Registers from offset 0x1000 of cluster n's block, and X, Y and shared memory: what GATED does not keep. -/
def clVolatile (n a : Nat) : Bool :=
  let b := 0x10000000 + n * 0x100000
  (decide (b ≤ a) && decide (a < b + 0x20000)) || (decide (b + 0x31000 ≤ a) && decide (a < b + 0x40000))
/-- Lose what GATED does not keep: it reads zero. -/
def clLose (s : State) (n : Nat) : State :=
  { s with mem := s.mem.filter (fun e => !clVolatile n e.1), ecc := s.ecc.filter (fun e => !clVolatile n e.1) }
/-- Enter RETAINED or GATED from IDLE. -/
def clPowerDown (s : State) (n : Nat) : State :=
  if rf s (R.scPOWER n) = pwIDLE ∧ clBusy s n = false then
    if rb s (R.scRETAIN_EN n) then wf s (R.scPOWER n) pwRETAINED else clLose (wf s (R.scPOWER n) pwGATED) n
  else s
/-- SLEEP (R157, R188): the cluster powers down now where it is IDLE, at the end of its run where it is ACTIVE. -/
def clSleep (s : State) (n : Nat) : State :=
  if rf s (R.scPOWER n) = pwIDLE then clPowerDown s n
  else if rf s (R.scPOWER n) = pwACTIVE then modCl s n fun c => { c with sleep := true }
  else s

/-- The cycle in which the last result or store in flight lands. -/
def clLastCyc (c : ClusterSt) : Nat := c.stores.foldl (fun m f => max m f.reach) (c.fly.foldl (fun m f => max m f.land) c.cyc)

/-- The end of a finishing run: everything in flight has landed (R153 to R155). -/
def clFinish (s : State) (n : Nat) : State :=
  if runState s n ≠ rsFINISHING then s else
  let last := clLastCyc (cl s n)
  let s := clLand s n last
  let e := (cl s n).ending
  let s := modCl s n fun c => { c with cyc := last, ending := none, touch := [], shOld := [], idleSince := s.now }
  let s := wf s (R.scPOWER n) pwIDLE
  let s := match e with
    | some .halt =>
      let s := wf s (R.scLAST_RUN_CYCLES n) (min (last - (cl s n).run0) (2 ^ 36 - 1))
      { wf s (R.scRUN_STATE n) rsHALTED with calIn := s.calIn ++ [.clusterHalted n] }
    | some .fault =>
      let s := notice (raise (wf s (R.scRUN_STATE n) rsFAULTED) (32 + n)) 4 n n (clDetail s n)
      { s with calIn := s.calIn ++ [.clusterFault n] }
    | _ => wf (wf s (R.scRUN_STATE n) rsSTOPPED) (R.scSTOP_CAUSE n) (cl s n).stopCause
  let s := winRetry s n
  if (cl s n).sleep then clPowerDown (modCl s n fun c => { c with sleep := false }) n else s

/-- FAULT_ACK (R156). -/
def clFaultAck (s : State) (n : Nat) : State :=
  if runState s n = rsFAULTED then wf (wf s (R.scRUN_STATE n) rsSTOPPED) (R.scSTOP_CAUSE n) 0 else s

/-! ### Meanings -/

/-- START (R152): a write of 1 to START; ignored while TT_OWNED is 1. -/
def execStart (n : Nat) (s : State) : Host.Outcome State Fault Refusal :=
  gateCl n s fun s => if rb s (R.scTT_OWNED n) then s else clStart s n (rf s (R.scENTRY n))
/-- STOP (R154): a write of 1 to STOP; ignored while TT_OWNED is 1. -/
def execStop (n : Nat) (s : State) : Host.Outcome State Fault Refusal :=
  gateCl n s fun s => if rb s (R.scTT_OWNED n) then s else clStop s n 3
/-- FAULT_ACK (R156). -/
def execFaultAck (n : Nat) (s : State) : Host.Outcome State Fault Refusal := gateCl n s fun s => clFaultAck s n
/-- LOOP_ITERATION_END (R150). -/
def execLoopIterationEnd (n : Nat) (s : State) : Host.Outcome State Fault Refusal := gateCl n s fun s => clLoopEnd s n
/-- The cycle the next thing in flight lands in, while the cluster issues nothing. -/
def clNextCyc (c : ClusterSt) (ts : List Nat) : Nat := ts.foldl min (ts.head?.getD c.cyc)
/-- CLUSTER_RESULT_LANDING (R139, R140, R142): results due in the present cycle land; in a cluster that no longer issues, those of
the next cycle with one. -/
def execClusterResultLanding (n : Nat) (s : State) : Host.Outcome State Fault Refusal :=
  gateCl n s fun s =>
    if runState s n = rsRUNNING then clLandResults s n (cl s n).cyc
    else
      let t := max (cl s n).cyc (clNextCyc (cl s n) ((cl s n).fly.map ClFly.land))
      clLandResults (modCl s n fun c => { c with cyc := t }) n t
/-- STORE_REACHES_MEMORY (R141). -/
def execStoreReachesMemory (n : Nat) (s : State) : Host.Outcome State Fault Refusal :=
  gateCl n s fun s =>
    if runState s n = rsRUNNING then clLandStores s n (cl s n).cyc
    else
      let t := max (cl s n).cyc (clNextCyc (cl s n) ((cl s n).stores.map ClStore.reach))
      clLandStores (modCl s n fun c => { c with cyc := t }) n t
/-- CLUSTER_FINISH (R153 to R155). -/
def execClusterFinish (n : Nat) (s : State) : Host.Outcome State Fault Refusal := gateCl n s fun s => clFinish s n
/-- CLUSTER_WINDOW_ACCESS (R145, R146): a Midway access to X, Y or shared memory, in the cycle of the bundle issued last. -/
def execClusterWindowAccess (n tag : Nat) (w : WinAcc) (s : State) : Host.Outcome State Fault Refusal :=
  gateCl n s fun s => if winOff w < 0x10800 then winTry n s ⟨tag, w⟩ else s
/-- CLUSTER_IDLE_TIMEOUT (R157). -/
def execClusterIdleTimeout (n : Nat) (s : State) : Host.Outcome State Fault Refusal :=
  gateCl n s fun s =>
    let t := rf s (R.scIDLE_TIME n)
    if t ≠ 0 ∧ rf s (R.scPOWER n) = pwIDLE ∧ clBusy s n = false then clPowerDown (atLeast s ((cl s n).idleSince + t * 1000)) n else s
/-- CLUSTER_WAKE_DONE (R157): the wake ends, and a waiting start proceeds, its wait counted in CLU cycles. -/
def execClusterWakeDone (n : Nat) (s : State) : Host.Outcome State Fault Refusal :=
  gateCl n s fun s =>
    match (cl s n).waking with
    | none => s
    | some t =>
      let s := atLeast s t
      let s := wf (modCl s n fun c => { c with waking := none, idleSince := s.now }) (R.scPOWER n) pwIDLE
      match (cl s n).startWait with
      | none => s
      | some (entry, since) => clBegin (cntAdd s (R.scWAKE_WAIT_CNT n) ((s.now - since) * 4 / 5)) n entry
/-- All four memories of a cluster hold zero with valid check bits (R159). -/
def clInit (s : State) (n : Nat) : State :=
  let b := 0x10000000 + n * 0x100000
  let inMem (a : Nat) : Bool := decide (b ≤ a) && decide (a < b + 0x30000)
  wb { s with mem := s.mem.filter (fun e => !inMem e.1), ecc := s.ecc.filter (fun e => !inMem e.1) } (R.scINIT_DONE n) true
/-- CLUSTER_INIT_DONE (R159): all four memories hold zero, and held window accesses proceed. -/
def execClusterInitDone (n : Nat) (s : State) : Host.Outcome State Fault Refusal :=
  gateCl n s fun s =>
    if rb s (R.scINIT_DONE n) then s else
    let s := atLeast s (islAt s (iCLU n) + 10240)
    mwAdmitAll (winRetry (clInit s n) n)

end Sys2Proof.Machine
end

