-- ==== Sys2Proof/Machine/Prbs.lean ====
section
/-! DEFINITION. Probe sequences (R246): the chip of a channel at any probe step, by modular exponentiation of x over GF(2). -/

namespace Sys2Proof.Machine

/-- Default taps of Table IDN-2 as a mask: bit t − 1 set for tap t. -/
def defTaps (k : Nat) : Nat :=
  let m (l : List Nat) : Nat := l.foldl (fun a t => a + 2 ^ (t - 1)) 0
  match k with
  | 7 => m [7, 6] | 8 => m [8, 6, 5, 4] | 9 => m [9, 5] | 10 => m [10, 7] | 11 => m [11, 9] | 12 => m [12, 6, 4, 1]
  | 13 => m [13, 4, 3, 1] | 14 => m [14, 5, 3, 1] | 15 => m [15, 14] | 16 => m [16, 15, 13, 4] | 17 => m [17, 14]
  | 18 => m [18, 11] | 19 => m [19, 6, 2, 1] | 20 => m [20, 17] | 21 => m [21, 19] | 22 => m [22, 21] | 23 => m [23, 18]
  | _ => 0

/-- x^K modulo the recurrence's polynomial: the sum of x^(K−t) over the taps t. -/
def prbsFeedback (k taps : Nat) : Nat := revBits k (taps % 2 ^ k)
/-- Multiply a polynomial of degree below K by x, reduced. -/
def polyX (k fb a : Nat) : Nat :=
  let b := 2 * a
  if bit b k then (b % 2 ^ k) ^^^ fb else b
/-- Product of two reduced polynomials by Horner's rule over the low j bits of `b`, highest first. -/
def polyMul (k fb a b : Nat) : Nat → Nat → Nat
  | 0, acc => acc
  | j + 1, acc => polyMul k fb a b j (polyX k fb acc ^^^ (if bit b j then a else 0))
/-- x^r, the exponent's bits taken from the top; the first argument counts them. -/
def polyPow (k fb r : Nat) : Nat → Nat
  | 0 => 1
  | n + 1 =>
    let q := polyPow k fb (r / 2) n
    let sq := polyMul k fb q q k 0
    if r % 2 = 1 then polyX k fb sq else sq

/-- Sequence bit a_r (R246). -/
def prbsBit (k taps r : Nat) : Bool := bit (polyPow k (prbsFeedback k taps) r 24) 0

/-- The chip of a channel at a probe step is +1 (R246). -/
def chipPlus (s : State) (ch : Nat) (n : Int) : Bool :=
  let k := rf s (R.idnK ch)
  let t := rf s (R.idnTAPS ch)
  let l : Int := 2 ^ k - 1
  !prbsBit k (if t = 0 then defTaps k else t) ((n + rf s (R.idnPHASE ch)) % l).toNat

end Sys2Proof.Machine
end

