-- ==== Sys2Proof/Machine/Ident.lean ====
section
/-! DEFINITION. The identification unit: probe channels, the probe adder's components, the Probe Guard and the Response Map
(R243 to R261). -/

namespace Sys2Proof.Machine

/-! ### Channels (R243 to R245) -/

/-- The channels whose word 0 is listed: every configured channel is among them. -/
def idnListed (s : State) : List Nat :=
  let b := blkBase .idn 0 + 0x8000
  s.mem.filterMap (fun e => if b ≤ e.1 ∧ e.1 < b + 0x8000 ∧ (e.1 - b) % 8 = 0 then some ((e.1 - b) / 8) else none)
/-- Whether a channel counts as one that names its target (R245). -/
def idnLive (s : State) (c : Nat) : Bool :=
  let u := rf s (R.idnUNIT_STATE c)
  decide (u = usON) || decide (u = usDRAINING) || decide (u = usWAKING)
/-- Whether a channel names a target in ON, DRAINING or WAKING (R245). -/
def idnNames (s : State) (c port stream elem : Nat) : Bool :=
  idnLive s c && decide (rf s (R.idnPORT c) = port) && decide (rf s (R.idnSTREAM c) = stream) && decide (rf s (R.idnELEM c) = elem)
/-- Set a sticky bit of word 0x000C: source 173 when it was 0, and its trouble bit (R261). -/
def idnStick (s : State) (f : Field) (b c : Nat) : State :=
  let old := rb s f
  notice (raiseIf (wb s f true) (!old) 173) 8 b c 0
def idnReject (s : State) (c : Nat) : State := idnStick s R.idnCFG_REJECT 7 c

/-- The checks of a write of VALID from 0 to 1 (R244). -/
def idnEntryOk (s : State) (c : Nat) (w : Word) : Bool :=
  let k := rf s (R.idnK c)
  let t := rf s (R.idnTAPS c)
  decide (7 ≤ k) && decide (k ≤ 23) && (decide (t = 0) || (bit t (k - 1) && decide (t < 2 ^ k))) &&
  decide (rf s (R.idnPHASE c) < 2 ^ k - 1) && decide (bits w.toNat 7 5 < s.cfg.part.ports)

/-- Whether another channel names channel c's target (R245). -/
def idnTaken (s : State) (c : Nat) : Bool :=
  (idnListed s).any (fun d => decide (d ≠ c) && idnNames s d (rf s (R.idnPORT c)) (rf s (R.idnSTREAM c)) (rf s (R.idnELEM c)))
/-- ENABLE of a channel: an enable whose target another channel names is refused with CONFLICT (R245). -/
def idnEnable (s : State) (c : Nat) (en : Bool) : State :=
  if en = true ∧ rb s (R.idnENABLE c) = false ∧ idnTaken s c = true then
    idnStick s R.idnCONFLICT 6 c
  else unitEnable s (.probe c) en

/-- The target fields of a channel's word 0 written. -/
def idnTarget (s : State) (c : Nat) (w : Word) : State :=
  wf (wf (wf s (R.idnPORT c) (bits w.toNat 7 5)) (R.idnSTREAM c) (bits w.toNat 17 8)) (R.idnELEM c) (bits w.toNat 29 18)
/-- A write of a channel's word 0 (R244): VALID first, then ENABLE; a refused write leaves the entry unchanged. One that would turn a
channel in ON, DRAINING or WAKING to a target that another names is refused with CONFLICT, as an enable is (R245, log entry 45). -/
def idnWrite0 (s : State) (c : Nat) (w : Word) : State :=
  let v := bit w.toNat 0
  let old := rb s (R.idnVALID c)
  if v = true ∧ old = false ∧ idnEntryOk s c w = false then idnReject s c
  else if v = false ∧ old = true ∧ rf s (R.idnUNIT_STATE c) ≠ usOFF then idnReject s c
  else if idnLive s c ∧ idnTaken (idnTarget s c w) c then idnStick s R.idnCONFLICT 6 c
  else
    let s := idnTarget (wb s (R.idnVALID c) v) c w
    idnEnable s c (bit w.toNat 1)

/-- CHANNEL_VALID_WRITE (R244). -/
def execChannelValidWrite (c : Nat) (w : Word) (s : State) : Host.Outcome State Fault Refusal :=
  gate iMWY s fun s => if c < 4096 then idnWrite0 s c w else s

/-- PSTEP (R247). -/
def pstep (s : State) : Nat := rf s R.idnPSTEP_LO + rf s R.idnPSTEP_HI * 2 ^ 36
/-- A write to PSTEP_LO or PSTEP_HI: ignored outside CONFIGURE (R247). -/
def pstepWrite (s : State) (hi : Bool) (w : Word) : State :=
  if mode s = mCONFIGURE then wf s (if hi then R.idnPSTEP_HI else R.idnPSTEP_LO) w.toNat else s
/-- PSTEP_WRITE (R247). -/
def execPstepWrite (hi : Bool) (w : Word) (s : State) : Host.Outcome State Fault Refusal := gate iMWY s fun s => pstepWrite s hi w

/-! ### Checked Stream Memory accesses of the unit -/

/-- Whether Midway and Stream Memory answer: both islands released and clocked (R314, R326, R388). -/
def smReach (s : State) : Bool := isUp s iMWY && isUp s iVEC && !s.forced.getLsbD iVEC
/-- A shared-class read within the part's Stream Memory: status, word, state. -/
def smRd (s : State) (a : Nat) : Nat × Word × State :=
  if s.cfg.part.streamWords ≤ a then (stBUS, 0#36, s) else if smReach s then smAccess s a .read else (stTIMEOUT, 0#36, s)
/-- A shared-class write within the part's Stream Memory. -/
def smPut (s : State) (a : Nat) (w : Word) : State :=
  if a < s.cfg.part.streamWords ∧ smReach s then (smAccess s a (.write w)).2.2 else s
/-- The same by any master but the queue engine: a protected Latest Value Table takes none (R70). -/
def smWr (s : State) (a : Nat) (w : Word) : State := if rb s R.smLVT_PROT ∧ inLvt s a then s else smPut s a w

/-! ### Probe Guard (R250 to R252) -/

/-- No FRAME_EMIT whose assembly has not begun carries a component any more (R248, R251). -/
def emitsStrip (s : State) : State :=
  { s with fld := { s.fld with
      emitFly := s.fld.emitFly.map (fun e => (e.1, { e.2 with apply := false }))
      ports := s.fld.ports.map (fun p => { p with emits := p.emits.map (fun e => { e with apply := false }) }) } }
/-- What each trip does (R251). -/
def guardTrip (s : State) : State :=
  let s := wf s R.idnGUARD_STATE 1
  let s := cnt (wb s R.idnGUARD_TRIP true) R.idnGUARD_TRIP_CNT
  notice (raise (wf s R.idnTRIP_STEP (rf s R.idnPSTEP_LO)) 168) 8 0 0 0
/-- An event trip or a forced trip: the last step status is rewritten as not applied, and the adders stop (R251). -/
def guardTripNow (s : State) : State :=
  if rf s R.idnGUARD_STATE = 1 then s else
  let s := wf (emitsStrip (guardTrip s)) R.idnRUN 0
  match s.idn.lastStat with
  | some a => smWr s a 0#36
  | none => s
/-- A coalescer class opened a window (R251). -/
def guardEvent (s : State) (c : Nat) : State :=
  if rb s R.idnGUARD_EN ∧ bit (rf s R.idnGUARD_EVENTS) c then guardTripNow s else s
/-- PROBE_OFF is 1: probing resumes at the first PROBE_STEP that finds it 0 (R251). -/
def probeOff (s : State) : State := if rb s R.idnPROBE_OFF then { s with idn := { s.idn with off := true } } else s
/-- GUARD_FORCE (R251). -/
def execGuardForce (s : State) : Host.Outcome State Fault Refusal := gate iMWY s fun s => guardTripNow s

/-- Whether the GUARD_SRC value is above GUARD_LIMIT or a NaN, or cannot be read; and the state after the read. -/
def guardHigh (s : State) : Bool × State :=
  let r := smRd s (rf s R.idnGUARD_SRC)
  (decide (r.1 ≠ stOK) || fpIsNaN fF36 r.2.1.toNat || (fpCmp fF36 .gt r.2.1.toNat (rf s R.idnGUARD_LIMIT)).1, r.2.2)
/-- Whether a class in GUARD_EVENTS has an OPEN buffer (R252). -/
def guardOpenEvent (s : State) : Bool :=
  (List.range 16).any (fun c => bit (rf s R.idnGUARD_EVENTS) c &&
    (decide (rf s (R.fcBUF_STATE c) % 4 = 1) || decide (rf s (R.fcBUF_STATE c) / 4 = 1)))
/-- The guard's evaluation of a step (R250, R252). -/
def guardStep (s : State) : State :=
  if rf s R.idnGUARD_STATE = 0 then
    if rb s R.idnGUARD_EN ∧ rb s R.idnPROBE_OFF = false then
      let r := guardHigh s
      if r.1 then guardTrip r.2 else r.2
    else s
  else
    let r := guardHigh s
    let s := r.2
    if r.1 ∨ guardOpenEvent s then wf s R.idnQUIET_CNT 0
    else
      let q := rf s R.idnQUIET_CNT + 1
      if max 1 (rf s R.idnGUARD_QUIET) ≤ q then
        notice (raise (wf (wf s R.idnQUIET_CNT 0) R.idnGUARD_STATE 0) 169) 8 1 0 0
      else wf s R.idnQUIET_CNT q

/-- A PROBE_STEP (R247, R257); it ends the DRAINING of every channel (R259). -/
def probeStep (s : State) : State :=
  if s.probeOk = false then s else
  let n := pstep s + 1
  let s := wf (wf s R.idnPSTEP_LO n) R.idnPSTEP_HI (n / 2 ^ 36)
  let s := guardStep { s with idn := { s.idn with fresh := [], off := rb s R.idnPROBE_OFF } }
  let applied := decide (rf s R.idnGUARD_STATE = 0) && !rb s R.idnPROBE_OFF
  let s := wf s R.idnRUN (if applied then min (rf s R.idnRUN + 1) (2 ^ 35 - 1) else 0)
  let s := (idnListed s).foldl (fun s c => if rf s (R.idnUNIT_STATE c) = usDRAINING then unitGo s (.probe c) usISOLATING else s) s
  let a := rf s R.idnPSTAT_ADDR
  if a = 0 then { s with idn := { s.idn with lastStat := none } }
  else
    let s := smWr s a (mkW (rf s R.idnPSTEP_LO))
    smWr { s with idn := { s.idn with lastStat := some (a + 1) } } (a + 1) (mkW (rf s R.idnRUN + b2n applied * 2 ^ 35))

/-! ### The probe adder (R248, R249) -/

/-- The channel whose component is added to a value, if any. -/
def probeChan (s : State) (port stream elem : Nat) : Option Nat :=
  (idnListed s).find? (fun c => rb s (R.idnVALID c) && decide (rf s (R.idnUNIT_STATE c) ≠ usWAKING) &&
    idnNames s c port stream elem && !s.idn.fresh.contains c)
/-- The transmitted value of a base value under channel c at step n: value, and whether PROBE_SAT is set (R249). OFMT 0 Q35, 1 I36,
2 F36. -/
def probeValue (s : State) (c ofmt n base : Nat) : Nat × Bool :=
  let amp := min (rf s (R.idnAMP c)) (rf s (R.idnLIMIT c))
  let span := rf s (R.idnSPAN c)
  let plus := chipPlus s c n
  if ofmt < 2 then
    let m := roundConv (amp * (sext 36 span).natAbs : Nat) 18
    let r := satTo 36 (sext 36 base + if plus then m else -m)
    (toBits 36 r.1, r.2)
  else
    match fpVal fF36 base with
    | .fin _ _ _ =>
      let m := match fpVal fF36 (fpAbs fF36 span) with
        | .fin _ k e => ((fpRound fF36 .near false (amp * k) (e - 18)).1, false)
        | _ => (0, true)
      let r := fpAdd fF36 .near base (fpWithSign fF36 (!plus) m.1)
      match fpVal fF36 r.1 with
      | .inf sg => (fpMaxFin fF36 sg, true)
      | _ => (r.1, m.2)
    | _ => (base, match fpVal fF36 span with | .fin _ _ _ => false | _ => true)

/-- The value transmitted for element e of a stream with PROBE_EN (R248). -/
def probeAdd (s : State) (port stream ofmt n e base : Nat) : Nat × State :=
  match probeChan s port stream e with
  | none => (base, s)
  | some c =>
    if ofmt = 3 then (base, s) else
    let r := probeValue s c ofmt n base
    (r.1, if r.2 then cnt (idnStick s R.idnPROBE_SAT 5 c) R.idnPROBE_SAT_CNT else s)

/-! ### The Response Map (R253 to R256) -/

/-- Base of the inactive buffer. -/
def mapInactive (s : State) : Nat := if rf s R.idnMAP_ACTIVE = 0 then rf s R.idnMAP_BASE1 else rf s R.idnMAP_BASE0
/-- Read n words of Stream Memory: `none` where a read is answered with an error. -/
def smRdN (s : State) (a : Nat) : Nat → Option (List Word) × State
  | 0 => (some [], s)
  | n + 1 =>
    let r := smRd s a
    if r.1 ≠ stOK then (none, r.2.2) else
    let q := smRdN r.2.2 (a + 1) n
    (q.1.map (fun l => r.2.1 :: l), q.2)
/-- Whether a header lies in its ranges and its buffer in Stream Memory (Table IDN-4). -/
def mapHeaderOk (s : State) (base : Nat) (h : List Word) : Bool :=
  let na := bits (h.getD 0 0#36).toNat 12 0
  let w := bits (h.getD 1 0#36).toNat 6 0
  decide (1 ≤ na) && decide (na ≤ 4096) && decide (1 ≤ w) && decide (w ≤ 64) && decide (na * w ≤ 131072) &&
  decide (base + 8 + na * w + na ≤ s.cfg.part.streamWords)
/-- The outcome of the test of the inactive buffer: SWAP_CODE (R254). `revert`: only the header is checked (R256). -/
def mapTest (s : State) (revert : Bool) : Nat × State :=
  let base := mapInactive s
  if s.cfg.part.streamWords < base + 8 then (2, s) else
  let r := smRdN s base 8
  match r.1 with
  | none => (4, r.2)
  | some h =>
    let s := r.2
    if revert = false ∧ bit (h.getD 3 0#36).toNat 0 = false then (1, s)
    else if mapHeaderOk s base h = false then (2, s)
    else if revert then (0, s)
    else
      let na := bits (h.getD 0 0#36).toNat 12 0
      let w := bits (h.getD 1 0#36).toNat 6 0
      let q := smRdN s (base + 8 + na * w) na
      match q.1 with
      | none => (4, q.2)
      | some cf =>
        let good := (cf.filter (fun x => (fpCmp fF36 .ge x.toNat (rf s R.idnCONF_MIN)).1)).length
        let need := if rf s R.idnROWS_MIN = 0 then na else rf s R.idnROWS_MIN
        (if good < need then 3 else 0, q.2)
/-- Install the inactive buffer (R255). -/
def mapInstall (s : State) : State :=
  let base := mapInactive s
  let old := if rf s R.idnMAP_ACTIVE = 0 then rf s R.idnMAP_BASE0 else rf s R.idnMAP_BASE1
  let s := wf s R.idnMAP_ACTIVE (1 - rf s R.idnMAP_ACTIVE)
  let s := (List.range 8).foldl (fun s b =>
    if rb s (R.idnBVALID b) then
      wrN s (blkBase .vp (rf s (R.idnPIPE b)) + 0x100 + 8 * rf s (R.idnDESC b)) (base + rf s (R.idnOFS b))
    else s) s
  let s := smWr s (old + 3) 0#36
  notice (raise (cnt (wb s R.idnSWAP_DONE true) R.idnSWAP_CNT) 170) 8 2 0 0
/-- Test, and swap if it passes (R254 to R256); a revert checks only the header. -/
def mapTry (s : State) (rev : Bool) : State :=
  let r := mapTest s rev
  let s := wf r.2 R.idnSWAP_CODE r.1
  if r.1 = 0 then mapInstall s
  else if r.1 = 1 then s
  else notice (raise (cnt (wb s R.idnSWAP_FAIL true) R.idnSWAP_FAIL_CNT) 171) 8 3 0 0

/-- MAP_SWAP (R254, R256): a pending revert is carried out. -/
def mapSwap (s : State) : State := wb (mapTry s (rb s R.idnREVERT_PENDING)) R.idnREVERT_PENDING false
/-- Whether Calliope is ARMED or PLAYING. -/
def calPlays (s : State) : Bool := decide (rf s R.calSTATE = 1) || decide (rf s R.calSTATE = 2)
/-- A write of 1 to SWAP_NOW (R256): the whole test, also with a revert pending, which goes on waiting. -/
def swapNow (s : State) : State :=
  if calPlays s then notice (raise (wf s R.idnSWAP_CODE 5) 171) 8 3 0 0 else mapTry s false
/-- A write of 1 to REVERT (R256). -/
def mapRevert (s : State) : State :=
  let s := wb s R.idnREVERT_PENDING true
  if calPlays s then s else mapSwap s
/-- SWAP_NOW (R256). -/
def execSwapNow (s : State) : Host.Outcome State Fault Refusal := gate iMWY s fun s => swapNow s
/-- REVERT (R256). -/
def execRevert (s : State) : Host.Outcome State Fault Refusal := gate iMWY s fun s => mapRevert s

end Sys2Proof.Machine
end

