-- ==== Sys2Proof/Machine/FieldBase.lean ====
section
/-! DEFINITION. Field ports: signal frames, the transmit queue, the Keeper and output streams (R210 to R212, R216, R219, R230 to
R234). -/

namespace Sys2Proof.Machine

def port (s : State) (p : Nat) : PortSt := s.fld.ports.getD p portZero
def modPort (s : State) (p : Nat) (k : PortSt → PortSt) : State :=
  { s with fld := { s.fld with ports := s.fld.ports.set p (k (port s p)) } }
/-- Ports of the part. -/
def portIds (s : State) : List Nat := List.range s.cfg.part.ports
/-- A command that acts at a port of the FLD island. -/
def gatePort (p : Nat) (s : State) (k : State → State) : Host.Outcome State Fault Refusal :=
  gate iFLD s fun s => if p < s.cfg.part.ports then k s else s

/-- Largest signal payload in words (Table FLD-1). -/
def payLimit (jumbo udp : Bool) : Nat := if jumbo then (if udp then 1992 else 2000) else if udp then 326 else 332
/-- Whether queued frames of a port can still be sent: ON or DRAINING (R233, R237). -/
def portSends (s : State) (p : Nat) : Bool := decide (rf s (R.fpUNIT_STATE p) ≤ usDRAINING)
/-- Queue a frame for transmission. -/
def txQueue (s : State) (p : Nat) (f : TxFrame) : State :=
  if portSends s p then modPort s p fun k => { k with tx := k.tx ++ [f] } else s

/-- Words of an output frame (Table FLD-2, R216). -/
def outWords (s : State) (p st state tag : Nat) (vals : List Word) : List Word :=
  let n := vals.length
  let lenw := (n + 6) / 2 * 2
  let h0 := 2 ^ 32 + 2 * 2 ^ 28 + rf s (R.fpNODE p st) * 2 ^ 16 + rf s (R.fpSEQ p st)
  let h1 := lenw + st * 2 ^ 16 + state * 2 ^ 26
  let h3 := rf s (R.fpKEEP_PERIOD p st) + rf s (R.fpHOLD_MAX p st) * 2 ^ 20
  let h4 := rf s (R.fpCHAN p st) * 2 ^ 18 + n * 2 ^ 6
  [mkW h0, mkW h1, mkW tag, mkW h3, mkW h4] ++ vals ++ (if n % 2 = 0 then [0#36] else [])
/-- Queue an output frame of a stream (R230, R233): SEQ advances and the Keeper timer restarts; while TX_INHIBIT is 1, or the port
cannot send, the frame itself goes nowhere (R232, R233). -/
def outFrame (s : State) (p st state : Nat) (cls : TxCls) (vals : List Word) : State :=
  let tag := tagNow s
  let f : TxFrame := ⟨cls, st, rf s (R.fpNODE p st), outWords s p st state tag vals, 0, 0, 0, []⟩
  let s := if rb s (R.fpTX_INHIBIT p) then s else txQueue s p f
  let s := wf s (R.fpSEQ p st) (rf s (R.fpSEQ p st) + 1)
  modPort s p fun k => { k with timer := kvDel k.timer st ++ [(st, s.now)] }

/-- Set a sticky bit of a port: its source when set from 0, and its trouble bit (R242). -/
def fpStick (s : State) (p : Nat) (f : Field) (k : Nat) : State :=
  notice (raiseIf (wb s f true) (!rb s f) (120 + 3 * p + k)) 7 (3 * p + k) p p

/-! ### The Keeper (R233, R234) -/

/-- The Keeper image of a stream. -/
def keepImage (s : State) (p st : Nat) : List Word :=
  (List.range (rf s (R.fpN p st))).map (fun i => rd s (R.fpKMEM p ((rf s (R.fpKOFS p st) + i) % 32768)).addr)
/-- What the Keeper does when a stream's timer reaches KEEP_PERIOD (R233, R234). -/
def keepExpire (s : State) (p st : Nat) : State :=
  if rf s (R.fpKSTATE p st) ≠ 1 then s else
  let hold := rf s (R.fpHOLD_MAX p st)
  let ref := (kvFind (port s p).refT st).getD 0
  let s := if rb s (R.fpKOWN p st) then cnt s (R.fpREPLAY_CNT p st) else cnt s (R.fpMISS_CNT p st)
  let s := fpStick s p (R.fpREPLAYING p) 2
  if hold ≠ 0 ∧ ref + hold * 10000000 ≤ s.now then
    fpStick (wf (outFrame s p st 2 .keep []) (R.fpKSTATE p st) 2) p (R.fpEXPIRED p) 2
  else outFrame s p st 1 .keep (keepImage s p st)
/-- KEEP_PERIOD in nanoseconds: 1 µs to 99 µs act as 100 µs (R233). -/
def keepNs (s : State) (p st : Nat) : Nat := max 100 (rf s (R.fpKEEP_PERIOD p st)) * 1000
/-- KEEPER_TIMER_EXPIRY (R233): a FRAME_EMIT that has reached the stream suppresses the replay (R234). -/
def execKeeperTimerExpiry (p st : Nat) (s : State) : Host.Outcome State Fault Refusal :=
  gatePort p s fun s =>
    match kvFind (port s p).timer st with
    | none => s
    | some t =>
      if rb s (R.fpVALID p st) = false ∨ rf s (R.fpKEEP_PERIOD p st) = 0 then s
      else if (port s p).emits.any (fun e => decide (e.next ≤ st) && decide (st < e.next + e.left)) then s
      else keepExpire (atLeast s (t + keepNs s p st)) p st

/-- A write of 1 to KPRIME (R233). -/
def kprime (s : State) (p st : Nat) : State :=
  let s := modPort s p fun k =>
    { k with refT := kvDel k.refT st ++ [(st, s.now)]
             timer := if (kvFind k.timer st).isSome then k.timer else k.timer ++ [(st, s.now)] }
  if rf s (R.fpKSTATE p st) = 0 then
    modPort (wf s (R.fpKSTATE p st) 1) p fun k => { k with timer := kvDel k.timer st ++ [(st, s.now)] }
  else s
/-- KPRIME (R233). -/
def execKprime (p st : Nat) (s : State) : Host.Outcome State Fault Refusal := gatePort p s fun s => if st < 1024 then kprime s p st else s
/-- A write of 0 to VALID makes the stream EMPTY (R233). -/
def validClear (s : State) (p st : Nat) : State := wf (wb s (R.fpVALID p st) false) (R.fpKSTATE p st) 0
/-- STREAM_VALID_CLEAR (R233). -/
def execStreamValidClear (p st : Nat) (s : State) : Host.Outcome State Fault Refusal :=
  gatePort p s fun s => if st < 1024 then validClear s p st else s

/-- Streams (port, number) whose word 4 is listed: every stream whose KOWN is not at its Cold value 1 is among them. -/
def streamsListed (s : State) : List (Nat × Nat) :=
  s.mem.filterMap (fun e => match blkOf e.1 with
    | some (.fp, p, o) => if 0x2000 ≤ o ∧ o < 0x4000 ∧ o % 8 = 4 then some (p, (o - 0x2000) / 8) else none
    | _ => none)
/-- The Keeper takes the streams a predicate names (R234). -/
def keepersOwnIf (s : State) (q : Nat → Nat → Bool) : State :=
  (streamsListed s).foldl (fun s e => if q e.1 e.2 then wb s (R.fpKOWN e.1 e.2) true else s) s
/-- The Keeper takes every stream (R234). -/
def keepersOwn (s : State) : State := keepersOwnIf s (fun _ _ => true)
/-- The ACTIVE streams. -/
def activeStreams (s : State) : List (Nat × Nat) :=
  (streamsListed s).filter (fun e => decide (rf s (R.fpKSTATE e.1 e.2) = 1) && rb s (R.fpVALID e.1 e.2))

/-! ### FRAME_EMIT (R230) -/

/-- Streams of an emission at or after its next one. -/
def emitStreams (e : Emit) : List Nat := (List.range e.left).map (fun i => e.next + i)
/-- A FRAME_EMIT reaches its port: each valid stream passes to the schedule, and its replays still queued are withdrawn (R234). -/
def emitArrive (s : State) (p : Nat) (e : Emit) : State :=
  let sts := (emitStreams e).filter (fun st => decide (st < 1024) && rb s (R.fpVALID p st))
  let s := sts.foldl (fun s st => wb s (R.fpKOWN p st) false) s
  modPort s p fun k =>
    { k with tx := k.tx.filter (fun f => !(decide (f.cls = .keep) && sts.contains f.stream)), emits := k.emits ++ [e] }
/-- FRAME_EMIT_ARRIVAL (R230): the oldest FRAME_EMIT on its way through the pass, where it is for this port, arrives (R9). -/
def execFrameEmitArrival (p : Nat) (s : State) : Host.Outcome State Fault Refusal :=
  gatePort p s fun s =>
    match s.fld.emitFly with
    | [] => s
    | e :: es => if e.1 = p then emitArrive { s with fld := { s.fld with emitFly := es } } p e.2 else s

/-- A stream of an emission is skipped (R230). -/
def emitSkip (s : State) (p : Nat) : State := wb s (R.fpEMIT_SKIP p) true
/-- A stream becomes ACTIVE without a frame (R232): where its Keeper timer or its reference time has not begun, it begins (log entry 60). -/
def streamBegin (s : State) (p st : Nat) : State :=
  let from_ := fun (l : List (Nat × Nat)) => if (kvFind l st).isSome then l else l ++ [(st, s.now)]
  modPort (wf s (R.fpKSTATE p st) 1) p fun k => { k with timer := from_ k.timer, refT := from_ k.refT }
/-- Assemble one stream of a FRAME_EMIT (R230, R248): skipped where invalid, too long or unreadable; else the Keeper image is
written, components are added, and the SCHED frame is queued. While TX_INHIBIT is 1 no frame is built (R232): the values still go into the
digest (R344). -/
def assemble (s : State) (p st : Nat) (e : Emit) : State :=
  if 1024 ≤ st ∨ rb s (R.fpVALID p st) = false then emitSkip s p else
  let n := rf s (R.fpN p st)
  if payLimit (rb s (R.fpJUMBO p)) (rb s (R.ndENCAP (rf s (R.fpNODE p st)))) < n + 5 then emitSkip s p else
  let r := smRdN s (rf s (R.fpSRC p st)) n
  let s := r.2
  match r.1 with
  | none => emitSkip s p
  | some vs =>
    let ks := (List.range n).zip vs
    let s := ks.foldl (fun s k => wr s (R.fpKMEM p ((rf s (R.fpKOFS p st) + k.1) % 32768)).addr k.2) s
    let q := if e.apply ∧ rb s (R.fpPROBE_EN p st) then
        ks.foldl (fun (a : List Word × State) k =>
          let r := probeAdd a.2 p st (rf a.2 (R.fpOFMT p st)) e.pstep k.1 k.2.toNat
          (a.1 ++ [mkW r.1], r.2)) ([], s)
      else (vs, s)
    let s := { q.2 with cas := { q.2.cas with digVals := q.2.cas.digVals ++ q.1 } }
    if rb s (R.fpTX_INHIBIT p) then streamBegin s p st else
    let s := wf s (R.fpLAST_SCHED p st) (tagNow s)
    let s := outFrame s p st 0 .sched q.1
    let s := wf s (R.fpKSTATE p st) 1
    modPort s p fun k => { k with refT := kvDel k.refT st ++ [(st, s.now)] }
/-- STREAM_ASSEMBLY (R230): the next stream of the port's oldest FRAME_EMIT. -/
def execStreamAssembly (p : Nat) (s : State) : Host.Outcome State Fault Refusal :=
  gatePort p s fun s =>
    match (port s p).emits with
    | [] => s
    | e :: es =>
      let s := modPort s p fun k => { k with emits := if e.left ≤ 1 then es else { e with next := e.next + 1, left := e.left - 1 } :: es }
      if e.left = 0 then s else assemble s p e.next e

/-! ### Transmission (R231) -/

/-- The first queued frame in transmission order. -/
def txNext (fs : List TxFrame) : Option TxFrame :=
  [TxCls.ptp, TxCls.sched, TxCls.keep, TxCls.other].findSome? (fun c => fs.find? (fun f => decide (f.cls = c)))
/-- The frame as it leaves port p, with the encapsulation of its node (Table FLD-6, R211); over UDP from the port's IPV4, output frames
from UDP_PORT and command traffic from CMD_PORT. -/
def frameOut (s : State) (p : Nat) (f : TxFrame) : SentFrame :=
  match f.cls with
  | .sched | .keep =>
    let n := f.node
    ⟨rb s (R.ndENCAP n), rf s (R.ndVLAN n), rf s (R.ndPCP n), rf s (R.ndMAC_HI n) * 4096 + rf s (R.ndMAC_LO n), rf s (R.ndIPV4 n),
      rf s (R.ndUDP_DPORT n), rf s (R.fpIPV4 p), rf s R.fcUDP_PORT, f⟩
  | _ => ⟨decide (f.host ≠ []), 0, 0, f.dstMac, f.dstIp, f.dstPort, rf s (R.fpIPV4 p), rf s R.hstCMD_PORT, f⟩
/-- FRAME_TRANSMIT (R231, R232): an output or Keeper frame whose turn comes while TX_INHIBIT is 1 is not transmitted. -/
def execFrameTransmit (p : Nat) (s : State) : Host.Outcome State Fault Refusal :=
  gatePort p s fun s =>
    if rb s (R.fpLINK p) = false ∨ portSends s p = false then s else
    match txNext (port s p).tx with
    | none => s
    | some f =>
      let s := modPort s p fun k => { k with tx := k.tx.erase f }
      let out := decide (f.cls = .sched) || decide (f.cls = .keep)
      if out ∧ rb s (R.fpTX_INHIBIT p) then s else
      let s := if f.cls = .ptp ∧ f.stream = 2 then modPort s p fun k => { k with pdReq := some (f.node, s.devTime), pdResp := none } else s
      let s := modPort s p fun k => { k with sent := some (frameOut s p f) }
      if f.cls = .sched then cnt s (R.fpTX_SCHED p) else if f.cls = .keep then cnt s (R.fpTX_KEEP p) else s

/-- What PTP_ROLE acts as (R219): time receiver acts as none on a port that TIME_SRC does not name. -/
def ptpRole (s : State) (p : Nat) : Nat :=
  let r := rf s (R.fpPTP_ROLE p)
  if r = 2 ∧ rf s R.fcTIME_SRC ≠ p then 0 else r
/-- A port asks its neighbour for the peer delay (R219). -/
def pdelayAsk (s : State) (p : Nat) : State :=
  let s := modPort s p fun k => { k with pdSeq := (k.pdSeq + 1) % 65536 }
  txQueue s p ⟨.ptp, 2, (port s p).pdSeq, [], 0x0180C200000E, 0, 0, []⟩
/-- PTP_SYNC_TRANSMIT (R219): a port with a role measures the peer delay, and a time transmitter serves Device Time on its link, in one
interval (log entry 59). -/
def execPtpSyncTransmit (p : Nat) (s : State) : Host.Outcome State Fault Refusal :=
  gatePort p s fun s =>
    let s := if ptpRole s p = 1 then
        txQueue s p ⟨.ptp, 0, 0, [mkW (dtNs s.devTime), mkW (dtSec s.devTime)], 0x0180C200000E, 0, 0, []⟩
      else s
    if ptpRole s p = 1 ∨ ptpRole s p = 2 then pdelayAsk s p else s

/-! ### Links (R237) -/

/-- The PHY reports its link up or down (R237). -/
def fpLinkChange (s : State) (p : Nat) (up : Bool) : State :=
  if up = rb s (R.fpLINK p) ∨ (up ∧ rf s (R.fpUNIT_STATE p) = usOFF) then s else
  let s := wb s (R.fpLINK p) up
  let s := modPort s p fun k => { k with downAt := if up then none else some s.now, downRep := false }
  notice (raise (wb s (R.fpLINK_CHG p) true) (120 + 3 * p)) 7 (3 * p) p p
/-- LINK has read 0 for LINK_DOWN_MS: the port is reported down to Calliope (R237). -/
def fpLinkDownReport (s : State) (p : Nat) : State :=
  match (port s p).downAt with
  | some t =>
    let ms := rf s (R.fpLINK_DOWN_MS p)
    if ms = 0 then s else modPort (atLeast s (t + ms * 1000000)) p fun k => { k with downRep := true }
  | none => s

/-! ### Node table (R214) -/

/-- A write to word 0 of a node entry clears SEEN. -/
def nodeWrite0 (s : State) (n : Nat) (w : Word) : State :=
  wb (wf s ⟨(R.ndVALID n).addr, 20, 0⟩ w.toNat) (R.ndSEEN n) false
/-- NODE_ENTRY_WRITE (R214). -/
def execNodeEntryWrite (n : Nat) (w : Word) (s : State) : Host.Outcome State Fault Refusal :=
  gate iFLD s fun s => if n < 4096 then nodeWrite0 s n w else s

/-! ### Event coalescer (R235, R236) -/

/-- State of buffer b of class c. -/
def bufState (s : State) (c b : Nat) : Nat := rf s (R.fcBUF_STATE c) / 4 ^ b % 4
def setBuf (s : State) (c b v : Nat) : State :=
  wf s ⟨(R.fcBUF_STATE c).addr, 2 * b + 1, 2 * b⟩ v
/-- Bitmap word of a node. -/
def bitmapF (c b n : Nat) : Field := R.fcBITMAP (256 * c + 128 * b + n / 32)
/-- An event frame of class c (R235). -/
def eventFrame (s : State) (c n : Nat) (tag code : Word) : State :=
  if rb s (R.fcENABLE c) = false then s
  else if bufState s c 0 = 1 ∨ bufState s c 1 = 1 then
    let b := if bufState s c 0 = 1 then 0 else 1
    stick (cnt s (R.fcREPORTS c b)) (bitmapF c b n) (2 ^ (n % 32))
  else if bufState s c 0 = 0 ∨ bufState s c 1 = 0 then
    let b := if bufState s c 0 = 0 then 0 else 1
    let s := setBuf s c b 1
    let s := { s with fld := { s.fld with winOpen := kvDel s.fld.winOpen (2 * c + b) ++ [(2 * c + b, s.devTime)] } }
    let s := wf (wf (wf (wf s (R.fcFIRST_NODE c b) n) (R.fcFIRST_TAG c b) tag.toNat) (R.fcFIRST_CODE c b) code.toNat) (R.fcREPORTS c b) 1
    let s := (List.range 128).foldl (fun s i => wf s (R.fcBITMAP (256 * c + 128 * b + i)) 0) s
    let s := raise (wf s (bitmapF c b n) (2 ^ (n % 32))) (152 + c)
    evtForward (if isUp s iMWY then guardEvent s c else s) c n tag
  else notice (cnt (wb s (R.fcLOST c) true) (R.fcLOST_CNT c)) 7 28 0 0
/-- WINDOW in nanoseconds: 10 µs to 1,000,000 µs (R235). -/
def windowNs (s : State) (c : Nat) : Nat := max 10 (min 1000000 (rf s (R.fcWINDOW c))) * 1000
/-- EVENT_WINDOW_CLOSE (R235). -/
def execEventWindowClose (c b : Nat) (s : State) : Host.Outcome State Fault Refusal :=
  gate iFLD s fun s =>
    if c < 16 ∧ b < 2 ∧ bufState s c b = 1 then
      match kvFind s.fld.winOpen (2 * c + b) with
      | none => s
      | some t => setBuf (devAtLeast s (t + windowNs s c)) c b 2
    else s
/-- A write of 1 to ACK (R235, R236). -/
def evtAck (s : State) (c b : Nat) : State := if bufState s c b = 2 then setBuf s c b 0 else s
/-- ACK (R236). -/
def execAck (c b : Nat) (s : State) : Host.Outcome State Fault Refusal :=
  gate iFLD s fun s => if c < 16 ∧ b < 2 then evtAck s c b else s

end Sys2Proof.Machine
end

