-- ==== Sys2Proof/Machine/Gpio.lean ====
section
/-! DEFINITION. GPIO, encoders, timing pins and status outputs (R411 to R419). -/

namespace Sys2Proof.Machine

def modGp (s : State) (k : GpSt → GpSt) : State := { s with gp := k s.gp }
/-- A bit mask of 32 pins. -/
def gpF (o : Nat) : Field := ⟨blkBase .gp 0 + o, 31, 0⟩

/-! ### Pins -/

/-- The level of GPIO pin n: what it drives, or the level the carrier gives it (R416). -/
def pinLevel (s : State) (n : Nat) (ext : Bool) : Bool :=
  if rb s (fbit R.gpGPIO_DIR n) then rb s (fbit R.gpGPIO_OUT n) else ext
/-- A pin's level reaches GPIO_IN; an enabled edge sets GPIO_EVT, and source 216 is raised where the bit was 0 (R416, R419). -/
def gpioEdge (s : State) (n : Nat) (ext : Bool) : State :=
  let l := pinLevel s n ext
  if 32 ≤ n ∨ rb s (fbit R.gpGPIO_IN n) = l then s else
  let s := wb s (fbit R.gpGPIO_IN n) l
  if rb s (fbit (if l then R.gpGPIO_RISE else R.gpGPIO_FALL) n) then
    wb (raiseIf s (!rb s (fbit R.gpGPIO_EVT n)) 216) (fbit R.gpGPIO_EVT n) true
  else s
/-- GPIO_EDGE (R416): the level of pin n, `up` where the carrier drives it, reaches GPIO_IN. -/
def execGpioEdge (n : Nat) (up : Bool) (s : State) : Host.Outcome State Fault Refusal := gateAon s fun s => gpioEdge s n up
/-- A write of GPIO_SET (R416). -/
def gpioSet (s : State) (w : Word) : State := wf s R.gpGPIO_OUT (rf s R.gpGPIO_OUT ||| w.toNat % 2 ^ 32)
/-- A write of GPIO_CLR (R416). -/
def gpioClr (s : State) (w : Word) : State := wf s R.gpGPIO_OUT (rf s R.gpGPIO_OUT &&& (2 ^ 32 - 1 - w.toNat % 2 ^ 32))
def execGpioSet (w : Word) (s : State) : Host.Outcome State Fault Refusal := gateAon s fun s => gpioSet s w
def execGpioClr (w : Word) (s : State) : Host.Outcome State Fault Refusal := gateAon s fun s => gpioClr s w

/-- Every J2 output is high-impedance: AON power is off, or the AON island is not yet released (R411). -/
def pinsHighZ (s : State) : Bool := !s.aonOn
/-- REF50_OUT carries the reference: it stops while REF_LOST applies (R410, R389). -/
def pinRef50Runs (s : State) : Bool := !s.pwr.refHold
/-- Row and column of a position of J1, and of J2 (R408): rows 0 to 3 are A to D. -/
def j1Place (n : Nat) : Nat × Nat := ((n - 1) / 90, (n - 1) % 90 + 1)
def j2Place (n : Nat) : Nat × Nat := ((n - 1) / 120, (n - 1) % 120 + 1)
/-- IDCODE of the JTAG port (R415): version 0x1, the Device ID, Olurdabo's JEP106 code, which the spec does not give. -/
def jtagIdcode (g : Cfg) : HWord := 0x1#4 ++ BitVec.ofNat 16 g.part.deviceId ++ Config.jep106 ++ 1#1
/-- Whether EXTEST takes effect, or acts as SAMPLE/PRELOAD (R415). -/
def jtagExtest (s : State) : Bool := decide (mode s = mTEST) || s.pwr.pinC
/-- ST_MODE[2:0] (R413). -/
def pinStMode (s : State) : Nat := mode s
/-- nST_TROUBLE is high (R413). -/
def pinNStTrouble (s : State) : Bool := decide (rf s R.trbTRB_SUM &&& rf s R.trbTRB_IRQ = 0)
/-- nST_KEEP is high (R413). -/
def pinNStKeep (s : State) : Bool :=
  !(activeStreams s).any fun (p, st) => decide (rf s (R.fpKOWN p st) = 1)
/-- PWR_GOOD (R413, R429). -/
def pinPwrGood (s : State) : Bool := s.pwr.pgood
/-- PPS_OUT is high (R414). -/
def pinPpsOut (s : State) : Bool := match s.gp.pps with | some (t, w) => decide (s.now < t + w) | none => false
/-- TICK_OUT is high (R414). -/
def pinTickOut (s : State) : Bool := match s.gp.tick with | some (t, w) => decide (s.now < t + w) | none => false
/-- nSMBALERT is high (R398, Table HWM-3). -/
def pinNSmbAlert (s : State) : Bool := decide (s.pwr.pmInput = 0#8) && decide (s.pwr.pmTemp = 0#8) && !s.pwr.pmCml

/-! ### Timing pins -/

/-- PPS_OUT_PULSE (R414): Device Time reaches the next whole second. -/
def ppsOutPulse (s : State) : State :=
  if rb s R.gpPPS_OUT_EN = false then s else
  let s := devAtLeast s ((s.devTime / 1000000000 + 1) * 1000000000)
  modGp s fun g => { g with pps := some (s.now, rf s R.gpPPS_WIDTH * 1000000) }
def execPpsOutPulse (s : State) : Host.Outcome State Fault Refusal := gateAon s ppsOutPulse
/-- TICK_OUT rises as minor tick m is raised (R414): for 1 µs or half the tick spacing; the spacing is the grid's, or the time since the
last tick where no grid gives one (log entry 41). -/
def tickOut (s : State) (m : Nat) (spacing : Option Nat) : State :=
  if rb s R.gpTICK_OUT_EN = false ∨ (rb s R.gpTICK_OUT_FRAME = true ∧ m ≠ 0) then s else
  let sp := match spacing, s.gp.tick with
    | some p, _ => p
    | none, some (t, _) => s.now - t
    | none, none => 2000
  modGp s fun g => { g with tick := some (s.now, min 1000 (sp / 2)) }

/-- Capture registers of PPS_IN (0) and TICK_IN (1). -/
def capS (i : Nat) : Field := if i = 0 then R.gpPPS_CAP_S else R.gpTICK_CAP_S
def capNs (i : Nat) : Field := if i = 0 then R.gpPPS_CAP_NS else R.gpTICK_CAP_NS
def capCap (i : Nat) : Field := if i = 0 then R.gpPPS_CAP else R.gpTICK_CAP
def capOvr (i : Nat) : Field := if i = 0 then R.gpPPS_OVR else R.gpTICK_OVR
/-- A capture is applied to its pair (R415). -/
def capApply (s : State) (i t : Nat) : State :=
  let s := iff (rb s (capCap i)) (fun s => wb s (capOvr i) true) s
  raise (wb (wf (wf s (capS i) (dtSec t)) (capNs i) (dtNs t)) (capCap i) true) (218 + i)
/-- A rising edge (R415): Device Time to one AON cycle (the phase of the cycle is free), pending while the pair is frozen. -/
def captureEdge (s : State) (i : Nat) : State :=
  let (k, s) := freeNat s
  let t := s.devTime - k % 20
  if s.gp.frz.getD i false then modGp s fun g => { g with pend := g.pend.set i (some t) } else capApply s i t
/-- A read of the seconds word freezes the pair (R415). -/
def capFreeze (s : State) (i : Nat) : State := modGp s fun g => { g with frz := g.frz.set i true }
/-- A read of the nanoseconds word releases the pair and applies a pending capture (R415). -/
def capThaw (s : State) (i : Nat) : State :=
  if s.gp.frz.getD i false = false then s else
  let p := s.gp.pend.getD i none
  let s := modGp s fun g => { g with frz := g.frz.set i false, pend := g.pend.set i none }
  match p with
  | some t => capApply s i t
  | none => s
def execCaptureEdge (tick : Bool) (s : State) : Host.Outcome State Fault Refusal :=
  gateAon s fun s => captureEdge s (b2n tick)
def execCaptureSecondsRead (tick : Bool) (s : State) : Host.Outcome State Fault Refusal :=
  gateAon s fun s => capFreeze s (b2n tick)
def execCaptureNsRead (tick : Bool) (s : State) : Host.Outcome State Fault Refusal :=
  gateAon s fun s => capThaw s (b2n tick)

/-! ### Encoders -/

/-- Thresholds of a DISTANCE timetable that the count has reached (R181): each is crossed once. -/
def encMoved (s : State) (e : Nat) : State :=
  match s.cal.src with
  | some t =>
    if t.kind = 1 ∧ t.enc = e ∧ 0 < t.edges ∧ (rf s R.calSTATE ≠ 0 ∨ s.cal.was.isSome) then
      let d := sext 36 ((rf s (R.gpENC_COUNT e) + 2 ^ 36 - (t.anc + t.n * t.edges) % 2 ^ 36) % 2 ^ 36)
      if d < 0 then s else
      let k := d.toNat / t.edges + 1
      { s with cal := { s.cal with src := some { t with n := t.n + k }, crossQ := s.cal.crossQ + k } }
    else s
  | none => s
/-- Change a count by one, modulo 2^36 (R417). -/
def encCount (s : State) (e : Nat) (up : Bool) : State :=
  let f := R.gpENC_COUNT e
  let up := up != rb s (R.gpENC_INV e)
  encMoved (wf s f ((rf s f + (if up then 1 else 2 ^ 36 - 1)) % 2 ^ 36)) e
/-- ENC_ERR or ENC_OPEN is set; source 217 where it was 0 (R419). -/
def encFlag (s : State) (f : Field) : State := wb (raiseIf s (!rb s f) 217) f true
/-- Filtered levels of A and B (R417). Quadrature: one input changed moves the count, up when A leads B; both at once are an error.
Pulse and direction: a rising A counts, up while B is low. -/
def encEdge (s : State) (e : Nat) (a b : Bool) : State :=
  if 8 ≤ e then s else
  let (a0, b0) := s.gp.encAB.getD e (false, false)
  let s := modGp s fun g => { g with encAB := g.encAB.set e (a, b) }
  let m := rf s (R.gpENC_MODE e)
  if m = 0 then
    if a ≠ a0 ∧ b ≠ b0 then cnt (encFlag s (R.gpENC_ERR e)) (R.gpENC_ERR_CNT e)
    else if a ≠ a0 then encCount s e (a != b)
    else if b ≠ b0 then encCount s e (a == b)
    else s
  else if m = 1 then if a ∧ a0 = false then encCount s e (!b) else s
  else s
/-- ENCODER_EDGE (R417): levels of A and B that have been sampled unchanged for ENC_FILT + 1 AON cycles (log entry 42). -/
def execEncoderEdge (e : Nat) (a b : Bool) (s : State) : Host.Outcome State Fault Refusal := gateAon s fun s => encEdge s e a b
/-- A write of ENC_COUNT (R417). -/
def encWrite (s : State) (e : Nat) (w : Word) : State :=
  let st := rf s R.calSTATE
  let used := match s.cal.src with
    | some t => decide (t.kind = 1 ∧ t.enc = e) && (decide (st = 1) || decide (st = 2))
    | none => false
  if 8 ≤ e ∨ used = true then s else encMoved (wf s (R.gpENC_COUNT e) w.toNat) e
def execEncCountWrite (e : Nat) (w : Word) (s : State) : Host.Outcome State Fault Refusal := gateAon s fun s => encWrite s e w
/-- ENC_OPEN_DETECT (R417): 100 µs inside ±200 mV, in RS-422 mode. -/
def execEncOpenDetect (e : Nat) (s : State) : Host.Outcome State Fault Refusal :=
  gateAon s fun s => if e < 8 ∧ rb s (R.gpENC_DIFF e) then encFlag (elapse s 100000) (R.gpENC_OPEN e) else s

end Sys2Proof.Machine
end

