-- ==== Sys2Proof/Machine/Queue.lean ====
section
/-! DEFINITION. The classifier (R220 to R222) and the queue engine with the Latest Value Table's freeze (R223 to R228). -/

namespace Sys2Proof.Machine

/-! ### Classifier (R220 to R222) -/

/-- Sets of the classifier: E / 4 with E = Q / 2 (R220). -/
def clsSets (s : State) : Nat := s.cfg.part.queues / 8
/-- The key of a probe (R220). -/
def clsKey (block : Bool) (p n c : Nat) : Nat :=
  b2n block * 2 ^ 35 + p % 8 * 2 ^ 32 + n % 4096 * 2 ^ 20 + (if block then c / 4096 * 4096 else c) % 2 ^ 16
/-- The set of a key (R220). -/
def clsSet (s : State) (k : Nat) : Nat := crc32c (octets 5 k) % clsSets s
/-- An entry of the classifier by index (set × 4 + way). -/
def clsAt (s : State) (i : Nat) : Word × Word := kvGet (0#36, 0#36) s.fld.cls i
/-- Fields of an entry (Table FLD-7). -/
def clValid (e : Word × Word) : Bool := bit e.1.toNat 0
def clBlock (e : Word × Word) : Bool := bit e.1.toNat 1
def clPort (e : Word × Word) : Nat := bits e.1.toNat 4 2
def clNode (e : Word × Word) : Nat := bits e.1.toNat 16 5
def clChan (e : Word × Word) : Nat := bits e.1.toNat 32 17
def clQueue (e : Word × Word) : Nat := bits e.2.toNat 17 0
def clCnt (e : Word × Word) : Nat := bits e.2.toNat 29 18
/-- The first way of a set whose valid entry a test takes. -/
def clsFind (s : State) (set : Nat) (q : Word × Word → Bool) : Option Nat :=
  ([0, 1, 2, 3].find? (fun w => clValid (clsAt s (4 * set + w)) && q (clsAt s (4 * set + w)))).map (fun w => 4 * set + w)

/-- A lookup for a channel (R221): the entry's index, if any. -/
def clsLookup (s : State) (p n c : Nat) : Option Nat :=
  match clsFind s (clsSet s (clsKey false p n c))
      (fun e => !clBlock e && decide (clPort e = p) && decide (clNode e = n) && decide (clChan e = c)) with
  | some i => some i
  | none => clsFind s (clsSet s (clsKey true p n c))
      (fun e => clBlock e && decide (clPort e = p) && decide (clNode e = n) && decide (clChan e ≤ c) &&
        decide (c ≤ clChan e + clCnt e))
/-- The queue an entry gives a channel (R221). -/
def clsQueue (e : Word × Word) (c : Nat) : Nat := clQueue e + c - clChan e

/-- Where an INSERT, DELETE or FIND looks: the set of the entry's own key. -/
def clsHome (s : State) (e : Word × Word) : Nat := clsSet s (clsKey (clBlock e) (clPort e) (clNode e) (clChan e))
/-- Whether two entries conflict: the same single key, or overlapping blocks of one port, node and page (R222). -/
def clsClash (e f : Word × Word) : Bool :=
  decide (clBlock e = clBlock f) && decide (clPort e = clPort f) && decide (clNode e = clNode f) &&
  (if clBlock e then decide (clChan e ≤ clChan f + clCnt f) && decide (clChan f ≤ clChan e + clCnt e)
   else decide (clChan e = clChan f))
/-- The range checks of INSERT (R222). -/
def clsRangeOk (s : State) (e : Word × Word) : Bool :=
  (if clBlock e then decide (clChan e % 4096 + clCnt e < 4096) else decide (clCnt e = 0)) &&
  decide (clQueue e + clCnt e < s.cfg.part.queues) && decide (clPort e < s.cfg.part.ports)
/-- Record the outcome of an operation; a failed INSERT or DELETE sets CLS_FAIL (R222, R242). -/
def clsDone (s : State) (status i : Nat) (fail : Bool) : State :=
  let s := wf (wf s R.fcCLS_STATUS status) R.fcCLS_INDEX i
  if fail ∧ status ≠ 0 then notice (raiseIf (wb s R.fcCLS_FAIL true) (!rb s R.fcCLS_FAIL) 145) 7 25 0 0 else s
/-- The entry held in CLS_W0 and CLS_W1. -/
def clsHeld (s : State) : Word × Word := (rd s R.fcCLS_W0.addr, rd s R.fcCLS_W1.addr)
def clsPut (s : State) (i : Nat) (e : Word × Word) : State :=
  { s with fld := { s.fld with cls := kvSet (0#36, 0#36) s.fld.cls i e } }

/-- INSERT (R222): the entry is placed as in use. -/
def clsInsert (s : State) (e : Word × Word) : State :=
  let set := clsHome s e
  if clsRangeOk s e = false then clsDone s 4 (4 * set) true else
  match clsFind s set (clsClash e) with
  | some i => clsDone s 3 i true
  | none =>
    match [0, 1, 2, 3].find? (fun w => !clValid (clsAt s (4 * set + w))) with
    | none => clsDone s 1 (4 * set) true
    | some w =>
      let s := clsPut s (4 * set + w) (mkW (putBits e.1.toNat 0 0 1), e.2)
      clsDone (wf s R.fcCLS_USED (rf s R.fcCLS_USED + 1)) 0 (4 * set + w) true
/-- The entry with a given PORT, NODE, BLOCK and CHAN (R222). -/
def clsLocate (s : State) (e : Word × Word) : Option Nat :=
  clsFind s (clsHome s e) (fun f => decide (clBlock e = clBlock f) && decide (clPort e = clPort f) &&
    decide (clNode e = clNode f) && decide (clChan e = clChan f))
/-- DELETE (R222). -/
def clsDelete (s : State) (e : Word × Word) : State :=
  match clsLocate s e with
  | none => clsDone s 2 (4 * clsHome s e) true
  | some i => clsDone (wf (clsPut s i (0#36, 0#36)) R.fcCLS_USED (rf s R.fcCLS_USED - 1)) 0 i true
/-- FIND (R222). -/
def clsFindOp (s : State) (e : Word × Word) : State :=
  match clsLocate s e with
  | none => clsDone s 2 (4 * clsHome s e) false
  | some i => clsDone s 0 i false
/-- A write of a code to CLS_OP (R222). -/
def clsOp (s : State) (code : Nat) : State :=
  if code = 1 then clsInsert s (clsHeld s) else if code = 2 then clsDelete s (clsHeld s)
  else if code = 3 then clsFindOp s (clsHeld s) else s
/-- CLS_INSERT (R222). -/
def execClsInsert (s : State) : Host.Outcome State Fault Refusal := gate iFLD s fun s => clsOp s 1
/-- CLS_DELETE (R222). -/
def execClsDelete (s : State) : Host.Outcome State Fault Refusal := gate iFLD s fun s => clsOp s 2
/-- CLS_FIND (R222). -/
def execClsFind (s : State) : Host.Outcome State Fault Refusal := gate iFLD s fun s => clsOp s 3

/-! ### Queue descriptors (R223) -/

def qdAt (s : State) (q : Nat) : Word × Word := kvGet (0#36, 0#36) s.fld.qd q
def qdPut (s : State) (q : Nat) (d : Word × Word) : State :=
  { s with fld := { s.fld with qd := kvSet (0#36, 0#36) s.fld.qd q d } }
/-- The checks of a descriptor write (R223). -/
def qdOk (s : State) (d : Word × Word) : Bool :=
  let k := bits d.1.toNat 33 29
  let b := 16 * bits d.1.toNat 28 0
  let w := bits d.2.toNat 19 0
  decide (4 ≤ k) && decide (k ≤ 20) && decide (b % 2 ^ k = 0) && decide (b + 2 ^ k ≤ s.cfg.part.bulkWords) &&
  decide (w % 2 = 0) && decide (w < 2 ^ k)
/-- QD_OP READ (R223). -/
def qdRead (s : State) : State :=
  let q := rf s R.qeQD_INDEX
  if q < s.cfg.part.queues then
    wf (wr (wr s R.qeQD_W0.addr (qdAt s q).1) R.qeQD_W1.addr (qdAt s q).2) R.qeQD_STATUS 0
  else wf s R.qeQD_STATUS 1
/-- QD_OP WRITE (R223). -/
def qdWrite (s : State) : State :=
  let q := rf s R.qeQD_INDEX
  let d := (rd s R.qeQD_W0.addr, rd s R.qeQD_W1.addr)
  if q < s.cfg.part.queues ∧ qdOk s d then wf (qdPut s q d) R.qeQD_STATUS 0 else wf s R.qeQD_STATUS 1
/-- A write of a code to QD_OP. -/
def qdOp (s : State) (code : Nat) : State := if code = 1 then qdRead s else if code = 2 then qdWrite s else s
/-- QD_READ (R223, R241). -/
def execQdRead (s : State) : Host.Outcome State Fault Refusal := gate iMWY s fun s => qdOp s 1
/-- QD_WRITE (R223, R241). -/
def execQdWrite (s : State) : Host.Outcome State Fault Refusal := gate iMWY s fun s => qdOp s 2

/-! ### Lookups of a record (R215, R221, R225) -/

/-- A sample matches no entry (R221). -/
def clsMiss (s : State) (p n c cntS : Nat) : State :=
  let was := rb s R.fcCLS_MISS
  let s := cntAdd s R.fcCLS_MISS_CNT cntS
  let s := if was then s else wf s R.fcMISS_KEY (clsKey false p n c)
  notice (raiseIf (wb s R.fcCLS_MISS true) (!was) 145) 7 25 0 0
/-- A classified sample enters the port's sample FIFO of 4,096, or is dropped (R225). -/
def fifoPush (s : State) (p q : Nat) (v tag : Word) : State :=
  if (port s p).fifo.length < 4096 then modPort s p fun k => { k with fifo := k.fifo ++ [(q, v, tag)] }
  else
    let d := qdAt s q
    let s := qdPut s q (d.1, mkW (putBits d.2.toNat 20 20 1))
    let s := if rb s R.qeQOVF then s else wf s R.qeOVF_Q q
    fpStick (cnt (wb s R.qeQOVF true) (R.fpSAMPLE_DROP_CNT p)) p (R.fpSAMPLE_DROP p) 1
/-- Samples of a record, numbered. -/
def recSamples (r : RxRec) : List (Nat × Word) := (List.range r.vals.length).zip r.vals
/-- One lookup for one sample. -/
def lookupOne (s : State) (p : Nat) (r : RxRec) (c : Nat) (v tag : Word) : State :=
  match clsLookup s p r.node c with
  | none => clsMiss s p r.node c 1
  | some i => fifoPush s p (clsQueue (clsAt s i) c) v tag
/-- Look up a record's samples and place them (R215, R221). -/
def lookupRec (s : State) (p : Nat) (r : RxRec) : State :=
  let n := r.vals.length
  if r.series then
    match clsLookup s p r.node r.chan with
    | none => clsMiss s p r.node r.chan n
    | some i =>
      let q := clsQueue (clsAt s i) r.chan
      (recSamples r).foldl (fun s e => fifoPush s p q e.2 (mkW (r.tag + e.1 * r.tstep))) s
  else
    let whole := match clsLookup s p r.node r.chan with
      | none => none
      | some i => if clBlock (clsAt s i) ∧ r.chan + n ≤ clChan (clsAt s i) + clCnt (clsAt s i) + 1 then some (clsAt s i) else none
    (recSamples r).foldl (fun s e => match whole with
      | some b => fifoPush s p (clsQueue b (r.chan + e.1)) e.2 (mkW r.tag)
      | none => lookupOne s p r (r.chan + e.1) e.2 (mkW r.tag)) s
/-- CLASSIFIER_LOOKUP (R221): the oldest record of a port. -/
def execClassifierLookup (p : Nat) (s : State) : Host.Outcome State Fault Refusal :=
  gatePort p s fun s =>
    match (port s p).recs with
    | [] => s
    | r :: rs => lookupRec (modPort s p fun k => { k with recs := rs, bufUsed := k.bufUsed - r.size }) p r

/-! ### Commit, freeze and thaw (R224 to R228) -/

/-- Write a slot of the Latest Value Table: value, then tag (R226). -/
def lvtWrite (s : State) (q : Nat) (v tag : Word) : State :=
  let z := s.fld.tagZero.filter (fun k => decide (k ≠ q))
  let s := { s with fld := { s.fld with tagZero := if tag = 0#36 then q :: z else z } }
  smPut (smPut s (lvtBase s + 2 * q) v) (lvtBase s + 2 * q + 1) tag
def holdCap (s : State) : Nat := s.cfg.part.queues / 4
/-- HOLD_USED and HOLD_PEAK follow the hold buffer. -/
def holdCount (s : State) : State :=
  let n := s.fld.hold.length
  let s := wf s R.qeHOLD_USED n
  if rf s R.qeHOLD_PEAK < n then wf s R.qeHOLD_PEAK n else s
def holdPut (s : State) (q : Nat) (v tag : Word) : State :=
  let h := s.fld.hold
  let l := h.filter (fun e => decide (e.1 < q)) ++ ((q, v, tag) :: h.filter (fun e => decide (q < e.1)))
  holdCount { s with fld := { s.fld with hold := l } }
/-- Update the slot of a queue, or hold the sample (R226 to R228). -/
def slotUpdate (s : State) (q : Nat) (v tag : Word) : State :=
  let held := s.fld.hold.any (fun e => decide (e.1 = q))
  if rb s R.qeFROZEN then
    if held ∨ s.fld.hold.length < holdCap s then holdPut s q v tag
    else notice (raiseIf (cnt (wb s R.qeHOLD_FULL true) R.qeHOLD_FULL_CNT) (!rb s R.qeHOLD_FULL) 144) 7 24 0 0
  else if rb s R.qeTHAWING ∧ held then holdPut s q v tag
  else lvtWrite s q v tag
/-- Commit a sample (R224). -/
def commit (s : State) (q : Nat) (v tag : Word) : State :=
  let d := qdAt s q
  let w0 := d.1.toNat
  if bit w0 34 = false then cnt s R.qeQDIS_CNT else
  let k := bits w0 33 29
  let wp := bits d.2.toNat 19 0
  let a := bulkBase + 16 * bits w0 28 0 + wp
  let s := if imgGuards s a then s else bulkPartial s a [v, tag]
  let np := (wp + 2) % 2 ^ k
  let d1 := putBits d.2.toNat 19 0 np
  let d1 := if np = 0 then putBits d1 35 21 (bits d1 35 21 + 1) else d1
  let s := cnt (qdPut s q (d.1, mkW d1)) R.qeCOMMIT_CNT
  if bit w0 35 then slotUpdate s q v tag else s
/-- SAMPLE_COMMIT (R224): the next sample, taken from the port FIFOs in rotation. -/
def execSampleCommit (s : State) : Host.Outcome State Fault Refusal :=
  gate iMWY s fun s =>
    match rotWin s.fld.rot 8 ((portIds s).filter (fun p => decide ((port s p).fifo ≠ []))) with
    | none => s
    | some p =>
      match (port s p).fifo with
      | [] => s
      | (q, v, t) :: r =>
        let s := modPort s p fun k => { k with fifo := r }
        let s := { s with fld := { s.fld with rot := (p + 1) % 8 } }
        commit s q v t

/-- FREEZE_TICKS: the ticks a view lasts, where it has a limit (R227). -/
def freezeTicks (s : State) : Option Nat := let n := rf s R.qeFREEZE_TICKS; if n = 0 then none else some n
/-- A frozen view begins (R227), to last `n` more ticks; one that has none left is due for its thaw at once. -/
def viewBegin (s : State) (n : Option Nat) : State :=
  wb { s with fld := { s.fld with viewLeft := if n = some 0 then none else n, thawDue := decide (n = some 0) } } R.qeFROZEN true
/-- A thaw starts: THAWING reads 1 while the held samples are written (R227). -/
def thawStart (s : State) : State :=
  if rb s R.qeFROZEN then
    wb (wb { s with fld := { s.fld with viewLeft := none, thawDue := false } } R.qeFROZEN false) R.qeTHAWING true
  else s
/-- The thaw ends: held samples are in their slots in ascending queue order; a deferred freeze takes effect (R227). -/
def thawDone (s : State) : State :=
  if rb s R.qeTHAWING then
    let s := s.fld.hold.foldl (fun s e => lvtWrite s e.1 e.2.1 e.2.2) s
    let s := wf (wb { s with fld := { s.fld with hold := [] } } R.qeTHAWING false) R.qeHOLD_USED 0
    match s.fld.freezePend with
    | some n => viewBegin { s with fld := { s.fld with freezePend := none } } n
    | none => s
  else s
/-- A QUEUE_FREEZE is dispatched (R227): during a thaw it is deferred with FREEZE_LATE; during a view it is itself a thaw. Its view's ticks
count from its own tick, also while it is deferred. -/
def qFreeze (s : State) : State :=
  if rb s R.qeTHAWING then wb { s with fld := { s.fld with freezePend := some (freezeTicks s) } } R.qeFREEZE_LATE true
  else if rb s R.qeFROZEN then
    let s := thawStart s
    { s with fld := { s.fld with freezePend := some (freezeTicks s) } }
  else viewBegin s (freezeTicks s)
/-- A tick is delivered (R227): the last tick of the view makes the thaw due before any action of that tick. -/
def freezeTick (s : State) : State :=
  let s := { s with fld := { s.fld with freezePend := s.fld.freezePend.map (Option.map (fun k => k - 1)) } }
  match s.fld.viewLeft with
  | some n => if n ≤ 1 then { s with fld := { s.fld with viewLeft := none, thawDue := true } }
      else { s with fld := { s.fld with viewLeft := some (n - 1) } }
  | none => s
/-- A due thaw starts. -/
def thawIfDue (s : State) : State := if s.fld.thawDue then thawStart s else s
/-- QUEUE_THAW (R227). -/
def execQueueThaw (s : State) : Host.Outcome State Fault Refusal := gate iMWY s thawIfDue
/-- THAW_DONE (R227). -/
def execThawDone (s : State) : Host.Outcome State Fault Refusal := gate iMWY s thawDone

end Sys2Proof.Machine
end

