-- ==== Sys2Proof/Machine/VecMem.lean ====
section
/-! DEFINITION. Vector pipes: checks on element accesses, chain ports, faults and Progress Records, queues and power (R83 to R87, R92 to
R107). -/

namespace Sys2Proof.Machine

def pipe (s : State) (p : Nat) : PipeSt := s.pipes.getD p pipeZero
/-- Replace a pipe's state; CAL_Q and RM_Q follow the queues (Table VEC-9). -/
def modPipe (s : State) (p : Nat) (k : PipeSt → PipeSt) : State :=
  let q := k (pipe s p)
  wf (wf { s with pipes := s.pipes.set p q } (R.vpCAL_Q p) q.calQ.length) (R.vpRM_Q p) q.rmQ.length
def setRun (s : State) (p : Nat) (r : Option VRun) : State := { s with pipes := s.pipes.set p { pipe s p with run := r } }
def chainP (s : State) (n : Nat) : ChainPort := s.chains.getD n chainZero
def modChain (s : State) (n : Nat) (k : ChainPort → ChainPort) : State := { s with chains := s.chains.set n (k (chainP s n)) }
/-- The decoded instruction of an entry. -/
def veI (e : VEntry) : VI := viDecode e.w0 e.w1 e.w2
/-- An instruction of three zero words (R90). -/
def veNop (e : VEntry) : Bool := decide (e.w0 = 0#36) && decide (e.w1 = 0#36) && decide (e.w2 = 0#36)

/-! ### Causes (Table VEC-6) -/
def vcILLEGAL : Nat := 1
def vcADDR : Nat := 2
def vcREGION : Nat := 3
def vcMEM_UE : Nat := 4
def vcBANK_OFF : Nat := 5
def vcSTREAM_LEN : Nat := 6
def vcCHAIN_LEN : Nat := 7
def vcCHAIN_TIMEOUT : Nat := 8
def vcCHAIN_ABORT : Nat := 9
def vcQSTALE : Nat := 10
def vcDRAIN_CUT : Nat := 11
def vcRESUME_BAD : Nat := 12
def vcDISCARD : Nat := 13

/-! ### Element accesses -/

/-- Whether a region permits an access needing PERM bit `b` (1 R, 2 W, 3 X) at an address (R271). -/
def regionOk (regs : List (Word × Word)) (b a : Nat) : Bool :=
  regs.any fun (w0, w1) =>
    bit w0.toNat 0 && bit w0.toNat b && decide (w0.toNat / 16 * 16 ≤ a) && decide (a ≤ w1.toNat / 16 * 16 + 15)
/-- The checks on one word of an element access before it is made (R68, R84, R94): a cause, if one fails. Of several that fail for one
address the first in the order ADDR, REGION, BANK_OFF is the cause (log entry 35). -/
def vCheck (s : State) (org : VOrg) (write : Bool) (a : Nat) : Option Nat :=
  if s.cfg.part.streamWords ≤ a then some vcADDR
  else if write ∧ rb s R.smLVT_PROT = true ∧ inLvt s a = true then some vcADDR
  else match org with
    | .rm _ _ regs _ _ =>
      if regionOk regs (if write then 2 else 1) a = false then some vcREGION
      else if bankOff s (smBank s a) then some vcBANK_OFF else none
    | .cal _ _ => if bankOff s (smBank s a) then some vcBANK_OFF else none
/-- Words of an element at an address. -/
def elWords (dbl : Bool) (a : Nat) : List Nat := if dbl then [a % 2 ^ 36, (a + 1) % 2 ^ 36] else [a % 2 ^ 36]
/-- The first failing word of an access. -/
def vCheckAll (s : State) (org : VOrg) (write : Bool) (oper : Nat) (as : List Nat) : Option VFlt :=
  as.findSome? fun a => (vCheck s org write a).map fun c => ⟨c, oper, a⟩
/-- The address in a stream that a position record names for element i (Table VEC-7): of the index stream for GATHER, the queue number
for QSNAP. -/
def sdPos (s : State) (d ix : SDesc) (i : Nat) : Nat :=
  match d.mode with
  | 0 => sdAddr d i
  | 1 => sdAddr d i
  | 2 => sdAddr ix i
  | 3 => if d.idxq then rdN s (sdAddr ix i) else sdAddr d i
  | _ => 0
/-- POS of an operand at element i; 0 for what is no memory stream. -/
def capPos (s : State) (c : VCap) (i : Nat) : Nat :=
  match c with
  | .str d ix => sdPos s d ix i
  | _ => 0
/-- The first term at or after element K that VBAND does not clip: A's element and B's (R129). -/
def bandFirst (v : VI) (c : VCaps) (k : Nat) : Option (Nat × Nat) :=
  let cs := capScal c.c
  let w := vRowW v.op v.mod cs
  (List.range (v.n / w - k / w)).findSome? fun j =>
    let row := k / w + j
    let e := bandE cs row 0
    let e0 := max e 0
    if e0 < e + (w : Int) ∧ e0 < (bandCap c.b : Int) then some (row * w + (e0 - e).toNat, e0.toNat) else none
/-- POS_D, POS_A, POS_B of restart element K (Table VEC-7, R129). -/
def vPos (s : State) (v : VI) (c : VCaps) (k : Nat) : Nat × Nat × Nat :=
  match vKind v.op with
  | .red => (capPos s c.d 0, capPos s c.a k, capPos s c.b k)
  | .row =>
    let w := vRowW v.op v.mod (capScal c.c)
    if v.op = 0x041 then match bandFirst v c k with
      | some (i, e) => (capPos s c.d (k / w), capPos s c.a i, capPos s c.b e)
      | none => (capPos s c.d (k / w), 0, 0)
    else (capPos s c.d (k / w), capPos s c.a 0, 0)
  | _ => (capPos s c.d k, capPos s c.a k, capPos s c.b k)
/-- The restart element of a fault of a cause at element f of an instruction begun at k0 (R99, R129): a reduction stopped by its chain
partner keeps the partner's (R102, log entry 35). -/
def vRestart (v : VI) (c : VCaps) (k0 cause f : Nat) : Nat :=
  match vKind v.op with
  | .red => if cause = vcCHAIN_ABORT then f else max k0 (f / 16 * 16)
  | .row => let w := vRowW v.op v.mod (capScal c.c); if w = 0 then 0 else f / w * w
  | _ => f

/-! ### Chain ports (R86, R102) -/

/-- The port a captured operand names. -/
def capChain : VCap → Option Nat
  | .chain n => some n
  | _ => none
def srcChains (c : VCaps) : List Nat := [c.a, c.b, c.c].filterMap capChain
/-- A pairing nobody has joined yet. -/
def pairZero : ChPair :=
  { fifo := [], prodN := none, consN := none, prodEnd := false, consEnd := false, pushed := 0, taken := 0, abortAt := none }
/-- The first of a list a test takes, changed. -/
def mapFirst {α : Type} (p : α → Bool) (f : α → α) : List α → List α
  | [] => []
  | x :: xs => if p x then f x :: xs else x :: mapFirst p f xs
/-- The pairing whose producer, or whose consumer, is at work. -/
def prodPair (x : ChPair) : Bool := x.prodN.isSome && !x.prodEnd
def consPair (x : ChPair) : Bool := x.consN.isSome && !x.consEnd
/-- The present pairing of a role at a port. -/
def pairOf (c : ChainPort) (prod : Bool) : ChPair := (c.pairs.find? (if prod then prodPair else consPair)).getD pairZero
/-- Change the present pairing of a role at a port. -/
def modPair (s : State) (n : Nat) (prod : Bool) (f : ChPair → ChPair) : State :=
  modChain s n fun c => { c with pairs := mapFirst (if prod then prodPair else consPair) f c.pairs }
/-- Words buffered in a port. -/
def chWords (c : ChainPort) : Nat := (c.pairs.map fun x => (x.fifo.map Prod.snd).sum).sum
/-- Pipe p takes a role at a port for k elements (R86): it joins the oldest pairing that lacks it. -/
def chTake (s : State) (n p k : Nat) (prod : Bool) : State :=
  let free : ChPair → Bool := fun x => if prod then x.prodN.isNone else x.consN.isNone
  let put : ChPair → ChPair := fun x => if prod then { x with prodN := some k } else { x with consN := some k }
  modChain s n fun c => { c with
    prod := if prod then some p else c.prod
    cons := if prod then c.cons else some p
    pairs := if c.pairs.any free then mapFirst free put c.pairs else c.pairs ++ [put pairZero] }
/-- A pairing both have left is over, and so is one whose consumer faulted before it had a producer. -/
def pairOver (x : ChPair) : Bool := x.consEnd && (x.prodEnd || (x.prodN.isNone && decide (x.consN ≠ some 0)))
/-- A role at a port is released (R86). -/
def chLeave (s : State) (n : Nat) (prod : Bool) : State :=
  let s := modPair s n prod fun x => if prod then { x with prodEnd := true } else { x with consEnd := true }
  modChain s n fun c => { c with
    prod := if prod then none else c.prod
    cons := if prod then c.cons else none
    pairs := c.pairs.filter (fun x => !pairOver x) }
/-- An instruction of pipe p releases its ports (R86). -/
def chainRelease (s : State) (p : Nat) (c : VCaps) : State :=
  let s := match capChain c.d with
    | some n => if (chainP s n).prod = some p then chLeave s n true else s
    | none => s
  (srcChains c).foldl (fun s n => if (chainP s n).cons = some p then chLeave s n false else s) s
/-- A faulted instruction of pipe p, begun at k0, stops its partners at element k (R102): the ports record where; a producer's elements at
or above k are discarded. CHAIN_LEN leaves the partner to complete (R87). -/
def chainStop (s : State) (p : Nat) (c : VCaps) (k0 k : Nat) : State :=
  let s := match capChain c.d with
    | some n =>
      if (chainP s n).prod = some p then
        modPair s n true fun x => { x with abortAt := some k, fifo := x.fifo.take (k - k0 - x.taken), pushed := min x.pushed (k - k0) }
      else s
    | none => s
  (srcChains c).foldl (fun s n => if (chainP s n).cons = some p then modPair s n false fun x => { x with abortAt := some k } else s) s

/-! ### Power and queues (R92, R104, R105) -/

def pACTIVE : Nat := 0
def pIDLE : Nat := 1
def pRETAINED : Nat := 2
def pGATED : Nat := 3
/-- The instant a pipe's power-down entry or wake began is its `idleSince`. -/
def pipeSleepNow (s : State) (p : Nat) : State :=
  modPipe s p fun q => { q with pow := .entering (!rb s (R.vpRETAIN_EN p)) false, idleSince := s.now, sleep := false }
/-- Apply long-register writes that waited for the running instruction (R108). -/
def pipeLongs (s : State) (p : Nat) : State :=
  let ws := (pipe s p).longW
  let put := fun (s : State) (e : Nat × Word × Nat) => wrN s e.1 ((rdN s e.1 &&& (2 ^ 36 - 1 - e.2.2)) ||| (e.2.1.toNat &&& e.2.2))
  modPipe (ws.foldl put s) p fun q => { q with longW := [] }
/-- With nothing running, queued or active a pipe becomes IDLE; a SLEEP that waited takes effect (R104). -/
def pipeIdle (s : State) (p : Nat) : State :=
  let q := pipe s p
  if q.run.isNone ∧ q.calQ = [] ∧ q.rmQ = [] ∧ q.blocks = [] ∧ rf s (R.vpPOWER p) = pACTIVE then
    let s := modPipe (wf s (R.vpPOWER p) pIDLE) p fun q => { q with idleSince := s.now }
    if q.sleep then pipeSleepNow s p else s
  else s
/-- An issue reaches a pipe, or Calliope wakes it (R104, R105): IDLE becomes ACTIVE on an issue; RETAINED or GATED starts a wake. -/
def pipeRouse (s : State) (p : Nat) (issue : Bool) : State :=
  let q := pipe s p
  let s := if issue ∧ q.waitFrom.isNone ∧ (q.pow ≠ .steady ∨ rf s (R.vpPOWER p) ≥ pRETAINED) then
      modPipe s p fun q => { q with waitFrom := some s.now }
    else s
  match q.pow with
  | .entering g _ => modPipe s p fun q => { q with pow := .entering g true }
  | .waking => s
  | .steady =>
    let w := rf s (R.vpPOWER p)
    if w ≥ pRETAINED then modPipe s p fun q => { q with pow := .waking, idleSince := s.now }
    else if issue then wf s (R.vpPOWER p) pACTIVE else s
/-- SLEEP (R104). One that comes during a wake is dropped: until the wake ends the pipe reads RETAINED or GATED (log entry 35). -/
def pipeSleep (s : State) (p : Nat) : State :=
  let w := rf s (R.vpPOWER p)
  if (pipe s p).pow ≠ .steady then s
  else if w = pIDLE then pipeSleepNow s p
  else if w = pACTIVE then modPipe s p fun q => { q with sleep := true }
  else s

/-- Queue an instruction: whether the pipe takes it (R92), 0 accepted, 1 queue full, 2 not ON. `res`: a record to resume. -/
def pipeIssue (s : State) (p : Nat) (w0 w1 w2 : Word) (org : VOrg) (bad : Option (Nat × Nat)) (res : Option (List Word)) :
    Nat × State :=
  let q := pipe s p
  let isCal := match org with | .cal _ _ => true | _ => false
  if rf s (R.vpUNIT_STATE p) ≠ usON then (2, s)
  else if (if isCal then 16 ≤ q.calQ.length else 8 ≤ q.rmQ.length) then (1, s)
  else
    let e : VEntry := ⟨s.vecId, w0, w1, w2, org, bad, res⟩
    let s := pipeRouse { s with vecId := s.vecId + 1 } p true
    (0, modPipe s p fun q => if isCal then { q with calQ := q.calQ ++ [e] } else { q with rmQ := q.rmQ ++ [e] })

/-- An instruction of a block has ended; the block's last end is its completion, which goes to Calliope (R93). A record resumed for it is
consumed (R193). -/
def blockEnd (s : State) (p : Nat) (org : VOrg) : State :=
  match org with
  | .rm _ _ _ _ _ => s
  | .cal act _ =>
    let s := { s with cal := { s.cal with resumed := s.cal.resumed &&& (15 - 2 ^ (p % 4)) } }
    let q := pipe s p
    match q.blocks.find? (fun b => decide (b.act = act)) with
    | none => s
    | some b =>
      if b.ended + 1 = b.len then
        { modPipe s p (fun q => { q with blocks := q.blocks.filter (fun x => decide (x.act ≠ act)) }) with
          calIn := s.calIn ++ [.blockDone act] }
      else modPipe s p fun q => { q with blocks := q.blocks.map (fun x => if x.act = act then { x with ended := x.ended + 1 } else x) }

/-! ### Faults (R99 to R101) -/

/-- The twelve words of a Progress Record (Table VEC-7). -/
def prWords (s : State) (e : VEntry) (c : VCaps) (k f : Nat) (flt : VFlt) (partial_ : Nat) : List Word :=
  let (o, ad) := match e.org with | .cal _ a => (0, a) | .rm _ _ _ _ pc => (1, pc)
  let (pd, pa, pb) := if e.bad.isSome then (0, 0, 0) else vPos s (veI e) c k
  let w0 := k % 2 ^ 24 + flt.oper * 2 ^ 25 + flt.cause * 2 ^ 28 + o * 2 ^ 34 + 2 ^ 35
  let zero := e.bad.isSome
  [mkW w0, mkW ad, if zero then 0#36 else e.w0, if zero then 0#36 else e.w1, if zero then 0#36 else e.w2, mkW f, mkW flt.addr,
    mkW pd, mkW pa, mkW pb, mkW partial_, mkW (partial_ / 2 ^ 36)]
/-- Write a Progress Record into the pipe's register block, raise source 48 + p and enter the trouble record (R100, R101, R109). -/
def prPut (s : State) (p : Nat) (ws : List Word) : State :=
  let d := (ws.headD 0#36).toNat
  let s := if rb s (R.vpVALID p) then notice (wb s (R.vpPR_OVER p) true) 5 (4 + p) p d else s
  raise (notice (wrBlock s (blkBase .vp p + 0x10) ws) 5 p p d) (48 + p)
/-- What an origin's fault holds up (R101): a Ringmaster one its queue, a Calliope one the Calliope work, reported to it. -/
def vHold (s : State) (p : Nat) (org : VOrg) : State :=
  match org with
  | .rm _ _ _ _ _ => wb s (R.vpRM_HELD p) true
  | .cal _ _ => { wb s (R.vpCAL_HELD p) true with calIn := s.calIn ++ [.pipeFault p] }

/-- The running instruction of pipe p ends in a fault at element f with restart element k (R99 to R102); `quiet`: a DISCARD, which holds
up nothing (R101). The flags of a reduction's partial are raised in ARF now, because its record has no place for them (log entry 35). A
record for the task-state block is left to the caller: it is the answer's first part. -/
def vStopRun (s : State) (p : Nat) (r : VRun) (k f : Nat) (flt : VFlt) (quiet : Bool) : Option (Nat × Nat × List Word) × State :=
  let v := veI r.ent
  let isRed := decide (vKind v.op = .red)
  let ws := prWords s r.ent r.caps k f flt (if isRed then r.part.getD 0 else 0)
  let s := if flt.cause = vcCHAIN_LEN then s else chainStop s p r.caps r.k0 k
  let s := chainRelease s p r.caps
  let s := prPut s p ws
  let s := if isRed then stick s (R.vpARF p) r.accFl.toNat else s
  let s := pipeLongs (setRun s p none) p
  let s := if quiet then s else vHold s p r.ent.org
  (match r.ent.org with | .rm _ lvl _ tsb _ => some (tsb, lvl, ws) | .cal _ _ => none, s)

/-- A reduction without its last group: its partial and flags are those before it. -/
def vBefore (r : VRun) : VRun := { r with part := r.partB, accFl := r.accFlB }
/-- Where a stop from outside leaves a running instruction (R99): the first element it leaves unwritten, and the run as its record is to
show it: a reduction that has read its last, incomplete group stops before that. -/
def vProgress (r : VRun) : Nat × VRun :=
  let v := veI r.ent
  let nx := max r.k0 (min (16 * r.gi) v.n)
  match vKind v.op with
  | .red => if nx % 16 = 0 ∨ nx = r.k0 then (nx, r) else (max r.k0 (nx / 16 * 16), vBefore r)
  | .row =>
    let w := vRowW v.op v.mod (capScal r.caps.c)
    let f := match r.outs.flatten.head? with | some o => o.i | none => nx
    (if w = 0 then 0 else f / w * w, r)
  | _ => (match r.outs.flatten.head? with | some o => o.i | none => nx, r)

/-- Calliope stops a pipe's Calliope work (R101, R206): the running instruction ends with cause DISCARD, queued ones and blocks are
dropped. -/
def calDiscard (s : State) (p : Nat) : State :=
  let q := pipe s p
  let s := match q.run with
    | some r => match r.ent.org with
      | .cal _ _ => let k := vProgress r; (vStopRun s p k.2 k.1 k.1 ⟨vcDISCARD, 7, 0⟩ true).2
      | .rm _ _ _ _ _ => s
    | none => s
  pipeIdle (modPipe (wb s (R.vpCAL_HELD p) false) p fun q => { q with calQ := [], blocks := [] }) p

end Sys2Proof.Machine
end

