-- ==== Sys2Proof/Machine/CalBase.lean ====
section
/-! DEFINITION. Calliope: timetables in the image store, the loss set, selection and requests, policies, HOLD (R187, R191 to R194, R200 to
R206), and the digest of a frame (R344). -/

namespace Sys2Proof.Machine

def modCal (s : State) (k : CalSt → CalSt) : State := { s with cal := k s.cal }

/-! ### Images and timetables (R187, R194) -/

/-- First word of an image store slot (R208). -/
def imgBase (s : State) (slot : Nat) : Nat := rf s R.calIMG_BASE + slot * 0x1000000
/-- Words of the checked image in a slot; 0 where the slot is empty. -/
def imgLen (s : State) (slot : Nat) : Nat := s.hst.imgLen.getD slot 0
/-- A section of an image: TYPE, index, address of its body, its length. -/
structure Sect where
  ty : Nat
  ix : Nat
  body : Nat
  len : Nat
  deriving DecidableEq, Repr
/-- Sections from an address on; the fuel counts headers. -/
def sectsFrom (s : State) (a last : Nat) : Nat → List Sect
  | 0 => []
  | n + 1 =>
    if last < a + 8 then [] else
    let w0 := (bulkWord s a).toNat
    let len := bits w0 27 0
    ⟨bits w0 35 28, bits (bulkWord s (a + 1)).toNat 15 0, a + 8, len⟩ :: sectsFrom s (a + 8 + len) last n
/-- The sections of a checked image. -/
def imgSects (s : State) (slot : Nat) : List Sect :=
  let b := imgBase s slot
  sectsFrom s b (b + imgLen s slot) (imgLen s slot / 8)
/-- The bursts that n words from an address lie in. -/
def burstsOf (a n : Nat) : List Nat := if n = 0 then [] else (List.range ((a % 16 + n + 15) / 16)).map (fun i => burstOf a + 16 * i)
/-- Words of the image store are read from the devices (R76, R198): a corrected burst is recorded, an uncorrectable one too, and it
delivers no data: its words are free values from then on (log entry 36). Whether every burst delivered data. -/
def storeRead (s : State) (a n : Nat) : Bool × State :=
  (burstsOf a n).foldl (fun r b =>
    let x := bmReadBurst r.2 b 0
    if x.1 then (r.1, x.2)
    else (false, (List.range 16).foldl (fun s i => let w := freeWord s; wr w.2 (b + i) w.1) (combDrop x.2 b))) (true, s)
/-- Words of Bulk Memory from an address. -/
def bulkWords (s : State) (a n : Nat) : List Word := (List.range n).map (fun i => bulkWord s (a + i))

/-- Fields of a timetable header (Table TTB-5). -/
def hdrW (h : List Word) (i : Nat) : Nat := (h.getD i 0#36).toNat
def hdrIndex (h : List Word) : Nat := bits (hdrW h 0) 3 0
def hdrClass (h : List Word) : Nat := bits (hdrW h 0) 5 4
def hdrProbe (h : List Word) : Bool := bit (hdrW h 0) 6
def hdrCount (h : List Word) : Nat := bits (hdrW h 1) 15 0
def hdrTicks (h : List Word) : Nat := bits (hdrW h 1) 31 16
def hdrSrc (h : List Word) : Nat := bits (hdrW h 2) 1 0
def hdrPeriod (h : List Word) : Nat := bits (hdrW h 2) 11 2 * 1000
def hdrEnc (h : List Word) : Nat := bits (hdrW h 2) 14 12
def hdrEdges (h : List Word) : Nat := bits (hdrW h 2) 35 20
def hdrMin (h : List Word) : Nat := bits (hdrW h 3) 15 0 * 1000
def hdrMax (h : List Word) : Nat := bits (hdrW h 3) 31 16 * 1000000
def hdrPolicy (h : List Word) (k : Nat) : Nat := bits (hdrW h 13) (4 * k + 3) (4 * k)
def hdrResume (h : List Word) : Bool := bit (hdrW h 14) 0
def hdrDlStop (h : List Word) : Bool := bit (hdrW h 14) 1
def hdrClAck (h : List Word) : Bool := bit (hdrW h 14) 2
def hdrFast (h : List Word) : Nat := bits (hdrW h 14) 15 8

/-- Headers of an image's timetables with the addresses of their bodies. -/
def imgTTs (s : State) (slot : Nat) : List (Nat × List Word) :=
  ((imgSects s slot).filter (fun x => decide (x.ty = 2))).map (fun x => (x.body, bulkWords s x.body 32))
/-- Load a timetable from the store (R198). -/
def ttLoad (s : State) (slot idx : Nat) : Option TT :=
  ((imgTTs s slot).find? (fun e => decide (hdrIndex e.2 = idx))).map
    (fun e => ⟨slot, idx, e.2, bulkWords s (e.1 + 32) (4 * hdrCount e.2)⟩)
/-- STANDBY_CLASS of an image (Table TTB-4). -/
def imgStandby (s : State) (slot : Nat) : Nat :=
  match (imgSects s slot).find? (fun x => decide (x.ty = 1)) with
  | some x => bits (bulkWord s (x.body + 7)).toNat 1 0
  | none => 0

/-- Word j of action i. -/
def actW (t : TT) (i j : Nat) : Nat := (t.acts.getD (4 * i + j) 0#36).toNat
def actCount (t : TT) : Nat := t.acts.length / 4
def actType (t : TT) (i : Nat) : Nat := bits (actW t i 0) 35 32
def actTick (t : TT) (i : Nat) : Nat := bits (actW t i 0) 31 16
def actArg0 (t : TT) (i : Nat) : Nat := bits (actW t i 0) 15 0
/-- DMA channels an action masks (R188). -/
def actDma (t : TT) (i : Nat) : Nat := actW t i 2 + bits (actW t i 3) 27 0 * 2 ^ 36
/-- Units action i names, in the unit word layout of Table TTB-5. -/
def actNames (t : TT) (i : Nat) : Nat :=
  let a := actArg0 t i
  match actType t i with
  | 0x1 => a | 0x2 => a | 0xE => a
  | 0x3 => 2 ^ (16 + a % 4)
  | 0x6 => 2 ^ (20 + a % 8)
  | 0xA => a + actW t i 1 % 16 * 2 ^ 16
  | 0xB => a + actW t i 1 % 16 * 2 ^ 16
  | 0xD => bits (actW t i 1) 19 4 + actW t i 1 % 16 * 2 ^ 16
  | _ => 0
/-- Units the actions of a timetable name. -/
def ttNames (t : TT) : Nat := (List.range (actCount t)).foldl (fun m i => m ||| actNames t i) 0
/-- Output streams (port, stream) a timetable emits. -/
def ttEmits (t : TT) (p st : Nat) : Bool :=
  (List.range (actCount t)).any fun i =>
    decide (actType t i = 6) && decide (actArg0 t i % 8 = p) && decide (actW t i 1 % 1024 ≤ st) &&
      decide (st < actW t i 1 % 1024 + actW t i 2 % 2048)

/-! ### Registers that follow the slots -/

/-- STANDBY, NEXT and ACTIVE fields of the status word (Table TTB-10). -/
def calSync (s : State) : State :=
  let c := s.cal
  let at_ (o : Option TT) (k : Nat) : Nat × Nat := match o with
    | some t => (t.idx, t.img)
    | none => match c.loads.find? (fun l => decide (l.into = k)) with
      | some l => (l.idx, l.img)
      | none => (0, 0)
  let s := wb (wf s R.calSTANDBY_IDX (at_ c.sby 1).1) R.calSTANDBY_VALID c.sby.isSome
  wb (wf (wf s R.calNEXT_IDX (at_ c.nxt 2).1) R.calNEXT_IMG (at_ c.nxt 2).2) R.calNEXT_VALID c.nxt.isSome
/-- Start loading a timetable into the standby (1) or next (2) slot, replacing what it holds or loads; `none` empties it. -/
def calFill (s : State) (into : Nat) (t : Option (Nat × Nat)) : State :=
  calSync (modCal s fun c =>
    let rest := c.loads.filter (fun l => decide (l.into ≠ into))
    { c with sby := if into = 1 then none else c.sby
             nxt := if into = 2 then none else c.nxt
             loads := match t with | some (img, idx) => rest ++ [⟨into, img, idx⟩] | none => rest })
/-- The timetable a slot holds or loads. -/
def calHolds (s : State) (into : Nat) : Option (Nat × Nat) :=
  match (if into = 1 then s.cal.sby else s.cal.nxt) with
  | some t => some (t.img, t.idx)
  | none => (s.cal.loads.find? (fun l => decide (l.into = into))).map (fun l => (l.img, l.idx))

def csIDLE : Nat := 0
def csARMED : Nat := 1
def csPLAYING : Nat := 2
def csHELD : Nat := 3
def csSTALLED : Nat := 4
def calState (s : State) : Nat := rf s R.calSTATE
/-- ARMED, PLAYING or STALLED. -/
def calRuns (s : State) : Bool := decide (calState s = 1) || decide (calState s = 2) || decide (calState s = 4)

/-- Write TT_OWNED of every cluster: 1 in those a mask names (R197). -/
def ttOwn (s : State) (mask : Nat) : State :=
  (List.range s.cfg.part.clusters).foldl (fun s n => wb s (R.scTT_OWNED n) (bit mask n)) s
/-- A timetable becomes active. -/
def calActivate (s : State) (t : TT) : State :=
  let s := modCal { s with probeOk := hdrProbe t.hdr } fun c => { c with act := some t }
  ttOwn (wf (wf s R.calACTIVE_IDX t.idx) R.calACTIVE_IMG t.img) (ttNames t)

/-! ### HOLD (R206) -/

/-- What dispatch leaves behind when Calliope stops: nothing held, nothing outstanding, no switch pending. A switch that has committed
goes on to its entry tick, since the ticks go on (R203, R206). -/
def calHalt (s : State) : State :=
  wf (modCal s fun c => { c with
    bar := none, lates := [], blks := [], dmas := 0, resumed := 0, target := none, holdSw := false })
    R.calPENDING 0
/-- Calliope stops its vector work, its clusters, and its ownership of them (R206). -/
def calQuit (s : State) : State :=
  let s := (List.range s.cfg.part.pipes).foldl calDiscard s
  let s := (List.range s.cfg.part.clusters).foldl (fun s n => if rb s (R.scTT_OWNED n) then clStop s n 1 else s) s
  ttOwn s 0
/-- Calliope leaves PLAYING: the frozen view thaws and the Keeper takes every stream (R227, R234). -/
def calLeave (s : State) : State := keepersOwn (thawStart s)
/-- Calliope enters HOLD (R206); the module enters HOLD mode from RUN, DERATED and SHADOW (R377). -/
def calHold (s : State) (policy : Bool) : State :=
  if calState s = csIDLE ∨ calState s = csHELD then s else
  let s := calLeave (wf (calQuit (calHalt s)) R.calSTATE csHELD)
  let s := raiseIf s policy 31
  let m := mode s
  if m = mRUN ∨ m = mDERATED ∨ m = mSHADOW then setMode s mHOLD else s
/-- Calliope stops and goes to IDLE (R377). -/
def calStop (s : State) : State :=
  if calState s = csIDLE then s else
  let s := calLeave (wf (calQuit (calHalt s)) R.calSTATE csIDLE)
  calSync (modCal { s with probeOk := false } fun c => { calZero with lossAdd := c.lossAdd })

/-! ### Loss set, selection and requests (R200 to R204) -/

/-- The loss set L: the unit word and eight bank words (R200). -/
def calLoss (s : State) : List Nat :=
  let isl := rf s R.pwrISL_LOST
  let u (k n : Nat) (lost : Nat → Bool) : Nat := (List.range n).foldl (fun m i => if lost i then m ||| 2 ^ (k + i) else m) 0
  let off (f : Field) : Bool := decide (rf s f ≠ usON)
  let w := u 0 s.cfg.part.clusters (fun n => bit isl (iCLU n) || off (R.scUNIT_STATE n))
    ||| u 16 s.cfg.part.pipes (fun p => bit isl iVEC || off (R.vpUNIT_STATE p))
    ||| u 20 s.cfg.part.ports (fun p => bit isl iFLD || off (R.fpUNIT_STATE p) || (port s p).downRep)
    ||| u 28 s.cfg.part.links (fun l => bit isl iCAS || off (R.casUNIT_STATE l) || (link s l).downRep)
    ||| rf s R.calLOSS_SW ||| s.cal.lossAdd
  w :: (List.range 8).map fun i => if 32 * i < s.cfg.part.banks then (if bit isl iVEC then 2 ^ 32 - 1 else rf s (R.smBANK_OFF i)) else 0
/-- Whether a timetable's LOSS_MASK covers L. -/
def hdrCovers (h : List Word) (l : List Nat) : Bool :=
  (List.range 9).all fun i => let m := hdrW h (4 + i) % 2 ^ 32; decide (l.getD i 0 &&& m = l.getD i 0)
/-- The selection for a class in an image (R201). -/
def calSelect (s : State) (img cls : Nat) : Option Nat :=
  let l := calLoss s
  let tts := (imgTTs s img).map Prod.snd
  let vs := (List.range 8).filterMap fun i => tts.find? (fun h => decide (hdrIndex h = i + 1) && hdrCovers h l)
  match vs.find? (fun h => decide (hdrClass h = cls)) with
  | some h => some (hdrIndex h)
  | none => if cls = 0 then vs.head?.map hdrIndex else none
/-- Severity of a class (R204): HALF, then P18, then FULL. -/
def clsSev (c : Nat) : Nat := if c = 1 then 2 else if c = 2 then 1 else 0
/-- A class request (R201, R202, R204): `modeReq`: made by entry into DERATED. -/
def classReq (s : State) (cls : Nat) (modeReq : Bool) : State :=
  match s.cal.act with
  | none => s
  | some t =>
    if calState s = csIDLE then s else
    let pend := rf s R.calPENDING
    let c := if 2 ≤ pend ∧ clsSev cls < clsSev (pend - 2) then pend - 2 else cls
    match calSelect s t.img c with
    | none =>
      if modeReq then s else
      calHold (trb3 (raise (wb s R.calNO_VARIANT true) 31) 7) false
    | some i =>
      if i = t.idx then (if 2 ≤ pend then modCal (wf s R.calPENDING 0) fun k => { k with target := none } else s) else
      let s := if pend = 1 then wb s R.calSWITCH_CANCELLED true else s
      let w := if calHolds s 1 = some (t.img, i) then 1 else 2
      let s := if w = 2 ∧ calHolds s 2 ≠ some (t.img, i) then calFill s 2 (some (t.img, i)) else s
      modCal (wf s R.calPENDING (c + 2)) fun k => { k with target := some (w, t.img, i) }
/-- Refill standby (R202): the selection for STANDBY_CLASS, or nothing where that is the active timetable. A pending target that stood there
is loaded into the next slot. -/
def calRefill (s : State) : State :=
  match s.cal.act with
  | none => s
  | some t =>
    if calState s = csIDLE then s else
    let want := match calSelect s t.img (imgStandby s t.img) with
      | some i => if i = t.idx then none else some (t.img, i)
      | none => none
    if calHolds s 1 = want then s else
    let s := match s.cal.target with
      | some (1, img, i) => modCal (calFill s 2 (some (img, i))) fun k => { k with target := some (2, img, i) }
      | _ => s
    calFill s 1 want
/-- LOSS_SET_UPDATE (R200, R202): where L has changed the LOSS words follow, a gained member enters the trouble record, a FULL request is
posted where an action of the active timetable names a unit in L, and standby is refilled. -/
def calSettle (s : State) : State :=
  let new := calLoss s
  let old := (List.range 9).map (fun i => rf s (R.calLOSS i))
  if new = old ∨ isUp s iMWY = false then s else
  let s := (List.range 9).foldl (fun s i => wf s (R.calLOSS i) (new.getD i 0)) s
  let gained := (List.range 9).any fun i => decide (new.getD i 0 &&& old.getD i 0 ≠ new.getD i 0)
  let s := if gained then trb3 s 6 else s
  let s := match s.cal.act with
    | some t => if calState s ≠ csIDLE ∧ ttNames t &&& new.headD 0 ≠ 0 then classReq s 0 false else s
    | none => s
  calRefill s

/-! ### Policies (R186, R191) -/

/-- Skip to the next SWITCH_POINT of the frame being dispatched, or over the rest of it (R191). -/
def skipToSp (s : State) : State :=
  match s.cal.act with
  | none => s
  | some t =>
    let n := actCount t
    let j := ((List.range (n - s.cal.ix)).map (fun k => s.cal.ix + k)).find? (fun j => decide (actType t j = 0xF))
    modCal s fun c => { c with ix := j.getD n }
/-- Discard the old frame's remaining actions (R186). -/
def skipFrame (s : State) (f : Nat) : State := modCal s fun c => { c with df := f, ix := 0, bar := none }
/-- Apply the policy of fault class k (Table TTB-6). -/
def calPolicy (s : State) (k : Nat) (skip : State → State) : State :=
  match s.cal.act with
  | none => s
  | some t =>
    if calRuns s = false then s else
    let f := hdrPolicy t.hdr k
    if f % 4 = 1 then classReq (skip s) (f / 4) false
    else if f % 4 = 2 then calHold s true
    else s
/-- A Calliope fault: its status bit, its source, its bit in the trouble record, its policy (R183, R186, R191 to R193, R207). -/
def calFault (s : State) (f : Field) (b src k : Nat) (skip : State → State) : State :=
  calPolicy (trb3 (raise (wb s f true) src) b) k skip

/-- Entering DERATED requests HALF (R202); SHADOW never derates (R378). -/
def derateMode (s : State) : State :=
  if mode s = mRUN ∧ derateCause s then classReq (setMode s mDERATED) 1 true
  else if mode s = mDERATED ∧ derateCause s = false then setMode s mRUN
  else s

/-! ### The digest of a frame (R344) -/

/-- The shadow compares the primary's digest of a frame with its own (R344). -/
def digCompare (s : State) (own got : Nat) : State :=
  if own = got then s
  else notice (raise (cnt (wb s R.casDIGEST_MISMATCH true) R.casMISMATCH_CNT) 185) 12 9 0 0
/-- DIGEST_CLOSE: tick 0 closes the digest of the frame before; a primary sends it, a shadow keeps it and compares it with the primary's or
awaits that. -/
def digestClose (s : State) (closed : Nat) : State :=
  let role := rf s R.casSH_ROLE
  let d := crc32c (pack9Bytes s.cas.digVals)
  let s := { s with cas := { s.cas with digVals := [] } }
  if role = 1 ∧ isUp s iCAS then (briTo s ⟨0xD, rf s R.casSH_PEER, cascId s, 0, 0, [mkW closed, mkW d]⟩).2
  else if role = 2 then
    match kvFind s.cas.digIn closed with
    | some g => digCompare { s with cas := { s.cas with digIn := kvDel s.cas.digIn closed } } d g
    | none => { s with cas := { s.cas with digs := s.cas.digs.drop (s.cas.digs.length - 15) ++ [(closed, d)], digDue := some (closed, s.now) } }
  else s

/-! ### Ticks (R181 to R183) -/

/-- Count of an encoder. -/
def encAt (s : State) (e : Nat) : Nat := rf s (R.gpENC_COUNT e)
/-- Install a tick source. -/
def srcSet (s : State) (t : TickSrc) : State :=
  modCal s fun c => { c with src := some t, newSrc := false, crossQ := 0, deliv := none, lossFrom := s.now, spacing := false, lossOut := false }
/-- The source of the active timetable, anchored at its entry tick (log entry 19): where the old one is TIME, at the grid instant of the next
tick that is still to arrive, or of the one that just has (`k` = 1); else now, and at the present count. -/
def srcOf (s : State) (t : TT) (k : Nat) : TickSrc :=
  let at_ : Int := match s.cal.src with
    | some o => if o.kind = 0 then o.base + o.per * ((o.n : Int) - k - s.cal.flying.length - s.cas.marks.length) else (s.devTime : Int) - s.stepOfs
    | none => (s.devTime : Int) - s.stepOfs
  ⟨hdrSrc t.hdr, at_, hdrPeriod t.hdr, hdrEnc t.hdr, encAt s (hdrEnc t.hdr), hdrEdges t.hdr, k, hdrMin t.hdr, hdrMax t.hdr, hdrFast t.hdr⟩

/-- A tick is raised in AON, on its way to Calliope (R182). -/
def tickRaise (s : State) (mk : Option (Nat × Nat)) (m : Nat) (spacing : Option Nat) : State :=
  modCal (tickOut s m spacing) fun c => { c with flying := c.flying ++ [mk] }
/-- The next own tick's number, counting the ticks already on their way. -/
def ownNext (s : State) (extra : Nat) : Nat × Nat :=
  let ft := match s.cal.act with | some t => hdrTicks t.hdr | none => 1
  let n := s.cal.nextM + s.cal.flying.length + extra
  (s.cal.nextF + n / ft, n % ft)
/-- Ticks in a frame of the grid kept over a warm reset (R199), while Calliope does not yet count its ticks: from the reset to the frame at
which the re-armed timetable begins, or to a START_OK after which nothing re-arms. -/
def keptTicks (s : State) : Option Nat :=
  match s.cal.was with
  | some (_, _, _, ft) =>
    if s.pwr.ph = .run ∧ rb s R.pwrRESTARTING = false ∧ rb s R.calAUTO_REARM = false ∧ calState s = csIDLE then none else some (max 1 ft)
  | none => none
/-- The kept grid moves on by one tick; at the first frame after a re-arm is complete its ticks are Calliope's again (R199). -/
def keptMove (s : State) (ft : Nat) : State :=
  let m := (s.cal.nextM + 1) % ft
  let on := s.cal.act.isSome ∧ s.cal.arm.isNone ∧ m = 0
  modCal s fun c => { c with nextF := c.nextF + (c.nextM + 1) / ft, nextM := m, was := if on then none else c.was }
/-- A tick of the module's own source (R341): a master that marks sends the marker down and raises its own tick MARK_LEAD later, also in a
warm reset (R349), whose ticks no timetable takes. -/
def ownTick (s : State) (spacing : Option Nat) : State :=
  let marks : Bool := isMaster s && rb s R.casMARK_EN && isUp s iCAS
  let kept := keptTicks s
  let (f, m) := if kept.isSome then (s.cal.nextF, s.cal.nextM) else ownNext s (if marks then s.cas.marks.length else 0)
  let s := match kept with | some ft => keptMove s ft | none => s
  if marks then
    let t := s.devTime + rf s R.casMARK_LEAD * 1000
    let per := spacing.getD 0
    let mk : Mark := ⟨t, m, f⟩
    let s := { s with cas := { s.cas with marks := s.cas.marks ++ [mk], lastMark := some (mk, per) } }
    briDown s ⟨0xB, 0, cascId s, 0, 0, [mkW (dtNs t), mkW (dtSec t), mkW (m + per * 2 ^ 16), mkW f]⟩
  else if kept.isSome then tickOut s m spacing
  else tickRaise s none m spacing

end Sys2Proof.Machine
end

