-- ==== Sys2Proof/Machine/IntCtl.lean ====
section
/-! DEFINITION. The interrupt controller: raises, eligibility, arbitration, claim, end of interrupt and hold-off
(R286 to R301). -/

namespace Sys2Proof.Machine

def core (s : State) (n : Nat) : CoreSt := s.cores.getD n coreZero
def modCore (s : State) (n : Nat) (k : CoreSt → CoreSt) : State := { s with cores := s.cores.set n (k (core s n)) }

/-- Whether core n is available: powered and not STOPPED (R290). -/
def coreAvail (s : State) (n : Nat) : Bool :=
  decide (n < s.cfg.part.cores) && decide ((core s n).pw = .on) && !rb s (R.rmSTOPPED n)
/-- Cores of the part. -/
def coreIds (s : State) : List Nat := List.range s.cfg.part.cores
/-- Cores that TARGET of a source names on this part (R288). -/
def icTargets (s : State) (src : Nat) : List Nat := (coreIds s).filter (fun n => bit (rf s (R.icTARGET src)) n)
/-- First source word of the controller's block. -/
def icSrcBase : Nat := blkBase .ic 0 + 0x100
/-- The sources whose PENDING is 1, in ascending order. -/
def icPending (s : State) : List Nat :=
  s.mem.filterMap (fun e => if icSrcBase ≤ e.1 ∧ e.1 < icSrcBase + 256 ∧ bit e.2.toNat 9 then some (e.1 - icSrcBase) else none)
/-- Enabled and in no hold-off (R290, R297). -/
def icWakes (s : State) (src : Nat) : Bool := rb s (R.icENABLE src) && !rb s (R.icHO_RUN (src / 8))
/-- Pending, enabled, not active and in no hold-off (R290). -/
def icReady (s : State) (src : Nat) : Bool := icWakes s src && !rb s (R.icACTIVE src)
/-- Whether core n's running priority admits a source (R290). -/
def icAdmits (s : State) (n src : Nat) : Bool :=
  let d := rf s (R.icRDEPTH n)
  if s.cfg.part.stacked then decide (d < 8) && (decide (d = 0) || decide (rf s (R.icRUNPRI n) < rf s (R.icPRIO src)))
  else decide (d = 0)
/-- Sources eligible for core n, ascending (R290). -/
def icEligible (s : State) (n : Nat) : List Nat :=
  if coreAvail s n then
    (icPending s).filter (fun src => icReady s src && (icTargets s src).contains n && icAdmits s n src)
  else []
/-- What a claim by core n returns: the highest PRIO, of those the lowest number; on the smaller parts the lowest number (R291). -/
def icBest (s : State) (n : Nat) : Option Nat :=
  (icEligible s n).foldl (fun b src => match b with
    | none => some src
    | some c => if s.cfg.part.stacked ∧ rf s (R.icPRIO c) < rf s (R.icPRIO src) then some src else some c) none
/-- The priority of core n's request (R290). -/
def icLinePri (s : State) (n : Nat) : Nat :=
  match icBest s n with
  | some c => if s.cfg.part.stacked then rf s (R.icPRIO c) else 0
  | none => 0

/-- Begin the wake of a powered-off core (R297): 20 µs. -/
def coreWake (s : State) (n : Nat) : State :=
  if (core s n).pw = .off then modCore s n fun c => { c with pw := .waking (s.now + 20000) } else s

/-- Wakes of powered-off targets for one source (R297); a core in its wake counts as powered off until it is available. -/
def icTargetCheck (s : State) (src : Nat) : State :=
  let ts := icTargets s src
  if !icWakes s src ∨ ts.any (coreAvail s) then s else
  match ts.filter (fun n => decide ((core s n).pw ≠ .on) && !rb s (R.rmSTOPPED n)) with
  | [] => s
  | n :: more => if rb s R.icSKIP_OFF then coreWake s n else (n :: more).foldl coreWake s
/-- Whether the targets of a source that asks for delivery are all STOPPED (R297). -/
def icNone (s : State) (src : Nat) : Bool :=
  let ts := icTargets s src
  icWakes s src && decide (ts ≠ []) && ts.all (fun n => rb s (R.rmSTOPPED n))
/-- NO_AVAIL (R297, R401): set, with a notice, at each source that comes to have only STOPPED targets. -/
def icNoAvail (s : State) : State :=
  let l := (icPending s).filter (icNone s)
  let s := (l.filter fun src => !s.ic.noAvail.contains src).foldl (fun s _ => notice (wb s R.icNO_AVAIL true) 2 17 0 0) s
  { s with ic := { s.ic with noAvail := l } }
/-- The priority at which core n's interrupt entry begins: of its request where IE admits one. Under an entry in progress a later request
of higher priority retargets it (R280), so it keeps the priority it began with. -/
def icEnter (s : State) (n : Nat) : Option Nat :=
  match icBest s n with
  | none => none
  | some _ => if rb s (R.rmIE n) then some (min (icLinePri s n) ((core s n).ent.getD 15)) else none
/-- Core n's request line after an arbitration (R290); a core in WAIT notes that it rose (R297). -/
def icLine (s : State) (n : Nat) : State :=
  let up := (icBest s n).isSome
  let e := icEnter s n
  let rose := up && decide ((core s n).hold = .wait)
  let s := if (core s n).ent = e ∧ rose = false then s else modCore s n fun c => { c with ent := e, rose := c.rose || rose }
  wb s (R.icLINE n) up
/-- Arbitration (R289, R290): request lines for the next cycle, wakes and NO_AVAIL (R297). -/
def icArb (s : State) : State :=
  let s := icNoAvail ((icPending s).foldl icTargetCheck s)
  (coreIds s).foldl icLine s

/-- A raise sets PENDING (R286). -/
def icRaise (s : State) (src : Nat) : State := if src < 256 then icArb (wb s (R.icPENDING src) true) else s

/-- Core n's RPRI follows RUNPRI; it reads 0 on the smaller parts. -/
def icPri (s : State) (n : Nat) : State := wf s (R.rmRPRI n) (rf s (R.icRUNPRI n))
/-- Push a claimed source onto core n's stack (R291). -/
def icPush (s : State) (n src : Nat) : State :=
  let d := rf s (R.icRDEPTH n)
  let p := if s.cfg.part.stacked then rf s (R.icPRIO src) else 0
  let s := wf (wf s (R.icSTK_SRC n d) src) (R.icSTK_PRI n d) p
  icPri (wf (wf s (R.icRDEPTH n) (d + 1)) (R.icRUNPRI n) p) n
/-- Pop core n's stack (R294). -/
def icPop (s : State) (n : Nat) : State :=
  let d := rf s (R.icRDEPTH n) - 1
  let s := wf (wf s (R.icSTK_SRC n d) 0) (R.icSTK_PRI n d) 0
  icPri (wf (wf s (R.icRDEPTH n) d) (R.icRUNPRI n) (if d = 0 then 0 else rf s (R.icSTK_PRI n (d - 1)))) n

/-- A claim by core n: what CLAIM returns, and the state (R291, R296). -/
def icClaim (s : State) (n : Nat) : Nat × State :=
  match icBest s n with
  | none => (511, cnt s (R.icSPUR_CNT n))
  | some src =>
    let s := wb (wb (wf s (R.icOWNER src) n) (R.icACTIVE src) true) (R.icPENDING src) false
    let s := icPush s n src
    let g := src / 8
    let h := rf s (R.icHOLDOFF g)
    let s := if h = 0 then s else
      wb { s with ic := { s.ic with hoDue := kvDel s.ic.hoDue g ++ [(g, s.now + h * 1000)] } } (R.icHO_RUN g) true
    (src, icArb s)

/-- An EOI of v by core n (R294). -/
def icEoi (s : State) (n v : Nat) : State :=
  if v = 511 then s else
  let d := rf s (R.icRDEPTH n)
  if 0 < d ∧ rf s (R.icSTK_SRC n (d - 1)) = v then icArb (icPop (wb s (R.icACTIVE v) false) n)
  else notice (wb s R.icEOI_ERR true) 2 16 n 0

/-- A command that acts in the RMC island. -/
def gateRm (n : Nat) (s : State) (k : State → State) : Host.Outcome State Fault Refusal :=
  gate iRMC s fun s => if n < s.cfg.part.cores then k s else s

/-- The island that raises a source (Table INT-1, Table INT-2): HOLD_FULL comes from the queue engine, sources 227 and 228 from the Bulk
Memory controller, the GPIO from AON. -/
def srcIsland (src : Nat) : Nat :=
  if src < 16 then iRMC else if src < 32 then iMWY else if src < 48 then iCLU (src - 32) else if src < 56 then iVEC
  else if src < 120 then iMWY else if src = 144 then iMWY else if src < 168 then iFLD else if src < 176 then iMWY
  else if src < 192 then iCAS else if src < 200 then iHST else if src < 224 then iAON
  else if src < 227 then iVEC else if src < 240 then iBLK else iMWY
/-- SOURCE_RAISE (R286, R287): a raise in flight reaches the controller. A pass keeps the order of an island's raises (R9): it is the oldest
of its island. -/
def execSourceRaise (src : Nat) (s : State) : Host.Outcome State Fault Refusal :=
  gate iRMC s fun s => if s.raiseQ.find? (fun k => decide (srcIsland k = srcIsland src)) = some src then icRaise { s with raiseQ := s.raiseQ.erase src } src else s
/-- SET (R288). -/
def execSet (src : Nat) (s : State) : Host.Outcome State Fault Refusal := gate iRMC s fun s => icRaise s src
/-- CLEAR (R288). -/
def execClear (src : Nat) (s : State) : Host.Outcome State Fault Refusal :=
  gate iRMC s fun s => if src < 256 then icArb (wb s (R.icPENDING src) false) else s
/-- CLAIM (R291, R293): core n's read of CLAIM. -/
def execClaim (n : Nat) (s : State) : Host.Outcome State Fault Refusal :=
  gateRm n s fun s =>
    let r := icClaim s n
    { r.2 with ic := { r.2.ic with claimed := kvDel r.2.ic.claimed n ++ [(n, r.1)] } }
/-- EOI (R294): core n's write of EOI. -/
def execEoi (n v : Nat) (s : State) : Host.Outcome State Fault Refusal := gateRm n s fun s => icEoi s n (v % 512)
/-- HOLDOFF_EXPIRY (R296). -/
def execHoldoffExpiry (g : Nat) (s : State) : Host.Outcome State Fault Refusal :=
  gate iRMC s fun s =>
    match kvFind s.ic.hoDue g with
    | none => s
    | some t =>
      let s := atLeast s t
      icArb (wb { s with ic := { s.ic with hoDue := kvDel s.ic.hoDue g } } (R.icHO_RUN g) false)

end Sys2Proof.Machine
end

