-- ==== Sys2Proof/Machine/CoreBase.lean ====
section
/-! DEFINITION. Ringmaster: a core's level, stack pointers and held entries, and its registers as SRD, SWR and its block reach them (R266, R278,
R284). -/

namespace Sys2Proof.Machine

/-- Level of core n, and its task-state block pointer. -/
def rmLvl (s : State) (n : Nat) : Nat := rf s (R.rmLEVEL n)
def rmTsbp (s : State) (n : Nat) : Nat := rf s (R.rmTSBP n) * 32
/-- Core n's emergency area (R278). -/
def rmArea (n : Nat) : Nat := 0x3000FC00 + n * 0x100
/-! ### Stack pointers (R266, R278) -/

/-- While EMERG is 1 the emergency area's stacks replace MONITOR's. -/
def rmEm (s : State) (n l : Nat) : Bool := rb s (R.rmEMERG n) && decide (l = 0)
/-- Pointer of the data (`q` false) or return stack of a level, and its bounds LO and HI. -/
def rmSp (s : State) (n l : Nat) (q : Bool) : Nat :=
  if rmEm s n l then (if q then (core s n).emQ else (core s n).emD) else if q then rf s (R.rmSPQ n l) else rf s (R.rmSPD n l)
def rmLo (s : State) (n l : Nat) (q : Bool) : Nat :=
  if rmEm s n l then rmArea n + (if q then 0xA0 else 0x40) else if q then rf s (R.rmQLO n l) else rf s (R.rmDLO n l)
def rmHi (s : State) (n l : Nat) (q : Bool) : Nat :=
  if rmEm s n l then rmArea n + (if q then 0x100 else 0xA0) else if q then rf s (R.rmQHI n l) else rf s (R.rmDHI n l)
def rmSetSp (s : State) (n l : Nat) (q : Bool) (v : Nat) : State :=
  if rmEm s n l then modCore s n fun c => if q then { c with emQ := v } else { c with emD := v }
  else if q then wf s (R.rmSPQ n l) v else wf s (R.rmSPD n l) v
/-- Whether a pointer lies within its stack's bounds. -/
def rmInB (s : State) (n l : Nat) (q : Bool) (p : Nat) : Bool := decide (rmLo s n l q ≤ p) && decide (p ≤ rmHi s n l q)
/-- Held entries of a stack, top first. -/
def rmHeld (s : State) (n : Nat) (q : Bool) : List Word := if q then (core s n).rs else (core s n).ds
def rmSetHeld (s : State) (n : Nat) (q : Bool) (l : List Word) : State :=
  modCore s n fun c => if q then { c with rs := l } else { c with ds := l }
/-- Entries a stack holds in hardware. -/
def rmCap (q : Bool) : Nat := if q then 8 else 16

/-! ### Registers (R284) -/

/-- Whether a number names special registers. -/
def srNamed (o : Nat) : Bool :=
  decide (o < 0xE) || (decide (0x10 ≤ o) && decide (o < 0x1C)) || (decide (0x20 ≤ o) && decide (o ≤ 0x26)) ||
    (decide (0x30 ≤ o) && decide (o ≤ 0x34)) || (decide (0x40 ≤ o) && decide (o < 0xA0))
/-- The level whose stack registers or regions a number names. -/
def srLevel (o : Nat) : Option Nat :=
  if 8 ≤ o ∧ o < 0xE then some ((o - 8) / 2) else if 0x10 ≤ o ∧ o < 0x1C then some ((o - 0x10) / 4)
  else if 0x40 ≤ o ∧ o < 0xA0 then some ((o - 0x40) / 32) else none
/-- What SRD, or a read of the block, gives for offset o: while EMERG is 1 MONITOR's stack registers are the emergency area's (R278). -/
def srRead (s : State) (n o : Nat) : Word :=
  if o = 8 ∨ o = 9 then mkW (rmSp s n 0 (o == 9))
  else if 0x10 ≤ o ∧ o < 0x14 then mkW (if o % 2 = 0 then rmLo s n 0 (decide (o = 0x12)) else rmHi s n 0 (decide (o = 0x13)))
  else rd s (blkBase .rm n + o)
/-- Held entries of a stack, bottom first, in the store buffer below pointer p. -/
def rmFlushEnts (s : State) (n : Nat) (q : Bool) (p : Nat) : List SbEnt :=
  let h := (rmHeld s n q).reverse
  ((List.range h.length).zip h).map fun e => ⟨(p + 2 ^ 36 - 1 - e.1) % 2 ^ 36, .word e.2, rmLvl s n⟩
/-- A write of SPD or SPQ of the current level by the block first spills that stack's held entries at the old pointer (R284). -/
def rmFlush (s : State) (n : Nat) (q : Bool) : State :=
  let es := rmFlushEnts s n q (rmSp s n (rmLvl s n) q)
  rmSetHeld (modCore s n fun c => { c with sb := c.sb ++ es }) n q []

end Sys2Proof.Machine
end

