-- ==== Sys2Proof/Machine/HostBase.lean ====
section
/-! DEFINITION. Command packets: their format, where they come from and go to, and their replies (R358 to R361, R371, R372,
Tables HCI-2 to HCI-4). -/

namespace Sys2Proof.Machine

def ring (s : State) (r : Nat) : RingSt := s.hst.rings.getD r ringZero
def modRing (s : State) (r : Nat) (k : RingSt → RingSt) : State :=
  { s with hst := { s.hst with rings := s.hst.rings.set r (k (ring s r)) } }
def modHst (s : State) (k : HostSt → HostSt) : State := { s with hst := k s.hst }

/-! ### Status codes (Table HCI-3) -/
def hsOK : Nat := 0
def hsVERSION : Nat := 1
def hsOPCODE : Nat := 2
def hsLENGTH : Nat := 3
def hsPARAM : Nat := 4
def hsMODE : Nat := 5
def hsBUSY : Nat := 6
def hsDENIED : Nat := 7
def hsACCESS : Nat := 8
def hsCHECK : Nat := 9
def hsABSENT : Nat := 10
def hsUNREACH : Nat := 11
def hsFWDTO : Nat := 12
def hsRESET : Nat := 13
def hsBCAST : Nat := 14
def hsHWFAIL : Nat := 15

/-- A row of Table HCI-4: opcode, class (0 A to 3 D), RCV (0 no, 1 yes, 2 firmware only), the only mode (8: all), LEN range. -/
structure OpRow where
  code : Nat
  cls : Nat
  rcv : Nat
  only : Nat
  lo : Nat
  hi : Nat
  deriving DecidableEq, Repr

def opRowsA : List OpRow :=
  [⟨0x01, 0, 1, 8, 0, 0⟩, ⟨0x02, 0, 1, 8, 0, 0⟩, ⟨0x03, 0, 1, 8, 0, 59⟩, ⟨0x04, 2, 0, 8, 3, 3⟩, ⟨0x10, 2, 1, 8, 1, 1⟩,
   ⟨0x20, 3, 2, 8, 2, 2⟩, ⟨0x21, 3, 2, 8, 5, 57⟩, ⟨0x22, 3, 2, 8, 1, 1⟩, ⟨0x23, 3, 2, 8, 1, 1⟩, ⟨0x24, 3, 1, 8, 1, 1⟩,
   ⟨0x30, 2, 0, 2, 4, 4⟩, ⟨0x31, 1, 0, 8, 1, 1⟩, ⟨0x32, 1, 0, 8, 1, 1⟩, ⟨0x40, 0, 1, 8, 3, 3⟩, ⟨0x41, 2, 0, 8, 4, 60⟩,
   ⟨0x42, 0, 0, 8, 6, 6⟩, ⟨0x43, 2, 0, 8, 6, 6⟩, ⟨0x44, 2, 0, 8, 4, 4⟩]
def opRowsB : List OpRow :=
  [⟨0x50, 1, 0, 8, 1, 1⟩, ⟨0x51, 1, 0, 8, 5, 60⟩, ⟨0x52, 1, 0, 8, 1, 1⟩, ⟨0x53, 1, 0, 8, 1, 1⟩, ⟨0x54, 0, 0, 8, 0, 0⟩,
   ⟨0x60, 2, 0, 8, 5, 5⟩, ⟨0x61, 0, 0, 8, 1, 1⟩, ⟨0x62, 2, 0, 8, 5, 5⟩, ⟨0x63, 2, 0, 8, 9, 9⟩, ⟨0x70, 1, 0, 8, 10, 10⟩,
   ⟨0x71, 1, 0, 8, 1, 1⟩, ⟨0x72, 1, 0, 8, 1, 1⟩, ⟨0x80, 0, 0, 8, 0, 0⟩, ⟨0x81, 2, 0, 2, 1, 1⟩, ⟨0x82, 2, 0, 6, 0, 0⟩,
   ⟨0x90, 2, 0, 8, 1, 1⟩, ⟨0x91, 0, 1, 8, 0, 0⟩]
def opRowsC : List OpRow :=
  [⟨0xA0, 0, 1, 8, 3, 3⟩, ⟨0xA1, 3, 1, 8, 3, 3⟩, ⟨0xB0, 3, 1, 8, 1, 1⟩, ⟨0xB1, 3, 1, 8, 0, 0⟩, ⟨0xB2, 3, 0, 7, 1, 1⟩,
   ⟨0xB3, 0, 1, 8, 0, 0⟩, ⟨0xC0, 3, 0, 2, 9, 9⟩, ⟨0xC1, 3, 0, 8, 25, 25⟩]
/-- The opcodes of Table HCI-4. -/
def opRow (code : Nat) : Option OpRow := (opRowsA ++ opRowsB ++ opRowsC).find? (fun r => decide (r.code = code))

/-- Word i of a packet. -/
def pw (ws : List HWord) (i : Nat) : Nat := (ws.getD i 0#32).toNat
def pkOp (ws : List HWord) : Nat := bits (pw ws 0) 15 0
def pkFlags (ws : List HWord) : Nat := bits (pw ws 0) 23 16
def pkVer (ws : List HWord) : Nat := bits (pw ws 0) 31 24
def pkTag (ws : List HWord) : Nat := pw ws 1
def pkMod (ws : List HWord) : Nat := bits (pw ws 2) 5 0
def pkLen (ws : List HWord) : Nat := bits (pw ws 3) 7 0
/-- The payload of a packet. -/
def payload (ws : List HWord) : List HWord := (ws.drop 4).take (pkLen ws)
def hw (n : Nat) : HWord := BitVec.ofNat 32 n
/-- A value of 36 bits or more as two payload words, bits 31:0 first (R361). -/
def two (n : Nat) : List HWord := [hw n, hw (n / 2 ^ 32)]

/-- A reply to a packet (Table HCI-2, R361). -/
def mkReply (s : State) (hdr : List HWord) (status detail : Nat) (data : List HWord) : List HWord :=
  [hw (pkOp hdr + status * 2 ^ 16 + 2 ^ 24), hw (pkTag hdr), hw (cascId s), hw (1 + data.length), hw detail] ++ data

/-- Words of a packet cut into segments of 16 device words (R372). -/
def segments : Nat → Nat → List HWord → List (Nat × List Word)
  | 0, _, _ => []
  | n + 1, i, ws => if ws.isEmpty then [] else
      (i, (ws.take 16).map (fun w => mkW w.toNat)) :: segments n (i + 1) (ws.drop 16)

/-- A reply goes back by the path its packet came by (R359, R371, R372); `last`: it completes the packet. -/
def putReply (s : State) (p : CmdPath) (rep : List HWord) (last : Bool) : State :=
  match p with
  | .ring r => modRing s r fun k => { k with replies := k.replies ++ [(rep, last)] }
  | .udp fp mac ip up =>
    let s := modHst s fun h => { h with recent := h.recent.map (fun e =>
      if e.ip = ip ∧ e.port = up ∧ e.tag = pkTag rep then { e with reply := some rep } else e) }
    txQueue s fp ⟨.other, 0, 0, [], mac, ip, up, rep⟩
  | .fwd m t => (segments 5 0 rep).foldl (fun s g => (briTo s ⟨0xA, m, cascId s, t, g.1, g.2⟩).2) s
  | .uart => modHst s fun h => { h with uartOut := h.uartOut ++ [rep] }
/-- Answer a packet (R361). While a broadcast of it is open, the reply of this module is not the last; after its BCAST_END it is discarded
(R372). -/
def answer (s : State) (p : CmdPath) (hdr : List HWord) (status detail : Nat) (data : List HWord) : State :=
  let s := if status = hsOK then s else cnt s R.hstERR_CNT
  let mine := fun (f : Fwd) => decide (f.dest = none) && decide (f.path = p) && decide (f.hdr = hdr.take 4)
  let far : Bool := match p with | .fwd _ _ => true | _ => false
  if s.hst.fwds.any mine then
    let s := modHst s fun h => { h with fwds := h.fwds.map fun f => if mine f then { f with replied := f.replied ++ [cascId s] } else f }
    putReply s p (mkReply s hdr status detail data) false
  else if pkMod hdr = 63 ∧ far = false ∧ status ≠ hsBCAST ∧ status ≠ hsVERSION ∧ status ≠ hsOPCODE ∧ status ≠ hsDENIED then s
  else putReply s p (mkReply s hdr status detail data) true

/-- Whether a path may carry a class (R371); RECOVERY accepts no packet forwarded to it (R382). -/
def classOk (s : State) (p : CmdPath) (cls : Nat) : Bool :=
  match p with
  | .ring _ | .uart => true
  | .udp _ _ _ _ => if mode s = mRECOVERY then decide (cls = 0) || decide (cls = 3) else bit (rf s R.hstUDP_MASK) cls
  | .fwd _ _ => decide (mode s ≠ mRECOVERY) && bit (rf s R.hstFWD_MASK) cls

/-- Put a packet that this module is to execute into its buffer. -/
def takePkt (s : State) (p : CmdPath) (ws : List HWord) : State :=
  match p with
  | .ring r => modRing s r fun k => { k with pkt := some ws, ran := false }
  | _ => raise (modHst s fun h => { h with mail := h.mail ++ [⟨p, ws⟩] }) 196
/-- Send a packet to another module as COMMAND segments (R372). -/
def sendCmd (s : State) (m tag : Nat) (ws : List HWord) : State :=
  (segments 5 0 ws).foldl (fun s g => (briTo s ⟨0x9, m, cascId s, tag, g.1, g.2⟩).2) s
/-- Send a broadcast packet on: the master sends it down; a follower sends it up to the master (R336). -/
def sendBcast (s : State) (src tag : Nat) (ws : List HWord) : State :=
  (segments 5 0 ws).foldl (fun s g =>
    if isMaster s then briDown s ⟨0x9, 0, src, tag, g.1, g.2⟩
    else (linkIds s).foldl (fun s l =>
      if rb s (R.casIS_UP_LINK l) then briSend s l ⟨0x9, rf s R.casMASTER_ID, src, tag, g.1, g.2⟩ else s) s) s
/-- Open a wait for the replies of other modules (R372). -/
def fwdOpen (s : State) (p : CmdPath) (ws : List HWord) (dest : Option Nat) : State :=
  modHst s fun h => { h with
    fwds := h.fwds ++ [⟨p, ws.take 4, h.fwdTag, dest, s.now + rf s R.hstFWD_TIMEOUT * 1000000, []⟩]
    fwdTag := (h.fwdTag + 1) % 128 }
/-- A command whose destination is unreachable (R347, R372). -/
def undeliverable (s : State) (p : CmdPath) (ws : List HWord) : State :=
  notice (raise (answer s p ws hsUNREACH (pkMod ws) []) 188) 12 12 0 0

/-- Whether RM0 executes packets: Monitor runs, or in RECOVERY the recovery code of the boot ROM (R379, R382). -/
def monRuns (s : State) : Bool :=
  isUp s iRMC && !rb s (R.rmSTOPPED 0) && (decide (mode s = mRECOVERY) || decide ((s.cores.getD 0 coreZero).hold ≠ .rom))
/-- Monitor takes a packet: what is answered at once, forwarded, or kept for execution (R361, R371, R372). -/
def monTake (s : State) (p : CmdPath) (ws : List HWord) : State :=
  let hold := match p with
    | .ring r => modRing s r fun k => { k with pkt := some ws, ran := true }
    | _ => s
  if pkVer ws ≠ 1 then answer hold p ws hsVERSION 0 [] else
  match opRow (pkOp ws) with
  | none => answer hold p ws hsOPCODE 0 []
  | some r =>
    let m := pkMod ws
    if classOk s p r.cls = false then answer hold p ws hsDENIED 1 []
    else if 31 < m ∧ m ≠ 62 ∧ m ≠ 63 then
      let v := freeWord hold
      answer v.2 p ws hsPARAM (v.1.toNat % 2 ^ 32) []
    else if m = 63 then
      match p with
      | .fwd _ _ => takePkt s p ws
      | _ =>
        let t := s.hst.fwdTag
        let s := fwdOpen s p ws none
        takePkt (sendBcast s (cascId s) t ws) p ws
    else if m = 62 ∨ m = cascId s then takePkt s p ws
    else if (route s m).isNone then undeliverable hold p ws
    else
      let t := hold.hst.fwdTag
      sendCmd (fwdOpen hold p ws (some m)) m t ws

/-- A packet has arrived by a path; before Monitor runs its command loop it waits in its buffer (R379). -/
def intake (s : State) (p : CmdPath) (ws : List HWord) : State :=
  if monRuns s then monTake s p ws else
    let s := match p with
      | .ring r => modRing s r fun k => { k with pkt := some ws, ran := true }
      | _ => s
    modHst s fun h => { h with early := h.early ++ [⟨p, ws⟩] }
/-- Monitor, or the recovery code, has begun: it takes the packets that have waited for it. -/
def monBegin (s : State) : State :=
  if monRuns s then s.hst.early.foldl (fun s q => monTake s q.path q.words) (modHst s fun h => { h with early := [] }) else s
/-- A UDP datagram at the command port (R371): `n` octets in all. -/
def udpCommand (s : State) (fp mac ip up n : Nat) (ws : List HWord) : State :=
  if n ≠ 16 + 4 * pkLen ws then notice (wb s R.hstUDP_DROP true) 9 6 fp fp else
  let p := CmdPath.udp fp mac ip up
  match s.hst.recent.find? (fun e => decide (e.ip = ip) && decide (e.port = up) && decide (e.tag = pkTag ws)) with
  | some e =>
    let s := cnt s R.hstUDP_DUP_CNT
    match e.reply with
    | some rep => txQueue s fp ⟨.other, 0, 0, [], mac, ip, up, rep⟩
    | none => s
  | none =>
    let ok := match opRow (pkOp ws) with
      | some r => pkVer ws = 1 && classOk s p r.cls
      | none => false
    let s := if ok then
        modHst s fun h => { h with recent := (h.recent ++ [Recent.mk ip up (pkTag ws) none]).drop (h.recent.length + 1 - 16) }
      else s
    intake s p ws
/-- Whether a port accepts command datagrams (R371). -/
def cmdPort (s : State) (p : Nat) : Bool :=
  if mode s = mRECOVERY then decide (p = 0) else bit (rf s R.hstCMD_PORTS) p

/-- How a command ends: a reply now, or one later. -/
inductive CmdRes where
  | reply (status detail : Nat) (data : List HWord) (s : State)
  | later (s : State)

/-- The packet a command row executes: the one fetched from a ring, or the first in the UDP and forward buffer. -/
def cmdPkt (s : State) (c : CmdSrc) : Option InPkt :=
  match c with
  | .ring r => if (ring s r).ran then none else (ring s r).pkt.map (fun w => InPkt.mk (.ring r) w)
  | .mail => s.hst.mail.head?
/-- The packet has been executed. -/
def cmdRan (s : State) (c : CmdSrc) : State :=
  match c with
  | .ring r => modRing s r fun k => { k with ran := true }
  | .mail => modHst s fun h => { h with mail := h.mail.drop 1 }
/-- The first payload word with a bit outside its mask. -/
def badMask (pl : List HWord) (masks : List Nat) : Option Nat :=
  ((List.range masks.length).find? (fun i => decide ((pl.getD i 0#32).toNat &&& masks.getD i 0 ≠ (pl.getD i 0#32).toNat)))
/-- Execute a packet of an opcode (R361, R362): its checks, then its effect `k` on path, packet and state. `firm`: the packet
concerns firmware, which RECOVERY allows. -/
def runCmd (code : Nat) (c : CmdSrc) (firm : List HWord → State → Bool)
    (k : CmdPath → List HWord → State → CmdRes) (s : State) : State :=
  match cmdPkt s c, opRow code with
  | some q, some r =>
    if pkOp q.words ≠ code then s else
    let s := cnt (cmdRan s c) R.hstCMD_CNT
    let len := pkLen q.words
    let m := mode s
    if 60 < len ∨ len < r.lo ∨ r.hi < len then answer s q.path q.words hsLENGTH 0 []
    else if 3 < pkFlags q.words ∨ 63 < pw q.words 2 ∨ 255 < pw q.words 3 then
      let v := freeWord s
      answer v.2 q.path q.words hsPARAM (v.1.toNat % 2 ^ 32) []
    else if m = mRECOVERY ∧ (r.rcv = 0 ∨ (r.rcv = 2 ∧ firm (payload q.words) s = false)) then answer s q.path q.words hsMODE m []
    else if r.only ≠ 8 ∧ r.only ≠ m then answer s q.path q.words hsMODE m []
    else
      match k q.path q.words s with
      | .reply st d data t => answer t q.path q.words st d data
      | .later t => t
  | _, _ => s
/-- A command row: Monitor on RM0 executes packets, the endpoint carries them. -/
def gateCmd (s : State) (k : State → State) : Host.Outcome State Fault Refusal :=
  gate iHST s fun s => if monRuns s then k s else s

end Sys2Proof.Machine
end

