-- ==== Sys2Proof/Machine/Trouble.lean ====
section
/-! DEFINITION. The trouble record and the Trouble Log (R401 to R406). -/

namespace Sys2Proof.Machine

/-- Trouble register k as a whole word. -/
def trbF (k : Nat) : Field := ⟨blkBase .trb 0 + k, 35, 0⟩
/-- TRB_SUM bit k follows TRBk (Table TRB-3). -/
def trbSum (s : State) (k : Nat) : State := wb s (fbit R.trbTRB_SUM k) (decide (rf s (trbF k) ≠ 0))
/-- Set bit b of TRBk: source 209 where it was 0 and TRB_IRQ selects the register (R406). -/
def trbBit (s : State) (k b : Nat) : State :=
  let was := bit (rf s (trbF k)) b
  let s := trbSum (wb s (fbit (trbF k) b) true) k
  raiseIf s (!was && bit (rf s R.trbTRB_IRQ) k) 209
/-- A log entry falls due (R404): it joins the queue of 32, or is dropped. -/
def logDue (s : State) (n : Notice) : State :=
  if s.logQ.length < 32 then { s with logQ := s.logQ ++ [(n, s.devTime, mode s)] }
  else trbBit (cnt (raiseIf s (!bit (rf s (trbF 13)) 0) 210) R.trbLOG_DROP_CNT) 13 0
/-- A trouble event reaches AON (R401, R404): its bit is set; set from 0, or always where `force`, an entry falls due. -/
def troubleSet (s : State) (n : Notice) (force : Bool) : State :=
  let k := n.cause / 64
  let b := n.cause % 64
  let was := bit (rf s (trbF k)) b
  let s := trbBit s k b
  if was ∧ force = false then s else logDue s n
/-- TROUBLE_NOTICE (R401): the oldest notice on its way arrives. -/
def execTroubleNotice (s : State) : Host.Outcome State Fault Refusal :=
  gateAon s fun s =>
    match s.noticeQ with
    | [] => s
    | n :: r => troubleSet { s with noticeQ := r } n false

/-- A write of TRB_SWSET (R403): each bit set from 0 gets an entry with TRB_SWDETAIL. -/
def swSet (s : State) (w : Word) : State :=
  let det := rd s R.trbTRB_SWDETAIL.addr
  (List.range 36).foldl (fun s b =>
    if bit w.toNat b ∧ bit (rf s (trbF 15)) b = false then logDue (trbBit s 15 b) ⟨64 * 15 + b, 0, det⟩ else s) s
/-- TRB_SWSET (R403). -/
def execTrbSwset (w : Word) (s : State) : Host.Outcome State Fault Refusal := gateAon s fun s => swSet s w
/-- A W1C write to TRBk (R402). -/
def trbClear (s : State) (k : Nat) (w : Word) : State := trbSum (wf s (trbF k) (rf s (trbF k) &&& (2 ^ 36 - 1 - w.toNat))) k

/-- LOG_ENTRY_WRITE (R404): the logger writes the first pending entry. -/
def logWrite (s : State) : State :=
  match s.logQ with
  | [] => s
  | (n, t, m) :: r =>
    let next := rf s R.trbLOG_NEXT
    let read := rf s R.trbLOG_READ
    let used := (next + 2 ^ 36 - read) % 2 ^ 36
    let a := (R.trbLOGW (4 * (next % 256))).addr
    let w2 := n.cause + n.unit % 64 * 2 ^ 10 + m * 2 ^ 16 + next % 2 ^ 12 * 2 ^ 24
    let s := wrBlock { s with logQ := r } a [mkW (dtNs t), mkW (dtSec t), mkW w2, n.detail]
    let s := wf s R.trbLOG_NEXT (next + 1)
    let s := if 256 ≤ used then trbBit s 13 1 else s
    raiseIf s (decide (used + 1 = 192)) 210
def execLogEntryWrite (s : State) : Host.Outcome State Fault Refusal := gateAon s fun s => logWrite (elapse s (if s.logQ = [] then 0 else 20))

end Sys2Proof.Machine
end

