-- ==== Sys2Proof/Machine/PowerBase.lean ====
section
/-! DEFINITION. Resets as requests and the cold reset (R384, R385), the rows of a register word, the Warm columns, the cap in force
and the derate causes (R378, R392). -/

namespace Sys2Proof.Machine

/-! ### Rows of a register word -/

/-- Whether a table row covers an offset. -/
def rowAt (r : Row) (o : Nat) : Bool :=
  if o < r.off then false else
  let d := o - r.off
  let i := d / r.s1
  let e := d % r.s1
  let one := fun (d : Nat) => decide (d % r.s2 = 0) && decide (d / r.s2 < r.n2)
  if r.n1 ≤ 1 then one d else decide (i < r.n1) && one e
/-- The rows that give the fields of a word. -/
def rowsAt (b : Blk) (o : Nat) : List Row := (blkRows b).filter (fun r => rowAt r o && decide (r.lo ≤ r.hi))
/-- The mask of a row's bits. -/
def rowMask (r : Row) : Nat := 2 ^ (r.hi + 1) - 2 ^ r.lo
/-- A register word after a warm reset: every field whose Warm column is not kept has its Cold value (R385). -/
def warmWord (s : State) (b : Blk) (i o a : Nat) (w : Word) : Word :=
  let cold := (coldWord s.cfg.part a).toNat
  let _ := i
  (rowsAt b o).foldl (fun w r => if r.warmKept then w else mkW (putBits w.toNat r.hi r.lo (bits cold r.hi r.lo))) w
/-- Return the register blocks a condition selects to their Warm columns. -/
def warmRegs (s : State) (p : Blk → Nat → Bool) : State :=
  s.mem.foldl (fun s e => match blkOf e.1 with
    | some (b, i, o) => if p b i then wr s e.1 (warmWord s b i o e.1 e.2) else s
    | none => s) s
/-- Return the register blocks a condition selects, and the memory words another selects, to their Cold values. -/
def coldRegs (s : State) (p : Blk → Nat → Bool) (memp : Nat → Bool) : State :=
  { s with
    mem := s.mem.filter (fun e => match blkOf e.1 with
      | some (b, i, _) => !p b i
      | none => !memp e.1)
    ecc := s.ecc.filter (fun e => !memp e.1) }

/-! ### The cold reset -/

/-- Words of AON that a cold reset keeps: the trouble record with its log, START_FAILS, REF_LOST and RESET_CNT (Table MRP-5). -/
def coldKeeps (e : Nat × Word) : Option (Nat × Word) :=
  let t := blkBase .trb 0
  let p := blkBase .pwr 0
  if t ≤ e.1 ∧ e.1 < t + 0x14 then some e
  else if t + 0x1000 ≤ e.1 ∧ e.1 < t + 0x1400 then some e
  else if e.1 = p + 2 then
    let v := e.2 &&& 0x87#36
    if v = 0#36 then none else some (e.1, v)
  else if e.1 = p + 3 then some e
  else none
/-- A start fails where a reset begins before START_OK (R380). RECOVERY waits for no START_OK (Table MRP-3, log entry 61). -/
def startFail (s : State) : State :=
  if rb s R.pwrRESTARTING ∧ s.pwr.ph = .run ∧ mode s ≠ mRECOVERY then cntAdd s R.pwrSTART_FAILS 1 else s
/-- A cold reset of code `code` begins (R384, R385): everything but what Table MRP-5 keeps, flash, the host's memory and the
pin levels that GPIO_IN reads is lost. -/
def takeCold (s : State) (code : Nat) : State :=
  let s := startFail s
  let s := if mode s = mBOOT then s else trb1 s 6 (mode s)
  let s := cnt s R.pwrRESET_CNT
  let z := State.cold s.cfg
  let hst := { z.hst with flash := s.hst.flash, flashLen := s.hst.flashLen, flashOk := s.hst.flashOk, keys := s.hst.keys, bootSel := s.hst.bootSel }
  let hst := { hst with fieldRec := s.hst.fieldRec, trainOk := s.hst.trainOk }
  let q := s.pwr
  let pwr := { z.pwr with code := code, tjAt := q.tjAt, winAt := q.winAt, noIn := q.noIn, pinC := q.pinC, pinW := q.pinW, pinP := q.pinP, thHold := q.thHold, boHold := q.boHold }
  let pwr := { pwr with refHold := q.refHold, pgood := q.pgood, pmInput := q.pmInput, pmTemp := q.pmTemp, pmCml := q.pmCml, pmOut := q.pmOut }
  let t := { z with mem := s.mem.filterMap coldKeeps, hostMem := s.hostMem, free := s.free, now := s.now }
  let t := { t with noticeQ := s.noticeQ, logQ := s.logQ, pending := s.pending, hst := hst, pwr := pwr }
  let t := { t with mem := kvSet (coldWord s.cfg.part (R.pwrVIN_MV).addr) t.mem (R.pwrVIN_MV).addr (rd s (R.pwrVIN_MV).addr) }
  let t := wf t R.gpGPIO_IN (rf s R.gpGPIO_IN)
  wf t R.pwrLAST_RESET code

/-- Whether a cold release is in progress (R384): a warm request is then taken as cold. -/
def coldReleasing (s : State) : Bool :=
  decide (s.pwr.ph = .release) ||
    (decide (s.pwr.ph = .run) && decide ((s.pwr.lockPend &&& 0x460000#23) ≠ 0#23)) ||
    (decide (s.pwr.ph = .run) && !s.pwr.startWarm && decide ((s.pwr.lockPend &&& 0x080001#23 &&& ~~~s.pwr.lockOnce) ≠ 0#23))
/-- A reset request of Table MRP-4 arrives (R384, R395). A cold one waits in `rstReq` for the end of the command it came with; a warm
one for WARM_RESET. -/
def reqReset (s : State) (code : Nat) (cold : Bool) : State :=
  if s.aonOn = false ∨ s.pwr.ph = .off then s
  else if s.pwr.holdAt.isSome ∧ code ≠ 11 ∧ code ≠ 15 then
    { s with pwr := { s.pwr with held := s.pwr.held ++ [(code, cold)] } }
  else if s.pwr.ph = .warmHeld ∧ cold = false then { s with pwr := { s.pwr with merged := s.pwr.merged ++ [code] } }
  else if s.pwr.ph = .quiesce then
    if cold then { s with pwr := { s.pwr with coldPend := some (s.pwr.coldPend.getD code) } }
    else { s with pwr := { s.pwr with merged := s.pwr.merged ++ [code] } }
  else { s with rstReq := s.rstReq ++ [(code, cold || coldReleasing s)] }
/-- The first cold request waiting is taken (R384). -/
def rstSettle (s : State) : State :=
  match s.rstReq.find? (fun r => r.2) with
  | some (code, _) => takeCold s code
  | none => s
/-- `gate` for commands that can request a reset. -/
def gateRst (i : Nat) (s : State) (k : State → State) : Host.Outcome State Fault Refusal := gate i s fun s => rstSettle (k s)
/-- `gateAon` for commands that can request a reset. -/
def gateAonRst (s : State) (k : State → State) : Host.Outcome State Fault Refusal := gateAon s fun s => rstSettle (k s)

/-! ### Cap and derate causes (R392, R378) -/

/-- CAP_EFF: the lesser of the commanded cap (0: 95 W) and 48 W while LOW_SUPPLY is 1. -/
def capEff (s : State) : State :=
  let c := rf s R.pwrCAP_CMD
  let c := if c = 0 then 950 else c
  wf s R.pwrCAP_EFF (if rb s R.pwrLOW_SUPPLY then min c 480 else c)

/-! ### Islands released by software (R387, R391, R393) -/

/-- A write of ISL_ON (R387): the islands newly requested await their clock lock, those no longer requested stay released. -/
def islOnWrite (s : State) (w : Word) : State :=
  let m := bits w.toNat 22 0
  let s := wf s R.pwrISL_ON m
  let new := BitVec.ofNat 23 m &&& ~~~(s.up ||| BitVec.ofNat 23 (rf s R.pwrISL_LOST)) &&& ~~~(0x4E0001#23)
  { s with pwr := { s.pwr with lockPend := s.pwr.lockPend ||| new } }
/-- A write of 1 to FORCE_REL (R391): in TEST the islands of FORCE_ISL that are not released are released without the lock check. -/
def forceRel (s : State) : State :=
  if mode s = mTEST then
    let m := BitVec.ofNat 23 (rf s R.pwrFORCE_ISL) &&& ~~~s.up
    notice { s with up := s.up ||| m, forced := s.forced ||| m, pwr := { s.pwr with lockPend := s.pwr.lockPend &&& ~~~m } } 0 20 0 0
  else s
/-- START_OK (R379, R381): a start in progress succeeds within its 2.0 s, a limit that RECOVERY lacks (R382). A re-arm of Calliope is its own command (CALLIOPE_REARM). -/
def startOk (s : State) (rearm : State → Bool) : State :=
  if rb s R.pwrRESTARTING = false ∨ (mode s ≠ mRECOVERY ∧ s.pwr.startAt + 2000000000 < s.now) then s else
  let s := wb (wf s R.pwrSTART_FAILS 0) R.pwrRESTARTING false
  let s := (List.range s.cfg.part.cores).foldl (fun s n => wb s (R.rmWD_STRIKE n) false) s
  let m := mode s
  if m = mBOOT then setMode s mCONFIGURE
  else if (m = mRUN ∨ m = mDERATED ∨ m = mSHADOW) ∧ rearm s = false then setMode s mCONFIGURE
  else s

end Sys2Proof.Machine
end

