-- ==== Sys2Proof/Machine/Bus.lean ====
section
/-! DEFINITION. An access of a master through Midway, made at once (log entry 5): decoding, refusals, memories, and the register blocks
with what each read or write of a register does (R3, R6, R7, R301, R303, R313, R353 to R356, R374, R399, R402, R418, R427). -/

namespace Sys2Proof.Machine

/-! ### Host ring and MSI-X registers (R357, R360) -/

/-- MSI-X vector v is sent (R357): while masked it becomes pending. -/
def msixSend (s : State) (v : Nat) : State :=
  if 32 ≤ v then s
  else if s.hst.msixMask.getLsbD v then modHst s fun h => { h with msixPend := h.msixPend ||| (1#32 <<< v) }
  else modHst s fun h => { h with msixSent := h.msixSent ++ [v] }
/-- A vector is unmasked: a pending one is delivered, once (R357). -/
def msixUnmask (s : State) (v : Nat) : State :=
  if 32 ≤ v then s else
  let p := s.hst.msixPend.getLsbD v
  modHst s fun h => { h with
    msixMask := h.msixMask &&& ~~~(1#32 <<< v)
    msixPend := h.msixPend &&& ~~~(1#32 <<< v)
    msixSent := if p then h.msixSent ++ [v] else h.msixSent }
/-- A write of RING_EN (R360). -/
def ringEnable (s : State) (r : Nat) (en : Bool) : State :=
  let was := rb s (R.hstRING_EN r)
  let s := wb s (R.hstRING_EN r) en
  if en = true ∧ was = false then
    let s := [R.hstCR_PROD r, R.hstRR_CONS r, R.hstCR_FETCH r, R.hstRDONE r, R.hstRPROD r].foldl (fun s f => wf s f 0) s
    modRing s r fun _ => ringZero
  else s

/-! ### Cores: restart, watchdog, power (R283, R284, R393) -/

/-- WD_KICK (R283): the count restarts. -/
def wdKick (s : State) (n : Nat) : State := modCore s n fun c => { c with wdFrom := s.now, wdWarned := false }
/-- RESTART (R284): the stopped core starts at RESTART_PC at MONITOR with Warm values. -/
def coreRestart (s : State) (n : Nat) : State :=
  if rb s (R.rmSTOPPED n) = false then s else
  let pc := rf s (R.rmRESTART_PC n)
  let s := wb (warmRegs s fun b i => decide (b = .rm) && decide (i = n)) (R.rmSTOPPED n) false
  icArb (modCore s n fun c => { coreZero with pc := pc, pw := c.pw, wdFrom := s.now })
/-- A write of CORE_OFF (R393): a bit cleared wakes its core; a bit set takes effect at the core's next WAIT. -/
def coreOffWrite (s : State) (v : Nat) : State :=
  let s := wf s R.pwrCORE_OFF v
  (List.range s.cfg.part.cores).foldl (fun s n => if 1 ≤ n ∧ bit v (n - 1) = false then coreWake s n else s) s

/-! ### Register blocks -/

/-- A write of the bits `en` of a word under the Access codes (R6). What an action bit starts is the block's own. -/
def accWrite (s : State) (b : Blk) (o a w en : Nat) : State :=
  (rowsAt b o).foldl (fun s r =>
    let f : Field := ⟨a, r.hi, r.lo⟩
    let m := bits en r.hi r.lo
    let v := bits w r.hi r.lo &&& m
    let all := 2 ^ (r.hi + 1 - r.lo) - 1
    match r.acc with
    | .rw => wf s f ((rf s f &&& (all - m)) ||| v)
    | .w1c => wf s f (rf s f &&& (all - v))
    | _ => s) s
/-- Write only the fields of a word whose lowest bit a test takes. -/
def accWriteIf (s : State) (b : Blk) (o a w en : Nat) (p : Nat → Bool) : State :=
  accWrite s b o a w (((rowsAt b o).filter (fun r => p r.lo)).foldl (fun e r => e ||| (en &&& rowMask r)) 0)

/-- Whether the master is a Ringmaster core at MONITOR; at EXECUTIVE or MONITOR. -/
def isMon (m lvl : Nat) : Bool := decide (m < 4) && decide (lvl = 0)
def isExec (m lvl : Nat) : Bool := decide (m < 4) && decide (lvl ≤ 1)

/-- Whether a target port of Table MWD-2 belongs to a unit the part has not (R3, R303). -/
def mwNoPort (s : State) (t : Nat) : Bool :=
  (decide (8 ≤ t) && decide (t < 24) && decide (s.cfg.part.clusters ≤ t - 8)) ||
    (decide (6 ≤ t) && decide (t < 8) && decide (s.cfg.part.channels = 1))
/-- Whether a block answers BUS_ERR at an offset (R3, R7, R160, R284, R292, R301, R374, R399, R402, R418). -/
def blkRefuses (s : State) (b : Blk) (i o m lvl : Nat) (write : Bool) : Bool :=
  let named := !(rowsAt b o).isEmpty || (blkRows b).any (fun r => rowAt r o)
  match b with
  | .rm => !named || !isMon m lvl
  | .ic =>
    let n := (o - 0x40) / 16
    let core := decide (0x40 ≤ o) && decide (o < 0x80)
    !named || (core && decide (s.cfg.part.cores ≤ n)) ||
      (if core && decide (o % 16 = 0) && !write then decide (m ≠ n)
       else if core && decide (o % 16 = 1) && write then decide (m ≠ n)
       else !isExec m lvl)
  | .hst => if 0x1000 ≤ o then !isMon m lvl else !named
  | .pwr => !named || (write && ([4, 5, 6, 9].contains o) && !isMon m lvl)
  | .trb => !named || (write && (if o = 0x15 ∨ o = 0x16 then !isMon m lvl else !isExec m lvl && decide (m ≠ 20)))
  | .gp => !named || (write && !isExec m lvl && decide (m ≠ 20))
  | .cas => !named || (decide (0x100 ≤ o) && decide (s.cfg.part.links ≤ (o - 0x100) / 64))
  | .sc => !named || (decide (0x1000 ≤ o) && (clBusy s i || decide (2 ≤ rf s (R.scPOWER i))))
  | .vp => !named || (decide (0x1000 ≤ o) && decide (2 ≤ rf s (R.vpPOWER i)))
  | .mw => !named || (decide (0x40 ≤ o) && mwNoPort s (o - 0x40))
  | _ => !named

/-- A read of a register (R6): what reading it does, and its value. -/
def regRead (s : State) (b : Blk) (i o m a : Nat) : Word × State :=
  match b with
  | .ic => if 0x40 ≤ o ∧ o < 0x80 ∧ o % 16 = 0 then let r := icClaim s m; (mkW r.1, r.2) else (rd s a, s)
  | .hst => if 0x1000 ≤ o then freeWord s else (rd s a, s)
  | .rm => (srRead s i o, s)
  | .mw => if 0x10 ≤ o ∧ o < 0x25 ∧ mwMaster s (o - 0x10) = false then (0#36, s) else (rd s a, s)
  | .gp =>
    if o = 0x31 then (rd s a, capFreeze s 0) else if o = 0x33 then (rd s a, capFreeze s 1)
    else if o = 0x32 then (rd s a, capThaw s 0) else if o = 0x34 then (rd s a, capThaw s 1)
    else (rd s a, s)
  | _ => (rd s a, s)

/-- Mask of the defined bits of word w of a stream descriptor (Table VEC-1, R7). -/
def sdMask (w : Nat) : Nat := if w < 2 ∨ w = 4 then 2 ^ 36 - 1 else if w = 2 then 2 ^ 34 - 1 else if w = 3 then 2 ^ 35 - 1 else 0
/-- Writes of a pipe's block (R101, R106, R108). -/
def vpWrite (s : State) (p o a w en : Nat) : State :=
  let mrg := (rdN s a &&& (2 ^ 36 - 1 - en)) ||| (w &&& en)
  if o = 0 then
    let s := if bit w 4 && bit en 4 then wb s (R.vpRM_HELD p) false else s
    let s := accWriteIf s .vp o a w en (fun lo => decide (lo ≠ 0))
    if bit en 0 then calSettle (unitEnable s (.pipe p) (bit w 0)) else s
  else if 0x100 ≤ o ∧ o < 0x200 then wrN s a (mrg &&& sdMask (o % 8))
  else if 0x1000 ≤ o then
    if (pipe s p).run.isSome then modPipe s p fun q => { q with longW := q.longW ++ [(a, mkW w, en)] } else wrN s a mrg
  else accWrite s .vp o a w en
/-- Writes of a cluster's block (R152, R154, R156, R161). -/
def scWrite (s : State) (n o a w en : Nat) : State :=
  if o = 0 then
    let s := accWriteIf s .sc o a w en (fun lo => decide (lo ≠ 0))
    if bit en 0 then calSettle (unitEnable s (.cluster n) (bit w 0)) else s
  else if o = 3 then
    let s := accWrite s .sc o a w en
    if rb s (R.scTT_OWNED n) then s else
    let s := if bit w 34 && bit en 34 then clStop s n 3 else s
    if bit w 35 && bit en 35 then clStart s n (rf s (R.scENTRY n)) else s
  else if o = 7 then if bit w 35 && bit en 35 then clFaultAck s n else s
  else if o = 9 then if rb s (R.scTT_OWNED n) then s else accWrite s .sc o a w en
  else if 0x1040 ≤ o ∧ o < 0x1058 ∧ (o - 0x1040) % 3 = 2 then
    let v := (rdN s a &&& (2 ^ 36 - 1 - en)) ||| (w &&& en)
    wr s a (wOfInt (sext 8 (v % 256)))
  else accWrite s .sc o a w en
/-- Writes of a port's block (R233, R396). -/
def fpWrite (s : State) (p o a w en : Nat) : State :=
  if o = 0 then
    let s := accWriteIf s .fp o a w en (fun lo => decide (lo ≠ 0))
    if bit en 0 then calSettle (unitEnable s (.port p) (bit w 0)) else s
  else if 0x2000 ≤ o ∧ o < 0x4000 ∧ o % 8 = 0 then
    let st := (o - 0x2000) / 8
    let s := accWriteIf s .fp o a w en (fun lo => decide (lo ≠ 0))
    if bit en 0 then (if bit w 0 then wb s (R.fpVALID p st) true else validClear s p st) else s
  else if 0x2000 ≤ o ∧ o < 0x4000 ∧ o % 8 = 4 then
    let s := accWrite s .fp o a w en
    if bit w 19 && bit en 19 then kprime s p ((o - 0x2000) / 8) else s
  else accWrite s .fp o a w en
/-- Writes of the field common block (R214, R218, R222, R236). -/
def fcWrite (s : State) (o a w en : Nat) : State :=
  if o = 2 then if bit en 0 then timeSrcWrite s (w % 16) else s
  else if o = 0x12 then if bit en 0 then clsOp s (w % 4) else s
  else if 0x100 ≤ o ∧ o < 0x200 ∧ o % 16 = 0 then
    let c := (o - 0x100) / 16
    let s := accWrite s .fc o a w en
    let s := if bit w 21 && bit en 21 then evtAck s c 0 else s
    if bit w 22 && bit en 22 then evtAck s c 1 else s
  else
    let nd := (R.ndVALID 0).addr
    let stride := (R.ndVALID 1).addr - nd
    if nd ≤ a ∧ (a - nd) % stride = 0 ∧ (a - nd) / stride < 4096 then
      nodeWrite0 s ((a - nd) / stride) (mkW ((rdN s a &&& (2 ^ 36 - 1 - en)) ||| (w &&& en)))
    else accWrite s .fc o a w en
/-- Writes of the identification unit's block (R244, R247, R251, R254, R256). -/
def idnWrite (s : State) (o a w en : Nat) : State :=
  let mrg := (rdN s a &&& (2 ^ 36 - 1 - en)) ||| (w &&& en)
  if o = 0 then
    let s := probeOff (accWrite s .idn o a w en)
    let s := if bit w 2 && bit en 2 then guardTripNow s else s
    let s := if bit w 3 && bit en 3 then swapNow s else s
    if bit w 4 && bit en 4 then mapRevert s else s
  else if o = 1 then pstepWrite s false (mkW mrg)
  else if o = 2 then pstepWrite s true (mkW mrg)
  else if 0x18 ≤ o ∧ o < 0x20 then
    let s := accWrite s .idn o a w en
    let b := o - 0x18
    if s.cfg.part.pipes ≤ rf s (R.idnPIPE b) then wb s (R.idnBVALID b) false else s
  else if 0x8000 ≤ o then
    let c := (o - 0x8000) / 8
    if o % 8 = 0 then idnWrite0 s c (mkW mrg)
    else if o % 8 < 5 ∧ rb s (R.idnVALID c) then idnReject s c
    else accWrite s .idn o a w en
  else accWrite s .idn o a w en
/-- A write of a stack register of a stopped core through its block (R284, R278). -/
def rmStackWrite (s : State) (n o a w en : Nat) : State :=
  if 8 ≤ o ∧ o < 0xE then
    let l := (o - 8) / 2
    let q := o % 2 == 1
    let v := ((srRead s n o).toNat &&& (2 ^ 36 - 1 - en)) ||| (w &&& en)
    let s := if l = rmLvl s n then rmFlush s n q else s
    wf (wf (rmSetSp s n l q v) (R.rmDCNT n) (core s n).ds.length) (R.rmRCNT n) (core s n).rs.length
  else if 0x10 ≤ o ∧ o < 0x14 ∧ rmEm s n 0 then s
  else accWrite s .rm o a w en
/-- Writes of a core's block (R283, R284). -/
def rmWrite (s : State) (n o a w en : Nat) : State :=
  if o = 0x22 then if bit w 1 && bit en 1 then coreRestart s n else s
  else if o = 0x24 then
    let was := rb s (R.rmWD_EN n)
    let s := accWrite s .rm o a w en
    if (bit w 1 && bit en 1) || (!was && rb s (R.rmWD_EN n)) then wdKick s n else s
  else if o = 0x23 ∨ o = 0x25 ∨ o = 0x26 then accWrite s .rm o a w en
  else if rb s (R.rmSTOPPED n) then rmStackWrite s n o a w en
  else s
/-- Writes of the interrupt controller's block (R288, R294, R301). -/
def icWrite (s : State) (o m a w en : Nat) : State :=
  if 0x40 ≤ o ∧ o < 0x80 ∧ o % 16 = 1 then if bit en 0 then icEoi s m (w % 512) else s
  else
    let s := accWrite s .ic o a w (if 0x100 ≤ o ∧ s.cfg.part.cores < 4 then en - bits en 8 7 * 2 ^ 7 else en)
    if 0x100 ≤ o then
      let s := if bit w 14 && bit en 14 then wb s (R.icPENDING (o - 0x100)) false else s
      let s := if bit w 13 && bit en 13 then wb s (R.icPENDING (o - 0x100)) true else s
      icArb s
    else icArb s
/-- Writes of the DMA block (R312, R316, R324, R325). -/
def dmaWrite (s : State) (o a w en : Nat) : State :=
  if o < 0x100 then accWrite s .dma o a w en else
  let c := (o - 0x100) / 32
  let k := o % 32
  if k = 0x10 then dmaCtl s c (bit w 0 && bit en 0) (bit w 1 && bit en 1)
  else if k = 0x11 then if bit en 0 then unitEnable s (.dma c) (bit w 0) else s
  else
    let s := accWrite s .dma o a w en
    if k = 0 ∧ rf s (R.dcQOS c) = 15 then wf s (R.dcQOS c) 14 else s
/-- Writes of Midway's block (R312, R327). -/
def mwWrite (s : State) (o a w en : Nat) : State :=
  if 0x10 ≤ o ∧ o < 0x25 then
    let m := o - 0x10
    if mwMaster s m = false then s else
    let old := rf s (R.mwQOS m)
    let s := accWrite s .mw o a w en
    if m = 8 then wf s (R.mwQOS m) old else if rf s (R.mwQOS m) = 15 then wf s (R.mwQOS m) 14 else s
  else accWrite s .mw o a w en
/-- Writes of the host block (R357, R360). -/
def hstWrite (s : State) (o a w en : Nat) : State :=
  if o = 6 then (List.range 32).foldl (fun s v => if bit w v && bit en v then msixSend s v else s) s
  else if 0x40 ≤ o ∧ o < 0x60 then
    let s := accWrite s .hst o a w en
    if o % 2 = 0 then wrN s a (rdN s a / 4 * 4) else s
  else if 0x100 ≤ o ∧ o < 0x140 then
    let r := (o - 0x100) / 16
    let k := o % 16
    let on := rb s (R.hstRING_EN r)
    if k = 2 then
      let s := if on then s else accWriteIf s .hst o a w en (fun lo => decide (lo ≠ 14))
      if bit en 14 then ringEnable s r (bit w 14) else s
    else if k ≤ 6 then
      if on then s else
      let s := accWrite s .hst o a w en
      if k = 0 ∨ k = 3 then wrN s a (rdN s a / 256 * 256) else if k = 5 then wrN s a (rdN s a / 8 * 8) else s
    else accWrite s .hst o a w en
  else accWrite s .hst o a w en
/-- Whether a re-arm is to follow START_OK (R199, R381). -/
def calRearms (s : State) : Bool := rb s R.calAUTO_REARM && s.cal.was.isSome
/-- Writes of the power block (R379, R384, R387, R391 to R393). -/
def pwrWrite (s : State) (o a w en : Nat) : State :=
  let mrg := (rdN s a &&& (2 ^ 36 - 1 - en)) ||| (w &&& en)
  if o = 1 then if bit w 0 && bit en 0 then startOk s calRearms else s
  else if o = 4 then
    let s := if bit w 0 && bit en 0 then reqReset s 8 false else s
    let s := if bit w 1 && bit en 1 then reqReset s 9 true else s
    if bit w 2 && bit en 2 then forceRel s else s
  else if o = 6 then islOnWrite s (mkW mrg)
  else if o = 9 then coreOffWrite s (bits mrg 4 2)
  else if o = 0xA then capEff (accWrite s .pwr o a w en)
  else accWrite s .pwr o a w en
/-- Writes of the GPIO block (R416, R417). -/
def gpWrite (s : State) (o a w en : Nat) : State :=
  if o = 3 then gpioSet s (mkW (w &&& en)) else if o = 4 then gpioClr s (mkW (w &&& en))
  else if 0x10 ≤ o ∧ o < 0x30 ∧ o % 4 = 0 then
    encWrite s ((o - 0x10) / 4) (mkW ((rdN s a &&& (2 ^ 36 - 1 - en)) ||| (w &&& en)))
  else accWrite s .gp o a w en
/-- Writes of Calliope's block (R200, R208). -/
def calWrite (s : State) (o a w en : Nat) : State :=
  if o = 1 then
    let v := (rdN s a &&& (2 ^ 36 - 1 - en)) ||| (w &&& en)
    if mode s = mCONFIGURE ∧ v % 0x1000000 = 0 ∧ bulkBase ≤ v ∧ v + 0x2000000 ≤ bulkBase + s.cfg.part.bulkWords then wrN s a v else s
  else if o = 0x20 then calSettle (accWrite s .cal o a w en)
  else accWrite s .cal o a w en
/-- A write of a register: `en` holds the bits the access writes. -/
def regWrite (s : State) (b : Blk) (i o m a w en : Nat) : State :=
  match b with
  | .sm => if o = 1 then lvtBaseWrite s (mkW ((rdN s a &&& (2 ^ 36 - 1 - en)) ||| (w &&& en))) else accWrite s .sm o a w en
  | .bm =>
    if o = 0 then
      let old := rf s R.bmSCRUB_HOURS
      let s := accWrite s .bm o a w en
      let s := if rf s R.bmSCRUB_HOURS = 0 then wf s R.bmSCRUB_HOURS old else s
      if bit w 9 && bit en 9 then bulkFlush s else s
    else accWrite s .bm o a w en
  | .vp => vpWrite s i o a w en
  | .sc => scWrite s i o a w en
  | .cal => calWrite s o a w en
  | .fp => fpWrite s i o a w en
  | .fc => fcWrite s o a w en
  | .qe => if o = 0x13 then if bit en 0 then qdOp s (w % 4) else s else accWrite s .qe o a w en
  | .idn => idnWrite s o a w en
  | .rm => rmWrite s i o a w en
  | .ic => icWrite s o m a w en
  | .dma => dmaWrite s o a w en
  | .mw => mwWrite s o a w en
  | .cas =>
    if 0x100 ≤ o ∧ o % 64 = 0 then if bit en 0 then calSettle (unitEnable s (.link ((o - 0x100) / 64)) (bit w 0)) else s
    else accWrite s .cas o a w en
  | .hst => if 0x1000 ≤ o then s else hstWrite s o a w en
  | .pwr => pwrWrite s o a w en
  | .trb =>
    if o < 0x10 then trbClear s o (mkW (w &&& en))
    else if o = 0x15 then swSet s (mkW (w &&& en))
    else accWrite s .trb o a w en
  | .gp => gpWrite s o a w en

/-! ### Accesses -/

/-- The bits of a word that the halves of a write cover. -/
def halfMask (hi lo : Bool) : Nat := (if hi then 2 ^ 36 - 2 ^ 18 else 0) + (if lo then 2 ^ 18 - 1 else 0)
/-- Merge the halves of a write into a word. -/
def halfMerge (old w : Word) (hi lo : Bool) : Word := winMerge old w hi lo
/-- Whether the island behind a target port answers (R314, R388, R391). -/
def targetUp (s : State) (p a : Nat) : Bool :=
  let i := portIsland s p a
  islandUp s i && !portShut s p a && (decide (22 < i) || !s.forced.getLsbD i)
/-- Whether Midway holds an access until a memory's initialisation is done (R69, R78, R159). -/
def busHeld (s : State) (a0 : Nat) : Bool :=
  let a := mwAddr s a0
  match mwPort s a with
  | none => false
  | some p => targetUp s p a && memHolds s p
/-- Whether a write by a master into a protected Latest Value Table is refused (R70): by any but the queue engine, number 9. -/
def lvtGuards (s : State) (m a : Nat) : Bool := rb s R.smLVT_PROT && inLvt s a && decide (m ≠ 9)
/-- What a write of the halves of a word does at its bank; none for a write of neither. -/
def smPutKind (w : Word) (hi lo : Bool) : Option SmKind :=
  if hi && lo then some (.write w)
  else if hi then some (.half true (BitVec.ofNat 18 (w.toNat / 2 ^ 18)))
  else if lo then some (.half false (BitVec.ofNat 18 w.toNat)) else none
/-- Whether an address leads to another module or to the host. -/
def busRemote (s : State) (a : Nat) : Bool :=
  match mwPort s a with | some 26 => true | some 27 => true | _ => false
/-- A host-window address (R355): window, host byte address. -/
def hwinOf (s : State) (a : Nat) : Nat × Nat :=
  let w := (a - 0x40000000) / 0x4000000
  (w, rf s (R.hstHWIN_LO w) + rf s (R.hstHWIN_HI w) * 2 ^ 32 + 4 * ((a - 0x40000000) % 0x4000000))
/-- Whether a host-window access is answered BUS_ERR at once (R355, R356). -/
def hwinShut (s : State) (a : Nat) : Bool := !rb s R.hstBME || !rb s (R.hstHW_EN (hwinOf s a).1)
/-- HOST_TO is set (R356, R375). -/
def hostTimeout (s : State) : State :=
  let was := rb s R.hstHOST_TO
  notice (raiseIf (wb s R.hstHOST_TO true) (!was) 197) 9 3 0 stTIMEOUT
/-- A read of a host word through a window (R355, R356). The host's completion, and so the status, is open. -/
def hostWinRead (s : State) (a : Nat) : Nat × Word × State :=
  if hwinShut s a then (stBUS, 0#36, s) else
  let c := freeNat s
  if c.1 % 3 = 1 then (stBUS, 0#36, c.2)
  else if c.1 % 3 = 2 then (stTIMEOUT, 0#36, hostTimeout c.2)
  else
    let w := freeWord c.2
    (stOK, low32In (rb s (R.hstHW_SIGN (hwinOf s a).1)) (BitVec.ofNat 32 w.1.toNat), w.2)
/-- Write a host word into host memory. -/
def hostPut (s : State) (byte : Nat) (h : HWord) : State := { s with hostMem := kvSet 0#32 s.hostMem (byte / 4 % 2 ^ 62) h }
/-- Write host words from a byte address on. -/
def hostPutAll (s : State) : Nat → List HWord → State
  | _, [] => s
  | b, h :: r => hostPutAll (hostPut s b h) (b + 4) r
/-- A word of a core's local memory (R266): status, word, state. -/
def localRead (s : State) (a : Nat) : Nat × Word × State :=
  match eccAt s a with
  | some .unc => (stDATA, 0#36, s)
  | some (.corr _) => (stOK, rd s a, { s with ecc := kvDel s.ecc a })
  | none => (stOK, rd s a, s)
/-- The next tag of a remote access (R337). -/
def remNext (s : State) : Nat × State := (s.cas.remTag, { s with cas := { s.cas with remTag := (s.cas.remTag + 1) % 128 } })
/-- Send one packet of a remote access and note its tag and what it is for (R337). -/
def remSend (s : State) (who : RemWho) (pt a op : Nat) (ws : List Word) : Nat × State :=
  let t := remNext s
  let tag := if pt = 6 then t.1 % 64 + 64 * op else t.1
  let m := cascMod a
  let l := (route t.2 m).getD 0
  let s := (briTo t.2 ⟨pt, m, cascId s, tag, (a - cascBase) % 0x40000000, ws⟩).2
  (tag, { s with cas := { s.cas with rem := s.cas.rem.filter (fun r => decide (r.tag ≠ tag)) ++ [⟨tag, who, m, l, none⟩] } })
/-- A posted write of halves of a word in another module (R337): its packet leaves, and an error that comes back is its master's. -/
def remPost (s : State) (m a : Nat) (w : Word) (hi lo : Bool) : Nat × State :=
  if (route s (cascMod a)).isNone then (stBUS, s)
  else if hi && lo then (stOK, (remSend s (.post m a) 3 a 0 [w]).2)
  else (stOK, (remSend s (.post m a) 4 a 0 [mkW (b2n hi * 2 + b2n lo), w]).2)
/-- A hardware read of a word in another module (R337): its packet leaves, and its answer is open here (log entry 50). -/
def remPeek (s : State) (a : Nat) : Nat × Word × State :=
  if (route s (cascMod a)).isNone then (stBUS, 0#36, s) else
  let n := freeNat (remSend s .core 1 a 0 []).2
  let w := freeWord n.2
  (n.1 % 6, w.1, w.2)

/-- A read of one word by a master at a level: status (Table MWD-3), word, state. -/
def busRead (s : State) (m lvl a0 : Nat) : Nat × Word × State :=
  let a := mwAddr s a0
  match mwPort s a with
  | none => (stBUS, 0#36, decErr s a m)
  | some p =>
    if targetUp s p a = false then (stTIMEOUT, 0#36, s)
    else if p < 4 then smAccess s a .read
    else if p < 8 then let r := bulkRead s a 1; (r.1, r.2.1.headD 0#36, r.2.2)
    else if p = 25 then localRead s a
    else if p = 26 then hostWinRead s a
    else if p = 27 then remPeek s a
    else
      let o := a % 0x100000
      if p < 24 ∧ o < 0x10800 then
        match winAccess s (p - 8) (.read o) false with
        | (some (st, w), s) => (st, w, s)
        | (none, s) => (stTIMEOUT, 0#36, s)
      else if p < 24 ∧ 0x20000 ≤ o ∧ o < 0x30000 then
        if clBusy s (p - 8) ∨ 2 ≤ rf s (R.scPOWER (p - 8)) then (stBUS, 0#36, s) else (winPerform s (p - 8) (.read o))
      else match blkOf a with
        | none => (stBUS, 0#36, s)
        | some (b, i, off) =>
          if blkRefuses s b i off m lvl false then (stBUS, 0#36, s)
          else let r := regRead s b i off m a; (stOK, r.1, r.2)

/-- A write of the halves of one word by a master at a level: status, state. -/
def busWrite (s : State) (m lvl a0 : Nat) (w : Word) (hi lo : Bool) : Nat × State :=
  let a := mwAddr s a0
  let full := hi && lo
  match mwPort s a with
  | none => (stBUS, decErr s a m)
  | some p =>
    if targetUp s p a = false then (stTIMEOUT, s)
    else if p < 4 then
      if lvtGuards s m a then (stBUS, s)
      else match smPutKind w hi lo with
        | none => (stOK, s)
        | some k => let r := smAccess s a k; (r.1, r.2.2)
    else if p < 8 then if imgGuards s a then (stBUS, s) else (stOK, bulkWrite s a [(w, hi, lo)])
    else if p = 25 then
      (stOK, let s := wr s a (halfMerge (rd s a) w hi lo); if full then { s with ecc := kvDel s.ecc a } else s)
    else if p = 26 then if hwinShut s a then (stBUS, s) else
      let q := hwinOf s a
      (stOK, hostPut s q.2 (low32Out (rb s (R.hstHW_SIGN q.1)) (rb s (R.hstHW_SAT q.1)) w).1)
    else if p = 27 then remPost s m a w hi lo
    else
      let o := a % 0x100000
      if p < 24 ∧ o < 0x10800 then
        match winAccess s (p - 8) (.write o w hi lo) false with
        | (some (st, _), s) => (st, s)
        | (none, s) => (stTIMEOUT, s)
      else if p < 24 ∧ 0x20000 ≤ o ∧ o < 0x30000 then
        if clBusy s (p - 8) ∨ 2 ≤ rf s (R.scPOWER (p - 8)) then (stBUS, s)
        else (stOK, (winPerform s (p - 8) (.write o w hi lo)).2.2)
      else match blkOf a with
        | none => (stBUS, s)
        | some (b, i, off) =>
          if blkRefuses s b i off m lvl true then (stBUS, s)
          else (stOK, regWrite s b i off m a w.toNat (halfMask hi lo))

/-- An atomic by a master: status, old word, state (R62, R427). -/
def busAtomic (s : State) (m a0 : Nat) (k : SmKind) : Nat × Word × State :=
  let a := mwAddr s a0
  match mwPort s a with
  | none => (stBUS, 0#36, decErr s a m)
  | some p =>
    if 4 ≤ p then (stBUS, 0#36, s)
    else if targetUp s p a = false then (stTIMEOUT, 0#36, s)
    else if lvtGuards s m a then (stBUS, 0#36, s)
    else smAccess s a k

/-- REGISTER_WRITE (R6, R303): a master writes a word at an address at a level. -/
def execRegisterWrite (m lvl a : Nat) (w : Word) (s : State) : Host.Outcome State Fault Refusal :=
  gateAonRst s fun s =>
    if isUp s iMWY ∧ mwMaster s m ∧ (blkOf (mwAddr s a)).isSome ∧ busHeld s a = false then (busWrite s m lvl a w true true).2 else s

end Sys2Proof.Machine
end

