-- ==== Sys2Proof/Machine/CalExec.lean ====
section
/-! DEFINITION. Calliope's commands: ticks, actions, barriers, unit faults, arms and switches (R181 to R206), and the application of parameter
sets (R369). -/

namespace Sys2Proof.Machine

/-- Whether a remote access is a posted write of master m. -/
def postOf (m : Nat) (w : RemWho) : Bool := match w with | .post k _ => decide (k = m) | _ => false

/-! ### Parameter sets (R369) -/

/-- A write of a parameter set; an error sets PARAM_ERR and does not stop the set. -/
def paramWrite (s : State) (a : Nat) (w : Word) : State :=
  let r := busWrite s 20 0 a w true true
  if r.1 = stOK then r.2 else notice (raise (wb r.2 R.hstPARAM_ERR true) 199) 9 4 0 0
/-- The writes of a run, in address order. -/
def paramRun (s : State) (a : Nat) : List Word → State
  | [] => s
  | w :: ws => paramRun (paramWrite s a w) (a + 1) ws
/-- The application of set k ends (R369): it becomes EMPTY, records FRAME_NUM, and a deferred seal is answered. -/
def paramEnd (s : State) (k : Nat) : State :=
  let q := s.hst.psets.getD k psetZero
  let f := rf s R.calFRAME_NUM
  let s := raise (modHst s fun h => { h with psets := h.psets.set k ⟨0, [], none, f⟩ }) 199
  match q.defer with
  | some (p, hdr) => answer s p hdr hsOK 0 (two f)
  | none => s
/-- Whether a write of a parameter set into another module is yet to be acknowledged. -/
def paramWaits (s : State) : Bool := s.cas.rem.any (fun r => postOf 20 r.who)
/-- Apply set k: it is APPLYING until every write has been acknowledged (R368, R369). -/
def paramApply (s : State) (k : Nat) : State :=
  let q := s.hst.psets.getD k psetZero
  let s := q.runs.foldl (fun s r => paramRun s r.addr r.words) s
  if paramWaits s then modHst s fun h => { h with psets := h.psets.set k { q with st := 3 } } else paramEnd s k
/-- The last write of the sets that are applied has been acknowledged. -/
def paramAcked (s : State) : State :=
  if paramWaits s then s else
    (List.range 16).foldl (fun s k => if (s.hst.psets.getD k psetZero).st = 3 then paramEnd s k else s) s
/-- A PARAM_COMMIT applies the SEALED sets of its mask, in ascending number. -/
def paramCommit (s : State) (mask : Nat) : State :=
  (List.range 16).foldl (fun s k => if bit mask k ∧ (s.hst.psets.getD k psetZero).st = 2 then paramApply s k else s) s

/-! ### Position and barriers (R184, R190) -/

/-- Ticks in a frame of the active timetable. -/
def calTicks (s : State) : Nat := match s.cal.act with | some t => max 1 (hdrTicks t.hdr) | none => 1
/-- A (frame, tick) position comes before another. -/
def posLt (a b : Nat × Nat) : Bool := decide (a.1 < b.1) || (decide (a.1 = b.1) && decide (a.2 < b.2))
/-- Position of the next action: frame, index. -/
def calPos (s : State) (t : TT) : Nat × Nat := if s.cal.ix < actCount t then (s.cal.df, s.cal.ix) else (s.cal.df + 1, 0)
/-- The next action, where it may be dispatched now (R184): its timetable, frame and index. The actions of a tick at which a thaw is due
wait for the thaw (R227). -/
def nextAct (s : State) : Option (TT × Nat × Nat) :=
  match s.cal.act, s.cal.arr with
  | some t, some a =>
    let q := calPos s t
    if (calState s = csPLAYING ∨ calState s = csSTALLED) ∧ s.cal.bar.isNone ∧ s.cal.entry = false ∧
        posLt a (q.1, actTick t q.2) = false ∧ (s.fld.thawDue = true → posLt (q.1, actTick t q.2) a = true) ∧
        paramWaits s = false then some (t, q.1, q.2) else none
  | _, _ => none
/-- Completions on their way reach Calliope (R190, R193). -/
def calDrain (s : State) : State :=
  s.calIn.foldl (fun s m => match m with
    | .blockDone a => modCal s fun c => { c with blks := c.blks.filter (fun e => decide (e.2 ≠ a)) }
    | .dmaDone c => modCal s fun k => { k with dmas := if bit k.dmas c then k.dmas - 2 ^ c else k.dmas }
    | _ => s)
    { s with calIn := s.calIn.filter (fun m => match m with | .pipeFault _ => true | .clusterFault _ => true | _ => false) }
/-- Whether every completion of a barrier is in. -/
def barOk (s : State) (b : CalBar) : Bool :=
  s.cal.blks.all (fun e => !bit b.pipes e.1) &&
  (List.range s.cfg.part.clusters).all (fun n => !(bit b.clus n && clBusy s n)) && decide (b.dmas &&& s.cal.dmas = 0)
/-- Record the action a miss or fault is about. -/
def lastAct (s : State) (ix : Nat) : State := wf s R.calLAST_ACTION ix
/-- A missed barrier ends, and the BARRIER policy applies (R191). -/
def barMiss (s : State) (b : CalBar) : State :=
  let s := cnt (lastAct (modCal s fun c => { c with bar := none }) b.ix) R.calBARRIER_MISS_CNT
  calFault s R.calBARRIER_MISS 1 25 1 skipToSp
/-- The frame overruns (R186): tick 0 of frame f has arrived and an action of an earlier frame is undispatched. -/
def overrun (s : State) (f : Nat) : State :=
  match s.cal.act with
  | some t =>
    if (s.cal.df + 1 < f ∨ (s.cal.df < f ∧ s.cal.ix < actCount t)) ∧ calRuns s then
      calFault (cnt s R.calOVERRUN_CNT) R.calOVERRUN 0 24 0 (fun s => skipFrame s f)
    else s
  | none => s
/-- A missed barrier is dealt with, then the overrun test of the tick that ended it (R186, R191). -/
def barMissNow (s : State) : State :=
  match s.cal.bar, s.cal.arr with
  | some b, some a => if b.missed then let s := barMiss s b; if a.2 = 0 then overrun s a.1 else s else s
  | _, _ => s

/-! ### Switches (R203) -/

/-- The switch to a target commits (R203); probing that a timetable with PROBE_OK = 0 had suspended resumes with RUN = 1 (R257). `w`: the slot it stood in (1 standby, 2 next). -/
def calCommit (s : State) (t : TT) (w e : Nat) : State :=
  let f := rf s R.calFRAME_NUM + b2n (decide (e = 0))
  let first := ((List.range (actCount t)).find? (fun i => decide (e ≤ actTick t i))).getD (actCount t)
  let s := modCal s fun c => { c with
    sby := if w = 1 then none else c.sby
    nxt := if w = 2 then none else c.nxt
    target := none, holdSw := false, bar := none, nextF := f, nextM := e, df := f, ix := first, entry := true, newSrc := true }
  let s := if hdrProbe t.hdr ∧ s.probeOk = false then wf s R.idnRUN 0 else s
  let s := calActivate (wf s R.calPENDING 0) t
  let s := keepersOwnIf s (fun p st => !ttEmits t p st)
  let s := if hdrProbe t.hdr then s else emitsStrip s
  let s := trb3 (raise (cnt (wb s R.calSWITCH_DONE true) R.calSWITCH_CNT) 30) 10
  calRefill (calSync s)
/-- The pending target, where it is resident: its timetable and slot. -/
def calTarget (s : State) : Option (TT × Nat) :=
  match s.cal.target with
  | some (w, img, i) =>
    match (if w = 1 then s.cal.sby else s.cal.nxt) with
    | some t => if t.img = img ∧ t.idx = i then some (t, w) else none
    | none => none
  | none => none

/-! ### Tick sources (R181 to R183) -/

/-- The source of a timetable whose entry tick has just arrived (R203): its own ticks go on from there (log entry 19). -/
def srcEntry (s : State) (t : TT) : State := srcSet s (srcOf s t 1)
/-- A DISTANCE tick is delivered (R183). -/
def distDeliver (s : State) : State :=
  ownTick (modCal s fun c => { c with deliv := some s.now, lossFrom := s.now, lossOut := false, spacing := false }) none
/-- A threshold has been crossed (R183): the spacing and the limit are those of the source that ticks, which is the old timetable's until
the entry tick of a switch. -/
def distCross (s : State) : State :=
  match s.cal.src with
  | none => s
  | some t =>
    let s := modCal s fun c => { c with crossQ := c.crossQ - 1 }
    if s.cal.spacing then
      if (keptTicks s).isSome then s else
      let s := modCal (cnt s R.calFAST_TICK_CNT) fun c => { c with fast := c.fast + 1 }
      if s.cal.fast = t.fast then calFault s R.calFAST_TICK 4 28 4 skipToSp else s
    else match s.cal.deliv with
      | some d => if s.now < d + t.min then modCal s fun c => { c with spacing := true } else distDeliver s
      | none => distDeliver s

/-- A command of a tick source: the sources lie in AON and go on through a warm reset (R349). -/
def gateTick (s : State) (k : State → State) : Host.Outcome State Fault Refusal :=
  if (keptTicks s).isSome then gateAon s k else gate iMWY s fun s => if calState s = csIDLE then s else k s
/-- TIME_TICK (R181, R182). -/
def execTimeTick (s : State) : Host.Outcome State Fault Refusal :=
  gateTick s fun s =>
    match s.cal.src with
    | some t =>
      if t.kind = 0 then
        let s := devAtLeast s (t.base + t.n * t.per + s.stepOfs).toNat
        let s := ownTick s (some t.per)
        modCal s fun c => { c with src := some { t with n := t.n + 1 } }
      else s
    | none => s
/-- DISTANCE_TICK (R181, R183). -/
def execDistanceTick (s : State) : Host.Outcome State Fault Refusal :=
  gateTick s fun s => if 0 < s.cal.crossQ then distCross s else s
/-- MIN_SPACING_END (R183). -/
def execMinSpacingEnd (s : State) : Host.Outcome State Fault Refusal :=
  gateTick s fun s =>
    match s.cal.src, s.cal.deliv with
    | some t, some d => if s.cal.spacing then distDeliver (atLeast s (d + t.min)) else s
    | _, _ => s
/-- TICK_LOSS (R183): under CONTINUE Calliope waits STALLED. -/
def execTickLoss (s : State) : Host.Outcome State Fault Refusal :=
  gate iMWY s fun s =>
    match s.cal.act, s.cal.src with
    | some t, some c =>
      if c.kind = 1 ∧ 0 < c.max ∧ s.cal.lossOut = false ∧ calRuns s then
        let s := modCal (atLeast s (s.cal.lossFrom + c.max)) fun c => { c with lossOut := true }
        let go := hdrPolicy t.hdr 5 % 4 = 0
        let s := calFault s R.calTICK_LOSS 5 29 5 skipToSp
        if go then calLeave (wf s R.calSTATE csSTALLED) else s
      else s
    | _, _ => s

/-! ### Arrival of a tick (R184 to R186, R377) -/

/-- The first tick after an arm makes the mode RUN, or SHADOW under SH_ROLE 2 (R377, R378), which runs with every port inhibited (R343, Table
MRP-1). -/
def calFirst (s : State) : State :=
  if s.cal.ticked then s else
  let s := modCal s fun c => { c with ticked := true }
  if mode s = mCONFIGURE then
    if rf s R.casSH_ROLE = 2 then setMode (txInhibit s) mSHADOW else derateMode (setMode s mRUN)
  else s
/-- What a tick at position (f, m) finds undispatched: a late tick, a missed barrier, an overrun (R185, R186, R190). -/
def tickChecks (s : State) (f m : Nat) : State :=
  match s.cal.act with
  | none => s
  | some t =>
    let q := calPos s t
    let s := if posLt (q.1, actTick t q.2) (f, m) then
        modCal (cnt s R.calLATE_CNT) fun c => { c with lates := c.lates ++ [(f, m, s.now)] }
      else s
    match s.cal.bar with
    | some b =>
      if posLt (f, m) (b.dlF, b.dlT) then (if m = 0 then overrun s f else s)
      else if barOk s b then
        let s := modCal s fun c => { c with bar := none }
        if m = 0 then overrun s f else s
      else modCal s fun c => { c with bar := some { b with missed := true } }
    | none => if m = 0 then overrun s f else s
/-- A tick reaches Calliope. In IDLE nothing counts it; CASCADE begins with a marker of tick 0, whose frame is the first to be
dispatched (R197, R199); in HELD it is only counted. -/
def tickArrive (s : State) : State :=
  match s.cal.flying, s.cal.act with
  | [], _ => s
  | _ :: rest, none => modCal s fun c => { c with flying := rest }
  | mk :: rest, some t0 =>
    let s := barMissNow (modCal s fun c => { c with flying := rest })
    let begins : Bool := !s.cal.ticked && decide (hdrSrc t0.hdr = 2)
    let drop := calState s = csIDLE ∨ (begins = true ∧ (mk.map Prod.snd).getD 0 ≠ 0)
    if drop then s else
    let next := mk.getD (s.cal.nextF, s.cal.nextM)
    let s := match calTarget s with
      | some (t, w) => if s.cal.holdSw ∧ next.2 = 0 ∧ (calState s = csPLAYING ∨ calState s = csSTALLED) then calCommit s t w 0 else s
      | none => s
    let entry := s.cal.entry
    let (f, m) := if entry then (s.cal.nextF, s.cal.nextM) else next
    let s := match s.cal.act with | some t => if s.cal.newSrc then srcEntry s t else s | none => s
    let ft := calTicks s
    let s := wf (wf s R.calMINOR_TICK m) R.calFRAME_NUM f
    let s := modCal s fun c => { c with
      nextF := f + (m + 1) / ft, nextM := (m + 1) % ft, arr := some (f, m), fast := if m = 0 then 0 else c.fast, entry := false }
    let s := if m = 0 ∧ 0 < f then digestClose s (f - 1) else s
    if calState s = csHELD then s else
    let s := if begins ∧ entry = false then modCal s fun c => { c with df := f, ix := 0 } else s
    let s := freezeTick s
    let s := calFirst (wf s R.calSTATE csPLAYING)
    if entry then s else tickChecks s f m
/-- TICK_ARRIVAL (R182, R184). -/
def execTickArrival (s : State) : Host.Outcome State Fault Refusal := gate iMWY s tickArrive

/-! ### Dispatch (R184, R185) -/

/-- Dispatch the next action where its TYPE is `ty` and it may be dispatched; `k` is its effect, given the timetable and the index. -/
def calAct (ty : Nat) (k : TT → Nat → State → State) (s : State) : Host.Outcome State Fault Refusal :=
  gateRst iMWY s fun s =>
    match nextAct s with
    | none => s
    | some (t, f, i) =>
      if actType t i ≠ ty then s else
      let p := (f, actTick t i)
      let s := match s.cal.lates.find? (fun e => decide ((e.1, e.2.1) = p)) with
        | some e =>
          let d := ((s.now - e.2.2) * 4 + 4) / 5
          modCal (wf s R.calLATE_MAX (max (rf s R.calLATE_MAX) d)) fun c => { c with lates := c.lates.filter (fun e => decide ((e.1, e.2.1) ≠ p)) }
        | none => s
      k t i (calDrain (modCal s fun c => { c with df := f, ix := i + 1 }))
/-- Clusters of a mask that can be reached. -/
def maskCl (s : State) (m : Nat) : List Nat := (List.range s.cfg.part.clusters).filter (fun n => bit m n && isUp s (iCLU n))
/-- Pipes of a mask that can be reached. -/
def maskVp (s : State) (m : Nat) : List Nat := (List.range s.cfg.part.pipes).filter (fun p => bit m p && isUp s iVEC)
/-- Units enter the loss set, and the RESOURCE_LOSS policy applies (R189). -/
def resLoss (s : State) (m ix : Nat) : State :=
  if m = 0 then s else
  let s := lastAct (calSettle (modCal s fun c => { c with lossAdd := c.lossAdd ||| m })) ix
  calPolicy s 6 skipToSp

def execActionNop (s : State) : Host.Outcome State Fault Refusal := calAct 0x0 (fun _ _ s => s) s
/-- CLUSTER_START (R152, R188, R189): a cluster that is not ON is lost; one still running sets START_LATE, a DEADLINE fault. -/
def execClusterStart (s : State) : Host.Outcome State Fault Refusal :=
  calAct 0x1 (fun t i s =>
    let ns := maskCl s (actArg0 t i)
    let off := ns.foldl (fun m n => if rf s (R.scUNIT_STATE n) ≠ usON then m + 2 ^ n else m) 0
    let late := ns.any (fun n => decide (rf s (R.scUNIT_STATE n) = usON) && clBusy s n)
    let s := ns.foldl (fun s n => clStart s n (actW t i 1 % 2 ^ 16)) s
    let s := resLoss s off i
    if late then calPolicy (trb3 (raise (lastAct s i) 26) 2) 2 skipToSp else s) s
/-- CLUSTER_DEADLINE (R154, R192). -/
def execClusterDeadline (s : State) : Host.Outcome State Fault Refusal :=
  calAct 0x2 (fun t i s =>
    let ns := (maskCl s (actArg0 t i)).filter (fun n => decide (runState s n ≠ rsHALTED))
    if ns.isEmpty then s else
    let s := ns.foldl (fun s n => wb s (R.scDL_MISS n) true) s
    let s := if hdrDlStop t.hdr then ns.foldl (fun s n => clStop s n 1) s else s
    calFault (cnt (lastAct s i) R.calDEADLINE_MISS_CNT) R.calDEADLINE_MISS 2 26 2 skipToSp) s
/-- VECTOR_BLOCK (R92, R93, R189): a pipe that is not ON refuses it. -/
def execVectorBlock (s : State) : Host.Outcome State Fault Refusal :=
  calAct 0x3 (fun t i s =>
    let p := actArg0 t i % 4
    if isUp s iVEC ∧ p < s.cfg.part.pipes ∧ rf s (R.vpUNIT_STATE p) = usON then
      let a := s.vecId
      let s := modPipe { s with vecId := a + 1 } p fun q => { q with blocks := q.blocks ++ [⟨a, actW t i 1, actW t i 2 % 2 ^ 24, 0, 0⟩] }
      pipeRouse (modCal s fun c => { c with blks := c.blks ++ [(p, a)], blkIx := c.blkIx.set p i }) p true
    else resLoss s (2 ^ (16 + p)) i) s
/-- DMA_START (R188). -/
def execDmaStart (s : State) : Host.Outcome State Fault Refusal :=
  calAct 0x4 (fun t i s =>
    ((List.range 64).filter (fun c => bit (actDma t i) c)).foldl (fun s c =>
      let r := dmaStart s c true
      if r.1 then modCal r.2 fun k => { k with dmas := k.dmas ||| 2 ^ c } else r.2) s) s
/-- QUEUE_FREEZE (R227). -/
def execQueueFreeze (s : State) : Host.Outcome State Fault Refusal := calAct 0x5 (fun _ _ s => qFreeze s) s
/-- FRAME_EMIT (R230, R248, R257): it leaves with PSTEP and APPLY. -/
def execFrameEmit (s : State) : Host.Outcome State Fault Refusal :=
  calAct 0x6 (fun t i s =>
    let p := actArg0 t i % 8
    let apply := s.probeOk && !rb s R.idnPROBE_OFF && !s.idn.off && decide (rf s R.idnGUARD_STATE = 0)
    let e : Emit := ⟨actW t i 1 % 1024, actW t i 2 % 2048, pstep s, apply⟩
    if isUp s iFLD ∧ p < s.cfg.part.ports then { s with fld := { s.fld with emitFly := s.fld.emitFly ++ [(p, e)] } } else s) s
/-- PROBE_STEP (R247, R257). -/
def execProbeStep (s : State) : Host.Outcome State Fault Refusal := calAct 0x7 (fun _ _ s => probeStep s) s
/-- MAP_SWAP (R254). -/
def execMapSwap (s : State) : Host.Outcome State Fault Refusal := calAct 0x8 (fun _ _ s => mapSwap s) s
/-- PARAM_COMMIT (R369). -/
def execParamCommit (s : State) : Host.Outcome State Fault Refusal := calAct 0x9 (fun t i s => paramCommit s (actArg0 t i)) s
/-- WAKE (R105, R157). -/
def execWake (s : State) : Host.Outcome State Fault Refusal :=
  calAct 0xA (fun t i s =>
    (maskVp s (actW t i 1)).foldl (fun s p => pipeRouse s p false) ((maskCl s (actArg0 t i)).foldl clWake s)) s
/-- SLEEP (R104, R157). -/
def execSleep (s : State) : Host.Outcome State Fault Refusal :=
  calAct 0xB (fun t i s => (maskVp s (actW t i 1)).foldl pipeSleep ((maskCl s (actArg0 t i)).foldl clSleep s)) s
/-- EVENT (R188). -/
def execEvent (s : State) : Host.Outcome State Fault Refusal :=
  calAct 0xC (fun t i s => raise (wf s (R.calEVENT_CODE (actArg0 t i % 8)) (actW t i 1)) (16 + actArg0 t i % 8)) s
/-- BARRIER (R190): satisfied at once where every completion is in; missed at once where its deadline tick is past. -/
def execBarrier (s : State) : Host.Outcome State Fault Refusal :=
  calAct 0xD (fun t i s =>
    let d := actArg0 t i + 1
    let (f, m) := if d < hdrTicks t.hdr then (s.cal.df, d) else (s.cal.df + 1, 0)
    let b : CalBar := ⟨i, actW t i 1 % 16, bits (actW t i 1) 19 4, actDma t i, f, m, false⟩
    if barOk s b then s else
    let past := match s.cal.arr with | some a => !posLt a (f, m) | none => false
    if past then barMiss s b else modCal s fun c => { c with bar := some b }) s
/-- OWNERSHIP (R145). -/
def execOwnership (s : State) : Host.Outcome State Fault Refusal :=
  calAct 0xE (fun t i s =>
    (maskCl s (actArg0 t i)).foldl (fun s n => wf (wf s (R.scOWN_X n) (actW t i 1)) (R.scOWN_Y n) (actW t i 1 / 256)) s) s
/-- SWITCH_POINT (R203). -/
def execSwitchPoint (s : State) : Host.Outcome State Fault Refusal :=
  calAct 0xF (fun t i s => match calTarget s with | some (n, w) => calCommit s n w (actArg0 t i) | none => s) s
/-- BARRIER_RELEASE (R190): completions arrive; the barrier is over when none is wanting. -/
def execBarrierRelease (s : State) : Host.Outcome State Fault Refusal :=
  gate iMWY s fun s =>
    match s.cal.bar with
    | some b => let s := calDrain s; if b.missed = false ∧ barOk s b then modCal s fun c => { c with bar := none } else s
    | none => s
/-- BARRIER_MISS (R191). -/
def execBarrierMiss (s : State) : Host.Outcome State Fault Refusal := gate iMWY s barMissNow

/-! ### Unit faults (R193) -/

/-- The block a fault stopped is ended (R193): its remaining instructions never start, the Calliope queue is emptied and CAL_HELD cleared. A
later block of the pipe, none of whose instructions has started, is fetched again from its beginning. -/
def calBlockEnd (s : State) (p : Nat) : State :=
  pipeIdle (modPipe (wb s (R.vpCAL_HELD p) false) p fun q => { q with
    calQ := [], blocks := (q.blocks.drop 1).map (fun b => { b with fetched := 0 }) }) p
/-- A pipe with a block left goes on. -/
def calNextBlock (s : State) (p : Nat) : State := if (pipe s p).blocks.isEmpty then s else pipeRouse s p true
/-- A Calliope-origin vector fault reaches Calliope: the record is presented once, or the block is ended. -/
def calPipeFault (s : State) (p : Nat) : State :=
  let resume : Bool := match s.cal.act with | some t => hdrResume t.hdr | none => false
  if rb s (R.vpCAL_HELD p) = false then s
  else
    let w := fun i => rd s (blkBase .vp p + 0x10 + i)
    match (pipe s p).blocks.head? with
    | some b =>
      if resume ∧ bit s.cal.resumed p = false ∧ calRuns s then
        let e : VEntry := ⟨0, w 2, w 3, w 4, .cal b.act (w 1).toNat, none, some ((List.range 12).map w)⟩
        let s := modCal s fun c => { c with resumed := c.resumed ||| 2 ^ p }
        pipeRouse (modPipe (wb s (R.vpCAL_HELD p) false) p fun q => { q with calQ := e :: q.calQ }) p true
      else
        calNextBlock (modCal (calBlockEnd s p) fun c => { c with
          blks := c.blks.filter (fun e => decide (e.2 ≠ b.act)), resumed := c.resumed &&& (15 - 2 ^ (p % 4)) }) p
    | none => calDiscard s p
/-- A unit fault is reported: LAST_ACTION names the block of a pipe (log entry 20), UNIT_FAULT is set, and its policy applies. -/
def calUnitFault (s : State) (m : CalMsg) : State :=
  match m with
  | .pipeFault p =>
    calFault (lastAct (calPipeFault s p) (s.cal.blkIx.getD p 0)) R.calUNIT_FAULT 3 27 3 skipToSp
  | .clusterFault n =>
    if rb s (R.scTT_OWNED n) = false then s else
    let ack : Bool := match s.cal.act with | some t => hdrClAck t.hdr | none => false
    calFault (if ack then clFaultAck s n else s) R.calUNIT_FAULT 3 27 3 skipToSp
  | _ => s
/-- UNIT_FAULT_REPORT (R193): the oldest report reaches Calliope. -/
def execUnitFaultReport (s : State) : Host.Outcome State Fault Refusal :=
  gate iMWY s fun s =>
    match s.calIn.find? (fun m => match m with | .pipeFault _ => true | .clusterFault _ => true | _ => false) with
    | some m => calUnitFault { s with calIn := s.calIn.erase m } m
    | none => s

/-! ### Arms (R197 to R199) -/

/-- Sections of a type in section index order. -/
def sectsOf (s : State) (slot ty : Nat) : List Sect :=
  let l := imgSects s slot
  (List.range l.length).filterMap fun i => l.find? (fun x => decide (x.ty = ty) && decide (x.ix = i))
/-- Apply a LOAD section. -/
def applyLoad (s : State) (x : Sect) : State :=
  let s := (storeRead s x.body x.len).2
  let a := (bulkWord s x.body).toNat
  (List.range (bulkWord s (x.body + 1)).toNat).foldl (fun s i => (busWrite s 8 0 (a + i) (bulkWord s (x.body + 8 + i)) true true).2) s
/-- Apply REGWRITE pairs: whether every write was answered OK, stopping at the first that was not. -/
def applyRegs (s : State) : List (Nat × Word) → Bool × State
  | [] => (true, s)
  | (a, w) :: r =>
    let q := busWrite s 8 0 a w true true
    if q.1 = stOK then applyRegs q.2 r else (false, q.2)
/-- An image's REGWRITE sections are read. -/
def regsRead (s : State) (slot : Nat) : State := (sectsOf s slot 4).foldl (fun s x => (storeRead s x.body x.len).2) s
/-- The pairs of an image's REGWRITE sections. -/
def imgRegs (s : State) (slot : Nat) : List (Nat × Word) :=
  ((sectsOf s slot 4).flatMap fun x => (List.range (x.len / 2)).map fun i =>
    ((bulkWord s (x.body + 2 * i)).toNat, bulkWord s (x.body + 2 * i + 1))).filter (fun e => decide (e.1 ≠ 0))
/-- An arm or re-arm fails: ARM_FAIL, source 31; Calliope is IDLE, and a module that does not re-arm is in CONFIGURE (R197, R381). -/
def armFail (s : State) (code : Nat) (rearm : Bool) : State :=
  let s := trb3 (raise (wb (wf s R.calCHECK_CODE code) R.calARM_FAIL true) 31) 8
  let s := wf (modCal s fun c => { c with was := none }) R.calSTATE csIDLE
  let m := mode s
  if rearm ∧ (m = mRUN ∨ m = mDERATED ∨ m = mSHADOW) then setMode s mCONFIGURE else s
/-- Start an arm of timetable idx: STATE is ARMED and the active slot is being loaded. -/
def armBegin (s : State) (a : CalArm) : State :=
  let src := if a.rearm then s.cal.src else none
  let s := modCal s fun c => { calZero with
    src := src, nextF := if a.rearm then c.nextF else 0, nextM := if a.rearm then c.nextM else 0, was := if a.rearm then c.was else none
    crossQ := if a.rearm then c.crossQ else 0, spacing := a.rearm && c.spacing, deliv := if a.rearm then c.deliv else none, loads := [⟨0, a.img, a.idx⟩], arm := some a }
  calSync (wf s R.calSTATE csARMED)
/-- TT_ARM (R197) up to its load: the LOAD sections, then the REGWRITE sections. -/
def calArm (s : State) (slot origin : Nat) (p : CmdPath) (hdr : List HWord) : Option (State) × State :=
  let s := wf (wf s R.calFRAME_NUM 0) R.calMINOR_TICK 0
  let s := regsRead ((sectsOf s slot 3).foldl applyLoad s) slot
  let r := applyRegs s (imgRegs s slot)
  if r.1 then (some (armBegin r.2 ⟨slot, 0, origin, false, false, some (p, hdr)⟩), r.2) else (none, armFail r.2 0x0E false)
/-- The least multiple of `k` that is no less than `x`. -/
def ceilMul (x : Int) (k : Nat) : Int := -((-x) / (k : Int)) * k
/-- The anchor is fixed (R197) or the kept grid taken up at its next frame (R199), and the arm is complete. A re-armed CASCADE takes its
frame from the master's next marker of tick 0. -/
def armAnchor (s : State) (t : TT) (a : CalArm) : State :=
  let ft := max 1 (hdrTicks t.hdr)
  let s := match s.cal.src, a.rearm with
    | some o, true =>
      if o.kind = 2 then modCal (srcSet s o) fun c => { c with arr := none, was := none } else
      let past : Int := if o.kind = 0 then -((-((s.devTime : Int) - s.stepOfs - o.base)) / (max 1 o.per : Nat))
        else sext 36 ((encAt s o.enc + 2 ^ 36 - o.anc % 2 ^ 36) % 2 ^ 36) / (max 1 o.edges : Nat) + 1
      let n := max o.n past.toNat
      let lin := s.cal.nextF * ft + s.cal.nextM + (n - o.n) + s.cal.crossQ + b2n s.cal.spacing
      let f := (lin + ft - 1) / ft
      let s := srcSet s { o with n := n }
      let s := modCal s fun c => { c with was := if lin % ft = 0 then none else c.was }
      wf (modCal s fun c => { c with nextF := lin / ft, nextM := lin % ft, df := f, arr := none }) R.calFRAME_NUM f
    | _, _ =>
      let k := hdrSrc t.hdr
      if k = 0 then
        let an := (a.origin : Int) + ceilMul ((s.devTime : Int) + 200000 - a.origin) (hdrPeriod t.hdr * ft)
        let s := wf (wf s R.calANCHOR_S (dtSec an.toNat)) R.calANCHOR_NS (dtNs an.toNat)
        srcSet { s with stepOfs := 0 } ⟨0, an, hdrPeriod t.hdr, 0, 0, 0, 0, 0, 0, 0⟩
      else if k = 1 then
        let c := (encAt s (hdrEnc t.hdr) + hdrEdges t.hdr) % 2 ^ 36
        srcSet (wf s R.calANCHOR_ENC c) ⟨1, 0, 0, hdrEnc t.hdr, c, hdrEdges t.hdr, 0, hdrMin t.hdr, hdrMax t.hdr, hdrFast t.hdr⟩
      else srcSet s ⟨2, 0, 0, 0, 0, 0, 0, 0, 0, 0⟩
  let s := modCal s fun c => { c with arm := none, ix := 0, ticked := false }
  let s := if a.held then wf s R.calSTATE csHELD else s
  match a.cmd with
  | some (p, hdr) => answer s p hdr hsOK 0 []
  | none => s
/-- An arm goes on once the active slot, and then whatever standby is to hold, are resident (R197). -/
def armGo (s : State) : State :=
  match s.cal.arm, s.cal.act with
  | some a, some t => if s.cas.rem.any (fun r => postOf 8 r.who) ∨ s.cal.loads.any (fun l => decide (l.into ≠ 2)) then s else armAnchor s t a
  | _, _ => s
/-- A REGWRITE in another module is answered with an error: the arm fails (R197). -/
def armLost (s : State) : State :=
  match s.cal.arm with
  | none => s
  | some a =>
    let s := armFail (calSync (modCal s fun c => { c with arm := none, act := none, sby := none, loads := [] })) 0x0E a.rearm
    match a.cmd with
    | some (p, hdr) => answer s p hdr hsCHECK 0x0E []
    | none => s
/-- The oldest load is done: its timetable is resident (R198). -/
def loadDone (s : State) : State :=
  match s.cal.loads with
  | [] => s
  | l :: rest =>
    let s := match (imgTTs s l.img).find? (fun e => decide (hdrIndex e.2 = l.idx)) with
      | some e => (storeRead s e.1 (32 + 4 * hdrCount e.2)).2
      | none => s
    let t := ttLoad s l.img l.idx
    let s := modCal s fun c => { c with
      loads := rest
      sby := if l.into = 1 then t else c.sby
      nxt := if l.into = 2 then t else c.nxt }
    let s := match t with
      | some t => if l.into = 0 then calRefill (calSettle (calActivate s t)) else s
      | none => s
    armGo (calSync s)
/-- TIMETABLE_LOAD_DONE (R198). -/
def execTimetableLoadDone (s : State) : Host.Outcome State Fault Refusal := gate iMWY s loadDone
/-- Whether every section CRC of a slot's image holds (R194). -/
def crcsOk (s : State) (slot : Nat) : Bool :=
  (imgSects s slot).all fun x => decide (crc32c (pack9Bytes (bulkWords s x.body x.len)) = bits (bulkWord s (x.body - 8 + 2)).toNat 31 0)
/-- CALLIOPE_REARM (R199, R381): after START_OK, the timetable that was active at the warm reset is taken up again; a module that was in
HOLD is HELD after it (log entry 21). -/
def calRearm (s : State) : State :=
  match s.cal.was with
  | none => s
  | some (img, idx, st, _) =>
    if rb s R.pwrRESTARTING = true ∨ rb s R.calAUTO_REARM = false ∨ calState s ≠ csIDLE then s else
    let r := storeRead s (imgBase s img) (imgLen s img)
    let s := r.2
    if imgLen s img = 0 ∨ r.1 = false ∨ crcsOk s img = false then armFail s 5 true else
    let r := applyRegs s (imgRegs s img)
    if r.1 then armBegin r.2 ⟨img, idx, 0, true, decide (st = csHELD) || decide (mode s = mHOLD), none⟩ else armFail r.2 0x0E true
def execCalliopeRearm (s : State) : Host.Outcome State Fault Refusal := gateRst iMWY s calRearm

/-! ### Host requests and the end of HOLD (R202, R204, R206) -/

/-- A host switch request (R202, R204): `none` where it is refused. -/
def hostSwitch (s : State) (img idx : Nat) : Option State :=
  match s.cal.act, (imgTTs s img).find? (fun e => decide (hdrIndex e.2 = idx)) with
  | some t, some e =>
    let clash := (List.range (actCount t)).any fun i => decide (actType t i = 0xF) && decide (hdrTicks e.2 ≤ actArg0 t i)
    if calState s = csIDLE ∨ 2 ≤ rf s R.calPENDING ∨ clash = true then none
    else
      let s := calFill s 2 (some (img, idx))
      some (modCal (wf s R.calPENDING 1) fun c => { c with target := some (2, img, idx) })
  | _, _ => none
/-- Calliope leaves HOLD by command (R206): the active timetable, or a host-switched one, at tick 0 of the next frame. -/
def calResume (s : State) : State :=
  if calState s ≠ csHELD then s else
  match s.cal.act with
  | none => s
  | some t =>
    let f := rf s R.calFRAME_NUM
    let s := modCal (wf s R.calSTATE csPLAYING) fun c => { c with df := f + 1, ix := 0, bar := none }
    let s := modCal s fun c => { c with holdSw := decide (rf s R.calPENDING = 1) && (calTarget s).isSome }
    calRefill (ttOwn s (ttNames t))

end Sys2Proof.Machine
end

