-- ==== Sys2Proof/Machine/Mwy.lean ====
section
/-! DEFINITION. Midway's Turnstiles, responses and timeouts (R304 to R314, R427), the host's completions (R355, R356), and the beats of the DMA
engine (R317 to R323). -/

namespace Sys2Proof.Machine

/-! ### Performing a granted transaction -/

/-- Level a master's raw transaction carries: a core's own, TASK for all others. -/
def mwLevel (s : State) (m : Nat) : Nat := if m < 4 then rf s (R.rmLEVEL m) else 2
/-- Read consecutive words: the first status that is not OK, and the words. -/
def busReads (s : State) (m lvl : Nat) : Nat → Nat → Nat × List Word × State
  | _, 0 => (stOK, [], s)
  | a, n + 1 =>
    let r := busRead s m lvl a
    let q := busReads r.2.2 m lvl (a + 1) n
    (if r.1 = stOK then q.1 else r.1, r.2.1 :: q.2.1, q.2.2)
/-- Write consecutive words: the first status that is not OK. -/
def busWrites (s : State) (m lvl : Nat) : Nat → List (Word × Bool × Bool) → Nat × State
  | _, [] => (stOK, s)
  | a, (w, hi, lo) :: ws =>
    let r := busWrite s m lvl a w hi lo
    let q := busWrites r.2 m lvl (a + 1) ws
    (if r.1 = stOK then q.1 else r.1, q.2)
/-- The READs of a remote read, one a word (log entry 22): the tag of the first. -/
def remReads (s : State) (a : Nat) : Nat → Nat × State
  | 0 => (s.cas.remTag, s)
  | n + 1 => let r := remSend s .txn 1 a 0 []; (r.1, (remReads r.2 (a + 1) n).2)
/-- Half mask of a WRITE_MASKED: two bits a word, the upper half the higher. -/
def halfBits (ws : List (Word × Bool × Bool)) : Nat := ws.reverse.foldl (fun n e => n * 4 + b2n e.2.1 * 2 + b2n e.2.2) 0
/-- Packets of a remote transaction: one a word of a read; two of a masked write of 16 words, whose mask leaves no room for them (R332). -/
def remParts (k : TKind) : Nat :=
  match k with
  | .read n => n
  | .write ws => if ws.all (fun e => e.2.1 && e.2.2) = false ∧ 15 < ws.length then 2 else 1
  | _ => 1
/-- A transaction to another module leaves it (R337, R427). -/
def mwRemote (s : State) (t : Txn) : TPhase × Option Nat × State :=
  let a := t.req.addr
  if (route s (cascMod a)).isNone then (.answered s.now stBUS [] 0, none, s) else
  let go := fun (r : Nat × State) => (TPhase.granted s.now, some r.1, r.2)
  match t.req.kind with
  | .read n => go (remReads s a n)
  | .write ws =>
    let masked := fun (s : State) (a : Nat) (ws : List (Word × Bool × Bool)) => remSend s .txn 4 a 0 (mkW (halfBits ws) :: ws.map Prod.fst)
    if ws.all (fun e => e.2.1 && e.2.2) then go (remSend s .txn 3 a 0 (ws.map Prod.fst))
    else if remParts t.req.kind = 1 then go (masked s a ws)
    else
      let r := masked s a (ws.take 8)
      go (r.1, (masked r.2 (a + 8) (ws.drop 8)).2)
  | .fadd w => go (remSend s .txn 6 a 0 [w])
  | .swap w => go (remSend s .txn 6 a 1 [w])
  | .sync _ => go (remSend s .txn 7 a 0 [])
  | _ => (.answered s.now stBUS [] 0, none, s)
/-- The host port (R355, R356). -/
def mwHost (s : State) (t : Txn) : TPhase × Option Nat × State :=
  let bus := (TPhase.answered s.now stBUS [] 0, none, s)
  match t.req.kind with
  | .hread _ _ _ => if rb s R.hstBME then (.granted s.now, none, s) else bus
  | .sync _ => if rb s R.hstBME then (.granted s.now, none, s) else bus
  | .hwrite hs => if rb s R.hstBME then (.answered s.now stOK [] 0, none, hostPutAll s t.req.addr hs) else bus
  | .read _ => if hwinShut s t.req.addr then bus else (.granted s.now, none, s)
  | .write ws => let r := busWrites s t.req.master 0 t.req.addr ws; (.answered s.now r.1 [] 0, none, r.2)
  | _ => bus
/-- Words of a transaction: the accesses they make at their banks; none for a word that makes no access, with its status. -/
def mwKinds (s : State) (t : Txn) : List (Nat × Except Nat SmKind) :=
  let q := t.req
  let a := mwAddr s q.addr
  let put := fun (a : Nat) (k : Option SmKind) => match k with
    | none => .error stOK
    | some k => if lvtGuards s q.master a then .error stBUS else .ok k
  match q.kind with
  | .read n => (List.range n).map fun i => (a + i, .ok .read)
  | .write ws => ((List.range ws.length).zip ws).map fun e => (a + e.1, put (a + e.1) (smPutKind e.2.1 e.2.2.1 e.2.2.2))
  | .fadd w => [(a, put a (some (.fadd w)))]
  | .swap w => [(a, put a (some (.swap w)))]
  | _ => []
/-- A transaction whose number stands in a state. -/
def txnOf (s : State) (tid : Nat) : Option Txn := s.mw.txns.find? (fun t => decide (t.tid = tid))
/-- Replace a transaction. -/
def txnPut (s : State) (t : Txn) : State := mwSet s (s.mw.txns.map (fun u => if u.tid = t.tid then t else u)) t.req.master
/-- A granted beat for Stream Memory: its words go to the port's accesses (R56); a further beat is presented to the next port's Turnstile
(R303). -/
def mwStream (s : State) (t : Txn) : State :=
  let ks := mwKinds s t
  let n := if ks.length = 0 then 0 else min (8 - (t.req.addr + t.off) % 8) (ks.length - t.off)
  let mine := ((List.range ks.length).zip ks).drop t.off |>.take n
  let last := decide (ks.length ≤ t.off + n)
  let next := (t.port + 1) % 4
  let s := if last then s else mwWaits s next
  let s := txnPut s { t with
    ph := if last then .granted s.now else .waiting s.now, port := if last then t.port else next, age := if last then t.age else 0
    off := t.off + n, left := t.left + n }
  if ks.length = 0 then txnPut s { t with ph := .answered s.now stOK [] 0 } else
  mine.foldl (fun s e => match e.2.2 with
    | .error st => txnWord s t.tid e.1 st 0#36
    | .ok k => { s with sm := { s.sm with wait := s.sm.wait ++ [⟨t.port, e.2.1, k, t.tid, e.1⟩] } }) s
/-- A granted transaction is performed at its target (R304), or waits for the host or another module. -/
def mwPerform (s : State) (t : Txn) : TPhase × Option Nat × State :=
  let q := t.req
  let lvl := mwLevel s q.master
  if targetUp s t.port q.addr = false then (.answered s.now stTIMEOUT [] 0, none, s)
  else if 4 ≤ t.port ∧ t.port < 8 then match q.kind with
    | .read n => let r := bulkRead s (mwAddr s q.addr) n; (.answered s.now r.1 r.2.1 0, none, r.2.2)
    | .write ws =>
      if imgGuards s (mwAddr s q.addr) then (.answered s.now stBUS [] 0, none, s)
      else (.answered s.now stOK [] 0, none, bulkWrite s (mwAddr s q.addr) ws)
    | .sync _ => (.answered s.now stOK [] 0, none, s)
    | _ => (.answered s.now stBUS [] 0, none, s)
  else if t.port = 26 then mwHost s t
  else if t.port = 27 then mwRemote s t
  else match q.kind with
    | .read n => let r := busReads s q.master lvl q.addr n; (.answered s.now r.1 r.2.1 0, none, r.2.2)
    | .write ws => let r := busWrites s q.master lvl q.addr ws; (.answered s.now r.1 [] 0, none, r.2)
    | .fadd _ => (.answered s.now stBUS [] 0, none, s)
    | .swap _ => (.answered s.now stBUS [] 0, none, s)
    | _ => (.answered s.now stOK [] 0, none, s)

/-! ### Turnstile (R310, R311) -/

/-- Requests a port may grant: waiting, and the first of their master and ID with a beat still to pass it (R306). -/
def mwCands (s : State) (port : Nat) : List Txn :=
  let ahead := s.mw.txns.filter (fun t => tWaiting t && (tAhead t).contains port)
  ahead.filter fun t => decide (t.port = port) &&
    (ahead.find? (fun u => decide (u.req.master = t.req.master) && decide (u.req.id = t.req.id))).map (fun u => u.tid) == some t.tid
/-- The request granted: highest effective QoS, ties rotating over master numbers. -/
def mwPick (s : State) (port : Nat) : Option Txn :=
  let cs := mwCands s port
  let top := cs.foldl (fun m t => max m (tEff s t)) 0
  let best := cs.filter (fun t => decide (tEff s t = top))
  match rotWin (kvGet 0 s.mw.ptr port) 21 (best.map (fun t => t.req.master)) with
  | some m => best.find? (fun t => decide (t.req.master = m))
  | none => none
/-- TURNSTILE_GRANT (R310). -/
def execTurnstileGrant (port : Nat) (s : State) : Host.Outcome State Fault Refusal :=
  gateRst iMWY s fun s =>
    match mwPick s port with
    | none => s
    | some t =>
      let since := (kvFind s.mw.waitFrom port).getD s.now
      let s := if port < 28 then cntAdd s (R.mwWAIT_CNT port) ((s.now - since) * 4 / 5) else s
      let s := if port < 4 ∧ islandUp s iVEC then mwStream s t else
        let r := mwPerform s t
        txnPut r.2.2 { t with ph := r.1, rem := r.2.1 }
      let more := s.mw.txns.any (fun u => decide (u.port = port) && tWaiting u)
      { s with mw := { s.mw with
          ptr := kvSet 0 s.mw.ptr port ((t.req.master + 1) % 21)
          waitFrom := kvDel s.mw.waitFrom port ++ (if more then [(port, s.now)] else []) } }

/-! ### DMA: what responses do (R321 to R323) -/

/-- ERR_CODE of a response status (Table MWD-6). -/
def dmaCode (st : Nat) : Nat := if st = stBUS then 2 else if st = stOWNED then 3 else if st = stDATA then 4 else 5
/-- Words that came, taken in the order of their numbers from `n` on (R317, R318, R320): those in order, and those still ahead of one that
has not come. -/
def inOrder : Nat → Nat → List Word → List (Nat × Word) → List Word × List (Nat × Word)
  | 0, _, l, e => (l, e)
  | f + 1, n, l, e => match kvFind e n with
    | some w => inOrder f (n + 1) (l ++ [w]) (kvDel e n)
    | none => (l, e)
/-- A response for a start that has ended (R323): words read are discarded; a write's is still recorded. -/
def dmaLate (s : State) (c : Nat) (t : Txn) (st : Nat) : State :=
  if t.tagk ≠ 3 ∨ st = stOK then s
  else if st = stLOST then wb s (R.dcWLOST c) true
  else dmaErrSet s c (dmaCode st) (t.req.addr % 2 ^ 36)
/-- A response reaches the channel that issued it. -/
def dmaGot (s : State) (t : Txn) (st : Nat) (ws : List Word) (cvx : Nat) : State :=
  let c := t.req.id / 2 * 4 + (t.req.master - 4)
  match dmaFind s c with
  | none => dmaLate s c t st
  | some k =>
    if k.gen ≠ t.gen then dmaLate s c t st
    else if st = 4 ∧ t.tagk = 3 then wb s (R.dcWLOST c) true
    else if st ≠ stOK then dmaErr s c (dmaCode st) (t.req.addr % 2 ^ 36)
    else
      let s := if cvx = 0 then s else stick s (R.dcCVX c) cvx
      let at_ := ((List.range ws.length).zip ws).map (fun e => (t.first + e.1, e.2))
      if t.tagk = 1 then
        let r := inOrder 16 (k.wrK + k.got.length) k.got (k.early ++ at_)
        dmaPut s { k with got := r.1, early := r.2, fly := k.fly - ws.length }
      else if t.tagk = 2 then
        let r := inOrder 16 (k.ixRun + k.ix.length) k.ix (k.ixEarly ++ at_)
        dmaPut s { k with ix := r.1, ixEarly := r.2, ixFly := k.ixFly - ws.length }
      else if t.tagk = 4 then dmaPut s { k with syncOut := k.syncOut - 1 }
      else s
/-- Calliope learns of a completion of a channel it started (R190, R322). -/
def dmaTell (s : State) (k : DmaCh) : State := if k.cal then { s with calIn := s.calIn ++ [.dmaDone k.c] } else s
/-- A transfer has completed: STATE is IDLE and XFER_CNT increments. -/
def dmaEnd (s : State) (k : DmaCh) : State := dmaTell (dmaDrop (cnt (wf s (R.dcSTATE k.c) 0) (R.dcXFER_CNT k.c)) k.c) k
/-- Whether a write of a channel's present start is unanswered. -/
def dmaWrites (s : State) (k : DmaCh) : Bool :=
  s.mw.txns.any (fun t => decide (t.tagk = 3) && decide (t.gen = k.gen) && decide (t.req.id / 2 * 4 + (t.req.master - 4) = k.c))
/-- DMA_SYNC_ACK (R322). -/
def execDmaSyncAck (c : Nat) (s : State) : Host.Outcome State Fault Refusal :=
  gate iMWY s fun s =>
    match dmaFind s c with
    | some k =>
      if rf s (R.dcSTATE c) = 2 ∧ k.toSync = [] ∧ k.syncOut = 0 ∧ dmaWrites s k = false then dmaEnd (dmaRaise (wb s (R.dcARRIVED c) true) c 1) k else s
    | none => s

/-! ### Responses (R304, R314) -/

/-- The oldest answered transaction of a master and ID that no earlier one to its target holds back (R306). -/
def mwAnswered (s : State) (m id : Nat) : Option Txn :=
  let ts := s.mw.txns.filter (fun t => decide (t.req.master = m) && decide (t.req.id = id))
  ts.find? fun t =>
    (match t.ph with | .answered _ _ _ _ => true | _ => false) &&
      (ts.find? (fun u => (tPorts u).any (fun p => (tPorts t).contains p))).map (fun u => u.tid) == some t.tid
/-- TRANSACTION_RESPONSE (R304). -/
def execTransactionResponse (m id : Nat) (s : State) : Host.Outcome State Fault Refusal :=
  gate iMWY s fun s =>
    match mwAnswered s m id with
    | none => s
    | some t =>
      let (st, ws, cvx) := match t.ph with | .answered _ st ws cvx => (st, ws, cvx) | _ => (0, [], 0)
      let s := mwSet s (s.mw.txns.filter (fun u => decide (u.tid ≠ t.tid))) m
      let s := mwAdmit 64 { s with mw := { s.mw with rsp := some (m, id, st, ws) } } m
      if 4 ≤ m ∧ m < 8 then dmaGot s t st ws cvx else s
/-- The first granted transaction of a master and ID that waits for its target's answer. -/
def mwGranted (s : State) (m id : Nat) (q : Txn → Bool) : Option Txn :=
  s.mw.txns.find? fun t => decide (t.req.master = m) && decide (t.req.id = id) && (match t.ph with | .granted _ => true | _ => false) && q t
/-- A granted transaction is answered. -/
def mwAnswer (s : State) (t : Txn) (st : Nat) (ws : List Word) (cvx : Nat) : State :=
  txnPut s { t with ph := .answered s.now st ws cvx }
/-- TRANSACTION_TIMEOUT (R314, R329): TO_MASTER and TO_TARGET record the first one since TIMEOUT was 0. -/
def execTransactionTimeout (m id : Nat) (s : State) : Host.Outcome State Fault Refusal :=
  gate iMWY s fun s =>
    match mwGranted s m id (fun _ => true) with
    | none => s
    | some t =>
      let at_ := match t.ph with | .granted x => x | _ => s.now
      let s := atLeast s (at_ + max 1 (rf s R.mwTXN_TIMEOUT) * 1000)
      let was := rb s R.mwTIMEOUT
      let s := if was then s else wf (wf s R.mwTO_MASTER m) R.mwTO_TARGET t.port
      let s := notice (raiseIf (cnt (wb s R.mwTIMEOUT true) R.mwTIMEOUT_CNT) (!was) 241) 9 1 0 stTIMEOUT
      mwAnswer { s with mw := { s.mw with late := s.mw.late ++ [(m, id)] } } t stTIMEOUT [] 0
/-- LATE_RESPONSE (R314). -/
def execLateResponse (m id : Nat) (s : State) : Host.Outcome State Fault Refusal :=
  gate iMWY s fun s =>
    if s.mw.late.contains (m, id) then cnt { s with mw := { s.mw with late := s.mw.late.erase (m, id) } } R.mwLATE_CNT else s

/-! ### Completions from the host (R356) -/

/-- Host words a transaction at port 26 waits for. -/
def hostWants (k : TKind) : Nat :=
  match k with
  | .read n => n | .hread n conv _ => hostLen conv n | _ => 0
/-- HOST_COMPLETION (R355, R356): `st` is 0 for success, else Unsupported Request or Completer Abort. -/
def execHostCompletion (m id st : Nat) (data : List HWord) (s : State) : Host.Outcome State Fault Refusal :=
  gate iMWY s fun s =>
    match mwGranted s m id (fun t => decide (t.port = 26)) with
    | none => s
    | some t =>
      if st ≠ 0 then mwAnswer s t stBUS [] 0
      else if data.length ≠ hostWants t.req.kind then s
      else match t.req.kind with
        | .read _ => mwAnswer s t stOK (data.map (low32In (rb s (R.hstHW_SIGN (hwinOf s t.req.addr).1)))) 0
        | .hread n conv sg => let r := convIn conv sg n data; mwAnswer s t stOK r.1 r.2
        | _ => mwAnswer s t stOK [] 0
/-- HOST_COMPLETION_TIMEOUT (R356). -/
def execHostCompletionTimeout (m id : Nat) (s : State) : Host.Outcome State Fault Refusal :=
  gate iMWY s fun s =>
    match mwGranted s m id (fun t => decide (t.port = 26)) with
    | none => s
    | some t => mwAnswer (if isUp s iHST then hostTimeout s else s) t stTIMEOUT [] 0

/-! ### DMA beats (R317 to R321) -/

/-- Whether a side is the indexed one. -/
def ddIndexed (d : List Nat) (side : Nat) : Bool := ddIndex d && (ddIxDst d == decide (side = 1))
/-- The offset a run needs is in the prefetch buffer. -/
def dmaOffset (k : DmaCh) (j : Nat) : Option Int := if j < k.ixRun then none else (k.ix[j - k.ixRun]?).map (fun w => sext 36 w.toNat)
/-- Address of word n of a side and the words left in its line or run; `none` where the run's offset has not come. -/
def dmaAt (k : DmaCh) (side n : Nat) : Option (Nat × Nat) :=
  let d := k.desc
  let base : Int := (dd d (1 + 4 * side) 35 0 : Nat)
  let wrap := fun (x : Int) => (x % (2 ^ 36 : Int)).toNat
  let run := ddRun d
  if ddHost d side then some (ddHaddr d + (if ddConv d = 3 then n / 8 * 36 else 4 * n), k.t - n)
  else if ddIndexed d side then (dmaOffset k (n / run)).map fun o => (wrap (base + o + (n % run : Nat)), run - n % run)
  else if ddIndex d then some (wrap (base + n), run - n % run)
  else
    let l := max 1 (ddLlen d side)
    some (wrap (base + sext 36 (dd d (3 + 4 * side) 35 0) * (n / l : Nat) + (n % l : Nat)), l - n % l)
/-- The next beat of a side: its address and length. A host side keeps to groups of 8 words. -/
def dmaBeat (k : DmaCh) (side n : Nat) : Option (Nat × Nat) :=
  if k.t ≤ n then none else
  (dmaAt k side n).map fun q => (q.1, min (8 - (if ddHost k.desc side then n % 8 else q.1 % 8)) (min q.2 (k.t - n)))
/-- QoS of a channel's transactions (R312, R316). -/
def dmaQos (k : DmaCh) : Nat := if k.cal then 15 else min 14 (dd k.desc 0 7 4)
/-- Issue a transaction of a channel. -/
def dmaIssue (s : State) (k : DmaCh) (wr : Bool) (a : Nat) (kind : TKind) (tagk first : Nat) : State :=
  mwIssue s ⟨4 + k.c % 4, 2 * (k.c / 4) + b2n wr, dmaQos k, a, kind⟩ tagk k.gen first
/-- Offsets of runs a side has passed leave the prefetch buffer. -/
def dmaTrim (k : DmaCh) : DmaCh :=
  if ddIndex k.desc then
    let j := (if ddIxDst k.desc then k.wrK else k.rdK) / ddRun k.desc
    { k with ix := k.ix.drop (j - k.ixRun), ixRun := max k.ixRun j }
  else k
/-- The channel of a port that wins a kind of beat: highest PRIO, ties rotating over channel numbers. -/
def dmaPick (s : State) (key : Nat) (cs : List DmaCh) : Option DmaCh :=
  let top := cs.foldl (fun m k => max m (dd k.desc 0 3 1)) 0
  let best := cs.filter (fun k => decide (dd k.desc 0 3 1 = top))
  match rotWin (kvGet 0 s.dma.ptr key) 64 (best.map (fun k => k.c)) with
  | some c => best.find? (fun k => decide (k.c = c))
  | none => none
/-- The rotation pointer of a port's beats moves past the winner. -/
def dmaTurn (s : State) (key c : Nat) : State := { s with dma := { s.dma with ptr := kvSet 0 s.dma.ptr key ((c + 1) % 64) } }
/-- Channels of a port. -/
def dmaPort (s : State) (p : Nat) : List DmaCh := s.dma.chans.filter (fun k => decide (k.c % 4 = p))
/-- DMA_READ_BEAT (R321). -/
def execDmaReadBeat (p : Nat) (s : State) : Host.Outcome State Fault Refusal :=
  gate iMWY s fun s =>
    let fits := fun (k : DmaCh) => match dmaBeat k 0 k.rdK with
      | some q => decide (rf s (R.dcSTATE k.c) = 1) && decide (k.got.length + k.early.length + k.fly + q.2 ≤ 16)
      | none => false
    match dmaPick s (2 * p) ((dmaPort s p).filter fits) with
    | none => s
    | some k =>
      match dmaBeat k 0 k.rdK with
      | none => s
      | some (a, n) =>
        let k := dmaTrim { k with rdK := k.rdK + n, fly := k.fly + n }
        let s := dmaTurn (dmaPut s k) (2 * p) k.c
        dmaIssue s k false a (if ddHost k.desc 0 then .hread n (ddConv k.desc) (dd k.desc 0 14 14 == 1) else .read n) 1 (k.rdK - n)
/-- DMA_INDEX_READ (R318). -/
def execDmaIndexRead (c : Nat) (s : State) : Host.Outcome State Fault Refusal :=
  gate iMWY s fun s =>
    match dmaFind s c with
    | none => s
    | some k =>
      let a := (dd k.desc 9 35 0 + k.ixAsk) % 2 ^ 36
      let n := min (8 - a % 8) (min (8 - k.ix.length - k.ixEarly.length - k.ixFly) (dd k.desc 10 23 0 - k.ixAsk))
      if ddIndex k.desc = false ∨ rf s (R.dcSTATE c) ≠ 1 ∨ n = 0 then s
      else dmaIssue (dmaPut s { k with ixAsk := k.ixAsk + n, ixFly := k.ixFly + n }) k false a (.read n) 2 k.ixAsk
/-- The last write beat has left: DONE, then SYNCING or the end (R322). -/
def dmaDoneNow (s : State) (k : DmaCh) : State :=
  let s := dmaRaise (wb s (R.dcDONE k.c) true) k.c 0
  if dd k.desc 0 8 8 = 1 then dmaPut (wf s (R.dcSTATE k.c) 2) { k with toSync := k.ports } else dmaEnd s k
/-- DMA_WRITE_BEAT (R321, R322): a SYNC counts as a write beat. -/
def execDmaWriteBeat (p : Nat) (s : State) : Host.Outcome State Fault Refusal :=
  gate iMWY s fun s =>
    let fits := fun (k : DmaCh) =>
      !k.toSync.isEmpty || (match dmaBeat k 1 k.wrK with
        | some q => decide (rf s (R.dcSTATE k.c) = 1) && decide (q.2 ≤ k.got.length)
        | none => false)
    match dmaPick s (2 * p + 1) ((dmaPort s p).filter fits) with
    | none => s
    | some k =>
      let s := dmaTurn s (2 * p + 1) k.c
      match k.toSync, dmaBeat k 1 k.wrK with
      | t :: rest, _ =>
        dmaIssue (dmaPut s { k with toSync := rest, syncOut := k.syncOut + 1 }) k true (dd k.desc 5 35 0) (.sync t) 4 0
      | [], none => s
      | [], some (a, n) =>
        let ws := k.got.take n
        let host := ddHost k.desc 1
        let cv := convOut (ddConv k.desc) (dd k.desc 0 14 14 == 1) (dd k.desc 0 15 15 == 1) ws
        let s := if host ∧ cv.2 ≠ 0 then stick s (R.dcCVX k.c) cv.2 else s
        let port := if host then some 26 else mwPort s a
        let k := dmaTrim { k with
          got := k.got.drop n, wrK := k.wrK + n
          ports := match port with | some q => if k.ports.contains q then k.ports else k.ports ++ [q] | none => k.ports }
        let s := wf (dmaPut s k) (R.dcREMAIN k.c) (k.t - k.wrK)
        let s := dmaIssue s k true a (if host then .hwrite cv.1 else .write (ws.map (fun w => (w, true, true)))) 3 (k.wrK - n)
        if k.wrK = k.t then dmaDoneNow s k else s

end Sys2Proof.Machine
end

