-- ==== Sys2Proof/Machine/Cascade.lean ====
section
/-! DEFINITION. Briby links, HELLO and routes, remote access, time and ticks over the cascade, master loss, shadow pairs, and commands between
modules (R331 to R349, R372). -/

namespace Sys2Proof.Machine

def modCas (s : State) (k : CasSt → CasSt) : State := { s with cas := k s.cas }

/-! ### Routes (R336) -/

/-- Peer number, claim, master followed and hops in a HELLO (R335). -/
def helPeer (h : Word × Word) : Nat := bits h.1.toNat 4 0
def helClaim (h : Word × Word) : Bool := bit h.1.toNat 5
def helMaster (h : Word × Word) : Nat := bits h.1.toNat 10 6
def helHops (h : Word × Word) : Nat := bits h.1.toNat 15 11
/-- The HELLO of a link that can carry packets: UP, and not with a duplicate number. -/
def helUsable (s : State) (l : Nat) : Option (Word × Word) :=
  if linkUp s l ∧ (link s l).dup = false then (link s l).hello else none
/-- Hops to the master over a peer (log entry 24): 1 to a peer that claims, one more than a follower's count. -/
def masterHops (h : Word × Word) : Option Nat :=
  if helClaim h then some 1 else if helHops h = 0 then none else some (helHops h + 1)
/-- Hops to module m over a peer; a module that a HELLO merely lists is two or more hops away (log entry 24). -/
def modHops (h : Word × Word) (m : Nat) : Option Nat :=
  if helPeer h = m then some 1
  else if helHops h ≠ 0 ∧ helMaster h = m then some (helHops h + 1)
  else if bit h.2.toNat m then some (max 2 (Config.helloHops h.1 h.2 m)) else none
/-- The link with the fewest hops, the lower number on a tie. -/
def bestLink (s : State) (k : Word × Word → Option Nat) : Option (Nat × Nat) :=
  (linkIds s).foldl (fun b l =>
    match (helUsable s l).bind k with
    | none => b
    | some n => match b with
      | none => some (l, n)
      | some (_, m) => if n < m then some (l, n) else b) none
/-- ROUTE_RECOMPUTE (R336): UP links and the route table. -/
def routesNow (s : State) : State :=
  let up := if isMaster s then none else bestLink s masterHops
  let s := (linkIds s).foldl (fun s l => wb s (R.casIS_UP_LINK l) (decide (up.map Prod.fst = some l))) s
  let s := match up.bind fun u => (link s u.1).hello with
    | some h => wf s R.casMASTER_ID (if helClaim h then helPeer h else helMaster h)
    | none => s
  (List.range 32).foldl (fun s m =>
    match (if m = cascId s then none else bestLink s (fun h => modHops h m)) with
    | some (l, n) => wf (wf s (R.casROUTE m) l) (R.casHOPS m) (min n 31)
    | none => wf (wf s (R.casROUTE m) 7) (R.casHOPS m) 0) s

/-! ### Links (R331, R333, R334) -/

/-- Packets that wait for credit go out, responses first (R333), where the link may start packets. -/
def briFlush (s : State) (l : Nat) : State :=
  if linkUp s l = false ∨ (link s l).dup = true then s else
  let ps := (link s l).wait
  let s := modLink s l fun k => { k with wait := [] }
  let s := (ps.filter (fun e => decide (bpClass e.1.ptype = 2))).foldl (fun s e => briSendFrom s e.2 l e.1) s
  (ps.filter (fun e => decide (bpClass e.1.ptype ≠ 2))).foldl (fun s e => briSendFrom s e.2 l e.1) s
/-- A remote access of this module is answered, and with it a transaction all of whose packets are (R337). -/
def remSettle (s : State) : State :=
  s.mw.txns.foldl (fun s t =>
    match t.ph, t.rem with
    | .granted _, some t0 =>
      let n := remParts t.req.kind
      let tags := (List.range n).map fun i => if i = 0 then t0 else (t0 + i) % 128
      let rs := tags.filterMap fun g => (s.cas.rem.find? (fun r => decide (r.tag = g))).bind RemReq.resp
      if rs.length = n then
        let st := ((rs.map Prod.fst).find? (fun x => decide (x ≠ stOK))).getD stOK
        let s := modCas s fun c => { c with rem := c.rem.filter (fun r => !tags.contains r.tag) }
        mwAnswer s t st (rs.flatMap Prod.snd) 0
      else s
    | _, _ => s) s
/-- A host command in another module ends with a status (R366): the index of a failing word is the number of those that did not fail. -/
def farEnd (s : State) (j : FarJob) (st : Nat) : State :=
  let o := if j.pt = 1 then convOut j.conv j.signed j.sat j.got else ([], 0)
  let s := match j.haddr with | some h => hostPutAll s h o.1 | none => s
  if st ≠ stOK then answer s j.path j.hdr hsACCESS (st + j.got.length * 256) []
  else if j.pt = 6 then answer s j.path j.hdr hsOK 0 (two (j.got.headD 0#36).toNat)
  else answer s j.path j.hdr hsOK (if j.pt = 1 then o.2 else j.detail) (if j.haddr.isSome then [] else o.1)
/-- The next access of a host command in another module, or its end. -/
def farSend (s : State) (j : FarJob) : State :=
  if j.todo = [] ∧ j.left = 0 then farEnd s j stOK
  else if (route s (cascMod j.addr)).isNone then farEnd s j stBUS
  else
    let r := remSend s .host j.pt j.addr j.op (j.todo.take 1)
    { r.2 with hst := { r.2.hst with far := r.2.hst.far ++ [{ j with tag := r.1 }] } }
/-- An access of a host command has come back. -/
def farBack (s : State) (tag st : Nat) (ws : List Word) : State :=
  match s.hst.far.find? (fun j => decide (j.tag = tag)) with
  | none => s
  | some j =>
    let s := { s with hst := { s.hst with far := s.hst.far.erase j } }
    if st ≠ stOK then farEnd s j st
    else farSend s { j with addr := j.addr + 1, todo := j.todo.drop 1, left := j.left - 1, got := j.got ++ [ws.headD 0#36] }
/-- A posted write of master m at address a has come back: an error is a core's POSTED_ERR (R269), a pipe's PR_WRITE_ERR (R101), a parameter
set's PARAM_ERR (R369), Calliope's arm's code 0x0E (R197). -/
def postBack (s : State) (m a st : Nat) : State :=
  if st = stOK then (if m = 8 then armGo s else if m = 20 then paramAcked s else s)
  else if m < 4 then modCore s m fun c => { c with perr := c.perr ++ [a] }
  else if m = 8 then armLost s
  else if 12 ≤ m ∧ m < 16 then
    notice (wb s (R.vpPR_WRITE_ERR (m - 12)) true) 5 (8 + (m - 12)) (m - 12) (rdN s (R.vpPR0 (m - 12)).addr)
  else if m = 20 then paramAcked (notice (raise (wb s R.hstPARAM_ERR true) 199) 9 4 0 0)
  else s
/-- A remote access has come back (R337). -/
def remBack (s : State) (r : RemReq) (st : Nat) (ws : List Word) : State :=
  let drop := modCas s fun c => { c with rem := c.rem.erase r }
  match r.who with
  | .post m a => postBack drop m a st
  | .host => farBack drop r.tag st ws
  | _ => remSettle (modCas s fun c => { c with rem := c.rem.map fun q => if q = r then { q with resp := some (st, ws) } else q })
/-- Outstanding remote accesses over a link are answered TIMEOUT (R348). -/
def casCut (s : State) (l : Nat) : State :=
  (s.cas.rem.filter fun r => decide (r.link = l) && r.resp.isNone).foldl (fun s r => remBack s r stTIMEOUT []) s
/-- A link comes UP: credits are whole again (R331, R333). -/
def linkRise (s : State) (l : Nat) : State :=
  let s := raise (wf s (R.casLSTATE l) 2) (176 + l)
  let s := modLink s l fun k => { k with cred2 := 32, cred3 := 32, gap := none, rtts := [], leftAt := none, downRep := false }
  calSettle (briFlush (routesNow s) l)
/-- A link leaves UP for another state (R331). -/
def linkFall (s : State) (l st : Nat) : State :=
  if rf s (R.casLSTATE l) ≠ 2 then wf s (R.casLSTATE l) st else
  let s := notice (raise (wf s (R.casLSTATE l) st) (176 + l)) 12 l l l
  let s := modLink s l fun k => { k with leftAt := some s.now, downRep := decide (rf s (R.casLINK_DOWN_US l) = 0), sent := [], blocks := [] }
  calSettle (routesNow s)
/-- BRIBY_TRAINING_DONE (R331). -/
def execBribyTrainingDone (l : Nat) (s : State) : Host.Outcome State Fault Refusal :=
  gate iCAS s fun s => if l < s.cfg.part.links ∧ rf s (R.casLSTATE l) = 1 then linkRise s l else s
/-- Blocks with a bad sync header or type have come on a link, how many is free (Table CAS-5, log entry 51). -/
def badBlocks (s : State) (l : Nat) : State := let f := freeNat s; cntAdd f.2 (R.casBLOCK_ERR_CNT l) f.1
/-- BRIBY_LINK_LOSS (R331). -/
def execBribyLinkLoss (l : Nat) (s : State) : Host.Outcome State Fault Refusal :=
  gate iCAS s fun s => if l < s.cfg.part.links ∧ rf s (R.casLSTATE l) = 2 then linkFall (badBlocks s l) l 1 else s
/-- BRIBY_LINK_DOWN_REPORT, LINK_DOWN_REPORT of a link (R331). -/
def linkDownReport (s : State) (l : Nat) : State :=
  match (link s l).leftAt with
  | some t =>
    if rf s (R.casLSTATE l) = 2 then s else
    calSettle (modLink (atLeast s (t + rf s (R.casLINK_DOWN_US l) * 1000)) l fun k => { k with downRep := true })
  | none => s
def execBribyLinkDownReport (l : Nat) (s : State) : Host.Outcome State Fault Refusal :=
  gate iCAS s fun s => if l < s.cfg.part.links then linkDownReport s l else s

/-- GAP_BLOCK (R333, R334): TX_STAMP and ECHO as carried, the quarter nanosecond of its arrival, and the credits it returns. -/
def execGapBlock (l stamp echo quarter c2 c3 : Nat) (s : State) : Host.Outcome State Fault Refusal :=
  gate iCAS s fun s =>
    if l < s.cfg.part.links ∧ rf s (R.casLSTATE l) = 2 then
      let now := linkStamp s quarter
      let s := modLink s l fun k => { k with
        gap := some (stamp % 2 ^ 26, now)
        rtts := k.rtts ++ [(now + 2 ^ 26 - echo % 2 ^ 26) % 2 ^ 26]
        sent := []
        blocks := []
        cred2 := min 32 (k.cred2 + c2)
        cred3 := min 32 (k.cred3 + c3) }
      briFlush s l
    else s
/-- CALIBRATION_WINDOW_END (R334): RTT is the average of the window's round trips, CAL_CNT counts the window. -/
def execCalibrationWindowEnd (l : Nat) (s : State) : Host.Outcome State Fault Refusal :=
  gate iCAS s fun s =>
    if l < s.cfg.part.links ∧ rf s (R.casLSTATE l) = 2 then
      let r := (link s l).rtts
      let s := badBlocks s l
      let s := if r.isEmpty then s else wf s (R.casRTT l) (r.foldl (· + ·) 0 / r.length)
      cnt (modLink s l fun k => { k with rtts := [] }) (R.casCAL_CNT l)
    else s

/-! ### Arriving packets -/

/-- Discard a packet (R332). -/
def briDrop (s : State) : State := cnt s R.casDROP_CNT
/-- A packet of type `pt` has arrived on a link, of `lo` to `hi` words, its ADDR of 30 bits: a link with a duplicate number takes nothing but
HELLO (R335), and the silence of the pair's peer is over (R345). -/
def briRecv (l : Nat) (p : BPkt) (pt lo hi : Nat) (s : State) (k : State → State) : Host.Outcome State Fault Refusal :=
  gateRst iCAS s fun s =>
    if s.cfg.part.links ≤ l ∨ rf s (R.casLSTATE l) ≠ 2 ∨ p.ptype ≠ pt ∨ (link s l).dup then s else
    let s := if rf s R.casSH_ROLE ≠ 0 ∧ p.src = rf s R.casSH_PEER then modCas s fun c => { c with peerAt := s.now } else s
    if p.words.length < lo ∨ hi < p.words.length then creditBack (briDrop s) l pt else k s
/-- A unicast packet from link l: performed here, or sent on its way; discarded where there is no route (R332, R336). Where it leaves the
link's receive buffer its credit goes back (R333). -/
def briHere (l : Nat) (p : BPkt) (k : State → State) (s : State) : State :=
  if p.dest = cascId s then creditBack (k s) l p.ptype
  else
    let r := briToFrom s (some l) p
    if r.1 then r.2 else creditBack (briDrop s) l p.ptype
/-- BRIBY_PACKET_DROP (R332). -/
def execBribyPacketDrop (l : Nat) (s : State) : Host.Outcome State Fault Refusal :=
  gate iCAS s fun s => if l < s.cfg.part.links ∧ rf s (R.casLSTATE l) = 2 then briDrop s else s

/-! ### HELLO and mastership (R335) -/

/-- HELLO_TRANSMIT (R335): a training link exchanges HELLO too (R331). -/
def execHelloTransmit (l : Nat) (s : State) : Host.Outcome State Fault Refusal :=
  gate iCAS s fun s =>
    if l < s.cfg.part.links ∧ rf s (R.casLSTATE l) ≠ 0 then
      let hops := match (linkIds s).find? (fun l => rb s (R.casIS_UP_LINK l)) with
        | some u => (((link s u).hello).bind masterHops).getD 0
        | none => 0
      let fv := freeNat s
      let w0 := cascId s + b2n (isMaster s) * 32 + rf s R.casMASTER_ID * 64 + min hops 31 * 2048 +
        b2n (rb s (R.casIS_UP_LINK l)) * 2 ^ 16 + fv.1 % 2 ^ 19 * 2 ^ 17
      let w1 := (List.range 32).foldl (fun n m => if (route s m).isSome then n + 2 ^ m else n) 0
      putPkt fv.2 l ⟨0xE, rf s (R.casPEER_ID l), cascId s, 0, 0, [mkW w0, mkW w1]⟩
    else s

/-- Whether this module took over in the present CAS cycle (R346, Table FRM-1). -/
def tookNow (s : State) : Bool := match s.cas.tookAt with | some t => decide (s.now < t + 3) | none => false
/-- DEMOTION (R346): a primary whose peer is primary inhibits its ports and becomes the shadow; where it takes over in the same cycle, only the
module with the higher number does. -/
def demote (s : State) : State :=
  if rf s R.casSH_ROLE ≠ 1 ∨ (tookNow s ∧ cascId s < rf s R.casSH_PEER) then s else
  let s := notice (raise (wf (txInhibit s) R.casSH_ROLE 2) 187) 12 11 0 0
  let s := modCas s fun c => { c with digDue := none, digs := [], digIn := [] }
  if mode s = mRUN ∨ mode s = mDERATED then setMode s mSHADOW else s
/-- HELLO (R335, R336): peer identity, duplicate number, master claims, UP choices, routes. -/
def execHello (l : Nat) (p : BPkt) (s : State) : Host.Outcome State Fault Refusal :=
  gate iCAS s fun s =>
    if s.cfg.part.links ≤ l ∨ rf s (R.casLSTATE l) = 0 ∨ p.ptype ≠ 0xE then s
    else if p.words.length ≠ 2 then briDrop s
    else
      let h := (p.words.getD 0 0#36, p.words.getD 1 0#36)
      let me := cascId s
      let pr := helPeer h
      let s := if rf s R.casSH_ROLE ≠ 0 ∧ pr = rf s R.casSH_PEER then modCas s fun c => { c with peerAt := s.now } else s
      let s := wb (wf s (R.casPEER_ID l) pr) (R.casPEER_DOWN l) (bit h.1.toNat 16)
      let s := modLink s l fun k => { k with hello := some h, dup := decide (pr = me) }
      let s := if pr = me then notice (raiseIf (wb s R.casID_DUP true) (!rb s R.casID_DUP) 180) 12 5 0 l else s
      let s := if pr ≠ me ∧ helClaim h ∧ isMaster s then
          let s := notice (raiseIf (wb s R.casMASTER_CONFLICT true) (!rb s R.casMASTER_CONFLICT) 180) 12 4 0 l
          if pr < me then wb s R.casIS_MASTER false else s
        else s
      let s := routesNow s
      if pr = rf s R.casSH_PEER ∧ Config.helloPrimary h.1 h.2 then demote s else s

/-! ### Remote access (R337, R338) -/

/-- Answer a remote request with READ_RESP. -/
def readResp (s : State) (p : BPkt) (st : Nat) (ws : List Word) : State := (briTo s ⟨0x2, p.src, cascId s, p.tag, st, ws⟩).2
/-- Answer a remote request with WRITE_ACK. -/
def writeAck (s : State) (p : BPkt) (st : Nat) : State := (briTo s ⟨0x5, p.src, cascId s, p.tag, st, []⟩).2
/-- The address of a remote request in this module: 30 bits, so its low 1 Gi words (R337). -/
def remAddr (p : BPkt) : Nat := p.addr % 2 ^ 30
/-- A remote request of n words at its destination: TIMEOUT while the MWY island is in reset (R349), BUS_ERR where REMOTE_EN does not allow it
or it runs past the module's low 1 Gi words, and no effect yet while Midway holds the access. -/
def remHere (l need n : Nat) (p : BPkt) (ans : State → Nat → State) (k : State → State) (s : State) : State :=
  if p.dest = cascId s ∧ isUp s iMWY ∧ rf s R.casREMOTE_EN &&& need = need ∧ remAddr p + n ≤ 2 ^ 30 ∧ busHeld s (remAddr p) then s else
  briHere l p (fun s =>
    if isUp s iMWY = false then ans s stTIMEOUT
    else if rf s R.casREMOTE_EN &&& need ≠ need ∨ 2 ^ 30 < remAddr p + n then ans s stBUS
    else k s) s
/-- READ_PACKET (R338): one word (log entry 22). -/
def execReadPacket (l : Nat) (p : BPkt) (s : State) : Host.Outcome State Fault Refusal :=
  briRecv l p 0x1 0 0 s (remHere l 1 1 p (fun s st => readResp s p st []) fun s =>
    let r := busRead s (16 + l) 2 (remAddr p)
    readResp r.2.2 p r.1 (if r.1 = stOK then [r.2.1] else []))
/-- WRITE_PACKET (R338). -/
def execWritePacket (l : Nat) (p : BPkt) (s : State) : Host.Outcome State Fault Refusal :=
  briRecv l p 0x3 1 16 s (remHere l 2 p.words.length p (fun s st => writeAck s p st) fun s =>
    let r := busWrites s (16 + l) 2 (remAddr p) (p.words.map fun w => (w, true, true))
    writeAck r.2 p r.1)
/-- WRITE_MASKED_PACKET (R338): word 0 holds two bits a word. -/
def execWriteMaskedPacket (l : Nat) (p : BPkt) (s : State) : Host.Outcome State Fault Refusal :=
  briRecv l p 0x4 2 16 s (remHere l 2 (p.words.length - 1) p (fun s st => writeAck s p st) fun s =>
    let m := (p.words.headD 0#36).toNat
    let ws := p.words.drop 1
    let r := busWrites s (16 + l) 2 (remAddr p) (ws.mapIdx fun i w => (w, bit m (2 * i + 1), bit m (2 * i)))
    writeAck r.2 p r.1)
/-- ATOMIC_PACKET (R338): TAG bit 6 selects the operation. -/
def execAtomicPacket (l : Nat) (p : BPkt) (s : State) : Host.Outcome State Fault Refusal :=
  briRecv l p 0x6 1 1 s (remHere l 3 1 p (fun s st => readResp s p st []) fun s =>
    let w := p.words.headD 0#36
    let r := busAtomic s (16 + l) (remAddr p) (if bit p.tag 6 then .swap w else .fadd w)
    readResp r.2.2 p r.1 (if r.1 = stOK then [r.2.1] else []))
/-- SYNC_PACKET (R338): every earlier write has been performed. -/
def execSyncPacket (l : Nat) (p : BPkt) (s : State) : Host.Outcome State Fault Refusal :=
  briRecv l p 0x7 0 0 s (remHere l 0 0 p (fun s st => writeAck s p st) fun s => writeAck s p stOK)
/-- A response reaches the module that asked; one for no outstanding access is dropped (R349). -/
def respHere (l : Nat) (p : BPkt) (s : State) : State :=
  briHere l p (fun s =>
    match s.cas.rem.find? (fun r => decide (r.tag = p.tag) && decide (r.dest = p.src) && r.resp.isNone) with
    | some r => remBack s r (p.addr % 8) p.words
    | none => s) s
/-- READ_RESP (R337). -/
def execReadResp (l : Nat) (p : BPkt) (s : State) : Host.Outcome State Fault Refusal := briRecv l p 0x2 0 16 s (respHere l p)
/-- WRITE_ACK (R337). -/
def execWriteAck (l : Nat) (p : BPkt) (s : State) : Host.Outcome State Fault Refusal := briRecv l p 0x5 0 0 s (respHere l p)

/-! ### Time and ticks (R339 to R341) -/

/-- TIME_TRANSMIT (R339): the master's Device Time, or a follower's own disciplined one. -/
def execTimeTransmit (s : State) : Host.Outcome State Fault Refusal :=
  gate iCAS s fun s =>
    if isMaster s ∨ rf s R.fcTIME_SRC = 8 then
      briDown s ⟨0xC, 0, cascId s, 0, 0, [mkW (dtNs s.devTime), mkW (dtSec s.devTime)]⟩
    else s
/-- TIME_PACKET (R339, R342): a follower takes it from its UP link. -/
def execTimePacket (l : Nat) (p : BPkt) (s : State) : Host.Outcome State Fault Refusal :=
  briRecv l p 0xC 2 2 s fun s =>
    if isMaster s ∨ rb s (R.casIS_UP_LINK l) = false then s else
    let s := modCas s fun c => { c with lastTime := some s.now, lostAt := none, hoDone := false }
    if rf s R.fcTIME_SRC = 8 then
      let t : Int := (p.words.getD 1 0#36).toNat * 1000000000 + (p.words.getD 0 0#36).toNat
      let way : Int := ((rf s (R.casRTT l) : Int) + 2 * sext 16 (rf s (R.casLINK_ASYM l))) / 8
      timeOffset s (t + way - s.devTime)
    else s
/-- A marked tick is raised (R181, R341): one of CASCADE with its place; the master's own tick, but for one that was marked before the place at
which Calliope begins again after a warm reset (R349); a timetable of another source takes no tick of the master's. -/
def markRaise (s : State) (m : Mark) : State :=
  let per := match s.cas.lastMark with | some (_, p) => if p = 0 then none else some p | none => none
  let early := !s.cal.ticked && posLt (m.frame, m.minor) (s.cal.nextF, s.cal.nextM)
  match s.cal.src with
  | some t =>
    if t.kind = 2 then tickRaise s (some (m.frame, m.minor)) m.minor per
    else if isMaster s = false then s
    else if early then tickOut s m.minor per
    else tickRaise s none m.minor per
  | none => tickRaise s (some (m.frame, m.minor)) m.minor per
/-- TICK_MARK (R341, R342): forwarded on arrival; discarded at or before the last tick raised on the module's own; raised at once where late; else
it awaits its instant. -/
def execTickMark (l : Nat) (p : BPkt) (s : State) : Host.Outcome State Fault Refusal :=
  briRecv l p 0xB 4 4 s fun s =>
    if isMaster s ∨ rb s (R.casIS_UP_LINK l) = false then s else
    let s := briDown s p
    let w := fun i => (p.words.getD i 0#36).toNat
    let m : Mark := ⟨w 1 * 1000000000 + w 0, bits (w 2) 15 0, w 3⟩
    let old : Bool := match s.cas.ownLast with | some o => decide (m.at_ ≤ o) | none => false
    if s.cas.lostAt.isSome ∨ old then s else
    let s := modCas s fun c => { c with lastMark := some (m, bits (w 2) 35 16), grid := none, ownLast := none }
    if m.at_ < s.devTime then
      markRaise (notice (raise (cnt (wb s R.casMARK_LATE true) R.casMARK_LATE_CNT) 183) 12 8 0 0) m
    else modCas s fun c => { c with marks := c.marks ++ [m] }
/-- Raise the first waiting marker. -/
def markFirst (s : State) : State :=
  match s.cas.marks with
  | m :: r => markRaise (modCas s fun c => { c with marks := r }) m
  | [] => s
/-- MARKED_TICK_RAISE (R341). -/
def execMarkedTickRaise (s : State) : Host.Outcome State Fault Refusal :=
  gateAon s fun s => match s.cas.marks with | m :: _ => markFirst (devAtLeast s m.at_) | [] => s

/-! ### Master loss (R342) -/

/-- The grid instant after one. -/
def gridNext (s : State) (m : Mark) (per : Nat) : Mark :=
  let ft := calTicks s
  ⟨m.at_ + per, (m.minor + 1) % ft, m.frame + (m.minor + 1) / ft⟩
/-- A tick of the continued grid: a master that marks marks it (R341, R345), else it is raised. -/
def gridRaise (s : State) (m : Mark) (per : Nat) : State :=
  let s := modCas s fun c => { c with grid := some (gridNext s m per), ownLast := some m.at_ }
  if isMaster s ∧ rb s R.casMARK_EN then
    let t := m.at_ + rf s R.casMARK_LEAD * 1000
    let s := modCas s fun c => { c with marks := c.marks ++ [{ m with at_ := t }], lastMark := some ({ m with at_ := t }, per) }
    briDown s ⟨0xB, 0, cascId s, 0, 0, [mkW (dtNs t), mkW (dtSec t), mkW (m.minor + per * 2 ^ 16), mkW m.frame]⟩
  else markRaise s m
/-- Raise the grid instants that have passed, in grid order. -/
def gridPast (s : State) (per : Nat) : Nat → State
  | 0 => s
  | n + 1 => match s.cas.grid with
    | some m => if m.at_ ≤ s.devTime then gridPast (gridRaise s m per) per n else s
    | none => s
/-- Continue the master's grid from the last marker, where it carried a PERIOD_NS. -/
def gridStart (s : State) : State :=
  match s.cas.lastMark with
  | some (m, per) =>
    if per = 0 ∨ s.cas.grid.isSome then s else
    let s := s.cas.marks.foldl (fun s m => if m.at_ ≤ s.devTime then markFirst s else s) s
    gridPast (modCas s fun c => { c with grid := some (gridNext s m per) }) per ((s.devTime - m.at_) / per)
  | none => s
/-- MASTER_LOST (R342): a follower that has had a TIME packet has had none for MASTER_TIMEOUT. -/
def execMasterLost (s : State) : Host.Outcome State Fault Refusal :=
  gate iCAS s fun s =>
    match s.cas.lastTime with
    | none => s
    | some t =>
      if isMaster s ∨ s.cas.lostAt.isSome then s else
      let s := atLeast s (t + rf s R.casMASTER_TIMEOUT * 1000)
      let s := notice (raise (wb s R.casMASTER_LOST true) 181) 12 6 0 0
      gridStart (timeHoldover (modCas s fun c => { c with lostAt := some s.now, hoDone := false }))
/-- HOLDOVER_GRID_TICK (R342, R345). -/
def execHoldoverGridTick (s : State) : Host.Outcome State Fault Refusal :=
  gate iCAS s fun s =>
    match s.cas.grid, s.cas.lastMark with
    | some m, some (_, per) => gridRaise (devAtLeast s m.at_) m per
    | _, _ => s
/-- HOLDOVER_EXPIRY (R342). -/
def execHoldoverExpiry (s : State) : Host.Outcome State Fault Refusal :=
  gate iCAS s fun s =>
    match s.cas.lostAt with
    | none => s
    | some t =>
      if s.cas.hoDone ∨ s.cas.gridFree then s else
      let s := atLeast s (t + rf s R.casHOLDOVER_S * 1000000000)
      let s := notice (raise (modCas s fun c => { c with hoDone := true }) 182) 12 7 0 0
      if isUp s iMWY then calHold s false else s

/-! ### Shadow pairs (R343 to R346) -/

/-- DIGEST (R344): compared with the own digest of its frame, or kept until that closes. -/
def execDigest (l : Nat) (p : BPkt) (s : State) : Host.Outcome State Fault Refusal :=
  briRecv l p 0xD 2 2 s (briHere l p fun s =>
    if rf s R.casSH_ROLE ≠ 2 ∨ p.src ≠ rf s R.casSH_PEER then s else
    let f := (p.words.getD 0 0#36).toNat
    let d := bits (p.words.getD 1 0#36).toNat 31 0
    let s := modCas s fun c => { c with digDue := if c.digDue.map Prod.fst = some f then none else c.digDue }
    match kvFind s.cas.digs f with
    | some own => digCompare (modCas s fun c => { c with digs := kvDel c.digs f }) own d
    | none => modCas s fun c => { c with digIn := c.digIn.drop (c.digIn.length - 15) ++ [(f, d)] })
/-- The takeover of R345, steps 1 to 6. -/
def takeover (s : State) : State :=
  let s := (List.range s.cfg.part.ports).foldl (fun s p => wb s (R.fpTX_INHIBIT p) false) s
  let s := (activeStreams s).foldl (fun s e => keepExpire s e.1 e.2) s
  let s := notice (raise (wb (wf s R.casSH_ROLE 1) R.casTAKEOVER true) 186) 12 10 0 0
  let s := if mode s = mSHADOW then
      if derateCause s then classReq (setMode s mDERATED) 1 true else setMode s mRUN
    else s
  let s := modCas s fun c => { c with digDue := none, digs := [], digIn := [], tookAt := some s.now }
  let fv := freeNat s
  let s := (linkIds s).foldl (fun s l => briSend s l ⟨0xF, rf s R.casSH_PEER, cascId s, 0, fv.1 % 2 ^ 30, []⟩) fv.2
  if isMaster s = false ∧ rf s R.casMASTER_ID = rf s R.casSH_PEER then
    routesNow (gridStart (modCas (wb s R.casIS_MASTER true) fun c => { c with gridFree := true, lostAt := none, hoDone := false }))
  else s
/-- TAKEOVER (R345): DIGEST_WAIT has passed without the digest of the closed frame, and PEER_TIMEOUT without a packet from the primary. -/
def execTakeover (s : State) : Host.Outcome State Fault Refusal :=
  gate iCAS s fun s =>
    match s.cas.digDue with
    | none => s
    | some (_, t) =>
      if rf s R.casSH_ROLE ≠ 2 then s else
      takeover (atLeast s (max (t + rf s R.casDIGEST_WAIT * 1000) (s.cas.peerAt + rf s R.casPEER_TIMEOUT * 1000)))
/-- TAKEOVER_PACKET (R346). -/
def execTakeoverPacket (l : Nat) (p : BPkt) (s : State) : Host.Outcome State Fault Refusal :=
  briRecv l p 0xF 0 0 s (briHere l p fun s => if p.src = rf s R.casSH_PEER then demote s else s)

/-! ### Events and commands (R347, R372) -/

/-- EVENT_PACKET (R347). -/
def execEventPacket (l : Nat) (p : BPkt) (s : State) : Host.Outcome State Fault Refusal :=
  briRecv l p 0x8 2 2 s (briHere l p fun s =>
    if isMaster s then
      raise (wf (wf (wf s R.casEVT_SRC p.src) R.casEVT_CLASS p.addr) R.casEVT_TAG (p.words.getD 1 0#36).toNat) 184
    else s)
/-- Add a segment to the assemblies: the packet, where it is now whole, and the assemblies left. -/
def asmAdd (as_ : List Asm) (p : BPkt) : Option (List HWord) × List Asm :=
  let mine := fun (a : Asm) => decide (a.src = p.src) && decide (a.tag = p.tag)
  let segs := (if p.addr = 0 then [] else ((as_.find? mine).map Asm.segs).getD []) ++ [(p.addr % 4, p.words)]
  let rest := as_.filter (fun a => !mine a)
  let seg := fun i => (segs.find? (fun e => decide (e.1 = i))).map Prod.snd
  let all := fun n => (List.range n).flatMap fun i => ((seg i).getD []).map fun w => hw (bits w.toNat 31 0)
  let len := min 60 (pkLen (all 1))
  let n := (4 + len + 15) / 16
  if (List.range n).all (fun i => (seg i).isSome) ∧ (seg 0).isSome then (some ((all n).take (4 + len)), rest)
  else (none, rest ++ [⟨p.src, p.tag, segs⟩])
/-- A segment of a command for this module: the whole packet is taken in, and a broadcast goes on down (R336). Of this module's own
broadcast, which comes back down from the master, only that. -/
def cmdHere (p : BPkt) (s : State) : State :=
  let a := asmAdd s.cas.asmC p
  let s := modCas s fun c => { c with asmC := a.2 }
  match a.1 with
  | none => s
  | some ws =>
    let s := if pkMod ws = 63 then
        (segments 5 0 ws).foldl (fun s g => briDown s ⟨0x9, 0, p.src, p.tag, g.1, g.2⟩) s
      else s
    if p.src ≠ cascId s ∧ isUp s iHST then intake s (.fwd p.src p.tag) ws else s
/-- COMMAND_PACKET (R347, R372). A command that cannot be delivered is answered by the module that cannot forward it. -/
def execCommandPacket (l : Nat) (p : BPkt) (s : State) : Host.Outcome State Fault Refusal :=
  briRecv l p 0x9 1 16 s fun s =>
    let lost := decide (p.dest ≠ cascId s) && (route s p.dest).isNone
    let s := briHere l p (cmdHere p) s
    if lost ∧ p.addr = 0 then undeliverable s (.fwd p.src p.tag) (p.words.map fun w => hw (bits w.toNat 31 0)) else s
/-- REPLY_PACKET (R372): the whole reply goes back by the command's path. -/
def execReplyPacket (l : Nat) (p : BPkt) (s : State) : Host.Outcome State Fault Refusal :=
  briRecv l p 0xA 1 16 s (briHere l p fun s =>
    let a := asmAdd s.cas.asmR p
    let s := modCas s fun c => { c with asmR := a.2 }
    match a.1 with
    | none => s
    | some ws =>
      match s.hst.fwds.find? (fun f => decide (f.tag = p.tag) && (decide (f.dest = some p.src) || decide (f.dest = none)) && !f.replied.contains p.src) with
      | none => s
      | some f =>
        let more := s.hst.fwds.map (fun g => if g = f then { g with replied := g.replied ++ [p.src] } else g)
        let fs := if f.dest = none then more else s.hst.fwds.erase f
        let s := modHst s fun h => { h with fwds := fs }
        putReply s f.path ws (decide (f.dest ≠ none)))
/-- FWD_TIMEOUT (R372). -/
def execFwdTimeout (tag : Nat) (s : State) : Host.Outcome State Fault Refusal :=
  gate iHST s fun s =>
    match s.hst.fwds.find? (fun f => decide (f.tag = tag)) with
    | none => s
    | some f =>
      let s := modHst (atLeast s f.due) fun h => { h with fwds := h.fwds.erase f }
      match f.dest with
      | some m => answer s f.path f.hdr hsFWDTO m []
      | none => answer s f.path f.hdr hsBCAST (f.replied.foldl (fun n m => n ||| 2 ^ m) 0) []

end Sys2Proof.Machine
end

