-- ==== Sys2Proof/Machine/ClusterExec.lean ====
section
/-! DEFINITION. One meaning per cluster operation: it is issued by cluster n as part of the bundle being issued (R134); what it
does there is its effect in ClusterOps (Tables COP-2 to COP-6). -/

namespace Sys2Proof.Machine

/-- The operation word (Table CLU-2) of a head, slot and BODY. -/
def opWord (h : OpHead) (unit body : Nat) : Word :=
  mkW (b2n h.last * 2 ^ 35 + unit % 8 * 2 ^ 32 + h.cond.toNat * 2 ^ 28 + body % 2 ^ 28)
/-- The word of an operation with a 6-bit OPC and 22 operand bits. -/
def opWord22 (h : OpHead) (unit opc : Nat) (b : BitVec 22) : Word := opWord h unit (opc * 2 ^ 22 + b.toNat)

/-- Slot of an M-unit operation. -/
def slotM (h : OpHead) : Nat := if h.alt then 1 else 0
/-- Slot of an A-unit operation. -/
def slotA (h : OpHead) : Nat := if h.alt then 3 else 2
/-- Slot of a memory operation: X or Y. -/
def slotXY (h : OpHead) : Nat := if h.alt then 5 else 4

/-- NOP in any unit (R163). -/
def execNop (n : Nat) (h : OpHead) (unit : BitVec 3) (s : State) : Host.Outcome State Fault Refusal :=
  gateCl n s (clIssue n (opWord h unit.toNat 0))
/-- MAC (R166). -/
def execMac (n : Nat) (h : OpHead) (b : BitVec 22) (s : State) : Host.Outcome State Fault Refusal :=
  gateCl n s (clIssue n (opWord22 h (slotM h) 0x1 b))
/-- MACH (R166). -/
def execMach (n : Nat) (h : OpHead) (b : BitVec 22) (s : State) : Host.Outcome State Fault Refusal :=
  gateCl n s (clIssue n (opWord22 h (slotM h) 0x2 b))
/-- MACX (R166). -/
def execMacx (n : Nat) (h : OpHead) (b : BitVec 22) (s : State) : Host.Outcome State Fault Refusal :=
  gateCl n s (clIssue n (opWord22 h (slotM h) 0x3 b))
/-- ACLD (R167). -/
def execAcld (n : Nat) (h : OpHead) (b : BitVec 22) (s : State) : Host.Outcome State Fault Refusal :=
  gateCl n s (clIssue n (opWord22 h (slotM h) 0x4 b))
/-- SACQ (R31). -/
def execSacq (n : Nat) (h : OpHead) (b : BitVec 22) (s : State) : Host.Outcome State Fault Refusal :=
  gateCl n s (clIssue n (opWord22 h (slotM h) 0x8 b))
/-- SACI (R31). -/
def execSaci (n : Nat) (h : OpHead) (b : BitVec 22) (s : State) : Host.Outcome State Fault Refusal :=
  gateCl n s (clIssue n (opWord22 h (slotM h) 0x9 b))
/-- SACH (R31). -/
def execSach (n : Nat) (h : OpHead) (b : BitVec 22) (s : State) : Host.Outcome State Fault Refusal :=
  gateCl n s (clIssue n (opWord22 h (slotM h) 0xA b))
/-- SACD (R31). -/
def execSacd (n : Nat) (h : OpHead) (b : BitVec 22) (s : State) : Host.Outcome State Fault Refusal :=
  gateCl n s (clIssue n (opWord22 h (slotM h) 0xB b))
/-- SACDI (R31). -/
def execSacdi (n : Nat) (h : OpHead) (b : BitVec 22) (s : State) : Host.Outcome State Fault Refusal :=
  gateCl n s (clIssue n (opWord22 h (slotM h) 0xC b))
/-- SACW (R167). -/
def execSacw (n : Nat) (h : OpHead) (b : BitVec 22) (s : State) : Host.Outcome State Fault Refusal :=
  gateCl n s (clIssue n (opWord22 h (slotM h) 0xD b))
/-- MUL (R168). -/
def execMul (n : Nat) (h : OpHead) (b : BitVec 22) (s : State) : Host.Outcome State Fault Refusal :=
  gateCl n s (clIssue n (opWord22 h (slotM h) 0x10 b))
/-- MULQ (R168). -/
def execMulq (n : Nat) (h : OpHead) (b : BitVec 22) (s : State) : Host.Outcome State Fault Refusal :=
  gateCl n s (clIssue n (opWord22 h (slotM h) 0x11 b))
/-- MULH (R168). -/
def execMulh (n : Nat) (h : OpHead) (b : BitVec 22) (s : State) : Host.Outcome State Fault Refusal :=
  gateCl n s (clIssue n (opWord22 h (slotM h) 0x12 b))
/-- MULHQ (R168). -/
def execMulhq (n : Nat) (h : OpHead) (b : BitVec 22) (s : State) : Host.Outcome State Fault Refusal :=
  gateCl n s (clIssue n (opWord22 h (slotM h) 0x13 b))
/-- MULD (R168). -/
def execMuld (n : Nat) (h : OpHead) (b : BitVec 22) (s : State) : Host.Outcome State Fault Refusal :=
  gateCl n s (clIssue n (opWord22 h (slotM h) 0x14 b))
/-- FADD (R36). -/
def execFadd (n : Nat) (h : OpHead) (b : BitVec 22) (s : State) : Host.Outcome State Fault Refusal :=
  gateCl n s (clIssue n (opWord22 h (slotM h) 0x18 b))
/-- FSUB (R36). -/
def execFsub (n : Nat) (h : OpHead) (b : BitVec 22) (s : State) : Host.Outcome State Fault Refusal :=
  gateCl n s (clIssue n (opWord22 h (slotM h) 0x19 b))
/-- FMUL (R36). -/
def execFmul (n : Nat) (h : OpHead) (b : BitVec 22) (s : State) : Host.Outcome State Fault Refusal :=
  gateCl n s (clIssue n (opWord22 h (slotM h) 0x1A b))
/-- FMA (R168). -/
def execFma (n : Nat) (h : OpHead) (b : BitVec 22) (s : State) : Host.Outcome State Fault Refusal :=
  gateCl n s (clIssue n (opWord22 h (slotM h) 0x1B b))
/-- FNMA (R168). -/
def execFnma (n : Nat) (h : OpHead) (b : BitVec 22) (s : State) : Host.Outcome State Fault Refusal :=
  gateCl n s (clIssue n (opWord22 h (slotM h) 0x1C b))
/-- ADD (R169). -/
def execAdd (n : Nat) (h : OpHead) (b : BitVec 22) (s : State) : Host.Outcome State Fault Refusal :=
  gateCl n s (clIssue n (opWord22 h (slotA h) 0x1 b))
/-- SUB (R169). -/
def execSub (n : Nat) (h : OpHead) (b : BitVec 22) (s : State) : Host.Outcome State Fault Refusal :=
  gateCl n s (clIssue n (opWord22 h (slotA h) 0x2 b))
/-- ADDI (R169). -/
def execAddi (n : Nat) (h : OpHead) (b : BitVec 22) (s : State) : Host.Outcome State Fault Refusal :=
  gateCl n s (clIssue n (opWord22 h (slotA h) 0x3 b))
/-- NEG (R169). -/
def execNeg (n : Nat) (h : OpHead) (b : BitVec 22) (s : State) : Host.Outcome State Fault Refusal :=
  gateCl n s (clIssue n (opWord22 h (slotA h) 0x4 b))
/-- ABS (R169). -/
def execAbs (n : Nat) (h : OpHead) (b : BitVec 22) (s : State) : Host.Outcome State Fault Refusal :=
  gateCl n s (clIssue n (opWord22 h (slotA h) 0x5 b))
/-- MIN (R169). -/
def execMin (n : Nat) (h : OpHead) (b : BitVec 22) (s : State) : Host.Outcome State Fault Refusal :=
  gateCl n s (clIssue n (opWord22 h (slotA h) 0x6 b))
/-- MAX (R169). -/
def execMax (n : Nat) (h : OpHead) (b : BitVec 22) (s : State) : Host.Outcome State Fault Refusal :=
  gateCl n s (clIssue n (opWord22 h (slotA h) 0x7 b))
/-- AND (R169). -/
def execAnd (n : Nat) (h : OpHead) (b : BitVec 22) (s : State) : Host.Outcome State Fault Refusal :=
  gateCl n s (clIssue n (opWord22 h (slotA h) 0x8 b))
/-- OR (R169). -/
def execOr (n : Nat) (h : OpHead) (b : BitVec 22) (s : State) : Host.Outcome State Fault Refusal :=
  gateCl n s (clIssue n (opWord22 h (slotA h) 0x9 b))
/-- XOR (R169). -/
def execXor (n : Nat) (h : OpHead) (b : BitVec 22) (s : State) : Host.Outcome State Fault Refusal :=
  gateCl n s (clIssue n (opWord22 h (slotA h) 0xA b))
/-- ANDN (R169). -/
def execAndn (n : Nat) (h : OpHead) (b : BitVec 22) (s : State) : Host.Outcome State Fault Refusal :=
  gateCl n s (clIssue n (opWord22 h (slotA h) 0xB b))
/-- NOT (R169). -/
def execNot (n : Nat) (h : OpHead) (b : BitVec 22) (s : State) : Host.Outcome State Fault Refusal :=
  gateCl n s (clIssue n (opWord22 h (slotA h) 0xC b))
/-- MOV (R169). -/
def execMov (n : Nat) (h : OpHead) (b : BitVec 22) (s : State) : Host.Outcome State Fault Refusal :=
  gateCl n s (clIssue n (opWord22 h (slotA h) 0xD b))
/-- SHL (R169). -/
def execShl (n : Nat) (h : OpHead) (b : BitVec 22) (s : State) : Host.Outcome State Fault Refusal :=
  gateCl n s (clIssue n (opWord22 h (slotA h) 0x10 b))
/-- SHRA (R169). -/
def execShra (n : Nat) (h : OpHead) (b : BitVec 22) (s : State) : Host.Outcome State Fault Refusal :=
  gateCl n s (clIssue n (opWord22 h (slotA h) 0x11 b))
/-- SHRL (R169). -/
def execShrl (n : Nat) (h : OpHead) (b : BitVec 22) (s : State) : Host.Outcome State Fault Refusal :=
  gateCl n s (clIssue n (opWord22 h (slotA h) 0x12 b))
/-- SHLI (R169). -/
def execShli (n : Nat) (h : OpHead) (b : BitVec 22) (s : State) : Host.Outcome State Fault Refusal :=
  gateCl n s (clIssue n (opWord22 h (slotA h) 0x13 b))
/-- SHRAI (R169). -/
def execShrai (n : Nat) (h : OpHead) (b : BitVec 22) (s : State) : Host.Outcome State Fault Refusal :=
  gateCl n s (clIssue n (opWord22 h (slotA h) 0x14 b))
/-- SHRLI (R169). -/
def execShrli (n : Nat) (h : OpHead) (b : BitVec 22) (s : State) : Host.Outcome State Fault Refusal :=
  gateCl n s (clIssue n (opWord22 h (slotA h) 0x15 b))
/-- CMP (R170). -/
def execCmp (n : Nat) (h : OpHead) (b : BitVec 22) (s : State) : Host.Outcome State Fault Refusal :=
  gateCl n s (clIssue n (opWord22 h (slotA h) 0x18 b))
/-- CMPU (R170). -/
def execCmpu (n : Nat) (h : OpHead) (b : BitVec 22) (s : State) : Host.Outcome State Fault Refusal :=
  gateCl n s (clIssue n (opWord22 h (slotA h) 0x19 b))
/-- FCMP (R170). -/
def execFcmp (n : Nat) (h : OpHead) (b : BitVec 22) (s : State) : Host.Outcome State Fault Refusal :=
  gateCl n s (clIssue n (opWord22 h (slotA h) 0x1A b))
/-- CMPI (R170). -/
def execCmpi (n : Nat) (h : OpHead) (b : BitVec 22) (s : State) : Host.Outcome State Fault Refusal :=
  gateCl n s (clIssue n (opWord22 h (slotA h) 0x1B b))
/-- CLOG (R170). -/
def execClog (n : Nat) (h : OpHead) (b : BitVec 22) (s : State) : Host.Outcome State Fault Refusal :=
  gateCl n s (clIssue n (opWord22 h (slotA h) 0x1C b))
/-- MVR (R171). -/
def execMvr (n : Nat) (h : OpHead) (b : BitVec 22) (s : State) : Host.Outcome State Fault Refusal :=
  gateCl n s (clIssue n (opWord22 h (slotA h) 0x20 b))
/-- MVRI (R171). -/
def execMvri (n : Nat) (h : OpHead) (b : BitVec 22) (s : State) : Host.Outcome State Fault Refusal :=
  gateCl n s (clIssue n (opWord22 h (slotA h) 0x21 b))
/-- GETR (R171). -/
def execGetr (n : Nat) (h : OpHead) (b : BitVec 22) (s : State) : Host.Outcome State Fault Refusal :=
  gateCl n s (clIssue n (opWord22 h (slotA h) 0x22 b))
/-- SETS (R171, format K). -/
def execSets (n : Nat) (h : OpHead) (dst : BitVec 6) (imm : BitVec 18) (s : State) : Host.Outcome State Fault Refusal :=
  gateCl n s (clIssue n (opWord h (slotA h) (14 * 2 ^ 24 + dst.toNat * 2 ^ 18 + imm.toNat)))
/-- SETH (R171, format K). -/
def execSeth (n : Nat) (h : OpHead) (dst : BitVec 6) (imm : BitVec 18) (s : State) : Host.Outcome State Fault Refusal :=
  gateCl n s (clIssue n (opWord h (slotA h) (15 * 2 ^ 24 + dst.toNat * 2 ^ 18 + imm.toNat)))
/-- LD (R172). -/
def execLd (n : Nat) (h : OpHead) (b : BitVec 22) (s : State) : Host.Outcome State Fault Refusal :=
  gateCl n s (clIssue n (opWord22 h (slotXY h) 0x1 b))
/-- LDH0 (R172). -/
def execLdh0 (n : Nat) (h : OpHead) (b : BitVec 22) (s : State) : Host.Outcome State Fault Refusal :=
  gateCl n s (clIssue n (opWord22 h (slotXY h) 0x2 b))
/-- LDH1 (R172). -/
def execLdh1 (n : Nat) (h : OpHead) (b : BitVec 22) (s : State) : Host.Outcome State Fault Refusal :=
  gateCl n s (clIssue n (opWord22 h (slotXY h) 0x3 b))
/-- LDD (R173). -/
def execLdd (n : Nat) (h : OpHead) (b : BitVec 22) (s : State) : Host.Outcome State Fault Refusal :=
  gateCl n s (clIssue n (opWord22 h (slotXY h) 0x4 b))
/-- ST (R172). -/
def execSt (n : Nat) (h : OpHead) (b : BitVec 22) (s : State) : Host.Outcome State Fault Refusal :=
  gateCl n s (clIssue n (opWord22 h (slotXY h) 0x8 b))
/-- STH0 (R173). -/
def execSth0 (n : Nat) (h : OpHead) (b : BitVec 22) (s : State) : Host.Outcome State Fault Refusal :=
  gateCl n s (clIssue n (opWord22 h (slotXY h) 0x9 b))
/-- STH1 (R173). -/
def execSth1 (n : Nat) (h : OpHead) (b : BitVec 22) (s : State) : Host.Outcome State Fault Refusal :=
  gateCl n s (clIssue n (opWord22 h (slotXY h) 0xA b))
/-- STD (R173). -/
def execStd (n : Nat) (h : OpHead) (b : BitVec 22) (s : State) : Host.Outcome State Fault Refusal :=
  gateCl n s (clIssue n (opWord22 h (slotXY h) 0xB b))
/-- MODP (R172). -/
def execModp (n : Nat) (h : OpHead) (b : BitVec 22) (s : State) : Host.Outcome State Fault Refusal :=
  gateCl n s (clIssue n (opWord22 h (slotXY h) 0x10 b))
/-- BR (R151). -/
def execBr (n : Nat) (h : OpHead) (b : BitVec 22) (s : State) : Host.Outcome State Fault Refusal :=
  gateCl n s (clIssue n (opWord22 h 6 0x1 b))
/-- BRR (R151). -/
def execBrr (n : Nat) (h : OpHead) (b : BitVec 22) (s : State) : Host.Outcome State Fault Refusal :=
  gateCl n s (clIssue n (opWord22 h 6 0x2 b))
/-- HALT (R153). -/
def execHalt (n : Nat) (h : OpHead) (b : BitVec 22) (s : State) : Host.Outcome State Fault Refusal :=
  gateCl n s (clIssue n (opWord22 h 6 0x3 b))
/-- LEND (R174). -/
def execLend (n : Nat) (h : OpHead) (b : BitVec 22) (s : State) : Host.Outcome State Fault Refusal :=
  gateCl n s (clIssue n (opWord22 h 6 0x4 b))
/-- LOOPR (R149, format LR). -/
def execLoopr (n : Nat) (h : OpHead) (rot : Bool) (b : BitVec 22) (s : State) : Host.Outcome State Fault Refusal :=
  gateCl n s (clIssue n (opWord22 h 6 (6 + b2n rot) b))
/-- LOOPI (R149, format LI). -/
def execLoopi (n : Nat) (h : OpHead) (rot : Bool) (count : BitVec 24) (s : State) : Host.Outcome State Fault Refusal :=
  gateCl n s (clIssue n (opWord h 6 (7 * 2 ^ 25 + b2n rot * 2 ^ 24 + count.toNat)))
/-- SMAX (R176). -/
def execSmax (n : Nat) (h : OpHead) (b : BitVec 22) (s : State) : Host.Outcome State Fault Refusal :=
  gateCl n s (clIssue n (opWord22 h 7 0x1 b))
/-- SMIN (R176). -/
def execSmin (n : Nat) (h : OpHead) (b : BitVec 22) (s : State) : Host.Outcome State Fault Refusal :=
  gateCl n s (clIssue n (opWord22 h 7 0x2 b))
/-- DIV (R177). -/
def execDiv (n : Nat) (h : OpHead) (b : BitVec 22) (s : State) : Host.Outcome State Fault Refusal :=
  gateCl n s (clIssue n (opWord22 h 7 0x8 b))
/-- DIVR (R177). -/
def execDivr (n : Nat) (h : OpHead) (b : BitVec 22) (s : State) : Host.Outcome State Fault Refusal :=
  gateCl n s (clIssue n (opWord22 h 7 0x9 b))
/-- QDIV (R177). -/
def execQdiv (n : Nat) (h : OpHead) (b : BitVec 22) (s : State) : Host.Outcome State Fault Refusal :=
  gateCl n s (clIssue n (opWord22 h 7 0xA b))
/-- FDIV (R177). -/
def execFdiv (n : Nat) (h : OpHead) (b : BitVec 22) (s : State) : Host.Outcome State Fault Refusal :=
  gateCl n s (clIssue n (opWord22 h 7 0xB b))
/-- FSQRT (R177). -/
def execFsqrt (n : Nat) (h : OpHead) (b : BitVec 22) (s : State) : Host.Outcome State Fault Refusal :=
  gateCl n s (clIssue n (opWord22 h 7 0xC b))
/-- CVT (R178). -/
def execCvt (n : Nat) (h : OpHead) (b : BitVec 22) (s : State) : Host.Outcome State Fault Refusal :=
  gateCl n s (clIssue n (opWord22 h 7 0x10 b))
/-- RSAT (R179). -/
def execRsat (n : Nat) (h : OpHead) (b : BitVec 22) (s : State) : Host.Outcome State Fault Refusal :=
  gateCl n s (clIssue n (opWord22 h 7 0x11 b))
/-- CLS (R180). -/
def execCls (n : Nat) (h : OpHead) (b : BitVec 22) (s : State) : Host.Outcome State Fault Refusal :=
  gateCl n s (clIssue n (opWord22 h 7 0x18 b))
/-- POPC (R180). -/
def execPopc (n : Nat) (h : OpHead) (b : BitVec 22) (s : State) : Host.Outcome State Fault Refusal :=
  gateCl n s (clIssue n (opWord22 h 7 0x19 b))
/-- EXTU (R180). -/
def execExtu (n : Nat) (h : OpHead) (b : BitVec 22) (s : State) : Host.Outcome State Fault Refusal :=
  gateCl n s (clIssue n (opWord22 h 7 0x1A b))
/-- EXTS (R180). -/
def execExts (n : Nat) (h : OpHead) (b : BitVec 22) (s : State) : Host.Outcome State Fault Refusal :=
  gateCl n s (clIssue n (opWord22 h 7 0x1B b))
/-- INS (R180). -/
def execIns (n : Nat) (h : OpHead) (b : BitVec 22) (s : State) : Host.Outcome State Fault Refusal :=
  gateCl n s (clIssue n (opWord22 h 7 0x1C b))
/-- BREV (R180). -/
def execBrev (n : Nat) (h : OpHead) (b : BitVec 22) (s : State) : Host.Outcome State Fault Refusal :=
  gateCl n s (clIssue n (opWord22 h 7 0x1D b))

end Sys2Proof.Machine
end

