-- ==== Sys2Proof/Machine/FieldRx.lean ====
section
/-! DEFINITION. Receiving frames at a field port: encapsulations, signal frames, node checks, PTP and ARP (R211 to R217, R219). -/

namespace Sys2Proof.Machine

/-- Octet i of a frame's body. -/
def ob (b : List (BitVec 8)) (i : Nat) : Nat := (b.getD i 0#8).toNat
/-- A big-endian field of n octets. -/
def be (b : List (BitVec 8)) (i : Nat) : Nat → Nat
  | 0 => 0
  | n + 1 => ob b i * 256 ^ n + be b (i + 1) n
/-- The octets of a payload as a PACK9 stream cut into words (R212). -/
def payWords (b : List (BitVec 8)) : List Word := unpackWords (8 * b.length / 36) (fromOctets (b.map (·.toNat)))
/-- A payload as little-endian host words (R22). -/
def payHost : Nat → List (BitVec 8) → List HWord
  | 0, _ => []
  | n + 1, b => hw (ob b 0 + 256 * ob b 1 + 65536 * ob b 2 + 16777216 * ob b 3) :: payHost n (b.drop 4)

/-- A signal payload's records (Table FLD-3, R213): `none` where they break its rules. The first argument bounds their number. -/
def parseRecs (node : Nat) : Nat → List Word → Option (List RxRec)
  | 0, ws => if ws = [] ∨ ws = [0#36] then some [] else none
  | f + 1, ws =>
    match ws with
    | [] => some []
    | [w] => if w = 0#36 then some [] else none
    | w0 :: t :: r =>
      let kind := bits w0.toNat 35 34
      let n := bits w0.toNat 17 6
      let ch := bits w0.toNat 33 18
      if 1 < kind ∨ n = 0 ∨ bits w0.toNat 5 0 ≠ 0 then none
      else if kind = 0 then
        if r.length < n ∨ 65535 < ch + n - 1 then none
        else (parseRecs node f (r.drop n)).map (fun l => ⟨node, false, ch, t.toNat, 0, r.take n, 0⟩ :: l)
      else
        match r with
        | [] => none
        | st :: v =>
          if v.length < n ∨ st.toNat = 0 ∨ 2 ^ 24 ≤ st.toNat then none
          else (parseRecs node f (v.drop n)).map (fun l => ⟨node, true, ch, t.toNat, st.toNat, v.take n, 0⟩ :: l)

/-- The check of a node's entry (R214): rejected, with NODE_REJECT. -/
def nodeRejects (s : State) (p n : Nat) (udp : Bool) (src : Nat) : Bool :=
  !rb s (R.ndVALID n) || decide (rf s (R.ndPORT n) ≠ p) || (rb s (R.ndENCAP n) != udp) ||
  (udp && decide (rf s (R.ndIPV4 n) ≠ src))
/-- Count an accepted frame of a node (R214). -/
def nodeAccept (s : State) (p n seq : Nat) : State :=
  let s := wf (wb (wf s (R.ndLAST_SEQ n) seq) (R.ndSEEN n) true) (R.ndLAST_TAG n) (tagNow s)
  cnt s (R.fpRX_FRAMES p)
/-- An accepted frame's sequence number (R214): whether the frame goes on. -/
def seqCheck (s : State) (p n seq : Nat) : Bool × State :=
  if rb s (R.ndSEQ_CHECK n) ∧ rb s (R.ndSEEN n) then
    let d := (seq + 65536 - rf s (R.ndLAST_SEQ n)) % 65536
    if d = 0 ∨ 32768 ≤ d then (false, cnt s (R.ndDUP_CNT n))
    else (true, nodeAccept (cntAdd s (R.ndSEQ_GAP_CNT n) (d - 1)) p n seq)
  else (true, nodeAccept s p n seq)

def rxBad (s : State) (p : Nat) : State := cnt s (R.fpRX_BAD p)
def rxOther (s : State) (p : Nat) : State := cnt s (R.fpRX_OTHER p)

/-- A signal frame (R212 to R214): checked whole, then against its node; sample records wait for the classifier, an event frame goes to
the coalescer (R217). `size`: octets of buffer the frame takes. -/
def signalFrame (s : State) (p : Nat) (udp : Bool) (src : Nat) (b : List (BitVec 8)) (size : Nat) : State :=
  let ws := payWords b
  let w0 := (ws.getD 0 0#36).toNat
  let w1 := (ws.getD 1 0#36).toNat
  let ft := bits w0 31 28
  let n := bits w0 27 16
  let lenw := bits w1 13 0
  if ws.length < 2 ∨ bits w0 35 32 ≠ 1 ∨ (ft ≠ 1 ∧ ft ≠ 3) ∨ lenw % 2 = 1 ∨ lenw < 2 ∨ ws.length < lenw ∨
      payLimit (rb s (R.fpJUMBO p)) udp < lenw ∨ bits w1 15 14 ≠ 0 ∨ bits w1 35 20 ≠ 0 ∨ (ft = 1 ∧ bits w1 19 16 ≠ 0) ∨
      (ft = 3 ∧ lenw ≠ 4) then rxBad s p
  else
    let body := (ws.take lenw).drop 2
    let recs := if ft = 1 then parseRecs n lenw body else some []
    match recs with
    | none => rxBad s p
    | some rs =>
      if nodeRejects s p n udp src then
        notice (cnt (raiseIf (wb s R.fcNODE_REJECT true) (!rb s R.fcNODE_REJECT) 146) R.fcNODE_REJECT_CNT) 7 26 p p
      else
        let c := seqCheck s p n (bits w0 15 0)
        if c.1 = false then c.2
        else if ft = 3 then eventFrame c.2 (bits w1 19 16) n (body.getD 0 0#36) (body.getD 1 0#36)
        else
          match rs.reverse with
          | [] => c.2
          | l :: r => modPort c.2 p fun k =>
              { k with recs := k.recs ++ ({ l with size := size } :: r).reverse, bufUsed := k.bufUsed + size }

/-- Internet checksum: the 16-bit ones' complement sum of big-endian octet pairs. -/
def csum (b : List (BitVec 8)) : Nat :=
  (List.range ((b.length + 1) / 2)).foldl (fun a i =>
    let t := a + be b (2 * i) 2
    t % 65536 + t / 65536) 0
/-- Whether a non-zero UDP checksum holds (R211): pseudo-header, UDP header and data sum to all ones. -/
def udpSumOk (b : List (BitVec 8)) (len : Nat) : Bool :=
  if be b 26 2 = 0 then true else
  let ph := (b.drop 12).take 8 ++ [0#8, 17#8] ++ [BitVec.ofNat 8 (len / 256), BitVec.ofNat 8 len]
  let u := (b.drop 20).take len
  decide (csum (ph ++ u) = 65535)

/-- A PTP message (R219): on the port that TIME_SRC names, as time receiver, sync information measures an offset that the spec does
not fix; a peer-delay request is answered, and a response with its follow-up gives the link's delay: half of what the two stays at the
ports leave (log entry 59). -/
def ptpMessage (s : State) (p : Nat) (b : List (BitVec 8)) (srcMac : Nat) : State :=
  let ty := ob b 0 % 16
  let seq := be b 30 2
  let stamp := be b 34 6 * 1000000000 + be b 40 4
  if ob b 4 ≠ 0 then s
  else if ty = 3 then
    match (port s p).pdReq with
    | some q => if q.1 = seq then modPort s p fun k => { k with pdResp := some (stamp, s.devTime) } else s
    | none => s
  else if ty = 10 then
    match (port s p).pdReq, (port s p).pdResp with
    | some q, some r =>
      if q.1 = seq then
        let d : Int := (((r.2 : Int) - q.2) - ((stamp : Int) - r.1)) / 2
        modPort s p fun k => { k with pdelay := some d, pdReq := none, pdResp := none }
      else s
    | _, _ => s
  else if ty = 2 then txQueue s p ⟨.ptp, 3, seq, [mkW (dtNs s.devTime), mkW (dtSec s.devTime)], srcMac, 0, 0, []⟩
  else if (ty = 8 ∨ (ty = 0 ∧ ob b 6 / 2 % 2 = 0)) ∧ ptpRole s p = 2 then
    let v := freeWord s
    timeOffset v.2 (sext 36 v.1.toNat)
  else s
/-- An ARP frame (R211): a request for IPV4 is answered. -/
def arpFrame (s : State) (p : Nat) (b : List (BitVec 8)) : State :=
  if be b 0 2 = 1 ∧ be b 2 2 = 0x0800 ∧ ob b 4 = 6 ∧ ob b 5 = 4 ∧ be b 6 2 = 1 ∧ 28 ≤ b.length ∧ be b 24 4 = rf s (R.fpIPV4 p) then
    txQueue s p ⟨.other, 0, 0, [], be b 8 6, be b 14 4, 0, []⟩
  else s
/-- An IPv4 frame (R211): signal or command datagram, else dropped. -/
def ipFrame (s : State) (p : Nat) (f : RxFrame) (size : Nat) : State :=
  let b := f.body
  let tot := be b 2 2
  let len := be b 24 2
  if b.length < 28 ∨ ob b 0 ≠ 0x45 ∨ be b 6 2 % 16384 ≠ 0 ∨ ob b 9 ≠ 17 ∨ be b 16 4 ≠ rf s (R.fpIPV4 p) ∨ len < 8 ∨
      b.length < 20 + len ∨ tot < 20 + len then rxOther s p
  else
    let dp := be b 22 2
    let pl := (b.drop 28).take (len - 8)
    let src := be b 12 4
    if dp = rf s R.fcUDP_PORT then if udpSumOk b len then signalFrame s p true src pl size else rxBad s p
    else if dp = rf s R.hstCMD_PORT ∧ cmdPort s p then
      if udpSumOk b len then udpCommand s p f.srcMac src (be b 20 2) pl.length (payHost (pl.length / 4) pl) else rxBad s p
    else rxOther s p

/-- RECEIVE_FRAME (R211): the first matching case. -/
def execReceiveFrame (p : Nat) (f : RxFrame) (s : State) : Host.Outcome State Fault Refusal :=
  gatePort p s fun s =>
    if rf s (R.fpUNIT_STATE p) ≠ usON ∨ rb s (R.fpLINK p) = false then s
    else if f.fcsOk = false then cnt s (R.fpRX_FCS p)
    else
      let size := f.body.length + 18 + 4 * f.tags
      if 65536 < (port s p).bufUsed + size then fpStick (cnt s (R.fpRX_DROP_CNT p)) p (R.fpRX_DROP p) 1
      else if 1 < f.tags then rxOther s p
      else if f.etype = 0x88F7 then ptpMessage s p f.body f.srcMac
      else if f.etype = 0x0806 then arpFrame s p f.body
      else if f.etype = rf s R.fcETYPE then signalFrame s p false 0 f.body size
      else if f.etype = 0x0800 then ipFrame s p f size
      else rxOther s p

end Sys2Proof.Machine
end

