-- ==== Sys2Proof/Machine/Crypto.lean ====
section
/-! DEFINITION. The hash functions and the signature check that R195 and R370 name: SHA-256, SHA-512 (FIPS 180-4) and Ed25519 (RFC 8032) with
the cofactored equation. -/

namespace Sys2Proof.Machine

/-! ### SHA-2 -/

/-- A member of SHA-2: word width, round constants, initial hash, rotations of the two big and the two small functions (the last of a small
one shifts). -/
structure Sha where
  w : Nat
  k : List Nat
  h : List Nat
  b0 : List Nat
  b1 : List Nat
  s0 : List Nat
  s1 : List Nat
  deriving DecidableEq, Repr

def sha256K : List Nat :=
  [0x428a2f98, 0x71374491, 0xb5c0fbcf, 0xe9b5dba5, 0x3956c25b, 0x59f111f1, 0x923f82a4, 0xab1c5ed5] ++
  [0xd807aa98, 0x12835b01, 0x243185be, 0x550c7dc3, 0x72be5d74, 0x80deb1fe, 0x9bdc06a7, 0xc19bf174] ++
  [0xe49b69c1, 0xefbe4786, 0x0fc19dc6, 0x240ca1cc, 0x2de92c6f, 0x4a7484aa, 0x5cb0a9dc, 0x76f988da] ++
  [0x983e5152, 0xa831c66d, 0xb00327c8, 0xbf597fc7, 0xc6e00bf3, 0xd5a79147, 0x06ca6351, 0x14292967] ++
  [0x27b70a85, 0x2e1b2138, 0x4d2c6dfc, 0x53380d13, 0x650a7354, 0x766a0abb, 0x81c2c92e, 0x92722c85] ++
  [0xa2bfe8a1, 0xa81a664b, 0xc24b8b70, 0xc76c51a3, 0xd192e819, 0xd6990624, 0xf40e3585, 0x106aa070] ++
  [0x19a4c116, 0x1e376c08, 0x2748774c, 0x34b0bcb5, 0x391c0cb3, 0x4ed8aa4a, 0x5b9cca4f, 0x682e6ff3] ++
  [0x748f82ee, 0x78a5636f, 0x84c87814, 0x8cc70208, 0x90befffa, 0xa4506ceb, 0xbef9a3f7, 0xc67178f2]
def sha512K : List Nat :=
  [0x428a2f98d728ae22, 0x7137449123ef65cd, 0xb5c0fbcfec4d3b2f, 0xe9b5dba58189dbbc] ++
  [0x3956c25bf348b538, 0x59f111f1b605d019, 0x923f82a4af194f9b, 0xab1c5ed5da6d8118] ++
  [0xd807aa98a3030242, 0x12835b0145706fbe, 0x243185be4ee4b28c, 0x550c7dc3d5ffb4e2] ++
  [0x72be5d74f27b896f, 0x80deb1fe3b1696b1, 0x9bdc06a725c71235, 0xc19bf174cf692694] ++
  [0xe49b69c19ef14ad2, 0xefbe4786384f25e3, 0x0fc19dc68b8cd5b5, 0x240ca1cc77ac9c65] ++
  [0x2de92c6f592b0275, 0x4a7484aa6ea6e483, 0x5cb0a9dcbd41fbd4, 0x76f988da831153b5] ++
  [0x983e5152ee66dfab, 0xa831c66d2db43210, 0xb00327c898fb213f, 0xbf597fc7beef0ee4] ++
  [0xc6e00bf33da88fc2, 0xd5a79147930aa725, 0x06ca6351e003826f, 0x142929670a0e6e70] ++
  [0x27b70a8546d22ffc, 0x2e1b21385c26c926, 0x4d2c6dfc5ac42aed, 0x53380d139d95b3df] ++
  [0x650a73548baf63de, 0x766a0abb3c77b2a8, 0x81c2c92e47edaee6, 0x92722c851482353b] ++
  [0xa2bfe8a14cf10364, 0xa81a664bbc423001, 0xc24b8b70d0f89791, 0xc76c51a30654be30] ++
  [0xd192e819d6ef5218, 0xd69906245565a910, 0xf40e35855771202a, 0x106aa07032bbd1b8] ++
  [0x19a4c116b8d2d0c8, 0x1e376c085141ab53, 0x2748774cdf8eeb99, 0x34b0bcb5e19b48a8] ++
  [0x391c0cb3c5c95a63, 0x4ed8aa4ae3418acb, 0x5b9cca4f7763e373, 0x682e6ff3d6b2b8a3] ++
  [0x748f82ee5defb2fc, 0x78a5636f43172f60, 0x84c87814a1f0ab72, 0x8cc702081a6439ec] ++
  [0x90befffa23631e28, 0xa4506cebde82bde9, 0xbef9a3f7b2c67915, 0xc67178f2e372532b] ++
  [0xca273eceea26619c, 0xd186b8c721c0c207, 0xeada7dd6cde0eb1e, 0xf57d4f7fee6ed178] ++
  [0x06f067aa72176fba, 0x0a637dc5a2c898a6, 0x113f9804bef90dae, 0x1b710b35131c471b] ++
  [0x28db77f523047d84, 0x32caab7b40c72493, 0x3c9ebe0a15c9bebc, 0x431d67c49c100d4c] ++
  [0x4cc5d4becb3e42b6, 0x597f299cfc657e2a, 0x5fcb6fab3ad6faec, 0x6c44198c4a475817]
def sha256P : Sha :=
  { w := 32, k := sha256K, b0 := [2, 13, 22], b1 := [6, 11, 25], s0 := [7, 18, 3], s1 := [17, 19, 10], h :=
  [0x6a09e667, 0xbb67ae85, 0x3c6ef372, 0xa54ff53a, 0x510e527f, 0x9b05688c, 0x1f83d9ab, 0x5be0cd19] }
def sha512P : Sha :=
  { w := 64, k := sha512K, b0 := [28, 34, 39], b1 := [14, 18, 41], s0 := [1, 8, 7], s1 := [19, 61, 6], h :=
  [0x6a09e667f3bcc908, 0xbb67ae8584caa73b, 0x3c6ef372fe94f82b, 0xa54ff53a5f1d36f1] ++
  [0x510e527fade682d1, 0x9b05688c2b3e6c1f, 0x1f83d9abfb41bd6b, 0x5be0cd19137e2179] }

/-- Rotate right in w bits. -/
def rotr (w n x : Nat) : Nat := (x / 2 ^ n) ||| (x * 2 ^ (w - n) % 2 ^ w)
/-- Exclusive OR of three rotations. -/
def bigSig (w : Nat) (r : List Nat) (x : Nat) : Nat := r.foldl (fun a n => a ^^^ rotr w n x) 0
/-- Exclusive OR of two rotations and a shift. -/
def smallSig (w : Nat) (r : List Nat) (x : Nat) : Nat := rotr w (r.getD 0 0) x ^^^ rotr w (r.getD 1 0) x ^^^ x / 2 ^ r.getD 2 0
/-- The message schedule, newest word first: n more words. -/
def shaSched (p : Sha) : Nat → List Nat → List Nat
  | 0, l => l
  | n + 1, l =>
    let x := smallSig p.w p.s1 (l.getD 1 0) + l.getD 6 0 + smallSig p.w p.s0 (l.getD 14 0) + l.getD 15 0
    shaSched p n (x % 2 ^ p.w :: l)
/-- One round on the eight working variables. -/
def shaRound (p : Sha) (v : List Nat) (kw : Nat) : List Nat :=
  let g := fun i => v.getD i 0
  let m := 2 ^ p.w
  let ch := (g 4 &&& g 5) ^^^ ((m - 1 - g 4) &&& g 6)
  let t1 := g 7 + bigSig p.w p.b1 (g 4) + ch + kw
  let maj := (g 0 &&& g 1) ^^^ (g 0 &&& g 2) ^^^ (g 1 &&& g 2)
  let t2 := bigSig p.w p.b0 (g 0) + maj
  [(t1 + t2) % m, g 0, g 1, g 2, (g 3 + t1) % m, g 4, g 5, g 6]
/-- One block of sixteen words. -/
def shaBlock (p : Sha) (h ws : List Nat) : List Nat :=
  let sched := (shaSched p (p.k.length - 16) ws.reverse).reverse
  let v := (p.k.zip sched).foldl (fun v e => shaRound p v (e.1 + e.2)) h
  List.zipWith (fun a b => (a + b) % 2 ^ p.w) h v
/-- Big-endian number of octets. -/
def beNat (bs : List Nat) : Nat := bs.foldl (fun a b => a * 256 + b) 0
/-- n octets of a number, highest first. -/
def beOctets (n x : Nat) : List Nat := (octets n x).reverse
/-- Words of o octets, n of them. -/
def shaWords (o : Nat) : Nat → List Nat → List Nat
  | 0, _ => []
  | n + 1, bs => beNat (bs.take o) :: shaWords o n (bs.drop o)
/-- All blocks of a padded message. -/
def shaBlocks (p : Sha) : Nat → List Nat → List Nat → List Nat
  | 0, h, _ => h
  | n + 1, h, bs => shaBlocks p n (shaBlock p h (shaWords (p.w / 8) 16 bs)) (bs.drop (2 * p.w))
/-- The hash of a message, as octets. -/
def shaOf (p : Sha) (msg : List Nat) : List Nat :=
  let blk := 2 * p.w
  let lenO := p.w / 4
  let zeros := (2 * blk - (msg.length + 1 + lenO) % blk) % blk
  let bs := msg ++ [0x80] ++ List.replicate zeros 0 ++ beOctets lenO (8 * msg.length)
  (shaBlocks p (bs.length / blk) p.h bs).flatMap (beOctets (p.w / 8))
def sha256 (msg : List Nat) : List Nat := shaOf sha256P msg
def sha512 (msg : List Nat) : List Nat := shaOf sha512P msg

/-! ### Ed25519 -/

/-- The field prime, the group order, and the curve constant d. -/
def edP : Nat := 2 ^ 255 - 19
def edL : Nat := 2 ^ 252 + 27742317777372353535851937790883648493
/-- b to the e modulo m, over the lowest n bits of e. -/
def powMod (m : Nat) : Nat → Nat → Nat → Nat
  | 0, _, _ => 1
  | n + 1, b, e =>
    let r := powMod m n (b * b % m) (e / 2)
    if e % 2 = 1 then r * b % m else r
def edInv (x : Nat) : Nat := powMod edP 255 x (edP - 2)
def edSub (a b : Nat) : Nat := (a + edP - b % edP) % edP
def edD : Nat := 37095705934669439343138083508754565189542113879843219016388785533085940283555

/-- A point in extended coordinates. -/
structure EdPt where
  x : Nat
  y : Nat
  z : Nat
  t : Nat
  deriving DecidableEq, Repr
def edZero : EdPt := ⟨0, 1, 1, 0⟩
/-- Addition (RFC 8032, 5.1.4). -/
def edAdd (p q : EdPt) : EdPt :=
  let a := edSub p.y p.x * edSub q.y q.x % edP
  let b := (p.y + p.x) * (q.y + q.x) % edP
  let c := p.t * 2 * edD * q.t % edP
  let d := p.z * 2 * q.z % edP
  let e := edSub b a
  let f := edSub d c
  let g := (d + c) % edP
  let h := (b + a) % edP
  ⟨e * f % edP, g * h % edP, f * g % edP, e * h % edP⟩
/-- Multiple of a point by the lowest n bits of a number. -/
def edMul : Nat → Nat → EdPt → EdPt
  | 0, _, _ => edZero
  | n + 1, k, p =>
    let r := edMul n (k / 2) (edAdd p p)
    if k % 2 = 1 then edAdd r p else r
def edNeg (p : EdPt) : EdPt := ⟨edSub 0 p.x, p.y, p.z, edSub 0 p.t⟩
/-- Whether two points are equal. -/
def edEq (p q : EdPt) : Bool := decide (p.x * q.z % edP = q.x * p.z % edP) && decide (p.y * q.z % edP = q.y * p.z % edP)
/-- The x of a y with a sign, if there is one (RFC 8032, 5.1.3). -/
def edX (y sign : Nat) : Option Nat :=
  let u := edSub (y * y) 1
  let v := (edD * (y * y) + 1) % edP
  let x2 := u * edInv v % edP
  let r := powMod edP 255 x2 ((edP + 3) / 8)
  let x := if r * r % edP = x2 then r else r * powMod edP 255 2 ((edP - 1) / 4) % edP
  if x * x % edP ≠ x2 then none
  else if x = 0 then if sign = 1 then none else some 0
  else some (if x % 2 = sign then x else edP - x)
/-- The point of a canonical encoding: y below the prime, and no negative zero. -/
def edPoint (bs : List Nat) : Option EdPt :=
  let n := fromOctets bs
  let y := n % 2 ^ 255
  if edP ≤ y then none else (edX y (n / 2 ^ 255)).map fun x => ⟨x, y, 1, x * y % edP⟩
/-- The base point. -/
def edBase : EdPt :=
  let x := 15112221349535400772501151409588531511454012693041857206046113283949847762202
  let y := 46316835694926478169428394003475163141307993866256225615783033603165251855960
  ⟨x, y, 1, x * y % edP⟩
/-- Whether a 64-octet signature over a message is valid under a 32-octet public key (R195): [8][S]B = [8]R + [8][k]A, S below the group
order, R and A canonical. -/
def edVerify (pub msg sig : List Nat) : Bool :=
  match edPoint (sig.take 32), edPoint pub with
  | some r, some a =>
    let s := fromOctets (sig.drop 32)
    let k := fromOctets (sha512 (sig.take 32 ++ pub ++ msg)) % edL
    decide (s < edL) && edEq (edMul 4 8 (edMul 253 s edBase)) (edMul 4 8 (edAdd r (edMul 253 k a)))
  | _, _ => false

end Sys2Proof.Machine
end

