-- ==== Sys2Proof/Machine/Image.lean ====
section
/-! DEFINITION. The checks of an image commit (R194 to R196, R363, Table TTB-7). An image is a function from word offsets with the number of
words received. Kinds as in R363: 0 Schedule Image, 1 Monitor firmware, 2 cluster program. -/

namespace Sys2Proof.Machine

/-- Words of an image. -/
def igWords (g : Nat → Word) (a n : Nat) : List Word := (List.range n).map fun i => g (a + i)
/-- Field of an image word. -/
def igF (g : Nat → Word) (a hi lo : Nat) : Nat := bits (g a).toNat hi lo
/-- A section of an image as placed: its header's offset, TYPE, section index, CRC and body length. -/
structure Sec where
  at_ : Nat
  ty : Nat
  ix : Nat
  crc : Nat
  len : Nat
  deriving DecidableEq, Repr
/-- The sections from an offset to the image's end; `none` where a header or body does not fit or a body is no multiple of 8 words. -/
def secsOf (g : Nat → Word) (last : Nat) : Nat → Nat → Option (List Sec)
  | 0, _ => none
  | n + 1, a =>
    if a = last then some [] else
    if last < a + 8 then none else
    let len := igF g a 27 0
    if len % 8 ≠ 0 ∨ last < a + 8 + len then none else
    (secsOf g last n (a + 8 + len)).map fun r => ⟨a, igF g a 35 28, igF g (a + 1) 15 0, igF g (a + 2) 31 0, len⟩ :: r
/-- Sections of a type. -/
def secTy (ss : List Sec) (ty : Nat) : List Sec := ss.filter fun x => decide (x.ty = ty)

/-- MAGIC of a kind (R363). -/
def kindMagic (k : Nat) : Nat := if k = 0 then 0x5A36CA11E else if k = 1 then 0x5A36C0F1A else 0x5A36CC1A5
/-- Check 0x04: section structure (R194). -/
def ckStructure (g : Nat → Word) (n : Nat) (ss : List Sec) : Bool :=
  let fits := ss.all fun x =>
    if x.ty = 2 then decide (32 ≤ x.len) && decide (32 + 4 * igF g (x.at_ + 9) 15 0 ≤ x.len)
    else if x.ty = 3 then decide (8 ≤ x.len) && decide (8 + (g (x.at_ + 9)).toNat ≤ x.len) else true
  let mid := (ss.drop 1).dropLast
  let pad := match ss.getLast? with
    | some x => ((pack9Bytes (igWords g (x.at_ + 8) 24)).drop 96).all (fun b => decide (b = 0))
    | none => false
  decide (2 ≤ ss.length) &&
  (match ss.head? with | some x => decide (x.ty = 1) && decide (x.len = 16) | none => false) &&
  (match ss.getLast? with | some x => decide (x.ty = 0xF) && decide (x.len = 24) | none => false) &&
  mid.all (fun x => [2, 3, 4, 5].contains x.ty) &&
  (List.range ss.length).all (fun i => ss.any (fun x => decide (x.ix = i))) &&
  decide (igF g 14 23 0 = n) && decide (n ≤ 2 ^ 24) && fits && pad
/-- Check 0x05: the CRC of every section. -/
def ckCrcs (g : Nat → Word) (ss : List Sec) : Bool :=
  ss.all fun x => decide (crc32c (pack9Bytes (igWords g (x.at_ + 8) x.len)) = x.crc)
/-- Octets of the SIGNATURE section's body. -/
def sigBytes (g : Nat → Word) (ss : List Sec) : List Nat :=
  match ss.getLast? with | some x => pack9Bytes (igWords g (x.at_ + 8) 24) | none => []
/-- Check 0x06: the public key's hash is in a slot that is not revoked (R195). -/
def ckKey (s : State) (pub : List Nat) : Bool :=
  let h := fromOctets (sha256 pub)
  s.hst.keys.any fun k => match k with | .programmed x => decide (x = h) | _ => false
/-- Check 0x07: the signature over all words through the signature section's header, its CRC word taken as zero (R195). -/
def ckSig (g : Nat → Word) (ss : List Sec) : Bool :=
  match ss.getLast? with
  | some x =>
    let b := sigBytes g ss
    let msg := (List.range (x.at_ + 8)).map fun i => if i = x.at_ + 2 then 0#36 else g i
    edVerify (b.take 32) (pack9Bytes msg) ((b.drop 32).take 64)
  | none => false

/-- The 32 header words of each timetable with the offset of its first action. -/
def igTTs (g : Nat → Word) (ss : List Sec) : List (List Word × Nat) :=
  (secTy ss 2).map fun x => (igWords g (x.at_ + 8) 32, x.at_ + 40)
/-- A timetable of an image, as the loader would hold it. -/
def igTT (g : Nat → Word) (e : List Word × Nat) : TT := ⟨0, hdrIndex e.1, e.1, igWords g e.2 (4 * hdrCount e.1)⟩
/-- Field ranges of a timetable header (Tables TTB-5, TTB-6; R181). -/
def ckHdr (h : List Word) : Bool :=
  let per := bits (hdrW h 2) 11 2
  let us := hdrTicks h * per
  decide (hdrIndex h ≤ 8) && decide (hdrClass h ≤ 2) && (decide (hdrIndex h ≠ 0) || (decide (hdrClass h = 0) && hdrProbe h)) &&
  decide (1 ≤ hdrCount h) && decide (hdrCount h ≤ 32768) && decide (1 ≤ hdrTicks h) && decide (hdrSrc h ≤ 2) &&
  (List.range 7).all (fun k => decide (hdrPolicy h k % 4 ≠ 3) && decide (hdrPolicy h k / 4 ≠ 3)) &&
  (decide (hdrSrc h ≠ 0) || (decide (1 ≤ per) && decide (per ≤ 1000) && decide (100 ≤ us) && decide (us ≤ 65535))) &&
  (decide (hdrSrc h ≠ 1) || (decide (1 ≤ hdrEdges h) && decide (1 ≤ hdrFast h)))
/-- Check 0x08: timetable headers; no timetable in the other kinds (R363). -/
def ckHeaders (g : Nat → Word) (kind : Nat) (ss : List Sec) : Bool :=
  let hs := (igTTs g ss).map Prod.fst
  let ix := hs.map hdrIndex
  let n := igF g 13 3 0
  if kind = 0 then
    decide (1 ≤ n) && decide (n ≤ 9) && decide (hs.length = n) && ix.contains 0 && decide (igF g 15 1 0 ≠ 3) &&
    (List.range 9).all (fun i => decide ((ix.filter (fun j => decide (j = i))).length ≤ 1)) && hs.all ckHdr
  else decide (n = 0) && hs.isEmpty
/-- Bits of ARG0 to ARG3 that Table TTB-2 defines for a type. -/
def actMasks (ty : Nat) : List Nat :=
  let m16 := 0xFFFF
  let dlo := 2 ^ 36 - 1
  let dhi := 2 ^ 28 - 1
  match ty with
  | 0x1 => [m16, m16, 0, 0] | 0x2 => [m16, 0, 0, 0] | 0x3 => [3, dlo, 0xFFFFFF, 0] | 0x4 => [0, 0, dlo, dhi]
  | 0x6 => [7, 0x3FF, 0x7FF, 0] | 0x9 => [m16, 0, 0, 0] | 0xA => [m16, 0xF, 0, 0] | 0xB => [m16, 0xF, 0, 0]
  | 0xC => [7, dlo, 0, 0] | 0xD => [m16, 0xFFFFF, dlo, dhi] | 0xE => [m16, m16, 0, 0] | 0xF => [m16, 0, 0, 0]
  | _ => [0, 0, 0, 0]
/-- Check 0x09 of one action after another (R187, R188, R190). -/
def ckAct (t : TT) (i : Nat) : Bool :=
  let ft := hdrTicks t.hdr
  let args := [actArg0 t i, actW t i 1, actW t i 2, actW t i 3]
  let ty := actType t i
  (List.zipWith (fun v m => decide (v &&& m = v)) args (actMasks ty)).all (fun b => b) &&
  decide (actTick t i < ft) && (decide (i = 0) || decide (actTick t (i - 1) ≤ actTick t i)) &&
  (decide (ty ≠ 0xD) || (decide (actTick t i ≤ actArg0 t i) && decide (actArg0 t i < ft))) &&
  (decide (ty ≠ 0x6) || (decide (1 ≤ actW t i 2) && decide (actW t i 2 ≤ 1024))) &&
  (decide (ty ≠ 0x3) || decide (1 ≤ actW t i 2))
/-- The units a unit word names beyond the part (Table SCP-1). -/
def unitsAbsent (s : State) (w : Nat) : Bool :=
  let p := s.cfg.part
  decide (2 ^ p.clusters ≤ bits w 15 0) || decide (2 ^ p.pipes ≤ bits w 19 16) || decide (2 ^ p.ports ≤ bits w 27 20) ||
    decide (2 ^ p.links ≤ bits w 31 28)
/-- Whether an address names a unit or memory absent on the part (R3). -/
def addrAbsent (s : State) (a : Nat) : Bool :=
  let p := s.cfg.part
  (decide (p.streamWords ≤ a) && decide (a < 0x800000)) ||
  (decide (bulkBase + p.bulkWords ≤ a) && decide (a < bulkBase + 0x200000000)) ||
  (decide (0x10000000 ≤ a) && decide (a < 0x11000000) && decide (p.clusters ≤ (a - 0x10000000) / 0x100000)) ||
  (decide (0x30000000 ≤ a) && decide (a < 0x30040000) && decide (p.cores ≤ (a - 0x30000000) / 0x10000)) ||
  (match blkOf a with
  | some (.ic, _, o) => decide (0x40 ≤ o) && decide (o < 0x80) && decide (p.cores ≤ (o - 0x40) / 16)
  | some (.cas, _, o) => decide (0x100 ≤ o) && decide (o < 0x200) && decide (p.links ≤ (o - 0x100) / 64)
  | some (.mw, _, o) => decide (0x40 ≤ o) && mwNoPort s (o - 0x40)
  | some (b, i, _) => !blkPresent s b i
  | none => false)
/-- Check 0x0A: nothing names an absent unit. -/
def ckPresent (s : State) (tts : List TT) (regs : List Nat) : Bool :=
  tts.all (fun t =>
    !unitsAbsent s (hdrW t.hdr 4) &&
    (List.range 8).all (fun i => decide (hdrW t.hdr (5 + i) % 2 ^ 32 < 2 ^ (min 32 (s.cfg.part.banks - 32 * i)))) &&
    (List.range (actCount t)).all (fun i => !unitsAbsent s (actNames t i))) &&
  regs.all (fun a => !addrAbsent s a)
/-- Check 0x0B: SWITCH_POINTs. -/
def ckSwitch (tts : List TT) : Bool :=
  tts.all fun t =>
    let sp := (List.range (actCount t)).filter fun i => decide (actType t i = 0xF)
    !sp.isEmpty && sp.all (fun i => tts.all (fun u => decide (actArg0 t i < hdrTicks u.hdr)))
/-- Whether n words from an address lie wholly in an area. -/
def inArea (a n lo len : Nat) : Bool := decide (lo ≤ a) && decide (a + n ≤ lo + len)
/-- Check 0x0C: where a LOAD may go, by kind (Table TTB-7, R363). -/
def ckLoad (s : State) (kind a n : Nat) : Bool :=
  let p := s.cfg.part
  let cls := List.range p.clusters
  let cw := fun c => 0x10000000 + c * 0x100000
  let ib := rf s R.calIMG_BASE
  if kind = 1 then inArea a n (coreLocal 0) 0x10000
  else if kind = 2 then cls.any (fun c => inArea a n (cw c + 0x20000) 0x10000)
  else
    inArea a n 0 p.streamWords || cls.any (fun c => inArea a n (cw c) 0x10000 || inArea a n (cw c + 0x20000) 0x10000) ||
    (inArea a n bulkBase p.bulkWords && (decide (a + n ≤ ib) || decide (ib + 0x2000000 ≤ a)))
/-- Targets and lengths of the LOAD sections. -/
def igLoads (g : Nat → Word) (ss : List Sec) : List (Nat × Nat) :=
  (secTy ss 3).map fun x => ((g (x.at_ + 8)).toNat, (g (x.at_ + 9)).toNat)
/-- Check 0x0C: LOAD targets, of one cluster only in a cluster program, and VECTOR_BLOCK lists. -/
def ckTargets (s : State) (kind : Nat) (ls : List (Nat × Nat)) (tts : List TT) : Bool :=
  ls.all (fun e => ckLoad s kind e.1 e.2) &&
  (decide (kind ≠ 2) || ls.all (fun e => decide (e.1 / 0x100000 = (ls.headD (0, 0)).1 / 0x100000))) &&
  tts.all (fun t => (List.range (actCount t)).all fun i =>
    decide (actType t i ≠ 3) || inArea (actW t i 1) (3 * actW t i 2) 0 s.cfg.part.streamWords)
/-- IMAGE_CHECK (R196): the code of the first check that fails, 0 where all pass. `n` words of `total` have been received. -/
def imgCheck (s : State) (kind n total : Nat) (g : Nat → Word) : Nat :=
  if n < 24 then 4
  else if (g 8).toNat ≠ kindMagic kind ∨ igF g 9 7 0 ≠ 1 then 1
  else if igF g 10 15 0 ≠ s.cfg.part.deviceId then 2
  else if igF g 12 5 0 ≠ 63 ∧ igF g 12 5 0 ≠ cascId s then 3
  else if n ≠ total then 4
  else match secsOf g n (n / 8 + 1) 0 with
    | none => 4
    | some ss =>
      let tts := (igTTs g ss).map (igTT g)
      let regs := ((secTy ss 4).flatMap fun x => (List.range (x.len / 2)).map fun i => (g (x.at_ + 8 + 2 * i)).toNat).filter (fun a => decide (a ≠ 0))
      let pub := (sigBytes g ss).take 32
      if ckStructure g n ss = false then 4
      else if ckCrcs g ss = false then 5
      else if ckKey s pub = false then 6
      else if ckSig g ss = false then 7
      else if ckHeaders g kind ss = false then 8
      else if tts.all (fun t => (List.range (actCount t)).all (ckAct t)) = false then 9
      else if ckPresent s tts regs = false then 0xA
      else if kind = 0 ∧ ckSwitch tts = false then 0xB
      else if ckTargets s kind (igLoads g ss) tts = false then 0xC
      else 0

end Sys2Proof.Machine
end

