-- ==== Sys2Proof/Machine/Host.lean ====
section
/-! DEFINITION. The host interface: BAR0, MSI-X, the rings and the UART (R353 to R360, R371, R415), and the command packets (R361 to R370,
Table HCI-4). -/

namespace Sys2Proof.Machine

/-! ### BAR0 (R353, R354) -/

/-- A BAR0 access fails (R354, R375). -/
def barErr (s : State) (slot st : Nat) : State :=
  let was := rb s R.hstBAR_ERR
  notice (raiseIf (wf (wb s R.hstBAR_ERR true) R.hstBAR_ERR_SLOT slot) (!was) 197) 9 2 0 st
/-- The device word of a slot. -/
def barAddr (slot : Nat) : Nat := 0x20000000 + slot
/-- Read a slot: its word, or `none` where the access fails. -/
def barRead (s : State) (slot : Nat) : Option Word × State :=
  if isUp s iMWY = false then (none, barErr s slot stTIMEOUT) else
  let r := busRead s 20 2 (barAddr slot)
  if r.1 = stOK then (some r.2.1, r.2.2) else (none, barErr r.2.2 slot r.1)
/-- Write a slot. -/
def barWrite (s : State) (slot : Nat) (w : Word) : State :=
  if isUp s iMWY = false then barErr s slot stTIMEOUT else
  let r := busWrite s 20 2 (barAddr slot) w true true
  if r.1 = stOK then r.2 else barErr r.2 slot r.1
def allOnes : HWord := hw 0xFFFFFFFF
/-- BAR0_READ (R353): byte offset, and whether it is an 8-byte read. -/
def execBar0Read (off : Nat) (wide : Bool) (s : State) : Host.Outcome State Fault Refusal :=
  gateRst iHST s fun s =>
    if 0x1000000 ≤ off ∨ off % (if wide then 8 else 4) ≠ 0 then s else
    let slot := off / 8
    if wide then
      let r := barRead s slot
      let d := match r.1 with | some w => [hw w.toNat, hw (w.toNat / 2 ^ 32)] | none => [allOnes, allOnes]
      modHst r.2 fun h => { h with barData := some d, lastRd := none }
    else if off % 8 = 0 then
      let r := barRead s slot
      match r.1 with
      | some w => modHst r.2 fun h => { h with barData := some [hw w.toNat], lastRd := some slot, rdLatch := w.toNat / 2 ^ 32 }
      | none => modHst r.2 fun h => { h with barData := some [allOnes], lastRd := some slot }
    else if s.hst.lastRd = some slot then modHst s fun h => { h with barData := some [hw h.rdLatch], lastRd := none }
    else
      let r := barRead s slot
      let d := match r.1 with | some w => hw (w.toNat / 2 ^ 32) | none => allOnes
      modHst r.2 fun h => { h with barData := some [d], lastRd := none }
/-- BAR0_WRITE (R353): byte offset, whether it is an 8-byte write, and its host words (`hi` for an 8-byte write only). -/
def execBar0Write (off : Nat) (wide : Bool) (lo hi : HWord) (s : State) : Host.Outcome State Fault Refusal :=
  gateRst iHST s fun s =>
    if 0x1000000 ≤ off ∨ off % (if wide then 8 else 4) ≠ 0 then s else
    let slot := off / 8
    let word := fun (h : Nat) => mkW (lo.toNat + h % 16 * 2 ^ 32)
    if wide then barWrite s slot (word hi.toNat)
    else if off % 8 = 0 then modHst (barWrite s slot (word s.hst.hiLatch)) fun h => { h with hiLatch := 0 }
    else modHst s fun h => { h with hiLatch := lo.toNat % 16 }
/-- BAR0_TIMEOUT (R354): an access that has not completed within 20 µs. -/
def execBar0Timeout (off : Nat) (write : Bool) (s : State) : Host.Outcome State Fault Refusal :=
  gate iHST s fun s =>
    if 0x1000000 ≤ off then s else
    let s := barErr (elapse s 20000) (off / 8) stTIMEOUT
    if write then s else modHst s fun h => { h with barData := some [allOnes], lastRd := none }

/-! ### MSI-X and rings (R357 to R360) -/

/-- MSIX_SEND (R357). -/
def execMsixSend (v : Nat) (s : State) : Host.Outcome State Fault Refusal := gate iHST s fun s => msixSend s v
/-- MSIX_UNMASK (R357). -/
def execMsixUnmask (v : Nat) (s : State) : Host.Outcome State Fault Refusal := gate iHST s fun s => msixUnmask s v
/-- CR_PROD (R358): the doorbell. -/
def execCrProd (r v : Nat) (s : State) : Host.Outcome State Fault Refusal := gate iHST s fun s => if r < 4 then wf s (R.hstCR_PROD r) v else s
/-- RR_CONS (R359). -/
def execRrCons (r v : Nat) (s : State) : Host.Outcome State Fault Refusal := gate iHST s fun s => if r < 4 then wf s (R.hstRR_CONS r) v else s
/-- RING_EN (R360). -/
def execRingEn (r : Nat) (en : Bool) (s : State) : Host.Outcome State Fault Refusal := gate iHST s fun s => if r < 4 then ringEnable s r en else s
/-- A ring's access to host memory fails (R374, R375). -/
def ringErr (s : State) (r : Nat) : State := notice (raise (wb s (R.hstRING_ERR r) true) (192 + r)) 9 5 r 0
/-- COMMAND_ENTRY_FETCH (R358): the entry's 64 host words; anything else is a fetch that failed on PCIe. -/
def execCommandEntryFetch (r : Nat) (ws : List HWord) (s : State) : Host.Outcome State Fault Refusal :=
  gate iHST s fun s =>
    if 4 ≤ r ∨ rb s (R.hstRING_EN r) = false ∨ (ring s r).pkt.isSome ∨ rf s (R.hstCR_FETCH r) = rf s (R.hstCR_PROD r) then s
    else if rb s R.hstBME = false ∨ ws.length ≠ 64 then ringErr s r
    else
      let s := raise (wf s (R.hstCR_FETCH r) (rf s (R.hstCR_FETCH r) + 1)) (192 + r)
      intake s (.ring r) ws
/-- Write the first reply that waits on a ring (R359): the entry, RPROD, the shadow, the vector; the last reply to a packet counts it done. -/
def replyWrite (s : State) (r : Nat) : State :=
  match (ring s r).replies with
  | [] => s
  | (rep, last) :: more =>
    let size := 2 ^ rf s (R.hstRR_LOG2 r)
    let prod := rf s (R.hstRPROD r)
    if (prod + 2 ^ 16 - rf s (R.hstRR_CONS r)) % 2 ^ 16 = size then s
    else if rb s R.hstBME = false then ringErr s r
    else
      let base := rf s (R.hstRR_BASE_LO r) + rf s (R.hstRR_BASE_HI r) * 2 ^ 32
      let s := hostPutAll s (base + 256 * (prod % size)) rep
      let s := wf s (R.hstRPROD r) (prod + 1)
      let s := hostPut s (rf s (R.hstSHADOW_LO r) + rf s (R.hstSHADOW_HI r) * 2 ^ 32) (hw (rf s (R.hstRPROD r)))
      let s := if rb s (R.hstIRQ_EN r) then msixSend s (rf s (R.hstVECTOR r)) else s
      let s := if last then wf s (R.hstRDONE r) (rf s (R.hstRDONE r) + 1) else s
      modRing s r fun k => { k with replies := more, pkt := if last then none else k.pkt, ran := if last then false else k.ran }
/-- REPLY_WRITE (R359). -/
def execReplyWrite (r : Nat) (s : State) : Host.Outcome State Fault Refusal := gate iHST s fun s => if r < 4 then replyWrite s r else s
/-- UART_PACKET (R371, R415): the packet's host words. -/
def execUartPacket (ws : List HWord) (s : State) : Host.Outcome State Fault Refusal :=
  gate iHST s fun s => if ws.length = 4 + pkLen ws then intake s .uart ws else s

/-! ### Shared pieces of the commands -/

/-- A row of Table HCI-4 as a command of the block. -/
def cmdF (code : Nat) (c : CmdSrc) (firm : List HWord → State → Bool) (k : CmdPath → List HWord → State → CmdRes) (s : State) :
    Host.Outcome State Fault Refusal :=
  gateCmd s fun s => rstSettle (runCmd code c firm k s)
def cmd (code : Nat) (c : CmdSrc) (k : CmdPath → List HWord → State → CmdRes) (s : State) : Host.Outcome State Fault Refusal :=
  cmdF code c (fun _ _ => false) k s
def ok (data : List HWord) (s : State) : CmdRes := .reply hsOK 0 data s
def bad (i : Nat) (s : State) : CmdRes := .reply hsPARAM i [] s
/-- Payload word i. -/
def pl (ws : List HWord) (i : Nat) : Nat := pw ws (4 + i)
/-- Two payload words as one number (R361). -/
def pl2 (ws : List HWord) (i : Nat) : Nat := pl ws i + pl ws (i + 1) * 2 ^ 32
def h32 : Nat := 2 ^ 32 - 1
/-- BAD_PARAM where a payload word has a bit outside its mask; else `k`. -/
def masked (ws : List HWord) (masks : List Nat) (s : State) (k : State → CmdRes) : CmdRes :=
  match badMask (payload ws) masks with
  | some i => bad i s
  | none => k s
/-- ACCESS with a Midway status and the index of the failing word. -/
def access (st i : Nat) (s : State) : CmdRes := .reply hsACCESS (st + i * 256) [] s
/-- The effect where the island answers, else ACCESS with TIMEOUT. -/
def reached (i : Nat) (s : State) (k : State → CmdRes) : CmdRes := if isUp s i then k s else access stTIMEOUT 0 s
/-- Whether Midway still holds the access a command packet names (R69, R78). -/
def cmdHeld (s : State) (c : CmdSrc) : Bool := match cmdPkt s c with | some q => busHeld s (pl2 q.words 0 % 2 ^ 36) | none => false
/-- Sign-extended bits as a host word. -/
def hwInt (n : Int) : HWord := BitVec.ofInt 32 n

/-! ### Identity, status, time, mode (Tables HCI-5, HCI-6, MRP-2) -/

/-- State of a key slot: 0 blank, 1 programmed, 2 revoked. -/
def keyState : KeySlot → Nat
  | .blank => 0 | .programmed _ => 1 | .revoked => 2
def key (s : State) (i : Nat) : KeySlot := s.hst.keys.getD i .blank
/-- The MAC address of FPp: that of FP0 plus p (R426). -/
def portMac (g : Cfg) (p : Nat) : Nat := (g.mac0 + p) % 2 ^ 48
/-- What the PCIe endpoint presents (R352, Table HCI-1): IDs, class code, the sizes of BAR0 and BAR2, the MSI-X vectors with the places of their
table and PBA in BAR2, the largest payload and read request. -/
structure PcieConfig where
  vendor : Nat
  device : Nat
  classCode : Nat
  bar0 : Nat
  bar2 : Nat
  vectors : Nat
  table : Nat
  pba : Nat
  payload : Nat
  readRequest : Nat
  deriving DecidableEq, Repr
def pcieConfig (g : Cfg) : PcieConfig :=
  { vendor := g.vendor % 2 ^ 16, device := g.part.deviceId, classCode := 0x118000, bar0 := 0x1000000, bar2 := 0x1000, vectors := 32, table := 0,
    pba := 0x800, payload := 256, readRequest := 512 }
/-- GET_IDENTITY (Table HCI-5). -/
def execGetIdentity (c : CmdSrc) (s : State) : Host.Outcome State Fault Refusal :=
  cmd 0x01 c (fun _ _ s =>
    let g := s.cfg
    let w6 := cascId s + s.hst.booted * 2 ^ 8 + keyState (key s 0) * 2 ^ 10 + keyState (key s 1) * 2 ^ 12
    let macs := (List.range 8).flatMap fun p =>
      let m := if p < g.part.ports then portMac g p else 0
      [hw m, hw (m / 2 ^ 32 % 2 ^ 16)]
    ok ([hw ((pcieConfig g).vendor + (pcieConfig g).device * 2 ^ 16), hw (b2n g.coated + 0x4100)] ++ two g.serial ++ [hw g.monVer, hw g.romVer, hw w6] ++ macs ++ [0#32]) s) s
/-- IMAGE_ID of a store slot, 0 where it is empty. -/
def imgId (s : State) (slot : Nat) : Nat := if imgLen s slot = 0 then 0 else (bulkWord s (imgBase s slot + 11)).toNat
/-- GET_STATUS (Table HCI-6). -/
def execGetStatus (c : CmdSrc) (s : State) : Host.Outcome State Fault Refusal :=
  cmd 0x02 c (fun _ _ s =>
    let w0 := mode s + rf s R.pwrSTART_FAILS * 2 ^ 3 + rf s R.calSTATE * 2 ^ 6 + rf s R.calACTIVE_IDX * 2 ^ 9 + rf s R.calACTIVE_IMG * 2 ^ 13 +
      rf s R.calPENDING * 2 ^ 14
    ok ([hw w0] ++ two (imgId s 0) ++ two (imgId s 1) ++ two (rf s R.calFRAME_NUM) ++ [hw (rf s R.fcSYNC_STATE)] ++ two (rf s R.fcOFFSET_NS) ++
      [hw (rf s R.trbTRB_SUM), hw (rf s R.pwrPIN_MW), hwInt (sext 12 (rf s R.pwrTJ))] ++ List.replicate 7 0#32) s) s
/-- ECHO. -/
def execEcho (c : CmdSrc) (s : State) : Host.Outcome State Fault Refusal := cmd 0x03 c (fun _ ws s => ok (payload ws) s) s
/-- TIME_SET (R362): a step of Device Time, only with no time source. -/
def execTimeSet (c : CmdSrc) (s : State) : Host.Outcome State Fault Refusal :=
  cmd 0x04 c (fun _ ws s => masked ws [h32, 0xF, h32] s fun s =>
    if 1000000000 ≤ pl ws 2 then bad 2 s
    else if rf s R.fcTIME_SRC ≠ 15 then .reply hsDENIED 3 [] s
    else ok [] (timeStep s ((pl2 ws 0 * 1000000000 + pl ws 2 : Nat) - (s.devTime : Int)))) s
/-- SET_MODE (R377, Table MRP-2). -/
def modeSet (s : State) (m : Nat) : Option State :=
  let o := mode s
  let runs := o = mRUN ∨ o = mDERATED ∨ o = mSHADOW
  if m = o then some s
  else if o = mCONFIGURE ∧ m = mTEST ∧ calState s = csIDLE then some (setMode s mTEST)
  else if runs ∧ m = mHOLD then some (setMode (calHold s false) mHOLD)
  else if o = mHOLD ∧ m = mRUN then
    let s := calResume s
    some (if derateCause s then classReq (setMode s mDERATED) 1 true else setMode s mRUN)
  else if (runs ∨ o = mHOLD) ∧ m = mCONFIGURE then some (setMode (keepersOwn (calStop s)) mCONFIGURE)
  else if o = mTEST ∧ m = mCONFIGURE then some (setMode s mCONFIGURE)
  else none
/-- SET_MODE (R377). -/
def execSetMode (c : CmdSrc) (s : State) : Host.Outcome State Fault Refusal :=
  cmd 0x10 c (fun _ ws s => masked ws [7] s fun s =>
    match modeSet s (pl ws 0) with
    | some t => ok [hw (mode s), hw (mode t)] t
    | none => .reply hsMODE (mode s) [] s) s

/-! ### Images (R363 to R365) -/

/-- The session a packet means that names store slot `slot` and flash slot `fl`: the one begun last (log entry 26). -/
def sessFind (s : State) (slot fl : Nat) : Option Session :=
  s.hst.sess.reverse.find? fun x => if x.flash then decide (x.slot = fl) else decide (x.slot = slot)
/-- The session that word 0 of a chunk, commit or abort means. -/
def sessOf (s : State) (ws : List HWord) : Option Session := sessFind s (pl ws 0 % 2) (pl ws 0 / 2 % 2)
/-- In RECOVERY only firmware is loaded (Table HCI-4). -/
def firmOf (p : List HWord) (s : State) : Bool :=
  let w := (p.headD 0#32).toNat
  match sessFind s (w % 2) (w / 2 % 2) with | some x => x.flash | none => true
/-- Whether a slot may not be emptied now (R360, R363). -/
def imgBusy (s : State) (flash : Bool) (slot : Nat) : Bool :=
  if flash then decide (slot = s.hst.booted) && decide (mode s ≠ mRECOVERY)
  else
    (decide (slot = rf s R.calACTIVE_IMG) && decide (calState s ≠ csIDLE)) ||
    (rb s R.calNEXT_VALID && decide (slot = rf s R.calNEXT_IMG)) ||
    (decide (rf s R.calPENDING = 1) && (match s.cal.target with | some (_, i, _) => decide (i = slot) | none => false)) ||
    (match s.cal.arm with | some a => decide (a.img = slot) | none => false)
/-- Close the session of a slot. -/
def sessClose (s : State) (flash : Bool) (slot : Nat) : State :=
  modHst s fun h => { h with sess := h.sess.filter (fun x => !(decide (x.flash = flash) && decide (x.slot = slot))) }
/-- Mark a slot empty. -/
def imgEmpty (s : State) (flash : Bool) (slot : Nat) : State :=
  if flash then
    modHst s fun h => { h with
      flash := h.flash.filter (fun e => decide (e.1 / 2 ^ 22 ≠ slot))
      flashLen := h.flashLen.set slot 0
      flashOk := h.flashOk.set slot false }
  else modHst s fun h => { h with imgLen := h.imgLen.set slot 0 }
/-- IMAGE_BEGIN (R363). -/
def execImageBegin (c : CmdSrc) (s : State) : Host.Outcome State Fault Refusal :=
  cmdF 0x20 c (fun p _ => decide ((p.headD 0#32).toNat % 4 = 1)) (fun _ ws s => masked ws [0xF, 0xFFFFFF] s fun s =>
    let kind := pl ws 0 % 4
    let flash := decide (kind = 1)
    let slot := if kind = 1 then pl ws 0 / 8 % 2 else pl ws 0 / 4 % 2
    let total := pl ws 1
    if kind = 3 then bad 0 s
    else if total = 0 ∨ (kind = 1 ∧ 2 ^ 22 < total) then bad 1 s
    else if imgBusy s flash slot then .reply hsBUSY 0 [] s
    else ok [] (modHst (imgEmpty (sessClose s flash slot) flash slot) fun h => { h with sess := h.sess ++ [⟨flash, slot, kind, total, 0⟩] })) s
/-- A chunk or commit of a store slot while Bulk Memory does not answer (R364, R388); `none`: it does. -/
def storeDown (s : State) (x : Session) : Option CmdRes :=
  if x.flash = false ∧ targetUp s 4 (imgBase s x.slot) = false then some (access stTIMEOUT 0 s) else none
/-- Whether the image store that a packet's slot lies in is still being initialised, so that Midway holds the access (R78). -/
def storeHeld (s : State) (c : CmdSrc) : Bool :=
  match cmdPkt s c with
  | some q => (match sessOf s q.words with | some x => !x.flash && busHeld s (imgBase s x.slot) | none => false)
  | none => false
/-- Write words of an image into its slot, eight at a time (R364). -/
def imgPut (s : State) (x : Session) : Nat → Nat → List Word → State
  | 0, _, _ => s
  | n + 1, off, ws =>
    if ws.isEmpty then s else
    let s := if x.flash then
        modHst s fun h => { h with flash := ((List.range 8).zip (ws.take 8)).foldl (fun f e => kvSet 0#36 f (x.slot * 2 ^ 22 + off + e.1) e.2) h.flash }
      else bulkMasked s (imgBase s x.slot + off) ((ws.take 8).map (fun w => (w, true, true)))
    imgPut s x n (off + 8) (ws.drop 8)
/-- IMAGE_CHUNK (R364): `data` holds the host words of FORM 0 as read from host memory. -/
def execImageChunk (c : CmdSrc) (data : List HWord) (s : State) : Host.Outcome State Fault Refusal :=
  let form0 := match cmdPkt s c with | some q => bit (pl q.words 0) 2 == false | none => false
  let want := match cmdPkt s c with | some q => hostLen 3 (pl q.words 2 % 2 ^ 24) | none => 0
  let isRing := match c with | .ring _ => true | .mail => false
  if (form0 = true ∧ isRing = true ∧ rb s R.hstBME = true ∧ data.length ≠ want) ∨ storeHeld s c then gateCmd s (fun s => s) else
  cmdF 0x21 c firmOf (fun _ ws s => masked ws [7, 0xFFFFFF, 0xFFFFFF] s fun s =>
    let f0 := !bit (pl ws 0) 2
    let off := pl ws 1
    let n := pl ws 2
    let len := pkLen ws
    if f0 = true ∧ isRing = false then bad 0 s
    else if f0 = false ∧ 48 < n then bad 2 s
    else if len ≠ 3 + (if f0 then 2 else hostLen 3 n) then .reply hsLENGTH 0 [] s
    else match sessOf s ws with
    | none => bad 0 s
    | some x =>
      if off ≠ x.got then bad 1 s
      else if x.total < off + n ∨ (n % 8 ≠ 0 ∧ off + n ≠ x.total) then bad 2 s
      else if f0 = true ∧ rb s R.hstBME = false then access stBUS 0 s
      else
        let src := if f0 then data else (payload ws).drop 3
        (storeDown s x).getD <|
        let s := imgPut s x (n / 8 + 1) off (convIn 3 false n src).1
        ok [] (modHst s fun h => { h with sess := h.sess.map fun y => if y = x then { y with got := off + n } else y })) s
/-- Words of an image as held in its slot. -/
def imgGet (s : State) (x : Session) (i : Nat) : Word :=
  if x.flash then kvGet 0#36 s.hst.flash (x.slot * 2 ^ 22 + i) else bulkWord s (imgBase s x.slot + i)
/-- The cluster a cluster program is for. -/
def progCl (ls : List (Nat × Nat)) : Option Nat := ls.head?.map fun e => (e.1 - 0x10000000) / 0x100000
/-- Write the LOAD sections of a cluster program: the first status that is not OK. -/
def progLoad (s : State) (g : Nat → Word) (ss : List Sec) : Nat × State :=
  (secTy ss 3).foldl (fun r x =>
    let q := busWrites r.2 8 0 (g (x.at_ + 8)).toNat ((igWords g (x.at_ + 16) (g (x.at_ + 9)).toNat).map fun w => (w, true, true))
    (if r.1 = stOK then q.1 else r.1, q.2)) (stOK, s)
/-- IMAGE_COMMIT (R365). Whether the flash is written and read back without error is open (log entry 67). -/
def execImageCommit (c : CmdSrc) (s : State) : Host.Outcome State Fault Refusal :=
  if storeHeld s c then gateCmd s (fun s => s) else
  cmdF 0x22 c firmOf (fun _ ws s => masked ws [3] s fun s =>
    match sessOf s ws with
    | none => bad 0 s
    | some x => (storeDown s x).getD <|
      let e := if x.flash then freeNat s else (0, s)
      let s := e.2
      if e.1 % 2 = 1 then
        .reply hsHWFAIL 1 [] (modHst (sessClose s x.flash x.slot) fun h => { h with flashOk := h.flashOk.set x.slot false }) else
      let s := if x.flash then s else (storeRead s (imgBase s x.slot) x.got).2
      let g := imgGet s x
      let code := imgCheck s x.kind x.got x.total g
      let id := two (g 11).toNat
      let s1 := wf (sessClose s x.flash x.slot) R.calCHECK_CODE code
      if code ≠ 0 then .reply hsCHECK code [] (if x.flash then modHst s1 fun h => { h with flashOk := h.flashOk.set x.slot false } else s1)
      else if x.flash then
        ok id (modHst s1 fun h => { h with flashOk := h.flashOk.set x.slot true, flashLen := h.flashLen.set x.slot x.total })
      else if x.kind = 0 then ok id (modHst s1 fun h => { h with imgLen := h.imgLen.set x.slot x.total })
      else
        let ss := (secsOf g x.got (x.got / 8 + 1) 0).getD []
        let busy := match progCl (igLoads g ss) with | some n => clBusy s n || rb s (R.scTT_OWNED n) | none => false
        if busy then .reply hsBUSY 0 [] s else
        let r := progLoad s1 g ss
        if r.1 = stOK then ok id r.2 else access r.1 0 r.2) s
/-- IMAGE_ABORT (R365): without a session the store slot is meant, in RECOVERY the flash slot (log entry 26). -/
def execImageAbort (c : CmdSrc) (s : State) : Host.Outcome State Fault Refusal :=
  cmdF 0x23 c firmOf (fun _ ws s => masked ws [3] s fun s =>
    let (flash, slot) := match sessOf s ws with
      | some x => (x.flash, x.slot)
      | none => if mode s = mRECOVERY then (true, pl ws 0 / 2) else (false, pl ws 0 % 2)
    if imgBusy s flash slot then .reply hsBUSY 0 [] s else ok [] (imgEmpty (sessClose s flash slot) flash slot)) s
/-- BOOT_SELECT (R383). -/
def execBootSelect (c : CmdSrc) (s : State) : Host.Outcome State Fault Refusal :=
  cmd 0x24 c (fun _ ws s => masked ws [1] s fun s => ok [] (modHst s fun h => { h with bootSel := pl ws 0 })) s

/-! ### Calliope (R197, R200, R202) -/

/-- TT_ARM (R197): answered when the arm has ended. -/
def execTtArm (c : CmdSrc) (s : State) : Host.Outcome State Fault Refusal :=
  cmd 0x30 c (fun p ws s => masked ws [1, h32, 0xF, h32] s fun s =>
    if 1000000000 ≤ pl ws 3 then bad 3 s
    else if imgLen s (pl ws 0) = 0 then bad 0 s
    else if calState s ≠ csIDLE then .reply hsBUSY 0 [] s
    else
      let r := calArm s (pl ws 0) (pl2 ws 1 * 1000000000 + pl ws 3) p (ws.take 4)
      match r.1 with
      | some t => .later t
      | none => .reply hsCHECK 0x0E [] r.2) s
/-- TT_SWITCH (R202, R204). -/
def execTtSwitch (c : CmdSrc) (s : State) : Host.Outcome State Fault Refusal :=
  cmd 0x31 c (fun _ ws s => masked ws [0x1F] s fun s =>
    let slot := pl ws 0 % 2
    let idx := pl ws 0 / 2
    if (imgTTs s slot).all (fun e => decide (hdrIndex e.2 ≠ idx)) then bad 0 s
    else match hostSwitch s slot idx with
      | some t => ok [] t
      | none => .reply hsBUSY 0 [] s) s
/-- TT_LOSS (R200). -/
def execTtLoss (c : CmdSrc) (s : State) : Host.Outcome State Fault Refusal :=
  cmd 0x32 c (fun _ ws s =>
    if unitsAbsent s (pl ws 0) then .reply hsABSENT 0 [] s
    else reached iMWY s fun s => ok [] (calSettle (wf s R.calLOSS_SW (pl ws 0)))) s

/-! ### Words, blocks, atomics (R366) -/

/-- Fields of a conversion word (R366). -/
def cwConv (w : Nat) : Nat := bits w 10 8
def cwSign (w : Nat) : Bool := bit w 11
def cwSat (w : Nat) : Bool := bit w 12
/-- Device words that a count names: two for each double. -/
def cwWords (conv n : Nat) : Nat := if conv = 5 then 2 * n else n
/-- Largest count by mode, given those of single words, doubles and PACK9. -/
def cwMax (conv one dbl pack : Nat) : Nat := if conv = 5 then dbl else if conv = 3 then pack else one
/-- Host words of n items. -/
def cwHost (conv n : Nat) : Nat := hostLen conv (cwWords conv n)
/-- Read consecutive words as master 20, stopping at the first that fails: how many were read, its status, the words. -/
def hostReads (s : State) : Nat → Nat → Nat × List Word × State
  | _, 0 => (stOK, [], s)
  | a, n + 1 =>
    let r := busRead s 20 2 a
    if r.1 = stOK then let q := hostReads r.2.2 (a + 1) n; (q.1, r.2.1 :: q.2.1, q.2.2) else (r.1, [], r.2.2)
/-- Write consecutive words as master 20, stopping at the first that fails: its status, how many were written. -/
def hostWrites (s : State) : Nat → List Word → Nat × Nat × State
  | _, [] => (stOK, 0, s)
  | a, w :: ws =>
    let r := busWrite s 20 2 a w true true
    if r.1 = stOK then let q := hostWrites r.2 (a + 1) ws; (q.1, q.2.1 + 1, q.2.2) else (r.1, 0, r.2)
/-- Whether the words of a host command lie in another module. -/
def hostFar (s : State) (a : Nat) : Bool := decide (mwPort s a = some 27)
/-- A host command's accesses in another module begin; its reply follows them (R337, R366). -/
def farJob (p : CmdPath) (ws : List HWord) (pt op a : Nat) (todo : List Word) (left : Nat) : FarJob :=
  ⟨p, ws.take 4, pt, op, a, 0, todo, left, [], 0, false, false, 0, none⟩
/-- READ_WORDS (R366). -/
def execReadWords (c : CmdSrc) (s : State) : Host.Outcome State Fault Refusal :=
  if cmdHeld s c then gateCmd s (fun s => s) else
  cmd 0x40 c (fun p ws s => masked ws [h32, 0xF, 0x1FFF] s fun s =>
    let w := pl ws 2
    let n := w % 256
    let cv := cwConv w
    if cv = 0 ∨ 5 < cv ∨ cwMax cv 59 29 52 < n then bad 2 s
    else if hostFar s (pl2 ws 0) then
      .later (farSend s { farJob p ws 1 0 (pl2 ws 0) [] (cwWords cv n) with conv := cv, signed := cwSign w, sat := cwSat w })
    else
      let r := hostReads s (pl2 ws 0) (cwWords cv n)
      if r.1 = stOK then
        let o := convOut cv (cwSign w) (cwSat w) r.2.1
        .reply hsOK o.2 o.1 r.2.2
      else access r.1 r.2.1.length r.2.2) s
/-- The converted words of a WRITE_WORDS or PARAM_ADD whose conversion word is payload word i, or how it is refused. -/
def cwData (ws : List HWord) (i one dbl pack : Nat) (s : State) (k : List Word → Nat → CmdRes) : CmdRes :=
  let w := pl ws i
  let n := w % 256
  let cv := cwConv w
  if cv = 0 ∨ 5 < cv ∨ cwMax cv one dbl pack < n then bad i s
  else if pkLen ws ≠ i + 1 + cwHost cv n then .reply hsLENGTH 0 [] s
  else let d := convIn cv (cwSign w) (cwWords cv n) ((payload ws).drop (i + 1)); k d.1 d.2
/-- WRITE_WORDS (R366). -/
def execWriteWords (c : CmdSrc) (s : State) : Host.Outcome State Fault Refusal :=
  if cmdHeld s c then gateCmd s (fun s => s) else
  cmd 0x41 c (fun p ws s => masked ws [h32, 0xF, 0x1FFF] s fun s =>
    cwData ws 2 57 28 50 s fun d cvx =>
      if hostFar s (pl2 ws 0) then .later (farSend s { farJob p ws 3 0 (pl2 ws 0) d 0 with detail := cvx }) else
      let r := hostWrites s (pl2 ws 0) d
      if r.1 = stOK then .reply hsOK cvx [] r.2.2 else access r.1 r.2.1 r.2.2) s
/-- READ_BLOCK (`out`) and WRITE_BLOCK (R366, R371): rings only; answered when the transfer has ended. -/
def blockCmd (code : Nat) (out : Bool) (c : CmdSrc) (s : State) : Host.Outcome State Fault Refusal :=
  cmd code c (fun p ws s => masked ws [h32, 0xF, 0xFFFFFF, 0x1F00, h32, h32] s fun s =>
    let w := pl ws 3
    let cv := cwConv w
    match p with
    | .ring _ =>
      if cv = 0 ∨ 5 < cv then bad 3 s
      else if pl ws 4 % 4 ≠ 0 then bad 4 s
      else .later (modHst s fun h => { h with xfers := h.xfers ++ [⟨p, ws.take 4, out, pl2 ws 0, cwWords cv (pl ws 2), cv, cwSign w, cwSat w, pl2 ws 4⟩] })
    | _ => bad 0 s) s
def execReadBlock (c : CmdSrc) (s : State) : Host.Outcome State Fault Refusal := blockCmd 0x42 true c s
def execWriteBlock (c : CmdSrc) (s : State) : Host.Outcome State Fault Refusal := blockCmd 0x43 false c s
/-- Answer a block transfer. -/
def xferEnd (s : State) (x : BlockXfer) (status detail : Nat) : State :=
  answer (modHst s fun h => { h with xfers := h.xfers.drop 1 }) x.path x.hdr status detail []
/-- BLOCK_TRANSFER_DONE (R366): the oldest transfer ends, with the status of its host side and the host words read for a WRITE_BLOCK; the word
at which the host side failed is open. -/
def execBlockTransferDone (st : Nat) (data : List HWord) (s : State) : Host.Outcome State Fault Refusal :=
  gateCmd s fun s => rstSettle <|
    match s.hst.xfers with
    | [] => s
    | x :: _ =>
      if busHeld s x.addr then s
      else if rb s R.hstBME = false then xferEnd s x hsACCESS stBUS
      else if st % 8 ≠ stOK then
        let s := if st % 8 = stTIMEOUT then hostTimeout s else s
        let f := freeNat s
        xferEnd f.2 x hsACCESS (st % 8 + f.1 % (x.count + 1) * 256)
      else if x.out ∧ hostFar s x.addr then
        farSend (modHst s fun h => { h with xfers := h.xfers.drop 1 })
          { farJob x.path x.hdr 1 0 x.addr [] x.count with conv := x.conv, signed := x.signed, sat := x.sat, haddr := some x.haddr }
      else if x.out then
        let r := hostReads s x.addr x.count
        let o := convOut x.conv x.signed x.sat r.2.1
        let s := hostPutAll r.2.2 x.haddr o.1
        if r.1 = stOK then xferEnd s x hsOK o.2 else xferEnd s x hsACCESS (r.1 + r.2.1.length * 256)
      else if data.length ≠ hostLen x.conv x.count then s
      else
        let d := convIn x.conv x.signed x.count data
        if hostFar s x.addr then
          farSend (modHst s fun h => { h with xfers := h.xfers.drop 1 }) { farJob x.path x.hdr 3 0 x.addr d.1 0 with detail := d.2 } else
        let r := hostWrites s x.addr d.1
        if r.1 = stOK then xferEnd r.2.2 x hsOK d.2 else xferEnd r.2.2 x hsACCESS (r.1 + r.2.1 * 256)
/-- ATOMIC (R62, R366). -/
def execAtomic (c : CmdSrc) (s : State) : Host.Outcome State Fault Refusal :=
  if cmdHeld s c then gateCmd s (fun s => s) else
  cmd 0x44 c (fun p ws s => masked ws [h32, 0xF, 1, h32] s fun s =>
    let w : Word := (hw (pl ws 3)).signExtend 36
    if hostFar s (pl2 ws 0) then .later (farSend s (farJob p ws 6 (pl ws 2) (pl2 ws 0) [w] 0)) else
    let r := busAtomic s 20 (pl2 ws 0) (if pl ws 2 = 1 then .swap w else .fadd w)
    if r.1 = stOK then ok (two r.2.1.toNat) r.2.2 else access r.1 0 r.2.2) s

/-! ### Parameter sets (R368, R369) -/

def pset (s : State) (k : Nat) : PSet := s.hst.psets.getD k psetZero
def modPset (s : State) (k : Nat) (f : PSet → PSet) : State := modHst s fun h => { h with psets := h.psets.set k (f (h.psets.getD k psetZero)) }
/-- Staging words and runs in use. -/
def psWords (s : State) : Nat := (s.hst.psets.map fun p => (p.runs.map fun r => r.words.length).sum).sum
def psRuns (s : State) : Nat := (s.hst.psets.map fun p => p.runs.length).sum
/-- A command on a set: BUSY where a deferred seal of it still executes (R360). -/
def psCmd (ws : List HWord) (s : State) (k : Nat → State → CmdRes) : CmdRes :=
  masked ws [0xF] s fun s => if (pset s (pl ws 0)).defer.isSome then .reply hsBUSY 0 [] s else k (pl ws 0) s
/-- PARAM_BEGIN. -/
def execParamBegin (c : CmdSrc) (s : State) : Host.Outcome State Fault Refusal :=
  cmd 0x50 c (fun _ ws s => psCmd ws s fun k s =>
    if (pset s k).st = 0 ∨ (pset s k).st = 4 then ok [] (modPset s k fun p => { p with st := 1, runs := [] }) else .reply hsBUSY 0 [] s) s
/-- PARAM_ADD. -/
def execParamAdd (c : CmdSrc) (s : State) : Host.Outcome State Fault Refusal :=
  cmd 0x51 c (fun _ ws s => psCmd ws s fun k s => masked ws [0xF, h32, 0xF, 0x1FFF] s fun s =>
    if (pset s k).st ≠ 1 then .reply hsBUSY 0 [] s else
    cwData ws 3 56 28 49 s fun d cvx =>
      if 65536 < psWords s + d.length ∨ 4096 ≤ psRuns s then .reply hsLENGTH 0 [] s
      else .reply hsOK cvx [] (modPset s k fun p => { p with runs := p.runs ++ [⟨pl2 ws 1, d⟩] })) s
/-- PARAM_SEAL: with DEFER it is answered when the set has been applied; while Calliope is IDLE it applies at once. -/
def execParamSeal (c : CmdSrc) (s : State) : Host.Outcome State Fault Refusal :=
  cmd 0x52 c (fun p ws s => psCmd ws s fun k s =>
    if (pset s k).st ≠ 1 then .reply hsBUSY 0 [] s else
    let defer := bit (pkFlags ws) 1
    let s := modPset s k fun q => { q with st := 2, defer := if defer then some (p, ws.take 4) else none }
    let s := if calState s = csIDLE then paramApply s k else s
    if defer then .later s else ok [] s) s
/-- PARAM_DISCARD. -/
def execParamDiscard (c : CmdSrc) (s : State) : Host.Outcome State Fault Refusal :=
  cmd 0x53 c (fun _ ws s => psCmd ws s fun k s =>
    let st := (pset s k).st
    if st = 3 then .reply hsBUSY 0 [] s
    else if st = 1 ∨ st = 2 then ok [] (modPset s k fun p => { p with st := 0, runs := [] })
    else ok [] s) s
/-- PARAM_STATUS (R368). -/
def execParamStatus (c : CmdSrc) (s : State) : Host.Outcome State Fault Refusal :=
  cmd 0x54 c (fun _ _ s =>
    let v := (List.range 16).foldl (fun n k => n + (pset s k).st * 2 ^ (3 * k)) 0
    ok (two v ++ [hw (psWords s % 2 ^ 17 + b2n (rb s R.hstPARAM_ERR) * 2 ^ 17)] ++ (List.range 16).map fun k => hw (pset s k).frame) s) s

/-! ### Queues, classifier, nodes, probing, maps -/

/-- QUEUE_SET (R223). -/
def execQueueSet (c : CmdSrc) (s : State) : Host.Outcome State Fault Refusal :=
  cmd 0x60 c (fun _ ws s => masked ws [h32, h32, 0xF, h32, 0xF] s fun s =>
    if s.cfg.part.queues ≤ pl ws 0 then .reply hsABSENT 0 [] s else
    reached iMWY s fun s =>
      let s := wf (wf (wf s R.qeQD_INDEX (pl ws 0)) R.qeQD_W0 (pl2 ws 1)) R.qeQD_W1 (pl2 ws 3)
      let s := qdOp s 2
      if rf s R.qeQD_STATUS = 0 then ok [] s else bad 1 s) s
/-- QUEUE_GET: descriptor and Latest Value Table slot. -/
def execQueueGet (c : CmdSrc) (s : State) : Host.Outcome State Fault Refusal :=
  cmd 0x61 c (fun _ ws s =>
    let q := pl ws 0
    if s.cfg.part.queues ≤ q then .reply hsABSENT 0 [] s else
    reached iMWY s fun s =>
      let s := qdOp (wf s R.qeQD_INDEX q) 1
      let r := hostReads s (lvtBase s + 2 * q) 2
      let v := fun i => (r.2.1.getD i 0#36).toNat
      if r.1 = stOK then ok (two (rf r.2.2 R.qeQD_W0) ++ two (rf r.2.2 R.qeQD_W1) ++ two (v 0) ++ two (v 1)) r.2.2
      else access r.1 r.2.1.length r.2.2) s
/-- CLS_OP (R222): an entry that INSERT rejects is BAD_PARAM; other outcomes are reported (log entry 27). -/
def execClsOp (c : CmdSrc) (s : State) : Host.Outcome State Fault Refusal :=
  cmd 0x62 c (fun _ ws s => masked ws [3, h32, 0xF, h32, 0xF] s fun s =>
    let k := pl ws 0
    if k = 0 then bad 0 s else
    reached iFLD s fun s =>
      let s := clsOp (wf (wf s R.fcCLS_W0 (pl2 ws 1)) R.fcCLS_W1 (pl2 ws 3)) k
      let st := rf s R.fcCLS_STATUS
      if k = 1 ∧ 3 ≤ st then bad 1 s else ok [hw st, hw (rf s R.fcCLS_INDEX)] s) s
/-- NODE_SET (R214). -/
def execNodeSet (c : CmdSrc) (s : State) : Host.Outcome State Fault Refusal :=
  cmd 0x63 c (fun _ ws s => masked ws [h32, h32, 0xF, h32, 0xF, h32, 0xF, h32, 0xF] s fun s =>
    let n := pl ws 0
    if 4096 ≤ n then .reply hsABSENT 0 [] s else
    reached iFLD s fun s =>
      let a := (R.ndVALID n).addr
      let r := hostWrites s a ((List.range 4).map fun i => mkW (pl2 ws (1 + 2 * i)))
      if r.1 = stOK then ok [] r.2.2 else access r.1 r.2.1 r.2.2) s
/-- PROBE_SET (R244, R245): the channel words, then VALID and ENABLE; what the unit refuses is BAD_PARAM. -/
def execProbeSet (c : CmdSrc) (s : State) : Host.Outcome State Fault Refusal :=
  cmd 0x70 c (fun _ ws s => masked ws [h32, 3, h32, 0xF, h32, 0xF, h32, 0xF, h32, 0xF] s fun s =>
    let ch := pl ws 0
    if 4096 ≤ ch then .reply hsABSENT 0 [] s else
    reached iMWY s fun s =>
      let a := (R.idnVALID ch).addr
      let new := (List.range 4).map fun i => mkW (pl2 ws (2 + 2 * i))
      let same := (List.range 4).all fun i => decide (rd s (a + 1 + i) = new.getD i 0#36)
      if rb s (R.idnVALID ch) ∧ same = false then bad (2 + 256) (idnReject s ch) else
      let s := if same then s else (hostWrites s (a + 1) new).2.2
      let w0 := mkW (rdN s a / 4 * 4 + pl ws 1)
      let rejects := rf s R.idnCFG_REJECT
      let s0 := idnWrite0 (wb (wb s R.idnCFG_REJECT false) R.idnCONFLICT false) ch w0
      let rej := rb s0 R.idnCFG_REJECT
      let con := rb s0 R.idnCONFLICT
      let s1 := wf (wb s0 R.idnCONFLICT (con || rb s R.idnCONFLICT)) R.idnCFG_REJECT (max rejects (b2n rej))
      if rej then bad (1 + 256) s1 else if con then bad (1 + 512) s1
      else ok [hw (rf s1 (R.idnUNIT_STATE ch))] s1) s
/-- PROBE_CTRL (R248, R251). -/
def execProbeCtrl (c : CmdSrc) (s : State) : Host.Outcome State Fault Refusal :=
  cmd 0x71 c (fun _ ws s => masked ws [3] s fun s =>
    reached iMWY s fun s =>
      let s := probeOff (wb s R.idnPROBE_OFF (bit (pl ws 0) 0))
      let s := if bit (pl ws 0) 1 then guardTripNow s else s
      ok [hw (rf s R.idnGUARD_STATE)] s) s
/-- MAP_CTRL (R254, R256). -/
def execMapCtrl (c : CmdSrc) (s : State) : Host.Outcome State Fault Refusal :=
  cmd 0x72 c (fun _ ws s => masked ws [3] s fun s =>
    let k := pl ws 0
    if k = 0 ∨ k = 3 then bad 0 s else
    reached iMWY s fun s =>
      let later := decide (k = 2) && calPlays s
      let s := if k = 1 then swapNow s else mapRevert s
      let code := rf s R.idnSWAP_CODE
      if code ≠ 0 ∧ later = false then bad 0 s else ok [hw code] s) s

/-! ### Cascade and shadow (R343 to R346) -/

/-- CASC_STATUS: ten words of content whose layout is open. -/
def execCascStatus (c : CmdSrc) (s : State) : Host.Outcome State Fault Refusal :=
  cmd 0x80 c (fun _ _ s =>
    let ls := (linkIds s).map fun l => rd s (R.casLSTATE l).addr
    let rtts := (linkIds s).map fun l => rf s (R.casRTT l)
    let map := (List.range 32).foldl (fun n m => if (route s m).isSome then n + 2 ^ m else n) 0
    ok ((List.range 10).map fun i => Config.cascWord i (rd s R.casCASC_ID.addr) ls rtts map) s) s
/-- SHADOW_SET (R343). -/
def execShadowSet (c : CmdSrc) (s : State) : Host.Outcome State Fault Refusal :=
  cmd 0x81 c (fun _ ws s => masked ws [0x7F] s fun s =>
    if pl ws 0 % 4 = 3 then bad 0 s
    else reached iCAS s fun s => ok [] (wf (wf s R.casSH_ROLE (pl ws 0)) R.casSH_PEER (pl ws 0 / 4))) s
/-- SHADOW_TAKE (R345, R362). -/
def execShadowTake (c : CmdSrc) (s : State) : Host.Outcome State Fault Refusal := cmd 0x82 c (fun _ _ s => ok [] (takeover s)) s

/-! ### Power, trouble, reset (R367, R380, R384, R392, R428) -/

/-- POWER_CAP (R392). -/
def execPowerCap (c : CmdSrc) (s : State) : Host.Outcome State Fault Refusal :=
  cmd 0x90 c (fun _ ws s => masked ws [0x3FF] s fun s =>
    let v := pl ws 0
    if v ≠ 0 ∧ (v < 200 ∨ 950 < v) then bad 0 s
    else let s := capEff (wf s R.pwrCAP_CMD v); ok [hw (rf s R.pwrCAP_EFF)] s) s
/-- POWER_STATUS (Table HCI-10). -/
def execPowerStatus (c : CmdSrc) (s : State) : Host.Outcome State Fault Refusal :=
  cmd 0x91 c (fun _ _ s =>
    ok ([rf s R.pwrVIN_MV, rf s R.pwrPIN_MW, rf s R.pwrTJ, rf s R.pwrCAP_EFF, rf s R.pwrCAP_CMD, rdN s R.pwrLOW_SUPPLY.addr % 64, rf s R.pwrHOLDUP_MS,
      mode s + rf s R.pwrPREV_MODE * 8].map hw) s) s
/-- TROUBLE_READ (R367). -/
def execTroubleRead (c : CmdSrc) (s : State) : Host.Outcome State Fault Refusal :=
  cmd 0xA0 c (fun _ ws s => masked ws [1, h32, 0x3F] s fun s =>
    if pl ws 0 = 0 then ok (convOut 3 false false ((List.range 16).map fun k => rd s (trbF k).addr)).1 s
    else
      let next := rf s R.trbLOG_NEXT
      let n := min (min 12 (pl ws 2)) (next - pl ws 1)
      let es := (List.range n).flatMap fun i => (List.range 4).map fun w => rd s (R.trbLOGW (4 * ((pl ws 1 + i) % 256) + w)).addr
      ok (convOut 3 false false es).1 s) s
/-- TROUBLE_CLEAR (R367, R402). -/
def execTroubleClear (c : CmdSrc) (s : State) : Host.Outcome State Fault Refusal :=
  cmd 0xA1 c (fun _ ws s => masked ws [0xF, h32, 0xF] s fun s =>
    let r := busWrite s 20 2 (trbF (pl ws 0)).addr (mkW (pl2 ws 1)) true true
    if r.1 = stOK then ok [] r.2 else access r.1 0 r.2) s
/-- All replies that wait on a ring are written, as far as there is room. -/
def replyAll (s : State) (r : Nat) : State := (ring s r).replies.foldl (fun s _ => replyWrite s r) s
/-- RESET (R373, R384): its reply goes out before the reset begins; a warm one broadcast by the cascade master has code 10. -/
def execReset (c : CmdSrc) (s : State) : Host.Outcome State Fault Refusal :=
  cmd 0xB0 c (fun p ws s => masked ws [1] s fun s =>
    let bc := decide (pkMod ws = 63) && (match p with | .fwd m _ => decide (m = rf s R.casMASTER_ID) | _ => isMaster s)
    let cold := decide (pl ws 0 = 1)
    let code := if cold then 9 else if bc then 10 else 8
    let s := answer s p ws hsOK 0 []
    let s := match p with | .ring r => replyAll s r | _ => s
    .later (reqReset s code cold)) s
/-- CLEAR_START_FAILS (R380). -/
def execClearStartFails (c : CmdSrc) (s : State) : Host.Outcome State Fault Refusal :=
  cmd 0xB1 c (fun _ _ s => ok [hw (rf s R.pwrSTART_FAILS)] (wf s R.pwrSTART_FAILS 0)) s
/-- Column faults that a self-test of Stream Memory finds: which is open (R67). -/
def testFaults : Nat → State → List (Nat × Nat) × State
  | 0, s => ([], s)
  | n + 1, s =>
    let b := freeNat s
    let c := freeNat b.2
    let r := testFaults n c.2
    ((b.1 % s.cfg.part.banks, c.1 % 43) :: r.1, r.2)
/-- SELF_TEST (R67): what passes and which new spares it needs is open; after a test of Stream Memory Monitor writes the field repair record,
which takes effect at the next cold reset. -/
def execSelfTest (c : CmdSrc) (s : State) : Host.Outcome State Fault Refusal :=
  cmd 0xB2 c (fun _ ws s => masked ws [0xF] s fun s =>
    let a := freeWord s
    let b := freeNat a.2
    let n := if bit (pl ws 0) 0 then b.1 % 513 else 0
    let f := testFaults n b.2
    let s := if bit (pl ws 0) 0 then modHst f.2 fun h => { h with fieldRec := some (h.fieldRec.getD [] ++ f.1) } else f.2
    ok [hw (a.1.toNat &&& pl ws 0), hw n] s) s
/-- REPAIR_STATUS (R67, R68, R78). -/
def execRepairStatus (c : CmdSrc) (s : State) : Host.Outcome State Fault Refusal :=
  cmd 0xB3 c (fun _ _ s =>
    ok (([b2n (rb s R.smREPAIR_ON), b2n (rb s R.smFIELD_REC), rf s R.smSPARES_USED, b2n (rb s R.bmTRAINED_FULL)] ++
      (List.range 8).map fun i => rf s (R.smBANK_OFF i)).map hw) s) s

/-! ### Keys (R370) -/

/-- Octets of payload words, lowest first. -/
def plBytes (ws : List HWord) (i n : Nat) : List Nat := (List.range n).flatMap fun j => octets 4 (pl ws (i + j))
def keySet (s : State) (i : Nat) (k : KeySlot) : State := modHst s fun h => { h with keys := h.keys.set i k }
/-- KEY_PROGRAM (R370). Whether the read-back fails, and what the slot then holds, is open (log entry 67). -/
def execKeyProgram (c : CmdSrc) (s : State) : Host.Outcome State Fault Refusal :=
  cmd 0xC0 c (fun _ ws s => masked ws [1] s fun s =>
    if bit (pkFlags ws) 0 = false then bad 0 s
    else match key s (pl ws 0) with
      | .blank =>
        let f := freeNat s
        if f.1 % 3 = 0 then ok [] (keySet f.2 (pl ws 0) (.programmed (fromOctets (plBytes ws 1 8))))
        else if f.1 % 3 = 1 then .reply hsHWFAIL 2 [] f.2
        else let g := freeNat f.2; .reply hsHWFAIL 2 [] (keySet g.2 (pl ws 0) (.programmed (g.1 % 2 ^ 256)))
      | _ => .reply hsDENIED 2 [] s) s
/-- KEY_REVOKE (R370). -/
def execKeyRevoke (c : CmdSrc) (s : State) : Host.Outcome State Fault Refusal :=
  cmd 0xC1 c (fun _ ws s => masked ws [1] s fun s =>
    let i := pl ws 0
    let pub := plBytes ws 1 8
    let msg := octets 8 s.cfg.serial ++ octets 4 i ++ [0x52, 0x45, 0x56, 0x4B]
    let held : Bool := match key s (1 - i) with | .programmed h => decide (h = fromOctets (sha256 pub)) | _ => false
    if held && edVerify pub msg (plBytes ws 9 16) then ok [] (keySet s i .revoked) else .reply hsDENIED 2 [] s) s

end Sys2Proof.Machine
end

