-- ==== Sys2Proof/Machine/RmBase.lean ====
section
/-! DEFINITION. Ringmaster: stacks, the store buffer, checked accesses, special registers, and taking an exception (R262 to R284). -/

namespace Sys2Proof.Machine

/-! ### Cores -/

/-- Whether core n executes operations. -/
def rmRuns (s : State) (n : Nat) : Bool :=
  decide (n < s.cfg.part.cores) && !rb s (R.rmSTOPPED n) && decide ((core s n).pw = .on) && decide ((core s n).hold = .none)
/-- Causes (Table RMC-5). -/
def rcILLEGAL : Nat := 1
def rcPRIV : Nat := 2
def rcFETCH : Nat := 3
def rcLOAD : Nat := 4
def rcSTORE : Nat := 5
def rcBUS : Nat := 6
def rcDATA : Nat := 7
def rcOVF : Nat := 8
def rcUNF : Nat := 9
def rcGATE : Nat := 0xA
def rcRESTORE : Nat := 0xB
def rcTRAP : Nat := 0xC
def rcPOSTED : Nat := 0xD
/-- STAT as a task-state block holds it (Table RMC-4), with SLOT. -/
def rmStat (s : State) (n slot : Nat) : Nat :=
  rmLvl s n + b2n (rb s (R.rmIE n)) * 4 + b2n (rb s (R.rmEMERG n)) * 8 + rf s (R.rmRPRI n) * 16 + slot * 256
/-- Regions of a level, and whether they permit an access needing PERM bit `b` (R271). -/
def rmRegs (s : State) (n l : Nat) : List (Word × Word) :=
  (List.range 16).map fun r => let a := blkBase .rm n + 0x40 + 32 * l + 2 * r; (rd s a, rd s (a + 1))
def rmMay (s : State) (n l b a : Nat) : Bool := regionOk (rmRegs s n l) b a

/-- What has come back from another module or the host to the present operation: address, status, word. -/
abbrev RmOrc := List (Nat × Nat × Word)

/-- Why an operation does not simply complete: a fault (cause, DETAIL, ARG, FADDR, and the state after the bus access that was answered with
an error), a wait for a memory's initialisation, or accesses to another module or the host, to be sent from a state: for what if not the
operation itself, their addresses, what has come back so far, and an atomic's operation and operand. -/
inductive RmStop where
  | flt (cause detail arg addr : Nat) (bus : Option State)
  | wait
  | remote (s : State) (ask : Option CoreAsk) (need : List Nat) (got : RmOrc) (atom : Option (Nat × Word))

abbrev RmR (α : Type) := Except RmStop α
def rmFlt {α : Type} (cause addr : Nat) : RmR α := .error (.flt cause 0 0 addr none)

/-! ### Store buffer (R267) -/

/-- Half words a buffered store covers, and those an access covers. -/
def sbCover (e : SbEnt) : List Nat :=
  match e.kind with
  | .word _ => [2 * e.addr, 2 * e.addr + 1]
  | .half hi _ => [2 * e.addr + b2n hi]
  | .dbl _ _ => [2 * e.addr, 2 * e.addr + 1, 2 * e.addr + 2, 2 * e.addr + 3]
/-- The oldest entry drains; an error of a store beyond the core's own memory raises POSTED_ERR later (R269). -/
def sbDrain1 (s : State) (n : Nat) : State :=
  match (core s n).sb with
  | [] => s
  | e :: rest =>
    let s := modCore s n fun c => { c with sb := rest }
    let put := fun (s : State) (a : Nat) (w : Word) (hi lo : Bool) => busWrite s n e.level a w hi lo
    let r := match e.kind with
      | .word w => put s e.addr w true true
      | .half hi h => put s e.addr (mkW (h.toNat + h.toNat * 2 ^ 18)) hi (!hi)
      | .dbl a b =>
        let x := put s e.addr a true true
        let y := put x.2 ((e.addr + 1) % 2 ^ 36) b true true
        (if x.1 = stOK then y.1 else x.1, y.2)
    if r.1 = stOK then r.2 else modCore r.2 n fun c => { c with perr := c.perr ++ [e.addr] }
/-- Drain k entries, whatever Midway holds. -/
def sbDrainN : Nat → State → Nat → State
  | 0, s, _ => s
  | k + 1, s, n => sbDrainN k (sbDrain1 s n) n
/-- Drain k entries for an operation, which waits while one of them cannot go. -/
def sbDrain (s : State) (n k : Nat) : RmR State :=
  if ((core s n).sb.take k).any (fun e => busHeld s e.addr) then .error .wait else .ok (sbDrainN k s n)
def sbAll (s : State) (n : Nat) : RmR State := sbDrain s n (core s n).sb.length
/-- A store enters the buffer as `es`, once there is room. -/
def sbPut (s : State) (n : Nat) (es : List SbEnt) : RmR State := do
  let k := (core s n).sb.length + es.length - 8
  let s ← sbDrain s n k
  let s := if k = 0 then s else cntAdd s (R.rmSB_STALL_CNT n) k
  return modCore s n fun c => { c with sb := c.sb ++ es }
/-- What the buffer answers a load of a kind (given as the store it would match): a forwarded entry, or the state once what overlaps it has
drained. The youngest overlapping entry decides. -/
def sbLoad (s : State) (n : Nat) (as_ : SbEnt) (exact_ : SbKind → Bool) : RmR (Option SbKind × State) :=
  let sb := (core s n).sb
  let hit := ((List.range sb.length).reverse.filterMap (fun i => (sb[i]?).map (fun e => (i, e)))).find?
    (fun e => (sbCover e.2).any (fun h => (sbCover as_).contains h))
  match hit with
  | none => .ok (none, s)
  | some (i, e) =>
    if e.addr = as_.addr ∧ exact_ e.kind = true then .ok (some e.kind, s)
    else (sbDrain s n (i + 1)).map fun t => (none, cntAdd t (R.rmOVERLAP_CNT n) (i + 1))

/-! ### Checked accesses (R266 to R271) -/

/-- What a status means to a load of address a, answered in state t. -/
def rmStatus {α : Type} (t : State) (st a : Nat) (v : α) : RmR α :=
  if st = stOK then .ok v else .error (.flt (if st = stDATA then rcDATA else rcBUS) 0 0 a (some t))
/-- Whether an access leaves the module: to another one, or to the host where its window is open. -/
def busFar (s : State) (a : Nat) : Bool := busRemote s a && !(decide (mwPort s a = some 26) && hwinShut s a)
/-- What came back for address a, if anything. -/
def orcAt (orc : RmOrc) (a : Nat) : Option (Nat × Word) := (orc.find? (fun r => decide (r.1 = a))).map Prod.snd
/-- A word read past the buffer, or what came back for it. -/
def rmRead1 (s : State) (n l : Nat) (orc : RmOrc) (a : Nat) : RmR (Word × State) :=
  match orcAt orc a with
  | some (st, w) => rmStatus s st a (w, s)
  | none => let x := busRead s n l a; rmStatus x.2.2 x.1 a (x.2.1, x.2.2)
/-- Words read one after the other. -/
def rmReadL (n l : Nat) (orc : RmOrc) : State → List Nat → RmR (List Word × State)
  | s, [] => .ok ([], s)
  | s, a :: as_ => (rmRead1 s n l orc a).bind fun r => (rmReadL n l orc r.2 as_).map fun q => (r.1 :: q.1, q.2)
/-- Words read from memory past the buffer; `orc`: what came back from another module or the host. Those still to come are asked for. -/
def rmReads (s : State) (n l : Nat) (as_ : List Nat) (orc : RmOrc) : RmR (List Word × State) :=
  let open_ := as_.filter fun a => (orcAt orc a).isNone
  if open_.any (busHeld s) then .error .wait
  else if open_.any (busFar s) then .error (.remote s none (open_.filter (busFar s)) orc none)
  else rmReadL n l orc s as_
/-- The words are wanted for something else than the operation's own access. -/
def rmAsked {α : Type} (k : CoreAsk) (r : RmR α) : RmR α :=
  match r with
  | .error (.remote s _ need got atom) => .error (.remote s (some k) need got atom)
  | r => r
/-- A load of a word. -/
def rmLoadW (s : State) (n a : Nat) (orc : RmOrc) : RmR (Word × State) := do
  let l := rmLvl s n
  if !rmMay s n l 1 a then rmFlt rcLOAD a
  let (f, s) ← sbLoad s n ⟨a, .word 0#36, l⟩ (fun k => match k with | .word _ => true | _ => false)
  match f with
  | some (.word w) => .ok (w, s)
  | _ => (rmReads s n l [a] orc).map fun r => (r.1.headD 0#36, r.2)
/-- A load of a half, sign-extended. -/
def rmLoadH (s : State) (n a : Nat) (hi : Bool) (orc : RmOrc) : RmR (Word × State) := do
  let l := rmLvl s n
  if !rmMay s n l 1 a then rmFlt rcLOAD a
  let (f, s) ← sbLoad s n ⟨a, .half hi 0#18, l⟩ (fun k => match k with | .half h _ => h == hi | _ => false)
  match f with
  | some (.half _ h) => .ok (h.signExtend 36, s)
  | _ => (rmReads s n l [a] orc).map fun r =>
      ((BitVec.ofNat 18 ((r.1.headD 0#36).toNat / (if hi then 2 ^ 18 else 1))).signExtend 36, r.2)
/-- A load of a double: one access at an even address, two halves checked together at an odd one (R268). -/
def rmLoadD (s : State) (n a : Nat) (orc : RmOrc) : RmR (Word × Word × State) := do
  let l := rmLvl s n
  let b := (a + 1) % 2 ^ 36
  if !rmMay s n l 1 a then rmFlt rcLOAD a
  if !rmMay s n l 1 b then rmFlt rcLOAD b
  if a % 2 = 0 then
    let (f, s) ← sbLoad s n ⟨a, .dbl 0#36 0#36, l⟩ (fun k => match k with | .dbl _ _ => true | _ => false)
    match f with
    | some (.dbl x y) => .ok (x, y, s)
    | _ => (rmReads s n l [a, b] orc).map fun r => (r.1.getD 0 0#36, r.1.getD 1 0#36, r.2)
  else
    let (f, s) ← sbLoad s n ⟨a, .word 0#36, l⟩ (fun k => match k with | .word _ => true | _ => false)
    let (g, s) ← sbLoad s n ⟨b, .word 0#36, l⟩ (fun k => match k with | .word _ => true | _ => false)
    match f, g with
    | some (.word x), some (.word y) => .ok (x, y, s)
    | some (.word x), _ => (rmReads s n l [b] orc).map fun r => (x, r.1.headD 0#36, r.2)
    | _, some (.word y) => (rmReads s n l [a] orc).map fun r => (r.1.headD 0#36, y, r.2)
    | _, _ => (rmReads s n l [a, b] orc).map fun r => (r.1.getD 0 0#36, r.1.getD 1 0#36, r.2)
/-- A checked store. -/
def rmStore (s : State) (n : Nat) (es : List SbEnt) : RmR State :=
  let l := rmLvl s n
  let as_ := es.flatMap fun e => match e.kind with | .dbl _ _ => [e.addr, (e.addr + 1) % 2 ^ 36] | _ => [e.addr]
  match as_.find? (fun a => !rmMay s n l 2 a) with
  | some a => rmFlt rcSTORE a
  | none => sbPut s n es

/-! ### Stacks (R266) -/

/-- Spill the bottom held entry. -/
def rmSpill (s : State) (n : Nat) (q : Bool) : RmR State := do
  let l := rmLvl s n
  let p := rmSp s n l q
  if p < rmLo s n l q + rmCap q + 1 then rmFlt rcOVF 0
  let h := rmHeld s n q
  let s ← rmStore s n [⟨p - 1, .word (h.getLastD 0#36), l⟩]
  return rmSetHeld (rmSetSp s n l q (p - 1)) n q h.dropLast
/-- Fill one entry below the held ones; `orc`: what came back for it. -/
def rmFill (s : State) (n : Nat) (q : Bool) (orc : RmOrc) : RmR State := do
  let l := rmLvl s n
  let p := rmSp s n l q
  if p = rmHi s n l q then rmFlt rcUNF 0
  if !rmMay s n l 1 p then rmFlt rcLOAD p
  let (f, s) ← sbLoad s n ⟨p, .word 0#36, l⟩ (fun k => match k with | .word _ => true | _ => false)
  let (w, s) ← match f with
    | some (.word w) => (.ok (w, s) : RmR (Word × State))
    | _ => (rmAsked (.fill q) (rmReads s n l [p] orc)).map fun r => (r.1.headD 0#36, r.2)
  return rmSetHeld (rmSetSp s n l q ((p + 1) % 2 ^ 36)) n q (rmHeld s n q ++ [w])
/-- Fill until k entries are held; the first argument bounds the fills. -/
def rmNeedGo : Nat → State → Nat → Bool → Nat → RmR State
  | 0, s, _, _, _ => .ok s
  | f + 1, s, n, q, k => if k ≤ (rmHeld s n q).length then .ok s else (rmFill s n q []).bind fun s => rmNeedGo f s n q k
def rmNeed (s : State) (n : Nat) (q : Bool) (k : Nat) : RmR State := rmNeedGo k s n q k
/-- Push an entry, spilling where the hardware stack is full. -/
def rmPush (s : State) (n : Nat) (q : Bool) (w : Word) : RmR State := do
  let s ← if rmCap q ≤ (rmHeld s n q).length then rmSpill s n q else .ok s
  return rmSetHeld s n q (w :: rmHeld s n q)
/-- Entry i of the data stack, counted from the top. -/
def rmTop (s : State) (n i : Nat) : Word := (core s n).ds.getD i 0#36
/-- Take k entries off the data stack and put `l` on it, top first. -/
def rmPut (s : State) (n k : Nat) (l : List Word) : State := rmSetHeld s n false (l ++ (core s n).ds.drop k)

/-! ### PC -/

/-- The core goes on at a word; what it has fetched is discarded. -/
def rmJump (s : State) (n pc : Nat) : State := modCore s n fun c => { c with pc := pc % 2 ^ 36, slot := 0, words := [] }
/-- The word after the operation's own. -/
def rmNextWord (s : State) (n : Nat) : Nat := ((core s n).pc + 1) % 2 ^ 36
/-- The next operation in line. -/
def rmAdv (s : State) (n : Nat) : State :=
  if (core s n).slot < 3 then modCore s n fun c => { c with slot := c.slot + 1 } else rmJump s n (rmNextWord s n)

/-! ### Exceptions (R274 to R279) -/

/-- Hardware's own store and read: not region-checked. -/
def hwPut (n : Nat) (s : State) (e : Nat × Nat) : State :=
  let r := busWrite s n 0 e.1 (mkW e.2) true true
  if r.1 = stOK then r.2 else modCore r.2 n fun c => { c with perr := c.perr ++ [e.1] }
def hwGet (s : State) (n a : Nat) : Nat × Word × State := busRead s n 0 a
/-- The held entries go to the memory stack below a pointer, the top one lowest (R276). -/
def hwSpill (s : State) (n p : Nat) (l : List Word) : State :=
  ((List.range l.length).zip l).foldl (fun s e => hwPut n s ((p + e.1) % 2 ^ 36, e.2.toNat)) s
/-- The first address of a spill of k entries at p that the regions of level l forbid (R271). -/
def spillBad (s : State) (n l p k : Nat) : Option Nat :=
  ((List.range k).map fun i => (p + i) % 2 ^ 36).find? fun a => !rmMay s n l 2 a
/-- The core stops (R279). -/
def rmHalt (s : State) (n cause : Nat) : State :=
  let s := wf (wf s (R.rmCF_PC n) (core s n).pc) (R.rmCF_CAUSE n) cause
  let s := notice (raise (wb s (R.rmSTOPPED n) true) (8 + n)) 2 n n cause
  icArb (modCore s n fun c => { c with hold := .none })
/-- Words 0 to 10 of a task-state block at `a` (Table RMC-4). -/
def tsbWords (s : State) (n a cause faddr : Nat) (sps : List Nat) (dc rc : Nat) : List (Nat × Nat) :=
  let c := core s n
  ((List.range 11).zip ([c.pc, rmStat s n c.slot, cause, faddr] ++ sps ++ [dc + rc * 32])).map fun e => (a + e.1, e.2)
/-- The three levels' SPD and SPQ, with level `l` reduced by its held entries. -/
def tsbSps (s : State) (n l dc rc : Nat) : List Nat :=
  (List.range 3).flatMap fun k =>
    let d := rf s (R.rmSPD n k)
    let q := rf s (R.rmSPQ n k)
    if k = l then [(d + 2 ^ 36 - dc) % 2 ^ 36, (q + 2 ^ 36 - rc) % 2 ^ 36] else [d, q]
/-- Enter a handler: its level, IE, its address. -/
def rmHandler (s : State) (n l : Nat) (ie : Bool) (pc : Nat) : State :=
  let s := cnt (wb (wf s (R.rmLEVEL n) l) (R.rmIE n) ie) (R.rmENTRY_CNT n)
  rmJump (modCore s n fun c => { c with ds := [], rs := [], hold := .none }) n pc
/-- The emergency context (R278): the entry goes there, or the core stops. -/
def rmEmergency (s : State) (n cause detail arg faddr : Nat) : State :=
  let a := rmArea n
  let v := hwGet s n a
  let h := hwGet v.2.2 n (a + 1)
  let pc := h.2.1.toNat
  if v.1 ≠ stOK ∨ h.1 ≠ stOK ∨ bit v.2.1.toNat 0 = false ∨ pc < 0x30000000 ∨ 0x30010000 ≤ pc then rmHalt s n cause
  else
    let s := h.2.2
    let c := core s n
    let dc := c.ds.length
    let rc := c.rs.length
    let ws := tsbWords s n (a + 0x20) (0x20 + detail * 2 ^ 8 + arg * 2 ^ 12 + cause * 2 ^ 16) faddr (tsbSps s n (rmLvl s n) dc rc) dc rc
    let s := (ws ++ [(a + 0x2C, rmTsbp s n), (a + 0x2D, rf s (R.rmTSB_LIM n))]).foldl (hwPut n) s
    let s := hwSpill (hwSpill s n (a + 0xA0 - dc) c.ds) n (a + 0x100 - rc) c.rs
    let s := wf (wf (wb s (R.rmEMERG n) true) (R.rmTSBP n) ((a + 0x40) / 32)) (R.rmTSB_LIM n) (a + 0x40)
    let s := modCore s n fun c => { c with emD := a + 0xA0 - dc, emQ := a + 0x100 - rc }
    rmHandler (notice (cnt s (R.rmEMERG_CNT n)) 2 (12 + n) n cause) n 0 false pc
/-- An exception is taken (R275 to R279): the task-state block is written with its cause, the held entries are spilled, the
handler of vector `vec` is entered (a retargeted entry's vector is not its cause's, R280). -/
def rmEnterAt (s : State) (n cause vec detail arg faddr : Nat) : State :=
  if rb s (R.rmEMERG n) then rmHalt s n cause else
  let s := sbDrainN (core s n).sb.length s n
  let l := rmLvl s n
  let t := rmTsbp s n
  if rf s (R.rmTSB_LIM n) < t + 64 then rmEmergency s n cause detail arg faddr
  else
    let c := core s n
    let dc := c.ds.length
    let rc := c.rs.length
    let sps := tsbSps s n l dc rc
    let spd := sps.getD (2 * l) 0
    let spq := sps.getD (2 * l + 1) 0
    let s := (tsbWords s n t (cause + detail * 2 ^ 8 + arg * 2 ^ 12) faddr sps dc rc).foldl (hwPut n) s
    let va := rf s (R.rmVT_BASE n) * 32 + 2 * vec
    let v := hwGet s n va
    let w := hwGet v.2.2 n (va + 1)
    let s := w.2.2
    let hl := w.2.1.toNat % 4
    let inb := fun (k : Nat) (d q : Nat) => rmInB s n k false d && rmInB s n k true q
    if v.1 ≠ stOK ∨ w.1 ≠ stOK ∨ hl = 3 ∨ inb l spd spq = false ∨ (hl ≠ l ∧ inb hl (rf s (R.rmSPD n hl)) (rf s (R.rmSPQ n hl)) = false) ∨
        (spillBad s n l spd dc).isSome ∨ (spillBad s n l spq rc).isSome then
      rmEmergency s n cause detail arg faddr
    else
      let s := hwSpill (hwSpill s n spd c.ds) n spq c.rs
      let s := rmSetSp (rmSetSp s n l false spd) n l true spq
      rmHandler (wf s (R.rmTSBP n) (t / 32 + 1)) n hl (bit w.2.1.toNat 2) v.2.1.toNat
/-- An exception of a cause. -/
def rmExcept (s : State) (n cause detail arg faddr : Nat) : State := rmEnterAt s n cause cause detail arg faddr

/-! ### Running an operation -/

/-- At an operation boundary DCNT and RCNT follow the held entries, and an admitted request begins its entry (R280). -/
def rmSync (s : State) (n : Nat) : State :=
  let s := wf (wf s (R.rmDCNT n) (core s n).ds.length) (R.rmRCNT n) (core s n).rs.length
  modCore s n fun c => { c with ent := if rb s (R.rmIE n) then (icBest s n).map fun _ => icLinePri s n else none }
/-- Words of the instruction stream are fetched once (R271, R275); `orc`: what came back from another module or the host. -/
def rmFetchAt (s : State) (n a : Nat) (orc : RmOrc) : RmR State :=
  if (kvFind (core s n).words a).isSome then .ok s
  else if !rmMay s n (rmLvl s n) 3 a then rmFlt rcFETCH a
  else (rmAsked .fetch (rmReads s n (rmLvl s n) [a] orc)).map fun r =>
    modCore r.2 n fun c => { c with words := c.words ++ [(a, r.1.headD 0#36)] }
/-- The fetch of the operation's word. -/
def rmFetch (s : State) (n : Nat) : RmR State := rmFetchAt s n (core s n).pc []
/-- A fault leaves core n as it was in state s (R275), but for its store buffer and what its accesses did (state t). -/
def rmUndo (s t : State) (n : Nat) : State :=
  let l := rmLvl s n
  let t := rmSetSp (rmSetSp t n l false (rmSp s n l false)) n l true (rmSp s n l true)
  modCore t n fun c => { core s n with sb := c.sb, perr := c.perr, ent := c.ent, rose := c.rose }
/-- The accesses of an operation leave: a packet each to another module; a host word's completion and value are open (R355). What is awaited, what is known. -/
def rmAskAll (atom : Option (Nat × Word)) : State → RmOrc → List Nat → List (Nat × Nat) × RmOrc × State
  | s, got, [] => ([], got, s)
  | s, got, a :: as_ =>
    if mwPort s a = some 26 then
      let r := hostWinRead s a
      rmAskAll atom r.2.2 (got ++ [(a, r.1, r.2.1)]) as_
    else
      let q := match atom with | some (o, w) => remSend s .core 6 a o [w] | none => remSend s .core 1 a 0 []
      let r := rmAskAll atom q.2 got as_
      ((a, q.1) :: r.1, r.2)
/-- The outcome of operation `op` of core n begun in state s. -/
def rmDone (n op : Nat) (s : State) (r : RmR State) : State :=
  match r with
  | .ok t => rmSync t n
  | .error .wait => s
  | .error (.flt c d a f bus) =>
    let s := match bus with | some t => rmUndo s t n | none => s
    rmSync (rmExcept s n c d a f) n
  | .error (.remote t ask need got atom) =>
    match need.find? (fun a => decide (mwPort t a = some 27) && (route t (cascMod a)).isNone) with
    | some a => rmSync (rmExcept (rmUndo s t n) n rcBUS 0 0 a) n
    | none =>
      let q := rmAskAll atom t got need
      modCore q.2.2 n fun c => { c with hold := .remote (ask.getD (.op op)) q.1 q.2.1 }
/-- Operation `op` of core n at levels up to `lim`: `k` is its effect. -/
def rmOp (n op lim : Nat) (k : State → RmR State) (s : State) : Host.Outcome State Fault Refusal :=
  gateRst iRMC s fun s =>
    if rmRuns s n = false then s else
    match rmFetch s n with
    | .error e => rmDone n op s (.error e)
    | .ok s => rmDone n op s (if lim < rmLvl s n then rmFlt rcPRIV 0 else k s)
/-- An operation after which the next one in line follows. -/
def rmSeq (n op lim : Nat) (k : State → RmR State) (s : State) : Host.Outcome State Fault Refusal :=
  rmOp n op lim (fun s => (k s).map fun t => rmAdv t n) s

/-! ### Special registers (R284) -/

/-- Whether level l may read, and write, a number. -/
def srMayRead (o l : Nat) : Bool := match srLevel o with | some k => decide (l ≤ k) | none => true
def srMayWrite (o l : Nat) : Bool :=
  match srLevel o with
  | some k => decide (l < k) || decide (l = 0)
  | none =>
    if o ≤ 1 ∨ o = 0x24 then decide (l ≤ 1)
    else if o ≤ 5 ∨ o = 0x23 ∨ o = 0x25 ∨ o = 0x26 then decide (l = 0) else true
/-- Spill every held entry of a stack, before its pointer is written. -/
def rmSpillAll : Nat → State → Nat → Bool → RmR State
  | 0, s, _, _ => .ok s
  | f + 1, s, n, q => if (rmHeld s n q).isEmpty then .ok s else (rmSpill s n q).bind fun s => rmSpillAll f s n q
/-- What SWR does. -/
def srWrite (s : State) (n o : Nat) (w : Word) : RmR State :=
  let l := rmLvl s n
  let a := blkBase .rm n + o
  let all := 2 ^ 36 - 1
  if 8 ≤ o ∧ o < 0xE then
    let k := (o - 8) / 2
    let q := o % 2 == 1
    (if k = l then rmSpillAll 16 s n q else .ok s).map fun s => rmSetSp s n k q w.toNat
  else if 0x10 ≤ o ∧ o < 0x14 ∧ rmEm s n 0 then .ok s
  else if o = 0x24 then
    let was := rb s (R.rmWD_EN n)
    let s := if l = 0 then accWrite s .rm o a w.toNat all else s
    .ok (if bit w.toNat 1 || (!was && rb s (R.rmWD_EN n)) then wdKick s n else s)
  else if o = 0x22 then .ok s
  else .ok (accWrite s .rm o a w.toNat all)

end Sys2Proof.Machine
end

