-- ==== Sys2Proof/Machine/VecRun.lean ====
section
/-! DEFINITION. Vector pipes at work: element groups, reductions, rows, butterflies, faults, starts, fences, and the cycle of bank
arbitration (R57 to R60, R82 to R107, R111 to R132). -/

namespace Sys2Proof.Machine

/-! ### Pace (R95, R111, R127) -/

def vrRate (v : VI) : Nat := vRate v.op v.typ v.mod
/-- Start-up cycles S: 14 with a memory stream among the sources, else 4 (R95). -/
def vrS (c : VCaps) : Nat :=
  if [c.a, c.b, c.c].any (fun x => match x with | .str d _ => decide (d.mode ≠ 4) | _ => false) then 14 else 4
/-- Elements of group g of an instruction begun at k0: the first, and one past the last. -/
def grpLo (k0 g : Nat) : Nat := max k0 (16 * g)
def grpHi (n g : Nat) : Nat := min n (16 * g + 16)
def grpEls (k0 n g : Nat) : List Nat := (List.range (grpHi n g - grpLo k0 g)).map (fun i => grpLo k0 g + i)
/-- Groups of an instruction: one past the last, and the count from its first. -/
def grpEnd (v : VI) : Nat := (v.n + 15) / 16
def grpCnt (v : VI) (k0 : Nat) : Nat := grpEnd v - k0 / 16
def modRun (s : State) (p : Nat) (k : VRun → VRun) : State := setRun s p ((pipe s p).run.map k)

/-- The cycle of an instruction's last result, counted from its first cycle, and that in which it presents its last source group (R49,
R89, R90, R95, R96, R98, R111). -/
def vLast (v : VI) (c : VCaps) (k0 : Nat) : Nat × Nat :=
  let g := grpCnt v k0
  match vKind v.op with
  | .fence => (1, 1)
  | .nop => (0, 0)
  | k =>
    if v.n = 0 ∨ g = 0 then (vrS c - 1, vrS c - 1)
    else (vrS c + vrRate v * g + (if k = .red ∨ k = .row then 5 else 0) - (if k = .red ∨ k = .row then 0 else 1),
      vrS c + vrRate v * (g - 1) - 4)

/-- Whether the running instruction presents, in its present cycle, the index reads of group `ixg`. -/
def ixDue (r : VRun) : Bool :=
  let v := veI r.ent
  r.flt.isNone && decide (r.ixg < grpEnd v) && decide (r.cyc + 8 = vrS r.caps + vrRate v * (r.ixg - r.k0 / 16))
/-- Whether it presents the sources of group `gi`. -/
def srcDue (r : VRun) : Bool :=
  let v := veI r.ent
  r.flt.isNone && decide (r.gi < grpEnd v) && decide (r.cyc + 4 = vrS r.caps + vrRate v * (r.gi - r.k0 / 16))
/-- Whether it writes the results of group `wg`: of a row instruction those rows that end in it (R127). -/
def outDue (r : VRun) : Bool :=
  let v := veI r.ent
  let g := r.wg - r.k0 / 16 + 1
  !r.outs.isEmpty && (if vKind v.op = .row then decide (r.cyc = vrS r.caps + g + 5) else decide (r.cyc + 1 = vrS r.caps + vrRate v * g))
/-- Whether it writes a reduction's result. -/
def redDue (r : VRun) : Bool :=
  let v := veI r.ent
  decide (vKind v.op = .red) && r.flt.isNone && decide (grpEnd v ≤ r.gi) &&
    decide (r.cyc = vrS r.caps + vrRate v * grpCnt v r.k0 + 5)

/-! ### Element addresses and values -/

/-- Address of word j of a pipe's long registers. -/
def longAt (p j : Nat) : Nat := blkBase .vp p + 0x1000 + j
/-- Long-register words of element i of a group. -/
def longEl (p f : Nat) (dbl : Bool) (i : Nat) : List Nat :=
  if dbl then [longAt p (128 * f + 2 * i), longAt p (128 * f + 2 * i + 1)] else [longAt p (128 * f + i)]
/-- The value of words read lowest first. -/
def wordsVal (s : State) (as : List Nat) : Nat := as.reverse.foldl (fun v a => v * 2 ^ 36 + rdN s a) 0
/-- A chip as an element of a TYPE (R113): −1 fills the width of its operand. -/
def chipVal (typ : Nat) (dbl plus : Bool) : Nat :=
  if typ = 4 then if plus then 0x3F8000000 else 0xBF8000000
  else if typ = 5 then 0x3FF * 2 ^ 60 + (if plus then 0 else 2 ^ 71)
  else if plus then 1 else if dbl then 2 ^ 72 - 1 else 2 ^ 36 - 1
/-- Whether the chip of element i of a PRBS stream is +1 (R83). -/
def chipAt (s : State) (r : VRun) (d : SDesc) (i : Int) : Bool :=
  chipPlus s (d.w3 % 2 ^ 12) (r.pstep + sext 36 d.w4 + i * d.stride)

/-- The index stream an operand reads through. -/
def capIx : VCap → Option SDesc
  | .str d ix => if d.mode = 2 ∨ (d.mode = 3 ∧ d.idxq = true) then some ix else none
  | _ => none
/-- The key a pipe keeps word j of element i of an operand under while its group is read; an operand's index words have 8 added to its
number. -/
def vKey (oper i j : Nat) : Nat := (oper * 2 ^ 24 + i) * 2 + j
/-- The words read under keys: their value, or MEM_UE at the first that was uncorrectable (R65). -/
def gotVal (r : VRun) (oper i : Nat) (as : List Nat) : Except VFlt Nat :=
  let ws := (List.range as.length).map (fun j => (kvFind r.got (vKey oper i j)).getD (some 0#36))
  match (as.zip ws).find? (fun e => e.2.isNone) with
  | some e => .error ⟨vcMEM_UE, oper % 8, e.1⟩
  | none => .ok (ws.reverse.foldl (fun v w => v * 2 ^ 36 + (w.getD 0#36).toNat) 0)
/-- Where index i of an operand lies, or its fault (R83, R84, R94). -/
def ixAddr (s : State) (r : VRun) (oper : Nat) (ix : SDesc) (i : Nat) : Except VFlt Nat :=
  let a := sdAddr ix i
  if ix.len ≤ i then .error ⟨vcSTREAM_LEN, oper, a⟩
  else match vCheck s r.ent.org false a with
    | some c => .error ⟨c, oper, a⟩
    | none => .ok a
/-- Index i of an operand once its word is read (R95). -/
def ixVal (s : State) (r : VRun) (oper : Nat) (ix : SDesc) (i : Nat) : VIx :=
  match ixAddr s r oper ix i with
  | .error f => .bad f
  | .ok a => match gotVal r (8 + oper) i [a] with | .error f => .bad f | .ok x => .ok x
/-- The indexes of group g of an operand. -/
def ixGroup (s : State) (r : VRun) (oper : Nat) (c : VCap) (g : Nat) : List VIx :=
  match capIx c with
  | none => []
  | some ix => (grpEls r.k0 (veI r.ent).n g).map (ixVal s r oper ix)
/-- The reads of the index words of elements of an operand. -/
def ixReqs (s : State) (r : VRun) (oper : Nat) (c : VCap) (els : List Nat) : List VReq :=
  match capIx c with
  | none => []
  | some ix => els.filterMap fun i => match ixAddr s r oper ix i with
    | .ok a => some ⟨(veI r.ent).planned, a, vKey (8 + oper) i 0, none⟩
    | .error _ => none

/-- The queue number that element i of a QSNAP stream names (R83). -/
def slotQ (d : SDesc) (x : Option VIx) (i : Nat) : Except VFlt Nat :=
  if d.idxq then match x with | some (.ok q) => .ok q | some (.bad f) => .error f | none => .ok 0 else .ok (sdAddr d i)
/-- The Stream Memory words that element e of a source operand reads, lowest first, with their class; none for what is no memory stream;
or the fault it meets (R54, R83, R84, R94). `x`: its index, where it has one. -/
def srcWords (s : State) (r : VRun) (oper : Nat) (c : VCap) (x : Option VIx) (e : Nat) : Except VFlt (Bool × List Nat) :=
  match c with
  | .str d _ =>
    let chk : Bool → List Nat → Except VFlt (Bool × List Nat) := fun own as =>
      match vCheckAll s r.ent.org false oper as with | some f => .error f | none => .ok (own, as)
    match d.mode with
    | 4 => .ok (false, [])
    | 2 =>
      if d.len ≤ e then .error ⟨vcSTREAM_LEN, oper, 0⟩ else
      match x with
      | some (.ok x) => chk false (elWords d.dbl (toBits 36 ((d.base : Int) + sext 36 x * d.stride)))
      | some (.bad f) => .error f
      | none => .ok (false, [])
    | 3 =>
      if d.len ≤ e then .error ⟨vcSTREAM_LEN, oper, sdAddr d e⟩ else
      match slotQ d x e with
      | .error f => .error f
      | .ok q => if s.cfg.part.queues ≤ q then .error ⟨vcADDR, oper, q⟩ else chk false [lvtBase s + 2 * q, lvtBase s + 2 * q + 1]
    | _ => if d.len ≤ e then .error ⟨vcSTREAM_LEN, oper, sdAddr d e⟩ else chk (veI r.ent).planned (elWords d.dbl (sdAddr d e))
  | _ => .ok (false, [])
/-- The value a chain source delivers as an operand of `w` words for element j of a group (R86); that of an element of another width is
open (log entry 35). -/
def chEl (s : State) (c : VCap) (w j : Nat) : Nat :=
  match c with
  | .chain n => let e := (pairOf (chainP s n) false).fifo.getD j (0, w); if e.2 = w then e.1 else Config.chainWidth e.1 w
  | _ => 0
/-- The value of a source operand for element i at place j of its group, reading its element e (which is i but in a row instruction): from
the words its group's reads delivered, or from where else it comes; or its fault (R83 to R85, R113). -/
def srcEl (s : State) (p : Nat) (r : VRun) (oper : Nat) (c : VCap) (x : Option VIx) (j i e : Nat) : Except VFlt Nat :=
  let v := veI r.ent
  match c with
  | .none => .ok 0
  | .scal k => .ok k
  | .chain _ => .ok (chEl s c (if (vDbl v.op v.typ v.mod oper).getD false then 2 else 1) j)
  | .long f _ dbl => .ok (wordsVal s (longEl p f dbl e))
  | .str d _ =>
    if d.mode = 4 then .ok (chipVal v.typ ((vDbl v.op v.typ v.mod oper).getD false) (chipAt s r d e))
    else match srcWords s r oper c x e with
      | .error f => .error f
      | .ok (_, as) => gotVal r oper i as

/-! ### Destinations -/

/-- Where element i of D goes: word addresses (memory or long registers), none for a chain port; or a fault (R68, R70, R84, R94). -/
def dstEl (s : State) (p : Nat) (r : VRun) (x : Option VIx) (i : Nat) : Except VFlt (List Nat) :=
  match r.caps.d with
  | .long f _ dbl => .ok (longEl p f dbl i)
  | .str d _ =>
    let chk : List Nat → Except VFlt (List Nat) := fun as => match vCheckAll s r.ent.org true 0 as with | some f => .error f | none => .ok as
    if d.mode = 2 then
      if d.len ≤ i then .error ⟨vcSTREAM_LEN, 0, 0⟩ else
      match x with
      | some (.ok x) => chk (elWords d.dbl (toBits 36 ((d.base : Int) + sext 36 x * d.stride)))
      | some (.bad f) => .error f
      | none => .ok []
    else if d.len ≤ i then .error ⟨vcSTREAM_LEN, 0, sdAddr d i⟩
    else
      let v := veI r.ent
      let top := elWords d.dbl (sdAddr d i)
      if v.op = 0x043 then chk (top ++ elWords d.dbl (sdAddr d i + 2 ^ (v.mod % 32 + 1))) else chk top
  | _ => .ok []
/-- Word writes of a value at addresses, lowest first. -/
def wrList : List Nat → Nat → List (Nat × Word)
  | [], _ => []
  | a :: as, v => (a, mkW v) :: wrList as (v / 2 ^ 36)
/-- Whether writes of D are of the owner class (R54). -/
def dstOwn (r : VRun) : Bool := match r.caps.d with | .str d _ => (veI r.ent).planned && decide (d.mode ≠ 2) | _ => false
/-- Words of an element pushed into a chain port. -/
def chWide (v : VI) : Nat := if (vDbl v.op v.typ v.mod 0).getD false then 2 else 1
/-- Put a group's results where they need no bank (long registers, chain port) and raise their flags (R34, R99). -/
def wrOuts (s : State) (p : Nat) (r : VRun) (os : List VOut) : State :=
  os.foldl (fun s o =>
    let s := (o.wr.filter (fun e => decide (s.cfg.part.streamWords ≤ e.1))).foldl (fun s e => wr s e.1 e.2) s
    let s := match o.ch, capChain r.caps.d with
      | some v, some n => modPair s n true fun x => { x with fifo := x.fifo ++ [(v, chWide (veI r.ent))], pushed := x.pushed + 1 }
      | _, _ => s
    stick s (R.vpARF p) o.fl.toNat) s
/-- The Stream Memory writes of a group's results, in element order. -/
def outReqs (s : State) (r : VRun) (os : List VOut) : List VReq :=
  os.flatMap fun o => (o.wr.filter (fun e => decide (e.1 < s.cfg.part.streamWords))).map fun e =>
    ⟨dstOwn r, e.1, vKey 0 o.i 0, some e.2⟩

/-! ### One element, one group -/

/-- The element of an operand that place i of the instruction reads: in a row instruction the one its row and term name (R127, R128), with
none where VBAND clips the term. -/
def rowSrc (r : VRun) (i : Nat) : Option (Nat × Nat) :=
  let v := veI r.ent
  let cs := capScal r.caps.c
  let w := vRowW v.op v.mod cs
  if v.op = 0x041 then
    let e := bandE cs (i / w) (i % w)
    let short := match r.caps.a with | .str d _ => decide (d.len ≤ i) | _ => false
    if short = false ∧ (e < 0 ∨ (bandCap r.caps.b : Int) ≤ e) then none else some (i, e.toNat)
  else some (i % w, 0)
/-- What element i (place j in its group) reads: operand, index, element of the operand, in operand order. -/
def elSrcs (r : VRun) (j i : Nat) : List (Nat × VCap × Option VIx × Nat) :=
  let v := veI r.ent
  if vKind v.op = .row then
    match rowSrc r i with
    | none => []
    | some (a, b) => (1, r.caps.a, none, a) :: (if v.op = 0x041 then [(2, r.caps.b, none, b)] else [])
  else [(1, r.caps.a, r.ixA[j]?, i), (2, r.caps.b, r.ixB[j]?, i), (3, r.caps.c, none, i)]
/-- The reads of an element's operands, up to the first that meets a fault; whether none does. -/
def elReqs (s : State) (r : VRun) (i : Nat) : List (Nat × VCap × Option VIx × Nat) → List VReq × Bool
  | [] => ([], true)
  | (oper, c, x, e) :: l =>
    match srcWords s r oper c x e with
    | .error _ => ([], false)
    | .ok (own, as) =>
      let k := elReqs s r i l
      ((List.range as.length).map (fun j => ⟨own, as.getD j 0, vKey oper i j, none⟩) ++ k.1, k.2)
/-- The source reads of a group's elements, up to the first that meets a fault (R57, R99). -/
def srcReqs (s : State) (r : VRun) : Nat → List Nat → List VReq
  | _, [] => []
  | j, i :: is =>
    let k := elReqs s r i (elSrcs r j i)
    if k.2 then k.1 ++ srcReqs s r (j + 1) is else k.1

/-- Element i (place j in its group) of an element-wise operation: its output, or its fault (R83, R116, R122, R123, R130). An index of a
scatter destination is read in the cycle of its group's source reads: R95 times only the index reads of sources (log entry 35). -/
def elemOut (s : State) (p : Nat) (r : VRun) (j i : Nat) : Except VFlt VOut :=
  let v := veI r.ent
  let rm := viRm v r.drm
  let pick : Nat → VCap → List VIx → Except VFlt Nat := fun oper c l => srcEl s p r oper c (l[j]?) j i i
  let fin : List Nat → Arf → Except VFlt VOut := fun vals fl =>
    match dstEl s p r ((capIx r.caps.d).map (fun ix => ixVal s r 0 ix i)) i with
    | .error f => .error f
    | .ok as =>
      let n := as.length / max 1 vals.length
      let wr := (List.range vals.length).flatMap fun k => wrList ((as.drop (n * k)).take n) (vals.getD k 0)
      .ok ⟨i, wr, (capChain r.caps.d).map (fun _ => vals.headD 0), fl⟩
  if vKind v.op = .qget then
    match r.caps.a with
    | .str d _ =>
      match pick 1 r.caps.a r.ixA with
      | .error f => .error f
      | .ok xt =>
        match pick 2 r.caps.b r.ixB with
        | .error f => .error f
        | .ok b =>
          let q := (slotQ d (r.ixA[j]?) i).toOption.getD 0
          match vqget v.mod (d.w3 % 2 ^ 35) r.refTag (xt % 2 ^ 36) (xt / 2 ^ 36) b (decide (xt / 2 ^ 36 = 0) && !s.fld.tagZero.contains q) with
          | none => .error ⟨vcQSTALE, 1, q⟩
          | some y => fin [y] 0#7
    | _ => .ok ⟨i, [], none, 0#7⟩
  else
    match pick 1 r.caps.a r.ixA with
    | .error f => .error f
    | .ok a =>
      match pick 2 r.caps.b r.ixB with
      | .error f => .error f
      | .ok b =>
        if v.op = 0x043 then
          let t := (i % 2 ^ (v.mod % 32)) * 2 ^ (v.mod / 32 % 32)
          let w := match r.caps.c with | .long f _ dbl => wordsVal s (longEl p f dbl t) | _ => 0
          let y := vFly v rm a b w
          fin [y.1.1, y.1.2] y.2
        else
          match pick 3 r.caps.c [] with
          | .error f => .error f
          | .ok c => let y := vLane v rm i a b c; fin [y.1] y.2

/-- Elements of a group in order until one faults: outputs, and the fault with its element. -/
def elemGroup (s : State) (p : Nat) (r : VRun) : Nat → List Nat → List VOut × Option (Nat × VFlt)
  | _, [] => ([], none)
  | j, i :: is =>
    match elemOut s p r j i with
    | .error f => ([], some (i, f))
    | .ok o => let k := elemGroup s p r (j + 1) is; (o :: k.1, k.2)

/-- The elements of a reduction's group: index, a, b; and the fault met (R124). -/
def redEls (s : State) (p : Nat) (r : VRun) : Nat → List Nat → List (Nat × Nat × Nat) × Option (Nat × VFlt)
  | _, [] => ([], none)
  | j, i :: is =>
    match srcEl s p r 1 r.caps.a (r.ixA[j]?) j i i with
    | .error f => ([], some (i, f))
    | .ok a =>
      match srcEl s p r 2 r.caps.b (r.ixB[j]?) j i i with
      | .error f => ([], some (i, f))
      | .ok b => let k := redEls s p r (j + 1) is; ((i, a, b) :: k.1, k.2)

/-- One element of a row instruction (R127 to R129): the run with its sum, the row's output where it is complete, or the fault. -/
def rowEl (s : State) (p : Nat) (r : VRun) (i : Nat) : VRun × Option VOut × Option VFlt :=
  let v := veI r.ent
  let rm := viRm v r.drm
  let w := vRowW v.op v.mod (capScal r.caps.c)
  let row := i / w
  let k := i % w
  let dbl := match r.caps.d with | .str d _ => d.dbl | _ => false
  let r := if k = 0 then { r with acc := 0, accFl := 0#7 } else r
  match (if k = 0 ∨ i = r.k0 then dstEl s p r none row else .ok []) with
  | .error f => (r, none, some f)
  | .ok _ =>
    let fin := fun (q : Nat × Arf) =>
      let r := { r with acc := q.1, accFl := r.accFl ||| q.2 }
      if k + 1 = w then
        let y := rowResult v dbl r.acc
        match dstEl s p r none row with
        | .error f => (r, none, some f)
        | .ok as => (r, some ⟨i - k, wrList as y.1, none, r.accFl ||| y.2⟩, none)
      else (r, none, none)
    match rowSrc r i with
    | none => fin (r.acc, 0#7)
    | some (ea, eb) =>
      match srcEl s p r 1 r.caps.a none 0 i ea with
      | .error f => (r, none, some f)
      | .ok a =>
        if v.op = 0x041 then
          match srcEl s p r 2 r.caps.b none 0 i eb with
          | .error f => (r, none, some f)
          | .ok b => fin (rowAcc v rm r.acc a b)
        else if row < v.mod % 64 + 1 then
          let plus := match r.caps.b with | .str d _ => chipAt s r d ((k : Int) - row) | _ => true
          fin (rowChip v rm r.acc a plus)
        else fin (rowAcc v rm r.acc a a)
/-- The elements of a group of a row instruction. -/
def rowGroup (s : State) (p : Nat) (r : VRun) : List Nat → List VOut → VRun × List VOut × Option (Nat × VFlt)
  | [], os => (r, os, none)
  | i :: is, os =>
    match rowEl s p r i with
    | (r, _, some f) => (r, os, some (i, f))
    | (r, o, none) => rowGroup s p r is (os ++ o.toList)

/-- The elements of the group that is read: a chain partner's end may cut it short (R87, R102). A reduction folds part of a group only
where its partner's abort ends it inside one (log entry 35). -/
def vEls (r : VRun) : List Nat :=
  let l := grpEls r.k0 (veI r.ent).n r.gi
  match r.cut with
  | none => l
  | some (k, f) => if vKind (veI r.ent).op = .red ∧ f.cause ≠ vcCHAIN_ABORT then [] else l.filter (fun i => decide (i < k))
/-- Compute the group whose sources have been read (R95, R99, R114, R124 to R130). D of a reduction is checked with its first group, and a
failure faults that group's first element: R99 does not say which element D's fault belongs to (log entry 35). -/
def vCompute (s : State) (p : Nat) (r : VRun) : VRun :=
  let v := veI r.ent
  let els := vEls r
  let n := grpHi v.n r.gi - grpLo r.k0 r.gi
  let next := { r with gi := r.gi + 1, ixA := r.ixA.drop n, ixB := r.ixB.drop n, flt := r.cut }
  match vKind v.op with
  | .red =>
    match (if r.gi = r.k0 / 16 then dstEl s p r none 0 else .ok []) with
    | .error f => { next with flt := some (grpLo r.k0 r.gi, f) }
    | .ok _ =>
      let k := redEls s p r 0 els
      if k.2.isSome then { next with flt := k.2 }
      else if els = [] then next
      else
        let g := redGroup v (viRm v r.drm) r.part k.1
        { next with part := g.1, accFl := r.accFl ||| g.2, partB := r.part, accFlB := r.accFl }
  | .row =>
    let k := rowGroup s p r els []
    { next with acc := k.1.acc, accFl := k.1.accFl, outs := r.outs ++ [k.2.1], flt := k.2.2.or r.cut }
  | _ =>
    let k := elemGroup s p r 0 els
    { next with outs := r.outs ++ [k.1], flt := k.2.or r.cut }
/-- The elements of a group leave the chain ports they came from. -/
def chPop (s : State) (r : VRun) : State :=
  let n := (vEls r).length
  (srcChains r.caps).foldl (fun s c => modPair s c false fun x => { x with fifo := x.fifo.drop n, taken := x.taken + n }) s

/-! ### Ends of an instruction -/

/-- Store a Progress Record in the task-state block it belongs to (R101): through Midway, as master 12 + p. -/
def prStore (s : State) (p : Nat) : Option (Nat × Nat × List Word) → State
  | none => s
  | some (tsb, lvl, ws) =>
    let r := (List.range 12).foldl (fun (acc : Bool × State) i =>
      let q := busWrite acc.2 (12 + p) lvl ((tsb + 20 + i) % 2 ^ 36) (ws.getD i 0#36) true true
      (acc.1 && decide (q.1 = stOK), q.2)) (true, s)
    if r.1 then r.2 else notice (wb r.2 (R.vpPR_WRITE_ERR p) true) 5 (8 + p) p (rdN r.2 (R.vpPR0 p).addr)
/-- The running instruction of a pipe ends in a fault (R99 to R102). -/
def vFault (s : State) (p : Nat) (r : VRun) (k f : Nat) (flt : VFlt) : State :=
  let q := vStopRun (modPipe s p fun q => { q with hist := [] }) p r k f flt false
  pipeIdle (prStore q.2 p q.1) p
/-- The fault found in the running instruction is taken once what precedes it is written (R99): a reduction stopped by its partner keeps
the partner's restart element, with the partial of the elements below it (R102, log entry 35). -/
def vTaken (s : State) (p : Nat) (r : VRun) (f : Nat) (e : VFlt) : State :=
  vFault s p r (vRestart (veI r.ent) r.caps r.k0 e.cause f) f e
/-- The next instruction in line at a pipe (R92). -/
def pipeNext (q : PipeSt) : Option VEntry := match q.calQ with | e :: _ => some e | [] => if q.blocks.isEmpty then q.rmQ.head? else none
/-- Overlap-hold cycles of the next instruction in line (R96, R97), counted in HOLD_CNT by the schedule without stalls: it is held until the
last result of every earlier instruction whose destination range overlaps its sources (log entry 18). -/
def vHoldCnt (s : State) (p : Nat) (r : VRun) : State :=
  match pipeNext (pipe s p) with
  | none => modPipe s p fun q => { q with hist := [] }
  | some e =>
    let v := veI r.ent
    let u := veI e
    let c := vCaps s p u
    let cs := capScal c.c
    let rg := fun (v : VI) (c : VCap) (cs pos : Nat) => vRanges s.cfg.part.streamWords (lvtBase s) s.cfg.part.queues v pos cs c
    let own := if v.n = 0 then [] else rg v r.caps.d (capScal r.caps.c) 0
    let t := vLast v r.caps r.k0
    let begin : Int := max ((t.2 : Int) + 1) ((t.1 : Int) + 1 - vrS c)
    let hist := (own, (t.1 : Int)) :: (pipe s p).hist
    let srcs := rg u c.a cs 1 ++ rg u c.b cs 2 ++ rg u c.c cs 3
    let held := (hist.filter (fun h => rangesOverlap h.1 srcs)).foldl (fun m h => max m (h.2 + 1)) begin
    let hist := (hist.map (fun h => (h.1, h.2 - held))).filter (fun h => decide (0 ≤ h.2))
    modPipe (cntAdd s (R.vpHOLD_CNT p) (held - begin).toNat) p fun q => { q with hist := hist }
/-- The running instruction of a pipe completes. -/
def vDone (s : State) (p : Nat) (r : VRun) : State :=
  let s := vHoldCnt s p r
  let s := setRun (chainRelease s p r.caps) p none
  let s := cnt (pipeLongs s p) (R.vpDONE_CNT p)
  pipeIdle (blockEnd s p r.ent.org) p

/-! ### Waits (R86, R87, R98) -/

/-- Whether everything a fence recorded has ended (R98). -/
def fenceClear (s : State) (e : VEntry) : Bool :=
  (List.range s.cfg.part.pipes).all fun q =>
    !bit (veI e).mod q ||
    (let k := pipe s q
     let es := k.calQ ++ k.rmQ ++ (match k.run with | some r => [r.ent] | none => [])
     let before := fun (x : VEntry) => match e.org, x.org with
       | .cal a _, .cal b _ => decide (b < a) || (decide (b = a) && decide (x.id < e.id))
       | .rm _ _ _ _ _, .rm _ _ _ _ _ => decide (x.id < e.id)
       | _, _ => false
     es.all (fun x => !before x) &&
     (match e.org with | .cal a _ => k.blocks.all (fun b => decide (a ≤ b.act)) | _ => true))

/-- Chain-wait cycles up to the present are counted (R12). -/
def vWaited (s : State) (p : Nat) (r : VRun) : State :=
  if r.waitSince.isNone then s
  else modRun (cntAdd s (R.vpCHAIN_WAIT_CNT p) (s.now - r.waitTo)) p fun r => { r with waitTo := s.now }
/-- The running instruction begins to wait on a chain port, or goes on waiting. -/
def vWait (s : State) (p : Nat) : State :=
  modRun s p fun r => if r.waitSince.isSome then r else { r with waitSince := some s.now, waitTo := s.now }

/-- Bind the chain ports of a starting instruction, all or none (R86): a role that is free may be taken. An instruction without elements
binds them too, and its N of 0 stops a longer partner at its first element (R87, R89; log entry 35). -/
def chBind (s : State) (p : Nat) (r : VRun) : Option State :=
  let k := (veI r.ent).n - r.k0
  let freeD := match capChain r.caps.d with | some n => (chainP s n).prod.isNone | none => true
  if freeD && (srcChains r.caps).all (fun n => (chainP s n).cons.isNone) then
    let s := match capChain r.caps.d with | some n => chTake s n p k true | none => s
    some (modRun ((srcChains r.caps).foldl (fun s n => chTake s n p k false) s) p fun r => { r with bound := true, waitSince := none })
  else none

/-- What a chain port says of what an instruction needs next of it: ready, wait, or a fault at an element. -/
inductive ChSay where
  | ready
  | wait
  | fault (el : Nat) (cause : Nat)
  deriving DecidableEq, Repr
/-- To a consumer begun at k0 of the elements lo to hi − 1 (R86, R87, R102): where the producer ends short, the elements below that end are
used first. -/
def consSay (x : ChPair) (k0 lo hi : Nat) : ChSay :=
  let upTo := fun (k cause : Nat) => if k - lo ≤ x.fifo.length then ChSay.fault (max k lo) cause else .wait
  match x.abortAt with
  | some k => if k < hi then upTo k vcCHAIN_ABORT else if hi - lo ≤ x.fifo.length then .ready else .wait
  | none =>
    match x.prodN, x.consN with
    | some a, some b =>
      if a < b ∧ k0 + a < hi then upTo (k0 + a) vcCHAIN_LEN else if hi - lo ≤ x.fifo.length then .ready else .wait
    | _, _ => if hi - lo ≤ x.fifo.length then .ready else .wait
/-- To a producer begun at k0: the element its smaller partner ends at, if there is one (R87). -/
def prodEndAt (x : ChPair) (k0 : Nat) : Option Nat :=
  match x.prodN, x.consN with
  | some a, some b => if b < a then some (k0 + b) else none
  | _, _ => none
/-- The operand position of a chain source. -/
def chOper (c : VCaps) (n : Nat) : Nat := if c.a = .chain n then 1 else if c.b = .chain n then 2 else if c.c = .chain n then 3 else 0
/-- What the chain sources say of the group to be read: the first fault in element order, else a wait, else ready; with the operand. -/
def srcSay (s : State) (r : VRun) : ChSay × Nat :=
  let v := veI r.ent
  (srcChains r.caps).foldl (fun best n =>
    let x := consSay (pairOf (chainP s n) false) r.k0 (grpLo r.k0 r.gi) (grpHi v.n r.gi)
    match best.1, x with
    | .fault e _, .fault e' _ => if e' < e then (x, chOper r.caps n) else best
    | .ready, _ => (x, chOper r.caps n)
    | .wait, .fault _ _ => best
    | _, .wait => (x, chOper r.caps n)
    | _, _ => best) (.ready, 0)
/-- Where a partner's fault stops a producer: it ends there at once (R102). -/
def prodAbort (s : State) (r : VRun) : Option Nat := (capChain r.caps.d).bind fun n => (pairOf (chainP s n) true).abortAt
/-- The results of a producer that its smaller partner leaves room for, and the fault that ends it (R87). -/
def prodCut (s : State) (r : VRun) : VRun :=
  match capChain r.caps.d with
  | none => r
  | some n =>
    match prodEndAt (pairOf (chainP s n) true) r.k0, r.outs with
    | some k, os :: _ =>
      if os.all (fun o => decide (o.i < k)) then r
      else
        let keep := os.filter (fun o => decide (o.i < k))
        { r with outs := if keep = [] then [] else [keep], flt := some (k, ⟨vcCHAIN_LEN, 0, 0⟩) }
    | _, _ => r
/-- Whether the port of a producer has no room for the group it is to write (R86). -/
def prodWaits (s : State) (r : VRun) : Bool :=
  match capChain r.caps.d, r.outs with
  | some n, os :: _ => decide (64 < chWords (chainP s n) + os.length * chWide (veI r.ent))
  | _, _ => false

/-! ### A cycle of the running instruction (R57, R95) -/

/-- What a reduction writes to D (Table VIN-6), or D's fault. -/
def redOut (s : State) (p : Nat) (r : VRun) : Except VFlt VOut :=
  let v := veI r.ent
  let dbl := match r.caps.d with
    | .str d _ => d.dbl
    | .long _ _ dbl => dbl
    | _ => false
  let y := redResult v dbl (r.part.getD 0)
  match dstEl s p r none 0 with
  | .error f => .error f
  | .ok as => .ok ⟨0, wrList as y.1, none, r.accFl ||| y.2⟩
/-- The results an instruction writes in its present cycle. -/
def vWriting (s : State) (p : Nat) (r : VRun) : List VOut :=
  if redDue r then (redOut s p r).toOption.toList else if outDue r then r.outs.headD [] else []
/-- The Stream Memory accesses of its present cycle (R57, R95): source reads, then index reads, then writes, so that a read and a write
that meet in one bank leave the read the older word. -/
def vReqs (s : State) (p : Nat) (r : VRun) : List VReq :=
  let els := vEls r
  (if srcDue r then srcReqs s r 0 els ++ ixReqs s r 0 r.caps.d els else []) ++
  (if ixDue r then
    let g := grpEls r.k0 (veI r.ent).n r.ixg
    ixReqs s r 1 r.caps.a g ++ ixReqs s r 2 r.caps.b g
   else []) ++
  outReqs s r (vWriting s p r)
/-- Whether an instruction has no element group to work on: a no-operation, a fence or a count of 0 (R89, R90, R98). -/
def vIdleOp (r : VRun) : Bool := veNop r.ent || decide ((veI r.ent).n = 0)

/-- A pipe's cycle begins (R86, R87, R102): its instruction binds its ports, takes what its partners' ends do to it, and presents its
accesses (`todo`), or waits (no `todo`). A stalled instruction goes on presenting what was not granted (R57). -/
def vPrep (s : State) (p : Nat) : State :=
  match (pipe s p).run with
  | none => s
  | some r =>
    if r.todo.isSome then s
    else if vIdleOp r then
      if vKind (veI r.ent).op = .fence ∧ 1 ≤ r.cyc ∧ fenceClear s r.ent = false then s
      else if r.bound ∨ vChains r.caps = [] then modRun s p fun r => { r with todo := some [] }
      else
        let s := vWaited s p r
        match chBind s p r with
        | none => vWait s p
        | some s => modRun s p fun r => { r with todo := some [] }
    else
      let s := vWaited s p r
      match (if r.bound then some s else chBind s p r) with
      | none => vWait s p
      | some s =>
        match prodAbort s r with
        | some k => vFault s p r k k ⟨vcCHAIN_ABORT, 0, 0⟩
        | none =>
          let r := (((pipe s p).run.map (fun r => if outDue r then prodCut s r else r)).getD r)
          let s := setRun s p (some r)
          match r.flt, r.outs with
          | some (f, e), [] => vTaken s p r f e
          | _, _ =>
            if outDue r ∧ prodWaits s r = true then vWait s p
            else match (if srcDue r then srcSay s r else (.ready, 0)) with
              | (.wait, _) => vWait s p
              | (.fault el c, o) =>
                let r := { r with cut := some (el, ⟨c, o, 0⟩) }
                setRun s p (some { r with todo := some (vReqs s p r), waitSince := none })
              | (.ready, _) => setRun s p (some { r with todo := some (vReqs s p r), waitSince := none })

/-- A pipe whose accesses have all been granted ends its cycle: the group read is computed, results are written, and the instruction goes
on, completes, or takes its fault (R57, R95, R99). A reduction whose D fails only at its end faults its last element, with the partial
before that element's group (log entry 35). -/
def vDo (s : State) (p : Nat) : State :=
  match (pipe s p).run with
  | none => s
  | some r =>
    let v := veI r.ent
    if vIdleOp r then
      if (vLast v r.caps r.k0).1 ≤ r.cyc then vDone s p r else modRun s p fun r => { r with cyc := r.cyc + 1, todo := none }
    else
      let os := vWriting s p r
      let y := if redDue r then some (redOut s p r) else none
      let r1 := if ixDue r then
          { r with ixg := r.ixg + 1, ixA := r.ixA ++ ixGroup s r 1 r.caps.a r.ixg, ixB := r.ixB ++ ixGroup s r 2 r.caps.b r.ixg }
        else r
      let r2 := if srcDue r then vCompute s p r1 else r1
      let r3 := if outDue r then { r2 with outs := r2.outs.drop 1, wg := r2.wg + 1 } else r2
      let r4 := { r3 with cyc := r3.cyc + 1, todo := none, got := [], olds := [], cut := none }
      let s := wrOuts (if srcDue r then chPop s r else s) p r os
      let s := setRun s p (some r4)
      match y with
      | some (.ok _) => vDone s p r4
      | some (.error f) =>
        if grpCnt v r.k0 = 0 then vFault s p r4 r.k0 r.k0 f
        else let k := max r.k0 ((v.n - 1) / 16 * 16); vFault s p (vBefore r4) k (v.n - 1) f
      | none =>
        if r4.outs.isEmpty = false then s
        else match r4.flt with
          | some (f, e) => vTaken s p r4 f e
          | none =>
            if vKind v.op ≠ .red ∧ grpEnd v ≤ r4.gi ∧ vrS r.caps ≤ r4.cyc then vDone s p r4 else s

/-! ### Starts (R82, R90 to R93, R96, R103) -/

inductive VMove where
  | moved
  | wait
  | none
  deriving DecidableEq, Repr

/-- Whether a Progress Record may be resumed with the present descriptors (R103, R129). -/
def resOk (s : State) (p : Nat) (e : VEntry) (ws : List Word) (c : VCaps) : Bool :=
  let w0 := (ws.headD 0#36).toNat
  let k := bits w0 23 0
  let g := fun i => (ws.getD i 0#36).toNat
  bit w0 35 && decide (bits w0 27 25 ≠ 6) && vLegal s p e.w0 e.w1 e.w2 && decide (vPos s (veI e) c k = (g 7, g 8, g 9))
/-- Whether a pipe may start an instruction (R92, R101, R105). -/
def vMayStart (s : State) (p : Nat) : Bool :=
  let st := rf s (R.vpUNIT_STATE p)
  (pipe s p).run.isNone && decide (p < s.cfg.part.pipes) && (decide (st = usON) || decide (st = usDRAINING)) &&
  decide ((pipe s p).pow = .steady) && decide (rf s (R.vpPOWER p) < pRETAINED) && !rb s (R.vpCAL_HELD p)
/-- Start the next instruction in line, if the pipe may (R92, R101, R105); `wait`: the next instruction of a block is not yet fetched
(R93). -/
def vStart (s : State) (p : Nat) : VMove × State :=
  let q := pipe s p
  if vMayStart s p = false then (.none, s)
  else
    let e? := match q.calQ with
      | e :: _ => some (e, true)
      | [] => if q.blocks.isEmpty ∧ rb s (R.vpRM_HELD p) = false then q.rmQ.head?.map (fun e => (e, false)) else none
    match e? with
    | none => (if q.calQ = [] ∧ q.blocks.any (fun b => decide (b.fetched < b.len)) then .wait else .none, s)
    | some (e, isCal) =>
      let s := wf s (R.vpPOWER p) pACTIVE
      let s := modPipe s p fun q => if isCal then { q with calQ := q.calQ.drop 1 } else { q with rmQ := q.rmQ.drop 1 }
      let v := veI e
      let c := vCaps s p v
      let fr := freeNat s
      let s := fr.2
      let run : VRun := {
        ent := e, caps := c, refTag := tagOf (s.devTime - (22 + fr.1 % 23)), pstep := (pstep s : Int),
        drm := rf s (R.vpDRM p), k0 := 0, bound := (vChains c).isEmpty, cyc := 0, gi := 0, ixg := 0, wg := 0, ixA := [], ixB := [],
        outs := [], part := none, partB := none, acc := 0, accFl := 0#7, accFlB := 0#7, todo := none, got := [], olds := [], cut := none,
        flt := none, waitSince := none, waitTo := s.now }
      match e.bad, e.res with
      | some (cause, a), _ => (.moved, vFault (setRun s p (some run)) p run 0 0 ⟨cause, 6, a⟩)
      | none, some ws =>
        let k := bits (ws.headD 0#36).toNat 23 0
        let part := (ws.getD 10 0#36).toNat + (ws.getD 11 0#36).toNat * 2 ^ 36
        let r := { run with
          k0 := k, gi := k / 16, ixg := k / 16, wg := k / 16
          part := if vKind v.op = .red ∧ 0 < k then some part else none }
        if resOk s p e ws c then (.moved, setRun (wb s (R.vpVALID p) false) p (some r))
        else
          let r := { r with part := some part }
          (.moved, vFault (setRun s p (some r)) p r k k ⟨vcRESUME_BAD, 7, 0⟩)
      | none, none =>
        if vLegal s p e.w0 e.w1 e.w2 then (.moved, setRun s p (some run))
        else (.moved, vFault (setRun s p (some run)) p run 0 0 ⟨vcILLEGAL, 7, 0⟩)

/-! ### One VEC cycle (R54 to R60) -/

/-- Accesses a pipe still presents. -/
def vTodo (s : State) (p : Nat) : List VReq := ((pipe s p).run.bind (fun r => r.todo)).getD []
/-- A pipe's granted access is performed (R53, R57). A write leaves the word it replaces to reads of the same cycle that are still to come
(R114). -/
def vPerform (s : State) (p : Nat) (q : VReq) : State :=
  match q.put with
  | some w =>
    let old := rd s q.addr
    let read := (vTodo s p).any (fun x => x.put.isNone && decide (x.addr = q.addr))
    modRun (smWriteOwn s q.addr w).2 p fun r =>
      { r with todo := r.todo.map (fun l => l.erase q), olds := if read ∧ kvFind r.olds q.addr = none then r.olds ++ [(q.addr, old)] else r.olds }
  | none =>
    let was := (pipe s p).run.bind (fun r => kvFind r.olds q.addr)
    let x := match was with
      | some w => (some w, s)
      | none => let x := smReadOwn s q.addr; (if x.1 = stOK then some x.2.1 else none, x.2.2)
    modRun x.2 p fun r => { r with todo := r.todo.map (fun l => l.erase q), got := r.got ++ [(q.key, x.1)] }
/-- The first of a pipe's accesses of a class that asks for a bank. -/
def vAsks (s : State) (b : Nat) (own : Bool) (p : Nat) : Option VReq :=
  (vTodo s p).find? (fun q => decide (q.own = own) && decide (smBank s q.addr = b))
/-- Grant a bank to a pipe's access of a class. -/
def vGrant (s : State) (p b : Nat) (own : Bool) : State :=
  match vAsks s b own p with
  | some q => vPerform s p q
  | none => s
/-- One bank's grant of the cycle among the pipes of a mask and Midway's ports (R54, R55, R63): the state, and the pipes that owner-class
grants went to. -/
def bankGrant (ps : List Nat) (acc : List (Nat × Nat) × State) (b : Nat) : List (Nat × Nat) × State :=
  let s := acc.2
  match rotWin (kvGet 0 s.sm.ownPtr b) 4 (ps.filter (fun p => (vAsks s b true p).isSome)) with
  | some p => (acc.1 ++ [(b, p)], vGrant { s with sm := { s.sm with ownPtr := kvSet 0 s.sm.ownPtr b ((p + 1) % 4) } } p b true)
  | none =>
    if (kvFind s.sm.rmw b).isSome then (acc.1, smComplete s b) else
    match rotWin (kvGet 0 s.sm.shPtr b) 8 (ps.filter (fun p => (vAsks s b false p).isSome) ++ smWaiting s b) with
    | none => acc
    | some x => (acc.1, if x < 4 then vGrant (smTurn s b x) x b false else smGrantPort (smTurn s b x) b (x - 4))
/-- PHASEMISS and its record of the cycle (R60). -/
def phaseMiss (s : State) (ps : List Nat) (granted : List (Nat × Nat)) : State :=
  match ps.find? (fun p => (vTodo s p).any (fun e => e.own)) with
  | none => s
  | some p =>
    let b := ((vTodo s p).filter (fun e => e.own)).foldl (fun m e => min m (smBank s e.addr)) 256
    let self := !granted.any (fun g => decide (g.1 = b) && decide (g.2 ≠ p))
    let s := raiseIf s (!rb s R.smPHASEMISS) 226
    let s := notice (cnt (wb s R.smPHASEMISS true) R.smPHASEMISS_CNT) 6 2 0 0
    wb (wf (wf s R.smPM_BANK b) R.smPM_LOSER p) R.smPM_SELF self

/-- A cycle begins for a pipe: one with nothing running starts what is next; whether it goes on in this cycle. -/
def vFront (acc : Bool × State) (p : Nat) : Bool × State :=
  let s := acc.2
  let m := if (pipe s p).run.isNone then vStart s p else (.none, s)
  let s := vPrep m.2 p
  (acc.1 || decide (m.1 = .moved) || (match (pipe s p).run with | some r => r.todo.isSome | none => (pipe acc.2 p).run.isSome), s)
/-- A cycle ends for a pipe: it goes on, or its stall is counted (R12, R86, R93, R121). -/
def vBack (s : State) (p : Nat) : State :=
  match (pipe s p).run with
  | none => if (vStart s p).1 = .wait then cnt s (R.vpFETCH_WAIT_CNT p) else s
  | some r =>
    match r.todo with
    | some [] => vDo s p
    | some l => if l.any (fun e => e.own) then s else cnt s (R.vpSHARED_STALL_CNT p)
    | none => if r.waitSince.isSome then modRun (cnt s (R.vpCHAIN_WAIT_CNT p)) p fun r => { r with waitTo := s.now + 1 } else s
/-- The grants of a cycle and its end, for the pipes ps. -/
def vGrants (s : State) (ps : List Nat) : State :=
  let banks := ((ps.flatMap (vTodo s)).map (fun q => smBank s q.addr)).eraseDups
  let g := banks.foldl (bankGrant ps) ([], s)
  elapse (ps.foldl vBack (phaseMiss g.2 ps g.1)) 1
/-- The pipes ps pass one VEC cycle together (R57): each bank they ask for makes its grant, Midway's waiting accesses to it among the
candidates. What other banks do in that cycle has commands of its own (log entry 5). -/
def vecCycle (s : State) (ps : List Nat) : State := vGrants (ps.foldl vFront (false, s)).2 ps
/-- VECTOR_GROUP_ADVANCE (R57). -/
def execVectorGroupAdvance (mask : BitVec 4) (s : State) : Host.Outcome State Fault Refusal :=
  gate iVEC s fun s => vecCycle s ((List.range s.cfg.part.pipes).filter (fun p => mask.getLsbD p))

/-! ### Running on -/

/-- Pass cycles for the pipes that `who` names until it names none or all of them wait. -/
def vRunOn (who : State → List Nat) : Nat → State → State
  | 0, s => s
  | n + 1, s =>
    let ps := who s
    let f := ps.foldl vFront (false, s)
    if f.1 then vRunOn who n (vGrants f.2 ps) else f.2
/-- Pipe p, and the other pipes whose running instruction uses chain ports. -/
def vMates (p : Nat) (s : State) : List Nat :=
  p :: (List.range s.cfg.part.pipes).filter (fun q => decide (q ≠ p) && (pipe s q).run.any (fun r => !(vChains r.caps).isEmpty))
/-- Pipe p runs until it waits or has nothing to do, and with it what it may wait for on chain ports of other pipes. -/
def vSettle (n : Nat) (s : State) (p : Nat) : State := vRunOn (vMates p) n s
/-- Cycles enough for any queue. -/
def vLong : Nat := 2 ^ 40

/-- A vector instruction arrives at pipe p and the pipe runs as far as it can (log entry 18). -/
def vCommand (op p : Nat) (o : VOrg) (f : VFields) (s : State) : Host.Outcome State Fault Refusal :=
  gate iVEC s fun s =>
    if p < s.cfg.part.pipes then
      let w := viWords op f
      vSettle vLong (pipeIssue s p w.1 w.2.1 w.2.2 o none none).2 p
    else s

/-! ### Block fetch, chain timeout, release, power, long registers -/

/-- BLOCK_FETCH (R93): three shared-class reads at the pipe's place in the rotation. A block that was accepted goes on being fetched while
the pipe drains: R106 says only that no issue is accepted (log entry 35). -/
def blockFetch (s : State) (p : Nat) : State :=
  let q := pipe s p
  match q.blocks.find? (fun b => decide (b.fetched < b.len)) with
  | none => s
  | some b =>
    if 16 ≤ q.calQ.length then s else
    let a := b.addr + 3 * b.fetched
    let rd1 := fun (acc : (List Word × Option (Nat × Nat)) × State) (i : Nat) =>
      match acc.1.2 with
      | some _ => acc
      | none =>
        match vCheck acc.2 (.cal b.act a) false (a + i) with
        | some c => ((acc.1.1, some (c, a + i)), acc.2)
        | none =>
          let x := smServe (acc.2.sm.wait.length + 1) acc.2 p (a + i) .read
          if x.1 = stOK then ((acc.1.1 ++ [x.2.1], none), x.2.2) else ((acc.1.1, some (vcMEM_UE, a + i)), x.2.2)
    let r := [0, 1, 2].foldl rd1 (([], none), s)
    let w := fun i => r.1.1.getD i 0#36
    let e : VEntry := ⟨r.2.vecId, w 0, w 1, w 2, .cal b.act a, r.1.2, none⟩
    let s := pipeRouse { r.2 with vecId := r.2.vecId + 1 } p true
    modPipe s p fun q => { q with
      calQ := q.calQ ++ [e]
      blocks := q.blocks.map (fun x => if x.act = b.act then { x with fetched := x.fetched + 1 } else x) }
def execBlockFetch (p : Nat) (s : State) : Host.Outcome State Fault Refusal :=
  gate iVEC s fun s => if p < s.cfg.part.pipes then blockFetch s p else s

/-- The element at which an instruction waits on a chain port, and the operand (R87): for its role its first element, for room the first
element it is to push, for data the first element of the group it is to read. -/
def chWaitAt (s : State) (r : VRun) : Nat × Nat :=
  if r.bound = false then (r.k0, match capChain r.caps.d with | some _ => 0 | none => chOper r.caps ((srcChains r.caps).headD 0))
  else if outDue r ∧ prodWaits s r = true then (((r.outs.headD []).head?.map VOut.i).getD r.k0, 0)
  else (grpLo r.k0 r.gi, (srcSay s r).2)
/-- Pipe p while a fault it has found waits for earlier results to be written. -/
def vEnding (p : Nat) (s : State) : List Nat := if (pipe s p).run.any (fun r => r.flt.isSome) then [p] else []
/-- CHAIN_TIMEOUT (R87): an instruction still waiting faults at its current element. One that waits for data first writes the groups before
that element. -/
def chainTimeout (s : State) (p : Nat) : State :=
  match (pipe s p).run.bind (fun r => r.waitSince) with
  | none => s
  | some t =>
    let s := vPrep s p
    match (pipe s p).run with
    | none => s
    | some r =>
      if r.waitSince.isNone then s
      else
        let s := atLeast s (t + rf s (R.vpCHAIN_TIMEOUT p) * 1000)
        let s := vWaited s p r
        let x := chWaitAt s r
        let f : VFlt := ⟨vcCHAIN_TIMEOUT, x.2, 0⟩
        if r.outs = [] ∨ (outDue r ∧ prodWaits s r = true) then vTaken s p r x.1 f
        else vRunOn (vEnding p) vLong (modRun s p fun r => { r with flt := some (x.1, f), waitSince := none })
def execChainTimeout (p : Nat) (s : State) : Host.Outcome State Fault Refusal :=
  gate iVEC s fun s => if p < s.cfg.part.pipes then chainTimeout s p else s

/-- RM_RELEASE (R101). -/
def execRmRelease (p : Nat) (s : State) : Host.Outcome State Fault Refusal :=
  gate iVEC s fun s => if p < s.cfg.part.pipes then wb s (R.vpRM_HELD p) false else s

/-- PIPE_IDLE_TIMEOUT (R104). -/
def pipeIdleTimeout (s : State) (p : Nat) : State :=
  let t := rf s (R.vpIDLE_TIME p)
  if (pipe s p).pow = .steady ∧ rf s (R.vpPOWER p) = pIDLE ∧ t ≠ 0 then pipeSleepNow (atLeast s ((pipe s p).idleSince + t * 1000)) p else s
def execPipeIdleTimeout (p : Nat) (s : State) : Host.Outcome State Fault Refusal :=
  gate iVEC s fun s => if p < s.cfg.part.pipes then pipeIdleTimeout s p else s
/-- The long registers of a GATED pipe hold nothing (R104). -/
def longsLost (s : State) (p : Nat) : State :=
  { s with mem := s.mem.filter (fun e => decide (e.1 < longAt p 0) || decide (longAt p 2048 ≤ e.1)) }
/-- PIPE_POWERDOWN_DONE (R104, R105). -/
def pipePowerdownDone (s : State) (p : Nat) : State :=
  match (pipe s p).pow with
  | .entering g wake =>
    let s := atLeast s ((pipe s p).idleSince + 200)
    let s := wf (if g then longsLost s p else s) (R.vpPOWER p) (if g then pGATED else pRETAINED)
    modPipe s p fun q => { q with pow := if wake then .waking else .steady, idleSince := s.now }
  | _ => s
def execPipePowerdownDone (p : Nat) (s : State) : Host.Outcome State Fault Refusal :=
  gate iVEC s fun s => if p < s.cfg.part.pipes then pipePowerdownDone s p else s
/-- PIPE_WAKE_DONE (R104, R105): 0.4 µs from RETAINED, 1.6 µs from GATED; a waiting instruction starts. -/
def pipeWakeDone (s : State) (p : Nat) : State :=
  let q := pipe s p
  match q.pow with
  | .waking =>
    let s := atLeast s (q.idleSince + if rf s (R.vpPOWER p) = pRETAINED then 400 else 1600)
    let s := match q.waitFrom with | some t => cntAdd s (R.vpWAKE_WAIT_CNT p) (s.now - t) | none => s
    let work := q.calQ ≠ [] ∨ q.rmQ ≠ [] ∨ q.blocks ≠ []
    let s := wf s (R.vpPOWER p) (if work then pACTIVE else pIDLE)
    let s := modPipe s p fun q => { q with pow := .steady, waitFrom := none, idleSince := s.now }
    (vStart s p).2
  | _ => s
def execPipeWakeDone (p : Nat) (s : State) : Host.Outcome State Fault Refusal :=
  gate iVEC s fun s => if p < s.cfg.part.pipes then pipeWakeDone s p else s

/-- LONG_REGISTER_WRITE (R108): answered with a bus error on a powered-down pipe. -/
def execLongRegisterWrite (p off : Nat) (w : Word) (s : State) : Host.Outcome State Fault Refusal :=
  gate iVEC s fun s =>
    if p < s.cfg.part.pipes ∧ off < 2048 ∧ rf s (R.vpPOWER p) < pRETAINED then vpWrite s p (0x1000 + off) (longAt p off) w.toNat (2 ^ 36 - 1)
    else s

/-- The pipes whose running instruction a chain partner has stopped (R102). -/
def vStopped (s : State) : List Nat :=
  (List.range s.cfg.part.pipes).filter fun q => (pipe s q).run.any fun r => r.bound &&
    ((prodAbort s r).isSome || (srcChains r.caps).any (fun n => (pairOf (chainP s n) false).abortAt.isSome))
/-- At DRAIN_LIMIT the running instruction faults with DRAIN_CUT, its chain partner ends with CHAIN_ABORT at once, and the queued
instructions are discarded (R102, R106). -/
def pipeCut (s : State) (p : Nat) : State :=
  let s := match (pipe s p).run with
    | some r => let k := vProgress r; vFault s p k.2 k.1 k.1 ⟨vcDRAIN_CUT, 7, 0⟩
    | none => s
  vRunOn vStopped vLong (pipeIdle (modPipe s p fun q => { q with calQ := [], rmQ := [], blocks := [] }) p)

end Sys2Proof.Machine
end

