-- ==== Sys2Proof/Machine/Units.lean ====
section
/-! DEFINITION. Disabling and re-enabling units (R396 with R106, R158, R237, R259, R325, R348), and changes of a port's link (R237). -/

namespace Sys2Proof.Machine

/-- The island a unit lies in. -/
def unitIsland : UnitRef → Nat
  | .pipe _ => iVEC
  | .cluster n => iCLU n
  | .port _ => iFLD
  | .link _ => iCAS
  | .dma _ => iMWY
  | .probe _ => iMWY
/-- What follows a change of a unit: routes are recomputed after a link's (R336), and Calliope's loss set follows (R200). -/
def unitSettle (u : UnitRef) (s : State) : State :=
  calSettle (match u with | .link _ => routesNow s | _ => s)
/-- A command about a unit the part has. -/
def gateUnit (u : UnitRef) (s : State) (k : State → State) : Host.Outcome State Fault Refusal :=
  gate (unitIsland u) s fun s => if unitHas s u then unitSettle u (k s) else s

/-- UNIT_ENABLE_WRITE (R396): an enabled probe channel must conflict with none (R245). -/
def execUnitEnableWrite (u : UnitRef) (en : Bool) (s : State) : Host.Outcome State Fault Refusal :=
  gateUnit u s fun s => match u with
    | .probe c => idnEnable s c en
    | _ => unitEnable s u en

/-- Whether a draining unit has nothing left (R106, R158, R237, R259, R325, R348). -/
def unitDrained (s : State) : UnitRef → Bool
  | .pipe p => let q := pipe s p; q.run.isNone && q.calQ.isEmpty && q.rmQ.isEmpty && q.blocks.isEmpty
  | .cluster n => !clBusy s n && (cl s n).startWait.isNone
  | .port p => let k := port s p; k.recs.isEmpty && k.emits.isEmpty && k.tx.isEmpty
  | .link _ => true
  | .dma c => decide (rf s (R.dcSTATE c) = 0)
  | .probe _ => !s.probeOk || decide (calState s ≠ csPLAYING)
/-- Enter ISOLATING: a link's outstanding remote accesses are answered TIMEOUT (R348). -/
def unitIsolate (s : State) (u : UnitRef) : State :=
  let s := unitGo s u usISOLATING
  match u with | .link l => casCut s l | _ => s
/-- UNIT_DRAIN_COMPLETE (R396). -/
def execUnitDrainComplete (u : UnitRef) (s : State) : Host.Outcome State Fault Refusal :=
  gateUnit u s fun s => if rf s (unitSt u) = usDRAINING ∧ unitDrained s u then unitIsolate s u else s

/-- How long a unit may drain, in nanoseconds, where there is a limit. -/
def drainNs (s : State) : UnitRef → Option Nat
  | .pipe p => some (rf s (R.vpDRAIN_LIMIT p) * 1000)
  | .cluster n => some (rf s (R.scDRAIN_LIMIT n) * 1000)
  | .port _ => some 1000000
  | .link _ => some 100000
  | .dma _ => some (rf s R.dcDRAIN_LIMIT * 1000)
  | .probe _ => none
/-- What the limit cuts off: a cluster's run is stopped and still finishes; in every other unit nothing is left. -/
def drainCut (s : State) (u : UnitRef) : State :=
  match u with
  | .pipe p => unitIsolate (pipeCut s p) u
  | .cluster n => clStop (modCl s n fun c => { c with startWait := none }) n 2
  | .port p => unitIsolate (modPort s p fun k => { k with recs := [], emits := [], tx := [], bufUsed := 0 }) u
  | .link _ => unitIsolate s u
  | .dma c => unitIsolate (dmaCut s c 6) u
  | .probe _ => s
/-- DRAIN_LIMIT_EXPIRY (R106, R158, R237, R325, R348). -/
def execDrainLimitExpiry (u : UnitRef) (s : State) : Host.Outcome State Fault Refusal :=
  gateUnit u s fun s =>
    match drainNs s u with
    | some d => if rf s (unitSt u) = usDRAINING ∧ unitDrained s u = false then drainCut (atLeast s (unitSince s u + d)) u else s
    | none => s

/-- Least time in ISOLATING, in nanoseconds. -/
def isolateNs : UnitRef → Nat
  | .pipe _ => 64
  | .cluster _ => 40
  | .port _ => 164
  | .link _ => 159
  | .dma _ => 20
  | .probe _ => 11
/-- Time in WAKING, in nanoseconds. -/
def wakeNs (s : State) : UnitRef → Nat
  | .pipe _ => 1600
  | .cluster _ => 1200
  | .port _ => 2000000
  | .link l => if rf s (R.casLSTATE l) = 2 then 0 else 2000000
  | .dma _ => 20
  | .probe _ => 11
/-- A unit reached OFF after a disable, or returned to ON: its interrupt source (R109, R162, R242, R261, R329, R351). -/
def unitTell (s : State) : UnitRef → State
  | .pipe p => raise s (52 + p)
  | .cluster n => raise s (32 + n)
  | .port p => notice (raise s (120 + 3 * p)) 7 (3 * p) p p
  | .link l => raise s (176 + l)
  | .dma c => raise s (56 + c)
  | .probe c => notice (raise s 172) 8 4 c 0
/-- What a unit is in OFF. -/
def unitOff (s : State) (u : UnitRef) : State :=
  match u with
  | .pipe p => modPipe (wf (longsLost s p) (R.vpPOWER p) pGATED) p fun q => { q with pow := .steady, sleep := false, waitFrom := none }
  | .cluster n => modCl (clLose (wf s (R.scPOWER n) pwGATED) n) n fun c => { c with waking := none, sleep := false }
  | .port p => fpLinkChange s p false
  | .link l => linkFall s l 0
  | .dma c => dmaDrop s c
  | .probe _ => s
/-- The shutdown is complete: OFF, and on to WAKING where an enable is remembered (R396); a probe channel's is refused where its target has
been taken meanwhile (R245). -/
def unitDown (s : State) (u : UnitRef) : State :=
  let s := unitTell (unitOff (unitGo s u usOFF) u) u
  match u with
  | .probe c => if rb s (unitEn u) then (if idnTaken s c then idnStick (wb s (unitEn u) false) R.idnCONFLICT 6 c else unitWake s u) else s
  | _ => if rb s (unitEn u) then unitWake s u else s
/-- Transactions of a channel still to be answered (R325). -/
def dmaOut (s : State) (c : Nat) : Bool :=
  s.mw.txns.any fun t => decide (t.req.master = 4 + c % 4) && decide (t.req.id / 2 = c / 4)
/-- UNIT_ISOLATE_DONE (R396). -/
def execUnitIsolateDone (u : UnitRef) (s : State) : Host.Outcome State Fault Refusal :=
  gateUnit u s fun s =>
    let held : Bool := match u with | .dma c => dmaOut s c | _ => false
    if rf s (unitSt u) = usISOLATING ∧ held = false then unitDown (atLeast s (unitSince s u + isolateNs u)) u else s

/-- What a unit is when it comes ON: a woken probe channel adds nothing before the next PROBE_STEP (R259). -/
def unitOn (s : State) (u : UnitRef) : State :=
  match u with
  | .pipe p => modPipe (wf s (R.vpPOWER p) pIDLE) p fun q => { q with pow := .steady, idleSince := s.now }
  | .cluster n => modCl (wf s (R.scPOWER n) pwIDLE) n fun c => { c with idleSince := s.now }
  | .probe c => { s with idn := { s.idn with fresh := s.idn.fresh ++ [c] } }
  | _ => s
/-- UNIT_WAKE_DONE (R396): ON, and on to DRAINING where the enable was taken back. -/
def execUnitWakeDone (u : UnitRef) (s : State) : Host.Outcome State Fault Refusal :=
  gateUnit u s fun s =>
    if rf s (unitSt u) = usWAKING then
      let s := atLeast s (unitSince s u + wakeNs s u)
      let s := unitTell (unitOn (unitGo s u usON) u) u
      if rb s (unitEn u) then s else unitGo s u usDRAINING
    else s

/-- LINK_CHANGE (R237). -/
def execLinkChange (p : Nat) (up : Bool) (s : State) : Host.Outcome State Fault Refusal :=
  gate iFLD s fun s => if p < s.cfg.part.ports then calSettle (fpLinkChange s p up) else s
/-- LINK_DOWN_REPORT (R237). -/
def execLinkDownReport (p : Nat) (s : State) : Host.Outcome State Fault Refusal :=
  gate iFLD s fun s => if p < s.cfg.part.ports then calSettle (fpLinkDownReport s p) else s

end Sys2Proof.Machine
end

