-- ==== Sys2Proof/Machine/PowerRun.lean ====
section
/-! DEFINITION. What resets do to each island, starts, releases, the supply and heat (R376 to R397), and the PCIe lines (R356, R375, R384). -/

namespace Sys2Proof.Machine

def modPwr (s : State) (k : PwrSt → PwrSt) : State := { s with pwr := k s.pwr }

/-! ### Islands (R8) -/

/-- Every island but AON. -/
def allIsl : List Nat := List.range 23
/-- Islands a warm reset resets (Table MRP-5): all but AON, FLD and CAS. -/
def warmMask : BitVec 23 := 0x4FFFFF#23
/-- Units of an island. -/
def unitsOf (s : State) (i : Nat) : List UnitRef :=
  if i = iVEC then (List.range s.cfg.part.pipes).map .pipe
  else if i = iFLD then (portIds s).map .port
  else if i = iCAS then (linkIds s).map .link
  else if i = iMWY then (List.range 64).map .dma ++ (idnListed s).map .probe
  else if 1 ≤ i ∧ i ≤ s.cfg.part.clusters then [.cluster (i - 1)] else []
/-- Units found in WAKING restart their wake at the release of their island (R396). -/
def wakeAgain (s : State) (i : Nat) : State :=
  (unitsOf s i).foldl (fun s u => if rf s (unitSt u) = usWAKING then unitGo s u usWAKING else s) s
/-- Units found in DRAINING or ISOLATING complete to OFF before their island enters reset (R396). -/
def unitsSettle (s : State) (i : Nat) : State :=
  (unitsOf s i).foldl (fun s u =>
    if rf s (unitSt u) = usDRAINING ∨ rf s (unitSt u) = usISOLATING then unitDown s u else s) s

/-! ### What an island holds beside its registers -/

/-- An island loses everything beside its registers and memories: its cold state. -/
def islZero (s : State) (i : Nat) : State :=
  let p := s.cfg.part
  if i = iVEC then
    { s with sm := smZero, pipes := List.replicate p.pipes pipeZero, chains := List.replicate 4 chainZero }
  else if i = iRMC then { s with cores := List.replicate p.cores coreZero, ic := ⟨[], [], []⟩ }
  else if i = iMWY then
    let f := { s.fld with qd := [], hold := [], viewLeft := none, thawDue := false, freezePend := none, tagZero := [], rot := 0 }
    { s with mw := mwZero, dma := { dmaZero with gen := s.dma.gen }, cal := calZero, calIn := [], idn := ⟨[], none, false⟩, probeOk := false,
             fld := f }
  else if i = iBLK then { s with bm := bmZero, hst := { s.hst with imgLen := [0, 0] } }
  else if i = iFLD then
    let f := { s.fld with ports := List.replicate p.ports portZero, cls := [], emitFly := [], winOpen := [] }
    { s with fld := f }
  else if i = iCAS then { s with cas := casZero p }
  else if i = iHST then
    let h := { hstZero with flash := s.hst.flash, flashLen := s.hst.flashLen, flashOk := s.hst.flashOk, imgLen := s.hst.imgLen }
    let h := { h with keys := s.hst.keys, booted := s.hst.booted, bootSel := s.hst.bootSel }
    { s with hst := { h with fieldRec := s.hst.fieldRec, trainOk := s.hst.trainOk } }
  else { s with clusters := s.clusters.set (i - 1) clZero }
/-- Islands lose power or go through a cold release: registers and memories at their Cold values, nothing else held. -/
def islLost (s : State) (m : BitVec 23) : State :=
  let s := coldRegs s (fun b i => m.getLsbD (blkIsl b i)) (fun a => m.getLsbD (memIsl a))
  let s := { s with up := s.up &&& ~~~m, forced := s.forced &&& ~~~m }
  let s := modPwr s fun q => { q with lockPend := q.lockPend &&& ~~~m }
  allIsl.foldl (fun s i => if m.getLsbD i then islZero s i else s) s

/-- R107: a pipe stops its work; a power-down entry or a wake under way completes. -/
def pipeWarm (s : State) (p : Nat) : State :=
  let s := pipeLongs s p
  let w := rf s (R.vpPOWER p)
  let s := match (pipe s p).pow with
    | .entering g _ => wf (if g then longsLost s p else s) (R.vpPOWER p) (if g then pGATED else pRETAINED)
    | .waking => wf s (R.vpPOWER p) pIDLE
    | .steady => if w = pACTIVE then wf s (R.vpPOWER p) pIDLE else s
  modPipe s p fun _ => { pipeZero with idleSince := s.now }
/-- R107: every pipe stops at once and leaves its chain ports. No Progress Record is written. -/
def vecStop (s : State) : State :=
  { (List.range s.cfg.part.pipes).foldl pipeWarm s with chains := List.replicate 4 chainZero }
/-- R69, R55: VEC enters a warm reset, after which INIT_DONE reads 1; accesses granted complete, with their read-modify-write
completions. The scrubber begins again at row 0 of every bank: R66 gives no position after a reset (log
entry 6). -/
def vecWarm (s : State) : State :=
  let s := vecStop s
  let s := if isUp s iVEC ∧ rb s R.smINIT_DONE = false then smInit s else s
  { (s.sm.rmw.map Prod.fst).foldl smComplete s with sm := smZero }
/-- R159: a cluster at a warm reset; its results in flight have landed, and INIT_DONE reads 1 after it (Table CLU-11). -/
def clWarm (s : State) (n : Nat) : State :=
  let s := if isUp s (iCLU n) ∧ rb s (R.scINIT_DONE n) = false then clInit s n else s
  let last := clLastCyc (cl s n)
  let s := clLand s n last
  let busy := clBusy s n || (cl s n).waking.isSome
  let s := if busy then wf s (R.scPOWER n) pwIDLE else s
  setCl s n { clZero with cyc := last, idleSince := s.now }
/-- R283: a core at a warm reset; its buffered stores to local memory complete, the others are discarded. -/
def coreWarm (s : State) (n : Nat) : State :=
  let own := fun (e : SbEnt) => decide (mwAddr s e.addr / 0x10000 = coreLocal n / 0x10000)
  let s := modCore s n fun c => { c with sb := c.sb.filter own }
  let s := sbDrainN (core s n).sb.length s n
  modCore s n fun _ => { coreZero with wdFrom := s.now }
/-- R300: every ACTIVE source becomes PENDING. -/
def icWarm (s : State) : State :=
  let act := s.mem.filterMap fun e =>
    if icSrcBase ≤ e.1 ∧ e.1 < icSrcBase + 256 ∧ bit e.2.toNat 10 then some (e.1 - icSrcBase) else none
  { act.foldl (fun s src => wb s (R.icPENDING src) true) s with ic := ⟨[], [], []⟩ }
/-- R326: transactions not yet granted are discarded; those of the field frame assembler and the Briby engines are answered TIMEOUT. -/
def mwDiscard (s : State) : State :=
  let gone := s.mw.txns.filter fun t => tHeld t || tWaiting t
  let far := gone.filter fun t => decide (t.req.master = 10) || (decide (16 ≤ t.req.master) && decide (t.req.master < 20))
  let rsp := match far.getLast? with
    | some t => some (t.req.master, t.req.id, stTIMEOUT, [])
    | none => s.mw.rsp
  { s with mw := { s.mw with txns := s.mw.txns.filter (fun t => !(tHeld t || tWaiting t)), rsp := rsp } }
/-- R373, R368: the engines of the host interface restart; each packet fetched and not answered is answered RESET. -/
def hstWarm (s : State) : State :=
  let s := modHst s fun h => { h with
    mail := [], early := [], recent := [], fwds := [], sess := [], xfers := [], far := []
    psets := h.psets.map fun p => { p with st := if p.st = 3 then 4 else p.st, defer := none } }
  (List.range 4).foldl (fun s r =>
    match (ring s r).pkt with
    | some ws =>
      if rb s (R.hstRING_EN r) then
        let s := modRing s r fun _ => { ringZero with pkt := some ws, ran := true }
        putReply (cnt s R.hstERR_CNT) (.ring r) (mkReply s ws hsRESET 0 []) true
      else modRing s r fun _ => ringZero
    | none => modRing s r fun _ => ringZero) s
/-- R199: Calliope stops as under HOLD and is IDLE; what was playing, its tick source and the place of the next tick to be raised are kept
for a re-arm. -/
def calWarm (s : State) : State :=
  let st := calState s
  let was := match s.cal.act with
    | some t => if st ≠ csIDLE then some (t.img, t.idx, st, calTicks s) else s.cal.was
    | none => s.cal.was
  let nx := if s.cal.newSrc ∨ s.cal.was.isSome then (s.cal.nextF, s.cal.nextM) else ownNext s (s.cas.marks.length + s.cal.crossQ + b2n s.cal.spacing)
  let src := match s.cal.act with | some t => if s.cal.newSrc then some (srcOf s t 0) else s.cal.src | none => s.cal.src
  let s := keepersOwn (thawStart (wf (calQuit (calHalt s)) R.calSTATE csIDLE))
  let s := calSync (modCal { s with probeOk := false } fun c => { calZero with
    src := src, nextF := nx.1, nextM := nx.2, lossAdd := c.lossAdd, was := was })
  wf s R.calMINOR_TICK 0
/-- The retained words of Bulk Memory are lost with its devices' state, and the image store with them (R388). -/
def bulkLost (s : State) : State :=
  let gone := fun (a : Nat) => decide (bulkBase ≤ a)
  let s := { s with mem := s.mem.filter (fun e => !gone e.1), ecc := s.ecc.filter (fun e => !gone e.1) }
  wb { s with bm := bmZero, hst := { s.hst with imgLen := [0, 0] } } R.bmINIT_DONE false
/-- An island's registers at their Warm values. -/
def islRegs (s : State) (i : Nat) : State := warmRegs s fun b k => decide (blkIsl b k = i)

/-! ### Starts (R379 to R383) -/

/-- A start begins (R379, R382): at START_FAILS 3 or more it enters RECOVERY. -/
def startBegin (s : State) (warm : Bool) : State :=
  let s := wb (modPwr s fun q => { q with startAt := s.now, startWarm := warm }) R.pwrRESTARTING true
  if 3 ≤ rf s R.pwrSTART_FAILS then
    let s := notice (setMode s mRECOVERY) 0 16 0 0
    modPwr (modCal (keepersOwn s) fun c => { c with was := none }) fun q => { q with bootDue := false }
  else modPwr s fun q => { q with bootDue := true }
/-- The release sets the trouble bits of its causes, in ascending CAUSE order (R384, R404). -/
def relTrouble (s : State) : State :=
  let det := fun (c : Nat) => rf s R.pwrLAST_RESET + rf s R.pwrSTART_FAILS * 16 + (if c = 14 then rf s R.pwrISL_LOST * 128 else 0)
  let cs := s.pwr.code :: s.pwr.merged
  let s := ((List.range 16).filter fun c => cs.contains c).foldl (fun s c => troubleSet s ⟨c, 0, mkW (det c)⟩ true) s
  modPwr s fun q => { q with merged := [] }

/-- Whether a pin, a trip, a brown-out, a lost reference or a lost input holds the module in reset (R384, R389, R394, R395, R397). -/
def rstHeld (s : State) : Bool :=
  let q := s.pwr
  q.pinC || q.pinW || q.pinP || q.thHold || q.boHold || q.refHold || q.noIn

/-- Known column faults of a bank: those the fuses and the field repair record list (R67). -/
def bankFaults (s : State) (b : Nat) : Nat :=
  ((s.cfg.fuseCols ++ s.hst.fieldRec.getD []).filter (fun e => decide (e.1 = b))).eraseDups.length
/-- Column repair at the fuse and trim load (R67, R68): with it on, each bank's two spares replace its first two faults, and a bank with more
is marked off; with it off, every bank with a fault is. -/
def repairLoad (s : State) (on : Bool) : State :=
  let banks := List.range s.cfg.part.banks
  let off := fun (b : Nat) => decide ((if on then 2 else 0) < bankFaults s b)
  let s := wb (wb s R.smREPAIR_ON on) R.smFIELD_REC (on && s.hst.fieldRec.isSome)
  let s := wf s R.smSPARES_USED (if on then (banks.map (fun b => min 2 (bankFaults s b))).sum else 0)
  banks.foldl (fun s b => if off b then wb s (fbit (R.smBANK_OFF (b / 32)) (b % 32)) true else s) s

/-- COLD_RELEASE (R387, R390, R412): straps, fuse and trim load. A record is read again once; `fuseBad`, `trimBad`: reads that failed. -/
def coldRelease (s : State) (fuseBad trimBad : Nat) : State :=
  if s.pwr.ph ≠ .release ∨ rstHeld s then s else
  let d := freeNat s
  let s := elapse d.2 (d.1 % 3000001)
  let s := if isUp s iCAS then s
    else wb (wb (wf s R.casCASC_ID s.cfg.cascId) R.casMASTER_STRAP s.cfg.cascMaster) R.casIS_MASTER s.cfg.cascMaster
  let safe := decide (2 ≤ fuseBad) || decide (2 ≤ trimBad)
  let s := repairLoad (wb s R.pwrTRIM_SAFE safe) (!safe)
  let s := if safe then notice s 0 17 0 0 else s
  let s := wb s R.pwrTRIM_DONE true
  let s := relTrouble (modPwr s fun q => { q with ph := .run, rel208 := true, pgood := true })
  let s := startBegin s s.pwr.startWarm
  let on := BitVec.ofNat 23 (rf s R.pwrISL_ON) &&& ~~~BitVec.ofNat 23 (rf s R.pwrISL_LOST)
  let want := if mode s = mRECOVERY then 0x560000#23 else 0x4E0001#23 ||| on
  modPwr s fun q => { q with lockPend := want &&& ~~~s.up }
def execColdRelease (fuseBad trimBad : Nat) (s : State) : Host.Outcome State Fault Refusal :=
  gateAon s fun s => coldRelease s fuseBad trimBad

/-- 64 own cycles of an island, in nanoseconds rounded up (R387, Table FRM-1). -/
def rst64 (i : Nat) : Nat :=
  if i = iVEC then 64 else if i = iRMC then 107 else if i = iFLD then 164 else if i = iCAS then 159 else if i = iHST then 256 else 80
/-- Briby links of a released CAS island train; out of UP they are from then on, or have been since they left it (R331). -/
def linksTrain (s : State) : State :=
  (linkIds s).foldl (fun s l =>
    modLink (if rf s (R.casUNIT_STATE l) = usON then wf s (R.casLSTATE l) 1 else s) l fun k => { k with leftAt := some (k.leftAt.getD s.now) }) s
/-- A port whose LINK reads 0 at the release of its island is down from then on (R237). -/
def portDown (s : State) (p : Nat) : State :=
  if rb s (R.fpLINK p) ∨ (port s p).downAt.isSome then s else modPort s p fun k => { k with downAt := some s.now }
/-- An island leaves reset: wakes restart (R396), RM0 runs its boot ROM (R383), source 208 follows RMC (R400), links train. -/
def islUp (s : State) (i : Nat) : State :=
  let s := { s with up := s.up ||| 1#23 <<< i, unitT := kvDel s.unitT (8192 + i) ++ [(8192 + i, s.now)] }
  let s := wakeAgain s i
  let s := if i = iRMC then monBegin (modCore s 0 fun c => { c with hold := .rom }) else s
  let s := if i = iRMC ∧ s.pwr.rel208 then raise (modPwr s fun q => { q with rel208 := false }) 208 else s
  if i = iCAS then linksTrain s else if i = iFLD then (portIds s).foldl portDown s else s
/-- CLOCK_LOCK (R387). Raises made before the controller leaves its cold reset are lost (R300). -/
def clockLock (s : State) (i : Nat) : State :=
  if s.pwr.ph ≠ .run ∨ s.pwr.lockPend.getLsbD i = false then s else
  let s := elapse s (rst64 i)
  let s := if i = iRMC then { s with raiseQ := [] } else s
  let s := islUp (modPwr s fun q => { q with lockPend := q.lockPend &&& ~~~(1#23 <<< i) }) i
  let s := if i = iMWY ∧ s.pwr.startWarm then modPwr s fun q => { q with startAt := s.now } else s
  calSettle s
def execClockLock (i : Nat) (s : State) : Host.Outcome State Fault Refusal := gateAon s fun s => clockLock s i

/-- START_OK (R379, R381). -/
def execStartOk (s : State) : Host.Outcome State Fault Refusal := gateAon s fun s => startOk s calRearms
/-- START_TIMEOUT (R380): 2.0 s after the start's release. -/
def execStartTimeout (s : State) : Host.Outcome State Fault Refusal :=
  gateAonRst s fun s =>
    if rb s R.pwrRESTARTING = false ∨ mode s = mRECOVERY ∨ s.pwr.ph ≠ .run ∨ (s.pwr.startWarm ∧ isUp s iMWY = false) then s
    else reqReset (atLeast s (s.pwr.startAt + 2000000000)) 13 (!s.pwr.startWarm)

/-! ### The warm reset (R386) -/

/-- WARM_RESET: the oldest warm request begins its quiesce; those that wait with it merge into it (R384). -/
def warmReset (s : State) : State :=
  match s.rstReq.filter (fun r => !r.2), s.pwr.ph with
  | (code, _) :: more, .run =>
    let s := cnt (startFail s) R.pwrRESET_CNT
    let s := modPwr { s with rstReq := s.rstReq.filter (fun r => r.2) } fun q =>
      { q with ph := .quiesce, code := code, merged := more.map Prod.fst, coldPend := none, bootDue := false }
    let s := if isUp s iVEC then vecStop s else s
    let s := if isUp s iMWY then calWarm s else keepersOwn s
    let s := (List.range s.cfg.part.clusters).foldl (fun s n =>
      let s := modCl s n fun c => { c with startWait := none, sleep := false }
      if isUp s (iCLU n) then clStop s n 0 else s) s
    let s := (List.range 64).foldl (fun s c => dmaCut s c 7) s
    let s := mwDiscard s
    if isUp s iBLK then bulkDrain s else s
  | _, _ => s
def execWarmReset (s : State) : Host.Outcome State Fault Refusal := gateAon s warmReset

/-- A start out of RECOVERY (R382): every island but FLD and CAS goes through the cold release from its step 2; WD_STRIKE is
held in AON (R283). -/
def coldStart (s : State) : State :=
  let strikes := (coreIds s).filter fun n => rb s (R.rmWD_STRIKE n)
  let s := setMode (modPwr (islLost s warmMask) fun q => { q with ph := .release, startWarm := true, mon := none }) mBOOT
  strikes.foldl (fun s n => wb s (R.rmWD_STRIKE n) true) s
/-- The warm islands are released (R386, step 3); raises that reached the controller in reset are pending (R300). -/
def warmRelease (s : State) : State :=
  if mode s = mRECOVERY ∧ rf s R.pwrSTART_FAILS < 3 then coldStart s else
  let back := s.pwr.heldUp
  let s := modPwr s fun q => { q with ph := .run, rel208 := true, heldUp := 0#23 }
  let s := startBegin (relTrouble s) true
  let s := if mode s = mRECOVERY then
      let t := islLost s 0x9FFFF#23
      modPwr t fun q => { q with lockPend := (q.lockPend ||| 0x100000#23) &&& ~~~t.up }
    else s
  let back := if mode s = mRECOVERY then back &&& ~~~0x9FFFF#23 else back
  let due := s.raiseQ
  let s := allIsl.foldl (fun s i => if back.getLsbD i then islUp s i else s) s
  let s := if back.getLsbD iRMC then due.foldl icRaise { s with raiseQ := s.raiseQ.drop due.length } else s
  let s := if mode s = mTEST then setMode s mCONFIGURE else s
  calSettle s
/-- The quiesce has ended and the warm islands are in reset. -/
def warmHold (s : State) : State :=
  let s := vecWarm s
  let s := if isUp s iBLK ∧ rb s R.bmINIT_DONE = false then bmInit { s with bm := { s.bm with trained := true } } else s
  let s := (List.range s.cfg.part.clusters).foldl clWarm s
  let s := allIsl.foldl (fun s i => if warmMask.getLsbD i ∧ isUp s i then unitsSettle s i else s) s
  let s := if isUp s iBLK then bulkDrain (thawDone s) else thawDone s
  let s := icWarm ((coreIds s).foldl coreWarm s)
  let s := { s with cas := { s.cas with rem := [] } }
  let s := { s with mw := { mwZero with rsp := s.mw.rsp }, dma := { dmaZero with gen := s.dma.gen }, calIn := [] }
  let s := { s with idn := ⟨[], none, s.idn.off⟩, fld := { s.fld with rot := 0, viewLeft := none, thawDue := false, freezePend := none } }
  let s := hstWarm s
  let s := warmRegs s fun b k => decide (blkIsl b k = 23) || warmMask.getLsbD (blkIsl b k)
  let s := wf s R.pwrLAST_RESET s.pwr.code
  modPwr { s with up := s.up &&& ~~~warmMask, forced := s.forced &&& ~~~warmMask } fun q =>
    { q with ph := .warmHeld, heldUp := s.up &&& warmMask }
/-- WARM_QUIESCE_DONE (R386): within 20 µs; a cold request that has arrived is taken now, a pin held low holds the release (R384). -/
def warmQuiesceDone (s : State) : State :=
  if s.pwr.ph ≠ .quiesce then s else
  let d := freeNat s
  let s := elapse d.2 (d.1 % 20001)
  match s.pwr.coldPend with
  | some c => takeCold s c
  | none =>
    let s := elapse (warmHold s) 256
    if rstHeld s then s else warmRelease s
def execWarmQuiesceDone (s : State) : Host.Outcome State Fault Refusal := gateAon s warmQuiesceDone

/-! ### Requests (R384, R411) -/

/-- WARM_REQ. -/
def execWarmReq (s : State) : Host.Outcome State Fault Refusal := gateAonRst s fun s => reqReset s 8 false
/-- COLD_REQ. -/
def execColdReq (s : State) : Host.Outcome State Fault Refusal := gateAonRst s fun s => reqReset s 9 true
/-- NCOLD_PIN_LOW (R411). -/
def execNcoldPinLow (s : State) : Host.Outcome State Fault Refusal :=
  gateAonRst s fun s => reqReset (modPwr s fun q => { q with pinC := true }) 2 true
/-- NWARM_PIN_LOW (R411). -/
def execNwarmPinLow (s : State) : Host.Outcome State Fault Refusal :=
  gateAonRst s fun s => reqReset (modPwr s fun q => { q with pinW := true }) 3 false
/-- PERST_ASSERTED: source 198, and the reset that PERST_MODE selects (R373, R375). -/
def execPerstAsserted (s : State) : Host.Outcome State Fault Refusal :=
  gateAonRst s fun s =>
    let m := rf s R.hstPERST_MODE
    let s := raise s 198
    if m = 1 then reqReset (modPwr s fun q => { q with pinP := true }) 4 false
    else if m = 2 then reqReset (modPwr s fun q => { q with pinP := true }) 5 true
    else s
/-- RESET_PIN_RELEASE: 0 nCOLD, 1 nWARM, 2 PERST#; a warm reset the line has held is released, a cold one goes on with its release. -/
def execResetPinRelease (pin : Nat) (s : State) : Host.Outcome State Fault Refusal :=
  gateAon s fun s =>
    let s := modPwr s fun q => { q with
      pinC := q.pinC && decide (pin ≠ 0)
      pinW := q.pinW && decide (pin ≠ 1)
      pinP := q.pinP && decide (pin ≠ 2) }
    if s.pwr.ph = .warmHeld ∧ rstHeld s = false then warmRelease s else s

/-- ISL_ON (R387). -/
def execIslOn (w : Word) (s : State) : Host.Outcome State Fault Refusal := gateAon s fun s => islOnWrite s w
/-- FORCE_REL (R391). -/
def execForceRel (s : State) : Host.Outcome State Fault Refusal := gateAon s forceRel
/-- CORE_OFF (R393): bits 4:2 of the word. -/
def execCoreOff (w : Word) (s : State) : Host.Outcome State Fault Refusal := gateAon s fun s => coreOffWrite s (bits w.toNat 4 2)

/-! ### Monitor (R383) -/

/-- Words of a flash slot. -/
def flashWord (s : State) (slot i : Nat) : Word := kvGet 0#36 s.hst.flash (slot * 2 ^ 22 + i)
/-- The LOAD sections of a flash slot's image where it passes R194 and R195: target, and offset and count of the data. -/
def bootLoads (s : State) (slot : Nat) : Option (List (Nat × Nat × Nat)) :=
  let g := flashWord s slot
  let n := s.hst.flashLen.getD slot 0
  if s.hst.flashOk.getD slot false = false ∨ n < 24 then none else
  match secsOf g n (n / 8 + 1) 0 with
  | none => none
  | some ss =>
    if ckStructure g n ss && ckCrcs g ss && ckKey s ((sigBytes g ss).take 32) && ckSig g ss then
      some ((secTy ss 3).map fun x => ((g (x.at_ + 8)).toNat, x.at_ + 16, (g (x.at_ + 9)).toNat))
    else none
/-- CRC-32C of Monitor's words in RM0's local memory. -/
def monCrc (s : State) (rs : List (Nat × Nat)) : Nat := crc32c (pack9Bytes (rs.flatMap fun r => rdBlock s r.1 r.2))
/-- RM0 begins at Monitor's entry, an address the spec leaves open. -/
def monGo (s : State) : State :=
  let w := freeWord s
  monBegin (icArb (modCore w.2 0 fun c => { c with pc := w.1.toNat, slot := 0, hold := .none }))
/-- Monitor is loaded from a flash slot. -/
def monLoad (s : State) (slot : Nat) (ls : List (Nat × Nat × Nat)) : State :=
  let g := flashWord s slot
  let ls := ls.filter fun l => inArea l.1 l.2.2 (coreLocal 0) 0x10000
  let s := ls.foldl (fun s l => wrBlock s l.1 ((List.range l.2.2).map fun i => g (l.2.1 + i))) s
  let rs := ls.map fun l => (l.1, l.2.2)
  let s := modPwr s fun q => { q with mon := some (s.hst.bootSel, monCrc s rs, rs) }
  monGo { s with hst := { s.hst with booted := slot } }
/-- MONITOR_BOOT (R383): from local memory after a warm reset that left Monitor whole, else from the slot of BOOT_SELECT, else from the
other one; where both fail nothing starts. -/
def monitorBoot (s : State) : State :=
  if s.pwr.bootDue = false ∨ s.pwr.ph ≠ .run then s else
  let s := modPwr s fun q => { q with bootDue := false }
  let whole : Bool := match s.pwr.mon with
    | some (sel, crc, rs) => s.pwr.startWarm && decide (sel = s.hst.bootSel) && decide (monCrc s rs = crc)
    | none => false
  if whole then monGo s else
  let a := s.hst.bootSel % 2
  match bootLoads s a with
  | some ls => monLoad s a ls
  | none =>
    match bootLoads s (1 - a) with
    | some ls => monLoad s (1 - a) ls
    | none => s
def execMonitorBoot (s : State) : Host.Outcome State Fault Refusal := gate iRMC s monitorBoot

/-! ### Clocks (R388, R389) -/

/-- What an island that lost its clock loses, in its own reset (R388). -/
def islReset (s : State) (i : Nat) : State :=
  let s := unitsSettle s i
  let s :=
    if i = iVEC then vecWarm s
    else if i = iBLK then bulkLost s
    else if i = iFLD then
      { s with fld := { s.fld with
          ports := s.fld.ports.map fun k => { portZero with timer := k.timer, refT := k.refT, downAt := k.downAt, downRep := k.downRep }
          emitFly := [] } }
    else if i = iCAS then
      let s := (linkIds s).foldl (fun s l => casCut (linkFall s l 0) l) s
      { s with cas := { s.cas with
          links := s.cas.links.map fun k => { linkZero with leftAt := k.leftAt, downRep := k.downRep }
          asmC := [], asmR := [] } }
    else if 1 ≤ i ∧ i ≤ s.cfg.part.clusters then clWarm (clStop s (i - 1) 0) (i - 1)
    else s
  let m := 1#23 <<< i
  let s := islRegs s i
  { s with up := s.up &&& ~~~m, forced := s.forced &&& ~~~m }
/-- ISLAND_LOCK_LOSS (R388). -/
def islandLockLoss (s : State) (i : Nat) : State :=
  if 23 ≤ i ∨ s.pwr.ph ≠ .run ∨ isUp s i = false then s else
  let m := 1#23 <<< i
  let again := s.pwr.lockOnce.getLsbD i
  let s := notice (raise (wb s (fbit R.pwrISL_LOCKLOSS i) true) 205) 0 18 0 (2 ^ i)
  let s := modPwr s fun q => { q with lockOnce := q.lockOnce ||| m }
  if i = iMWY ∨ i = iRMC ∨ i = iHST then reqReset s 14 again
  else
    let s := islReset s i
    let s := if again then notice (wb s (fbit R.pwrISL_LOST i) true) 0 19 0 (2 ^ i)
      else modPwr s fun q => { q with lockPend := q.lockPend ||| m }
    calSettle s
def execIslandLockLoss (i : Nat) (s : State) : Host.Outcome State Fault Refusal := gateAonRst s fun s => islandLockLoss s i
/-- REFERENCE_LOSS (R389). -/
def execReferenceLoss (s : State) : Host.Outcome State Fault Refusal :=
  gateAonRst s fun s =>
    if s.pwr.refHold then s
    else reqReset (modPwr (wb s R.pwrREF_LOST true) fun q => { q with refHold := true }) 15 true
/-- REFERENCE_RESTORED (R389). -/
def execReferenceRestored (s : State) : Host.Outcome State Fault Refusal :=
  gateAon s fun s => modPwr s fun q => { q with refHold := false }

/-! ### Supply, cap and heat (R392, R394, R395, R397) -/

/-- A PMBus status bit is set: source 206 and TRB1 where it was 0 (R400, R398). -/
def pmTell (s : State) (was : Bool) : State := if was then s else notice (raise s 206) 1 5 0 (rf s R.pwrPIN_MW + toBits 11 (sext 12 (rf s R.pwrTJ) / 8) * 2 ^ 17)
/-- Set bit b of STATUS_INPUT. -/
def pmInputSet (s : State) (b : Nat) : State :=
  modPwr (pmTell s (s.pwr.pmInput.getLsbD b)) fun q => { q with pmInput := q.pmInput ||| 1#8 <<< b }
/-- Set bit b of STATUS_TEMPERATURE. -/
def pmTempSet (s : State) (b : Nat) : State :=
  modPwr (pmTell s (s.pwr.pmTemp.getLsbD b)) fun q => { q with pmTemp := q.pmTemp ||| 1#8 <<< b }

/-- LOW_SUPPLY_SET (R392): VIN has been below 10.8 V for 1 ms. -/
def execLowSupplySet (mv : Nat) (s : State) : Host.Outcome State Fault Refusal :=
  gateAon s fun s =>
    if 10800 ≤ mv then s else
    let s := wf s R.pwrVIN_MV mv
    if rb s R.pwrLOW_SUPPLY then s else
    let s := trb1 (raise (capEff (wb s R.pwrLOW_SUPPLY true)) 200) 0 0
    derateMode (pmInputSet s 5)
/-- LOW_SUPPLY_CLEAR (R392): VIN has been above 11.3 V for 100 ms. -/
def execLowSupplyClear (mv : Nat) (s : State) : Host.Outcome State Fault Refusal :=
  gateAon s fun s =>
    if mv ≤ 11300 then s else
    let s := wf s R.pwrVIN_MV mv
    if rb s R.pwrLOW_SUPPLY = false then s
    else derateMode (raise (capEff (wb s R.pwrLOW_SUPPLY false)) 200)
/-- OVER_CAP is set: source 201 where it was 0. -/
def overCap (s : State) : State :=
  pmInputSet (trb1 (wb (raiseIf s (!rb s R.pwrOVER_CAP) 201) R.pwrOVER_CAP true) 1 0) 0
/-- POWER_WINDOW_END (R392): `mw` is the average input power of the 1 ms window. -/
def powerWindowEnd (s : State) (mw : Nat) : State :=
  let s := atLeast s (s.pwr.winAt + 1000000)
  let s := wf (modPwr s fun q => { q with winAt := s.now }) R.pwrPIN_MW mw
  let cap := rf s R.pwrCAP_EFF
  let high := decide (cap * 100 < mw)
  let s := modPwr s fun q => { q with
    overN := if high then q.overN + 1 else 0
    underN := if mw ≤ cap * 90 then q.underN + 1 else 0 }
  let m := mode s
  let s := if m = mRUN ∧ 10 ≤ s.pwr.overN then wb s R.pwrCAP_CAUSE true
    else if 1000 ≤ s.pwr.underN then wb s R.pwrCAP_CAUSE false else s
  if m = mDERATED ∧ 100 ≤ s.pwr.overN then
    let s := calHold (overCap s) false
    if mode s = mDERATED then setMode s mHOLD else s
  else
    let s := if high ∧ m ≠ mRUN ∧ m ≠ mDERATED then overCap s else s
    derateMode s
def execPowerWindowEnd (mw : Nat) (s : State) : Host.Outcome State Fault Refusal := gateAon s fun s => powerWindowEnd s mw

/-- TJ_MEASUREMENT (R397): `t` in 0.125 °C. -/
def tjMeasurement (s : State) (t : BitVec 12) : State :=
  let s := atLeast s (s.pwr.tjAt + 1000000)
  let old := sext 12 (rf s R.pwrTJ)
  let new := sext 12 t.toNat
  let s := wf (modPwr s fun q => { q with tjAt := s.now }) R.pwrTJ t.toNat
  let crossed := decide (decide (old < 800) ≠ decide (new < 800)) || decide (decide (old < 760) ≠ decide (new < 760))
  let s := raiseIf s crossed 202
  let s := modPwr s fun q => { q with
    cool := if new < 760 then some (q.cool.getD s.now) else none
    thHold := q.thHold && decide (760 ≤ new) }
  let trip := s.pwr.thHold
  let was := rb s R.pwrTHERM_HOT
  let s := if 800 ≤ new then
      let s := if was then s else trb1 (wb s R.pwrTHERM_HOT true) 2 0
      pmTempSet s 6
    else match s.pwr.cool with
      | some t0 => if t0 + 1000000000 ≤ s.now then wb s R.pwrTHERM_HOT false else s
      | none => s
  let s := derateMode s
  if 880 ≤ new ∧ trip = false then reqReset (modPwr (pmTempSet s 7) fun q => { q with thHold := true }) 11 true else s
def execTjMeasurement (t : BitVec 12) (s : State) : Host.Outcome State Fault Refusal := gateAonRst s fun s => tjMeasurement s t

/-- AON power is lost: everything but what flash, fuses and the host's memory hold (R385, R394, R395). -/
def aonLost (s : State) : State :=
  let z := State.cold s.cfg
  let h := { hstZero with flash := s.hst.flash, flashLen := s.hst.flashLen, flashOk := s.hst.flashOk, keys := s.hst.keys }
  let h := { h with bootSel := s.hst.bootSel, fieldRec := s.hst.fieldRec, trainOk := s.hst.trainOk }
  let t := { z with hostMem := s.hostMem, free := s.free, now := s.now, pending := s.pending, hst := h }
  { t with aonOn := false, mem := [], pwr := { pwrZero with ph := .off, pgood := false } }
/-- POWER_ON (R384): the AON supply rises; nothing is kept but flash and fuses. -/
def execPowerOn (s : State) : Host.Outcome State Fault Refusal :=
  .next (keep s (if s.aonOn then s else
    let l := aonLost s
    wf { l with aonOn := true, pwr := { pwrZero with tjAt := s.now, winAt := s.now } } R.pwrLAST_RESET 1))

/-- BROWN_OUT (R394). -/
def execBrownOut (s : State) : Host.Outcome State Fault Refusal :=
  gateAonRst s fun s =>
    if s.pwr.holdAt.isSome ∨ s.pwr.boHold then s
    else reqReset (modPwr s fun q => { q with boHold := true, pgood := false }) 12 true
/-- BROWN_OUT_RECOVERY (R394). -/
def execBrownOutRecovery (s : State) : Host.Outcome State Fault Refusal :=
  gateAon s fun s => modPwr s fun q => { q with boHold := false }
/-- INPUT_SUPPLY_LOSS (R394). -/
def execInputSupplyLoss (s : State) : Host.Outcome State Fault Refusal :=
  gateAon s fun s => if rf s R.pwrHOLDUP_MS = 0 ∧ s.pwr.noIn = false then aonLost s else s

/-- INPUT_LOSS (R395, R429): PWR_GOOD goes low; with HOLDUP_MS set, hold-up starts. -/
def inputLoss (s : State) (mv : Nat) : State :=
  if s.pwr.noIn ∨ 5500 ≤ mv then s
  else if rf s R.pwrHOLDUP_MS = 0 then modPwr (pmInputSet (wf s R.pwrVIN_MV mv) 4) fun q => { q with pgood := false } else
  let q := s.pwr
  let now := if q.ph = .quiesce ∨ q.ph = .warmHeld then
      (q.code, false) :: q.merged.map (fun c => (c, false)) ++ (match q.coldPend with | some c => [(c, true)] | none => [])
    else []
  let s := trb1 (raise (wb (wf (keepersOwn s) R.pwrVIN_MV mv) R.pwrHOLDUP_ACTIVE true) 203) 3 0
  let s := pmInputSet (islLost s 0x6FFFFF#23) 4
  modPwr { s with rstReq := [] } fun p => { p with
    ph := .run, holdAt := some s.now, endAt := none, noIn := true, pgood := false, held := now ++ s.rstReq, coldPend := none, merged := []
    heldUp := 0#23, bootDue := false, mon := none }
def execInputLoss (mv : Nat) (s : State) : Host.Outcome State Fault Refusal := gateAon s fun s => inputLoss s mv
/-- INPUT_RESTORED (R395): hold-up ends in a hold-up resume, or in the cold reset that was held; in a reset already taken the input is
back. -/
def inputRestored (s : State) (mv : Nat) : State :=
  if s.pwr.noIn = false ∨ mv ≤ 6000 ∨ s.pwr.endAt.isSome then s else
  let was := s.pwr.holdAt.isSome
  let held := s.pwr.held
  let s := modPwr (wf s R.pwrVIN_MV mv) fun q => { q with noIn := false, holdAt := none, held := [] }
  if was = false then s else
  let s := wb (trb1 (raise (wb s R.pwrINPUT_RESTORED true) 203) 4 0) R.pwrHOLDUP_ACTIVE false
  match held.find? (fun r => r.2) with
  | some (c, _) => takeCold s c
  | none =>
    let s := cnt (startFail s) R.pwrRESET_CNT
    let s := wf (islRegs s 23) R.pwrLAST_RESET 0
    setMode (modPwr s fun q => { q with ph := .release, code := 0, merged := held.map Prod.fst, startWarm := false }) mBOOT
def execInputRestored (mv : Nat) (s : State) : Host.Outcome State Fault Refusal := gateAonRst s fun s => inputRestored s mv
/-- The Keeper's hold-expired frame of a stream (R233). -/
def keepGone (s : State) (p st : Nat) : State :=
  let s := if rb s (R.fpKOWN p st) then cnt s (R.fpREPLAY_CNT p st) else cnt s (R.fpMISS_CNT p st)
  fpStick (wf (outFrame (fpStick s p (R.fpREPLAYING p) 2) p st 2 .keep []) (R.fpKSTATE p st) 2) p (R.fpEXPIRED p) 2
/-- HOLDUP_END (R395): HOLDUP_MS has elapsed, or (`byPin`) HOLDUP is below 6.0 V. -/
def holdupEnd (s : State) (byPin : Bool) : State :=
  match s.pwr.holdAt, s.pwr.endAt with
  | some t, none =>
    let s := if byPin then s else atLeast s (t + rf s R.pwrHOLDUP_MS * 1000000)
    let s := (activeStreams s).foldl (fun s e => keepGone s e.1 e.2) s
    modPwr s fun q => { q with endAt := some s.now }
  | none, _ => if s.pwr.noIn ∧ byPin then aonLost s else s
  | _, _ => s
def execHoldupEnd (byPin : Bool) (s : State) : Host.Outcome State Fault Refusal := gateAon s fun s => holdupEnd s byPin
/-- AON_POWER_REMOVAL (R395): every enabled port has sent what was queued, or 100 µs have passed. -/
def execAonPowerRemoval (s : State) : Host.Outcome State Fault Refusal :=
  gateAon s fun s =>
    match s.pwr.endAt with
    | none => s
    | some t =>
      let sent := (portIds s).all fun p => !rb s (R.fpENABLE p) || (port s p).tx.isEmpty
      aonLost (if sent then s else atLeast s (t + 100000))

/-! ### The PCIe lines (R356, R375) -/

/-- A change of the PCIe link, which a warm reset never touches (R373). -/
def gatePcie (s : State) (k : State → State) : Host.Outcome State Fault Refusal :=
  if s.pwr.heldUp.getLsbD iHST then gateAon s k else gate iHST s k
/-- PCIE_LINK_CHANGE. -/
def execPcieLinkChange (up : Bool) (s : State) : Host.Outcome State Fault Refusal :=
  gatePcie s fun s => if rb s R.hstLINK_UP = up then s else raise (wb s R.hstLINK_UP up) 198
/-- BUS_MASTER_ENABLE_CHANGE. -/
def execBusMasterEnableChange (up : Bool) (s : State) : Host.Outcome State Fault Refusal :=
  gatePcie s fun s => wb s R.hstBME up

end Sys2Proof.Machine
end

