-- ==== Sys2Proof/Machine/PmBus.lean ====
section
/-! DEFINITION. Telemetry over PMBus (R398). The places of the bits of the status bytes are PMBus 1.3's (log entry 28). -/

namespace Sys2Proof.Machine

/-- LINEAR11 of num / den, with the least exponent whose mantissa fits, to nearest. -/
def linear11 (num : Int) (den : Nat) : Nat :=
  let at_ := fun (e : Int) =>
    let n := if e < 0 then num * 2 ^ (-e).toNat else num
    let d : Int := if e < 0 then den else den * 2 ^ e.toNat
    (2 * n + d) / (2 * d)
  let es := (List.range 32).map fun (i : Nat) => (i : Int) - 16
  match es.find? (fun e => decide (-1024 ≤ at_ e) && decide (at_ e ≤ 1023)) with
  | some e => toBits 5 e * 2 ^ 11 + toBits 11 (at_ e)
  | none => 0
/-- A byte, a word (low byte first) or a block (its length first) is read. -/
def pmAnswer (s : State) (l : List Nat) : State := modPwr s fun q => { q with pmOut := some l }
def pmWord (s : State) (w : Nat) : State := pmAnswer s [w % 256, w / 256 % 256]
def pmBlock (s : State) (l : List Nat) : State := pmAnswer s (l.length :: l)
/-- The module's 7-bit SMBus address (R398). -/
def pmAddress (s : State) : Nat := 0x40 + cascId s
/-- A read of PMBus: answered in every mode, in reset and in hold-up. -/
def pmGate (s : State) (k : State → State) : Host.Outcome State Fault Refusal := gateAon s k

/-- STATUS_BYTE: bit 6 OFF, bit 3 input under-voltage fault, bit 2 temperature, bit 1 CML. -/
def statusByte (s : State) : Nat :=
  b2n (!s.pwr.pgood) * 64 + b2n (s.pwr.pmInput.getLsbD 4) * 8 + b2n (decide (s.pwr.pmTemp ≠ 0#8)) * 4 + b2n s.pwr.pmCml * 2

/-- CLEAR_FAULTS. -/
def execClearFaults (s : State) : Host.Outcome State Fault Refusal :=
  pmGate s fun s => modPwr s fun q => { q with pmInput := 0#8, pmTemp := 0#8, pmCml := false }
/-- CAPABILITY. -/
def execCapability (s : State) : Host.Outcome State Fault Refusal := pmGate s fun s => pmAnswer s [0xB0]
/-- STATUS_BYTE. -/
def execStatusByte (s : State) : Host.Outcome State Fault Refusal := pmGate s fun s => pmAnswer s [statusByte s]
/-- STATUS_WORD: bit 13 input, bit 11 no power good. -/
def execStatusWord (s : State) : Host.Outcome State Fault Refusal :=
  pmGate s fun s => pmWord s (statusByte s + b2n (decide (s.pwr.pmInput ≠ 0#8)) * 0x2000 + b2n (!s.pwr.pgood) * 0x800)
/-- STATUS_INPUT: bit 5 under-voltage warning, bit 4 under-voltage fault, bit 0 over-power warning. -/
def execStatusInput (s : State) : Host.Outcome State Fault Refusal := pmGate s fun s => pmAnswer s [s.pwr.pmInput.toNat]
/-- STATUS_TEMPERATURE: bit 7 fault, bit 6 warning. -/
def execStatusTemperature (s : State) : Host.Outcome State Fault Refusal := pmGate s fun s => pmAnswer s [s.pwr.pmTemp.toNat]
/-- READ_VIN. -/
def execReadVin (s : State) : Host.Outcome State Fault Refusal := pmGate s fun s => pmWord s (linear11 (rf s R.pwrVIN_MV) 1000)
/-- READ_IIN: no register holds the input current, so the word read is open. -/
def execReadIin (s : State) : Host.Outcome State Fault Refusal :=
  pmGate s fun s => let f := freeNat s; pmWord f.2 (f.1 % 65536)
/-- READ_TEMPERATURE_1: TJ. -/
def execReadTemperature1 (s : State) : Host.Outcome State Fault Refusal := pmGate s fun s => pmWord s (linear11 (sext 12 (rf s R.pwrTJ)) 8)
/-- READ_TEMPERATURE_2: no register holds the board temperature, so the word read is open. -/
def execReadTemperature2 (s : State) : Host.Outcome State Fault Refusal :=
  pmGate s fun s => let f := freeNat s; pmWord f.2 (f.1 % 65536)
/-- READ_PIN. -/
def execReadPin (s : State) : Host.Outcome State Fault Refusal := pmGate s fun s => pmWord s (linear11 (rf s R.pwrPIN_MW) 1000)
/-- PMBUS_REVISION. -/
def execPmbusRevision (s : State) : Host.Outcome State Fault Refusal := pmGate s fun s => pmAnswer s [0x33]
/-- MFR_ID: "OLURDABO". -/
def execMfrId (s : State) : Host.Outcome State Fault Refusal :=
  pmGate s fun s => pmBlock s [0x4F, 0x4C, 0x55, 0x52, 0x44, 0x41, 0x42, 0x4F]
/-- The ordering code in ASCII (R4). -/
def orderCode (g : Cfg) : List Nat :=
  let p := match g.part with
    | .z1604 => [0x31, 0x36, 0x30, 0x34]
    | .z0802 => [0x30, 0x38, 0x30, 0x32]
    | .z0401 => [0x30, 0x34, 0x30, 0x31]
  [0x5A, 0x33, 0x36, 0x2D] ++ p ++ [0x2D, 0x49] ++ (if g.coated then [0x43] else [])
/-- MFR_MODEL. -/
def execMfrModel (s : State) : Host.Outcome State Fault Refusal := pmGate s fun s => pmBlock s (orderCode s.cfg)
/-- MFR_REVISION: "A". -/
def execMfrRevision (s : State) : Host.Outcome State Fault Refusal := pmGate s fun s => pmBlock s [0x41]
/-- Commands of Table MRP-10 that are read. -/
def pmReads : List Nat := [0x19, 0x78, 0x79, 0x7C, 0x7D, 0x88, 0x89, 0x8D, 0x8E, 0x97, 0x98, 0x99, 0x9A, 0x9B]
/-- PMBUS_UNSUPPORTED: not acknowledged; CML is set. -/
def execPmbusUnsupported (code : Nat) (write : Bool) (s : State) : Host.Outcome State Fault Refusal :=
  pmGate s fun s =>
    if (write = false ∧ pmReads.contains code) ∨ (write ∧ code = 3) then s
    else modPwr (pmTell s s.pwr.pmCml) fun q => { q with pmCml := true, pmOut := none }

end Sys2Proof.Machine
end

