-- ==== Sys2Proof/Machine/Ringmaster.lean ====
section
/-! DEFINITION. Ringmaster's operations and events (R263 to R285): stack and arithmetic, accesses, control flow, gate calls, exceptions and
returns, vector issue, waiting and watchdogs. -/

namespace Sys2Proof.Machine

/-! ### Stack and arithmetic (R264, R48) -/

/-- An operation on the top k entries of the data stack: they are replaced by `f` of the stack. -/
def rmStack (n op k : Nat) (f : List Word → List Word) (s : State) : Host.Outcome State Fault Refusal :=
  rmSeq n op 3 (fun s => (rmNeed s n false k).map fun s => rmPut s n k (f (core s n).ds)) s
/-- ( a → op a ). -/
def rmUn (n op : Nat) (f : Word → Word) (s : State) : Host.Outcome State Fault Refusal :=
  rmStack n op 1 (fun l => match l with | a :: _ => [f a] | _ => []) s
/-- ( a b → a op b ). -/
def rmBin (n op : Nat) (f : Word → Word → Word) (s : State) : Host.Outcome State Fault Refusal :=
  rmStack n op 2 (fun l => match l with | b :: a :: _ => [f a b] | _ => []) s
/-- A truth value as the comparisons push it. -/
def rmBool (b : Bool) : Word := if b then BitVec.allOnes 36 else 0#36
/-- A shift count: b[5:0], at most 36. -/
def rmCount (b : Word) : Nat := min 36 (b.toNat % 64)
/-- The exact product of two signed words. -/
def rmProd (a b : Word) : BitVec 72 := a.signExtend 72 * b.signExtend 72

def execRmNop (n : Nat) (s : State) : Host.Outcome State Fault Refusal := rmSeq n 0x000 3 (fun s => .ok s) s
/-- DUP: pushes a copy of the top. -/
def execDup (n : Nat) (s : State) : Host.Outcome State Fault Refusal :=
  rmSeq n 0x001 3 (fun s => (rmNeed s n false 1).bind fun s => rmPush s n false (rmTop s n 0)) s
def execDrop (n : Nat) (s : State) : Host.Outcome State Fault Refusal := rmStack n 0x002 1 (fun _ => []) s
def execSwap (n : Nat) (s : State) : Host.Outcome State Fault Refusal :=
  rmStack n 0x003 2 (fun l => match l with | b :: a :: _ => [a, b] | _ => []) s
def execOver (n : Nat) (s : State) : Host.Outcome State Fault Refusal :=
  rmSeq n 0x004 3 (fun s => (rmNeed s n false 2).bind fun s => rmPush s n false (rmTop s n 1)) s
def execRot (n : Nat) (s : State) : Host.Outcome State Fault Refusal :=
  rmStack n 0x005 3 (fun l => match l with | c :: b :: a :: _ => [a, c, b] | _ => []) s
def execNip (n : Nat) (s : State) : Host.Outcome State Fault Refusal :=
  rmStack n 0x006 2 (fun l => match l with | b :: _ => [b] | _ => []) s
/-- PICK: n becomes the entry n places below it, entries counted as R272 counts them, n's own place 0; n above 15 is illegal. -/
def execPick (n : Nat) (s : State) : Host.Outcome State Fault Refusal :=
  rmSeq n 0x007 3 (fun s => do
    let s ← rmNeed s n false 1
    let i := (rmTop s n 0).toNat
    if 15 < i then rmFlt rcILLEGAL 0
    let s ← rmNeed s n false (i + 1)
    return rmPut s n 1 [rmTop s n i]) s
def execTor (n : Nat) (s : State) : Host.Outcome State Fault Refusal :=
  rmSeq n 0x008 3 (fun s => (rmNeed s n false 1).bind fun s => rmPush (rmPut s n 1 []) n true (rmTop s n 0)) s
def execFromr (n : Nat) (s : State) : Host.Outcome State Fault Refusal :=
  rmSeq n 0x009 3 (fun s => (rmNeed s n true 1).bind fun s =>
    rmPush (rmSetHeld s n true ((core s n).rs.drop 1)) n false ((core s n).rs.headD 0#36)) s
def execRfetch (n : Nat) (s : State) : Host.Outcome State Fault Refusal :=
  rmSeq n 0x00A 3 (fun s => (rmNeed s n true 1).bind fun s => rmPush s n false ((core s n).rs.headD 0#36)) s
def execRmAdd (n : Nat) (s : State) : Host.Outcome State Fault Refusal := rmBin n 0x010 (fun a b => a + b) s
def execRmSub (n : Nat) (s : State) : Host.Outcome State Fault Refusal := rmBin n 0x011 (fun a b => a - b) s
def execRmAnd (n : Nat) (s : State) : Host.Outcome State Fault Refusal := rmBin n 0x012 (fun a b => a &&& b) s
def execRmOr (n : Nat) (s : State) : Host.Outcome State Fault Refusal := rmBin n 0x013 (fun a b => a ||| b) s
def execRmXor (n : Nat) (s : State) : Host.Outcome State Fault Refusal := rmBin n 0x014 (fun a b => a ^^^ b) s
def execRmNot (n : Nat) (s : State) : Host.Outcome State Fault Refusal := rmUn n 0x015 (fun a => ~~~a) s
def execRmNeg (n : Nat) (s : State) : Host.Outcome State Fault Refusal := rmUn n 0x016 (fun a => -a) s
def execRmShl (n : Nat) (s : State) : Host.Outcome State Fault Refusal := rmBin n 0x017 (fun a b => a <<< rmCount b) s
def execRmShra (n : Nat) (s : State) : Host.Outcome State Fault Refusal := rmBin n 0x018 (fun a b => a.sshiftRight (rmCount b)) s
def execRmShrl (n : Nat) (s : State) : Host.Outcome State Fault Refusal := rmBin n 0x019 (fun a b => a >>> rmCount b) s
def execEq (n : Nat) (s : State) : Host.Outcome State Fault Refusal := rmBin n 0x01A (fun a b => rmBool (decide (a = b))) s
def execLt (n : Nat) (s : State) : Host.Outcome State Fault Refusal := rmBin n 0x01B (fun a b => rmBool (a.slt b)) s
def execLtu (n : Nat) (s : State) : Host.Outcome State Fault Refusal := rmBin n 0x01C (fun a b => rmBool (a.ult b)) s
def execEqz (n : Nat) (s : State) : Host.Outcome State Fault Refusal := rmUn n 0x01D (fun a => rmBool (decide (a = 0#36))) s
def execRmMul (n : Nat) (s : State) : Host.Outcome State Fault Refusal := rmBin n 0x020 (fun a b => (rmProd a b).setWidth 36) s
/-- MULD: the high word on top. -/
def execRmMuld (n : Nat) (s : State) : Host.Outcome State Fault Refusal :=
  rmStack n 0x021 2 (fun l => match l with
    | b :: a :: _ => [((rmProd a b) >>> 36).setWidth 36, (rmProd a b).setWidth 36]
    | _ => []) s
/-- DIV and DIVR (R46): DZ and OF go to ARF. -/
def rmDivide (n op : Nat) (rem : Bool) (s : State) : Host.Outcome State Fault Refusal :=
  rmSeq n op 3 (fun s => (rmNeed s n false 2).map fun s =>
    let r := idiv36 (rmTop s n 1).toInt (rmTop s n 0).toInt
    let q := BitVec.ofInt 36 r.1
    stick (rmPut s n 2 (if rem then [BitVec.ofInt 36 r.2.1, q] else [q])) (R.rmARF n) r.2.2.toNat) s
def execRmDiv (n : Nat) (s : State) : Host.Outcome State Fault Refusal := rmDivide n 0x022 false s
def execRmDivr (n : Nat) (s : State) : Host.Outcome State Fault Refusal := rmDivide n 0x023 true s

/-! ### Accesses (R267 to R269) -/

def rmLd (n : Nat) (o : RmOrc) (s : State) : RmR State :=
  (rmNeed s n false 1).bind fun s => (rmLoadW s n (rmTop s n 0).toNat o).map fun r => rmPut r.2 n 1 [r.1]
def rmLdh (n : Nat) (hi : Bool) (o : RmOrc) (s : State) : RmR State :=
  (rmNeed s n false 1).bind fun s => (rmLoadH s n (rmTop s n 0).toNat hi o).map fun r => rmPut r.2 n 1 [r.1]
def rmLdd (n : Nat) (o : RmOrc) (s : State) : RmR State :=
  (rmNeed s n false 1).bind fun s => (rmLoadD s n (rmTop s n 0).toNat o).bind fun r =>
    rmPush (rmPut r.2.2 n 1 [r.1]) n false r.2.1
/-- An atomic (R269): the buffer empties first; anywhere but in a Stream Memory it is a bus error. -/
def rmAtomic (n op : Nat) (o : RmOrc) (s : State) : RmR State := do
  let s ← rmNeed s n false 2
  let a := (rmTop s n 0).toNat
  let v := rmTop s n 1
  if !rmMay s n (rmLvl s n) 2 a then rmFlt rcSTORE a
  let s ← sbAll s n
  match orcAt o a with
  | some (st, w) => rmStatus s st a (rmPut s n 2 [w])
  | none =>
    if busHeld s a then .error .wait
    else if mwPort s a = some 27 then .error (.remote s none [a] o (some (op - 0x38, v)))
    else
      let r := busAtomic s n a (if op = 0x38 then .fadd v else .swap v)
      rmStatus r.2.2 r.1 a (rmPut r.2.2 n 2 [r.2.1])
def rmStoreOp (n k : Nat) (e : State → List SbEnt) (s : State) : RmR State :=
  (rmNeed s n false k).bind fun s => (rmStore s n (e s)).map fun s => rmPut s n k []

def execRmLd (n : Nat) (s : State) : Host.Outcome State Fault Refusal := rmSeq n 0x030 3 (rmLd n []) s
def execRmSt (n : Nat) (s : State) : Host.Outcome State Fault Refusal :=
  rmSeq n 0x031 3 (rmStoreOp n 2 fun s => [⟨(rmTop s n 0).toNat, .word (rmTop s n 1), rmLvl s n⟩]) s
def execRmLdh0 (n : Nat) (s : State) : Host.Outcome State Fault Refusal := rmSeq n 0x032 3 (rmLdh n false []) s
def execRmLdh1 (n : Nat) (s : State) : Host.Outcome State Fault Refusal := rmSeq n 0x033 3 (rmLdh n true []) s
def rmSth (n : Nat) (hi : Bool) (s : State) : List SbEnt :=
  [⟨(rmTop s n 0).toNat, .half hi ((rmTop s n 1).setWidth 18), rmLvl s n⟩]
def execRmSth0 (n : Nat) (s : State) : Host.Outcome State Fault Refusal := rmSeq n 0x034 3 (rmStoreOp n 2 (rmSth n false)) s
def execRmSth1 (n : Nat) (s : State) : Host.Outcome State Fault Refusal := rmSeq n 0x035 3 (rmStoreOp n 2 (rmSth n true)) s
def execRmLdd (n : Nat) (s : State) : Host.Outcome State Fault Refusal := rmSeq n 0x036 3 (rmLdd n []) s
/-- STD (R268): at an odd address two entries. -/
def execRmStd (n : Nat) (s : State) : Host.Outcome State Fault Refusal :=
  rmSeq n 0x037 3 (rmStoreOp n 3 fun s =>
    let a := (rmTop s n 0).toNat
    let hi := rmTop s n 1
    let lo := rmTop s n 2
    let l := rmLvl s n
    if a % 2 = 0 then [⟨a, .dbl lo hi, l⟩] else [⟨a, .word lo, l⟩, ⟨(a + 1) % 2 ^ 36, .word hi, l⟩]) s
def execXadd (n : Nat) (s : State) : Host.Outcome State Fault Refusal := rmSeq n 0x038 3 (rmAtomic n 0x038 []) s
def execXswap (n : Nat) (s : State) : Host.Outcome State Fault Refusal := rmSeq n 0x039 3 (rmAtomic n 0x039 []) s
def execFence (n : Nat) (s : State) : Host.Outcome State Fault Refusal := rmSeq n 0x03A 3 (fun s => sbAll s n) s

/-- STORE_BUFFER_DRAIN (R267). -/
def execStoreBufferDrain (n : Nat) (s : State) : Host.Outcome State Fault Refusal :=
  gateRst iRMC s fun s =>
    match (core s n).sb with
    | e :: _ => if n < s.cfg.part.cores ∧ busHeld s e.addr = false then sbDrain1 s n else s
    | [] => s

/-! ### Literals, branches, calls (R263, R264) -/

/-- The operand field of an operation in slot s: slots s + 1 to 3. -/
def rmField (s : State) (n : Nat) (fld : BitVec 27) : Int :=
  let w := 9 * (3 - (core s n).slot)
  sext w (fld.toNat % 2 ^ w)
/-- An operand-carrying operation ends its word; in slot 3 it is illegal. -/
def rmCarry (n op : Nat) (k : State → RmR State) (s : State) : Host.Outcome State Fault Refusal :=
  rmOp n op 3 (fun s => if (core s n).slot = 3 then rmFlt rcILLEGAL 0 else k s) s
/-- Where a branch goes: its offset from the word after its own, modulo 2^36. -/
def rmGoto (s : State) (n : Nat) (fld : BitVec 27) : Nat := ((((core s n).pc : Int) + 1 + rmField s n fld) % (2 ^ 36 : Int)).toNat
def execLit (n : Nat) (fld : BitVec 27) (s : State) : Host.Outcome State Fault Refusal :=
  rmCarry n 0x100 (fun s => (rmPush s n false (BitVec.ofInt 36 (rmField s n fld))).map fun t => rmJump t n (rmNextWord s n)) s
/-- LITW: its later slots are zero; the next word is fetched as its literal (`lit` stands for it where it is given), and execution goes on
after it. -/
def rmLitw (n : Nat) (fld : BitVec 27) (lit : Option Word) (s : State) : Host.Outcome State Fault Refusal :=
  rmOp n 0x101 3 (fun s => do
    let a := rmNextWord s n
    if fld.toNat % 2 ^ (9 * (3 - (core s n).slot)) ≠ 0 then rmFlt rcILLEGAL 0
    let s ← rmFetchAt s n a []
    let t ← rmPush s n false (lit.getD (kvGet 0#36 (core s n).words a))
    return rmJump t n (a + 1)) s
def execLitw (n : Nat) (fld : BitVec 27) (lit : Word) (s : State) : Host.Outcome State Fault Refusal := rmLitw n fld (some lit) s
def execRmBr (n : Nat) (fld : BitVec 27) (s : State) : Host.Outcome State Fault Refusal :=
  rmCarry n 0x102 (fun s => .ok (rmJump s n (rmGoto s n fld))) s
/-- BZ and BNZ. -/
def rmCond (n op : Nat) (z : Bool) (fld : BitVec 27) (s : State) : Host.Outcome State Fault Refusal :=
  rmCarry n op (fun s => (rmNeed s n false 1).map fun t =>
    rmJump (rmPut t n 1 []) n (if decide (rmTop t n 0 = 0#36) == z then rmGoto s n fld else rmNextWord s n)) s
def execBz (n : Nat) (fld : BitVec 27) (s : State) : Host.Outcome State Fault Refusal := rmCond n 0x103 true fld s
def execBnz (n : Nat) (fld : BitVec 27) (s : State) : Host.Outcome State Fault Refusal := rmCond n 0x104 false fld s
def execCall (n : Nat) (fld : BitVec 27) (s : State) : Host.Outcome State Fault Refusal :=
  rmCarry n 0x105 (fun s => (rmPush s n true (mkW (rmNextWord s n))).map fun t => rmJump t n (rmGoto s n fld)) s
def execRet (n : Nat) (s : State) : Host.Outcome State Fault Refusal :=
  rmOp n 0x040 3 (fun s => (rmNeed s n true 1).map fun s =>
    rmJump (rmSetHeld s n true ((core s n).rs.drop 1)) n ((core s n).rs.headD 0#36).toNat) s
def execJmps (n : Nat) (s : State) : Host.Outcome State Fault Refusal :=
  rmOp n 0x041 3 (fun s => (rmNeed s n false 1).map fun s => rmJump (rmPut s n 1 []) n (rmTop s n 0).toNat) s
def execCalls (n : Nat) (s : State) : Host.Outcome State Fault Refusal :=
  rmOp n 0x042 3 (fun s => (rmNeed s n false 1).bind fun s =>
    (rmPush (rmPut s n 1 []) n true (mkW (rmNextWord s n))).map fun t => rmJump t n (rmTop s n 0).toNat) s

/-! ### Gates (R272, R273) -/

/-- A GATE fault of a kind, with the gate number in FADDR (Table RMC-4). -/
def gateFlt {α : Type} (detail arg g : Nat) : RmR α := .error (.flt rcGATE detail arg g none)
/-- A failed check of RETG, RETX or VRESUME (R273, R281). -/
def restoreFlt {α : Type} (d : Nat) : RmR α := .error (.flt rcRESTORE d 0 0 none)
/-- GATE n (R272). -/
def rmGate (n : Nat) (fld : BitVec 27) (s : State) : RmR State := do
  let g := rmField s n fld
  let gn := (g % (2 ^ 36 : Int)).toNat
  if g < 0 ∨ (rf s (R.rmGT_COUNT n) : Int) ≤ g then gateFlt 1 0 gn
  let s ← sbAll s n
  let e := (rf s (R.rmGT_BASE n) + 2 * gn) % 2 ^ 36
  let w0 := hwGet s n e
  let w1 := hwGet w0.2.2 n ((e + 1) % 2 ^ 36)
  let s := w1.2.2
  let w := w1.2.1.toNat
  let l := rmLvl s n
  let tl := w % 4
  let argc := bits w 7 4
  if w0.1 ≠ stOK ∨ w1.1 ≠ stOK ∨ bit w 35 = false ∨ 8 < argc then gateFlt 1 0 gn
  if bits w 3 2 < l ∨ l < tl then gateFlt 2 0 gn
  let s ← rmNeed s n false argc
  let bad := (List.range argc).find? fun i => bit w (8 + i) && !rmMay s n l (if bit w (16 + i) then 2 else 1) (rmTop s n i).toNat
  match bad with
  | some i => gateFlt 3 i gn
  | none =>
    let args := (core s n).ds.take argc
    let ds := (core s n).ds.drop argc
    let rs := (core s n).rs
    let d0 := (rmSp s n l false + 2 ^ 36 - ds.length) % 2 ^ 36
    let q0 := (rmSp s n l true + 2 ^ 36 - rs.length) % 2 ^ 36
    let dT := if tl = l then d0 else rmSp s n tl false
    let qT := if tl = l then q0 else rmSp s n tl true
    if dT < rmLo s n tl false + argc ∨ rmHi s n tl false < dT ∨ qT < rmLo s n tl true + 3 ∨ rmHi s n tl true < qT then gateFlt 4 0 gn
    match (spillBad s n l d0 ds.length).orElse (fun _ => spillBad s n l q0 rs.length) with
    | some a => rmFlt rcSTORE a
    | none =>
    let s1 := hwSpill (hwSpill s n d0 ds) n q0 rs
    let s1 := rmSetSp (rmSetSp s1 n l false d0) n l true q0
    let st := mkW (rmStat s n 0)
    let s1 := rmSetHeld (rmSetHeld s1 n false args) n true [st, mkW dT, mkW (rmNextWord s n)]
    return rmJump (wf s1 (R.rmLEVEL n) tl) n w0.2.1.toNat
def execGate (n : Nat) (fld : BitVec 27) (s : State) : Host.Outcome State Fault Refusal := rmCarry n 0x106 (rmGate n fld) s
/-- RETG (R273). -/
def execRetg (n : Nat) (s : State) : Host.Outcome State Fault Refusal :=
  rmOp n 0x050 3 (fun s => do
    let s ← rmNeed s n false 1
    let rc := (rmTop s n 0).toNat
    if 8 < rc then rmFlt rcILLEGAL 0
    let s ← rmNeed s n false (rc + 1)
    let s ← rmNeed s n true 3
    let r := fun i => ((core s n).rs.getD i 0#36).toNat
    let l := rmLvl s n
    let pl := r 0 % 4
    if pl < l ∨ pl = 3 then restoreFlt 1
    let res := ((core s n).ds.drop 1).take rc
    let s := rmSetSp s n l false (r 1)
    let s := rmSetHeld (rmSetHeld s n false res) n true []
    return rmJump (wf s (R.rmLEVEL n) pl) n (r 2)) s

/-! ### Exceptions and returns (R275, R281) -/

/-- The instruction of a Progress Record as a vector queue takes it, with its context. -/
def rmResume (s : State) (n l p tsb : Nat) (ws : List Word) : Nat × State :=
  if s.cfg.part.pipes ≤ p then (3, s)
  else if isUp s iVEC = false then (2, s)
  else pipeIssue s p (ws.getD 2 0#36) (ws.getD 3 0#36) (ws.getD 4 0#36) (.rm n l (rmRegs s n l) tsb (ws.getD 1 0#36).toNat) none (some ws)
/-- R281 detail 2: every non-zero position of a record lies in the level's regions, D writable. -/
def resPosOk (s : State) (n l : Nat) (ws : List Word) : Bool :=
  [(7, 2), (8, 1), (9, 1)].all fun e => let a := (ws.getD e.1 0#36).toNat; a == 0 || rmMay s n l e.2 a
/-- The 32 words of the block at t as RETX reads them: the first status that is not OK. -/
def tsbRead (s : State) (n t : Nat) : (Nat × List Word) × State :=
  (List.range 32).foldl (fun (acc : (Nat × List Word) × State) i =>
    let r := hwGet acc.2 n ((t + i) % 2 ^ 36)
    ((if acc.1.1 = stOK then r.1 else acc.1.1, acc.1.2 ++ [r.2.1]), r.2.2)) ((stOK, []), s)
/-- The block RETX reads (R281). -/
def retxAt (s : State) (n : Nat) : Nat := (rmTsbp s n + 2 ^ 36 - 32) % 2 ^ 36
/-- The levels whose stack pointers RETX restores to saved level sl. -/
def retxLevels (s : State) (n sl : Nat) : List Nat := (List.range 3).filter (fun k => k = sl || rmLvl s n < k)
/-- RETX restores the context of the block `ws` (R281). -/
def retxGo (s : State) (n : Nat) (ws : List Word) : State :=
  let w := fun i => (ws.getD i 0#36).toNat
  let sl := w 1 % 4
  let em := rb s (R.rmEMERG n)
  let t := retxAt s n
  let s := (retxLevels s n sl).foldl (fun s k => wf (wf s (R.rmSPD n k) (w (4 + 2 * k))) (R.rmSPQ n k) (w (5 + 2 * k))) s
  let s := if em then wf (wf (wb s (R.rmEMERG n) false) (R.rmTSBP n) (w 12 / 32)) (R.rmTSB_LIM n) (w 13)
    else wf s (R.rmTSBP n) (t / 32)
  let s := wb (wf s (R.rmLEVEL n) sl) (R.rmIE n) (bit (w 1) 2)
  modCore s n fun c => { c with ds := [], rs := [], words := [], hold := .none, pc := w 0, slot := bits (w 1) 9 8 }
/-- RETX (R281): its checks. A resume then waits for the pipe's reply. -/
def rmRetx (n : Nat) (s : State) : RmR State := do
  let s ← sbAll s n
  let t := retxAt s n
  let r := tsbRead s n t
  let s := r.2
  let ws := r.1.2
  let w := fun i => (ws.getD i 0#36).toNat
  let sl := w 1 % 4
  let vres := w 11 % 2 == 1
  let inb := fun k => let d := w (4 + 2 * k); let q := w (5 + 2 * k)
    decide (rf s (R.rmDLO n k) ≤ d) && decide (d ≤ rf s (R.rmDHI n k)) && decide (rf s (R.rmQLO n k) ≤ q) && decide (q ≤ rf s (R.rmQHI n k))
  if r.1.1 ≠ stOK then rmStatus s r.1.1 t s
  else if sl = 3 ∨ sl < rmLvl s n then restoreFlt 1
  else if vres ∧ resPosOk s n sl (ws.drop 20) = false then restoreFlt 2
  else if (retxLevels s n sl).all inb = false then restoreFlt 3
  else if vres then .ok (modCore s n fun c => { c with hold := .vec 0x051 ws })
  else .ok (retxGo s n ws)
def execRetx (n : Nat) (s : State) : Host.Outcome State Fault Refusal := rmOp n 0x051 1 (rmRetx n) s
/-- TRAP (R275): the saved PC names the next operation. -/
def execTrap (n : Nat) (s : State) : Host.Outcome State Fault Refusal :=
  rmOp n 0x057 3 (fun s => .ok (rmExcept (rmAdv s n) n rcTRAP 0 0 0)) s
/-- Whether core n takes an interrupt entry at its next boundary (R275). -/
def rmEnters (s : State) (n : Nat) : Bool := rmRuns s n && rb s (R.rmIE n) && (icBest s n).isSome
/-- An interrupt entry (R280): its cause is of the request it began with, its vector of the present one. -/
def rmEntry (s : State) (n : Nat) : State :=
  let p := icLinePri s n
  rmSync (rmEnterAt s n (0x10 + min p ((core s n).ent.getD p)) (0x10 + p) 0 0 0) n
/-- EXCEPTION_ENTRY (R275): an admitted request is taken at an operation boundary. -/
def execExceptionEntry (n : Nat) (s : State) : Host.Outcome State Fault Refusal :=
  gateRst iRMC s fun s => if rmEnters s n then rmEntry s n else s
/-- POSTED_ERR (R269): whatever IE holds. -/
def execPostedErr (n : Nat) (s : State) : Host.Outcome State Fault Refusal :=
  gateRst iRMC s fun s =>
    match (core s n).perr with
    | a :: rest =>
      if rmRuns s n then rmSync (rmExcept (modCore s n fun c => { c with perr := rest }) n rcPOSTED 0 0 a) n else s
    | [] => s

/-! ### Levels, special registers, waiting (R264, R283, R284) -/

def execEi (n : Nat) (s : State) : Host.Outcome State Fault Refusal := rmSeq n 0x053 1 (fun s => .ok (wb s (R.rmIE n) true)) s
def execDi (n : Nat) (s : State) : Host.Outcome State Fault Refusal := rmSeq n 0x054 1 (fun s => .ok (wb s (R.rmIE n) false)) s
def execSrd (n : Nat) (s : State) : Host.Outcome State Fault Refusal :=
  rmSeq n 0x055 3 (fun s => do
    let s ← rmNeed s n false 1
    let o := (rmTop s n 0).toNat
    if srNamed o = false then rmFlt rcILLEGAL 0
    if srMayRead o (rmLvl s n) = false then rmFlt rcPRIV 0
    let s := rmPut s n 1 []
    return rmPut s n 0 [srRead (rmSync s n) n o]) s
def execSwr (n : Nat) (s : State) : Host.Outcome State Fault Refusal :=
  rmSeq n 0x056 3 (fun s => do
    let s ← rmNeed s n false 2
    let o := (rmTop s n 0).toNat
    if srNamed o = false then rmFlt rcILLEGAL 0
    if srMayWrite o (rmLvl s n) = false then rmFlt rcPRIV 0
    srWrite (rmPut s n 2 []) n o (rmTop s n 1)) s
/-- WAIT (R283, R393): a core whose CORE_OFF bit is set powers off, and its watchdog stops (its count so far is kept). -/
def execWait (n : Nat) (s : State) : Host.Outcome State Fault Refusal :=
  rmSeq n 0x052 1 (fun s =>
    let s := modCore s n fun c => { c with hold := .wait, rose := (icBest s n).isSome }
    .ok (if 1 ≤ n ∧ bit (rf s R.pwrCORE_OFF) (n - 1) then
        icArb (modCore s n fun c => { c with pw := .off, wdFrom := s.now - c.wdFrom })
      else s)) s
/-- WAIT_WAKE (R283, R297): 24 RMC cycles after the request line rose, whether or not it still stands. -/
def execWaitWake (n : Nat) (s : State) : Host.Outcome State Fault Refusal :=
  gateRm n s fun s =>
    if (core s n).hold = .wait ∧ (core s n).pw = .on ∧ rb s (R.rmSTOPPED n) = false ∧ (core s n).rose then
      rmSync (modCore (elapse s 40) n fun c => { c with hold := .none, rose := false }) n
    else s
/-- CORE_WAKE_DONE (R297, R393): the core is available and continues after its WAIT. -/
def execCoreWakeDone (n : Nat) (s : State) : Host.Outcome State Fault Refusal :=
  gateRm n s fun s =>
    match (core s n).pw with
    | .waking t =>
      let s := atLeast s t
      icArb (modCore s n fun c => { c with pw := .on, hold := .none, rose := false, wdFrom := s.now - c.wdFrom })
    | _ => s
/-- WATCHDOG_WARNING (R283, R285). -/
def execWatchdogWarning (n : Nat) (s : State) : Host.Outcome State Fault Refusal :=
  gateRm n s fun s =>
    let w := rf s (R.rmWD_WARN n)
    let c := core s n
    if rb s (R.rmWD_EN n) ∧ w ≠ 0 ∧ c.wdWarned = false ∧ c.pw = .on then
      let s := atLeast s (c.wdFrom + (rf s (R.rmWD_PERIOD n) - w) * 1000)
      notice (raise (modCore s n fun c => { c with wdWarned := true }) (12 + n)) 2 (4 + n) n 0
    else s
/-- WATCHDOG_EXPIRY (R283): a warm reset, or on the second strike a cold one. -/
def execWatchdogExpiry (n : Nat) (s : State) : Host.Outcome State Fault Refusal :=
  gateRst iRMC s fun s =>
    let c := core s n
    if n < s.cfg.part.cores ∧ rb s (R.rmWD_EN n) ∧ c.pw = .on then
      let s := atLeast s (c.wdFrom + rf s (R.rmWD_PERIOD n) * 1000)
      let s := notice (wdKick s n) 2 (8 + n) n 0
      if rb s (R.rmWD_STRIKE n) then reqReset s 7 true else reqReset (wb s (R.rmWD_STRIKE n) true) 6 false
    else s
/-- WD_KICK (R283). -/
def execWdKick (n : Nat) (s : State) : Host.Outcome State Fault Refusal :=
  gateRm n s fun s => if (core s n).pw = .on then wdKick s n else s
/-- RESTART (R284). -/
def execRestart (n : Nat) (s : State) : Host.Outcome State Fault Refusal := gateRm n s fun s => coreRestart s n

/-! ### Vector issue (R282) -/

/-- VISSUE and VRESUME wait for the pipe's reply. -/
def rmVec (n op k : Nat) (s : State) : RmR State :=
  (rmNeed s n false k).map fun s => modCore s n fun c => { c with hold := .vec op [] }
def execVissue (n : Nat) (s : State) : Host.Outcome State Fault Refusal := rmOp n 0x058 3 (rmVec n 0x058 4) s
/-- The record VRESUME reads, with region-checked loads. -/
def vresWords (n t : Nat) (orc : RmOrc) : Nat → RmR (List Word × State) → RmR (List Word × State)
  | 0, r => r
  | k + 1, r => (vresWords n t orc k r).bind fun q => (rmLoadW q.2 n ((t + 20 + k) % 2 ^ 36) orc).map fun v => (q.1 ++ [v.1], v.2)
/-- VRESUME: the record's checks come before the offer; `orc`: the words that came back from another module or the host. -/
def rmVresume (n : Nat) (orc : RmOrc) (s : State) : RmR State := do
  let s ← rmNeed s n false 2
  let r ← vresWords n (rmTop s n 1).toNat orc 12 (.ok ([], s))
  if resPosOk r.2 n (rmLvl r.2 n) r.1 = false then restoreFlt 2
  return modCore r.2 n fun c => { c with hold := .vec 0x059 r.1 }
def execVresume (n : Nat) (s : State) : Host.Outcome State Fault Refusal := rmOp n 0x059 3 (rmVresume n []) s
/-- The pipe's answer to an issue or a resume. -/
def rmVecReply (n op : Nat) (ws : List Word) (s : State) : RmR State :=
  if op = 0x058 then
    let p := (rmTop s n 0).toNat
    let w := fun i => rmTop s n i
    let r := if s.cfg.part.pipes ≤ p then (3, s) else if isUp s iVEC = false then (2, s)
      else pipeIssue s p (w 3) (w 2) (w 1) (.rm n (rmLvl s n) (rmRegs s n (rmLvl s n)) (rmTsbp s n) (core s n).pc) none none
    .ok (rmAdv (rmPut r.2 n 4 [mkW r.1]) n)
  else if op = 0x059 then
    let r := rmResume s n (rmLvl s n) (rmTop s n 0).toNat (rmTsbp s n) ws
    .ok (rmAdv (rmPut r.2 n 2 [mkW r.1]) n)
  else
    let w11 := (ws.getD 11 0#36).toNat
    let r := rmResume s n ((ws.getD 1 0#36).toNat % 4) (bits w11 2 1) (retxAt s n) (ws.drop 20)
    if r.1 ≠ 0 then restoreFlt 4 else .ok (retxGo r.2 n ws)
/-- VECTOR_ISSUE_REPLY (R282). -/
def execVectorIssueReply (n : Nat) (s : State) : Host.Outcome State Fault Refusal :=
  gateRst iRMC s fun s =>
    match (core s n).hold with
    | .vec op ws => if n < s.cfg.part.cores then
        let s := modCore s n fun c => { c with hold := .none }
        rmDone n op s (rmVecReply n op ws s)
      else s
    | _ => s

/-! ### Remote accesses (R265, R337) -/

/-- An operation with what came back for its accesses. -/
def rmRemoteOp (n op : Nat) (o : RmOrc) (s : State) : RmR State :=
  if op = 0x59 then rmVresume n o s else
  (if op = 0x30 then rmLd n o s else if op = 0x32 then rmLdh n false o s else if op = 0x33 then rmLdh n true o s
    else if op = 0x36 then rmLdd n o s else rmAtomic n op o s).map fun t => rmAdv t n
/-- The replies to a core's packets that are in: address, status, word. -/
def rmReplies (s : State) (need : List (Nat × Nat)) : RmOrc :=
  need.filterMap fun e =>
    (s.cas.rem.find? (fun r => decide (r.tag = e.2))).bind fun r => r.resp.map fun q => (e.1, q.1, q.2.headD 0#36)
/-- What an access was for goes on with what came back: the operation itself; or a fill or a fetch, after which it is issued again. -/
def rmCame (n : Nat) (ask : CoreAsk) (o : RmOrc) (s : State) : State :=
  match ask with
  | .op op => rmDone n op s (rmRemoteOp n op o s)
  | .fill q => rmDone n 0 s (rmFill s n q o)
  | .fetch => rmDone n 0 s (rmFetchAt s n ((o.map Prod.fst).headD 0) o)
/-- REMOTE_ACCESS_REPLY (R265, R337): every reply the core awaits is in. -/
def execRemoteAccessReply (n : Nat) (s : State) : Host.Outcome State Fault Refusal :=
  gateRst iRMC s fun s =>
    match (core s n).hold with
    | .remote ask need got =>
      let rs := rmReplies s need
      if n < s.cfg.part.cores ∧ rs.length = need.length then
        let s := modCore s n fun c => { c with hold := .none }
        let wait := freeNat s
        let s := cntAdd wait.2 (R.rmREMOTE_WAIT_CNT n) (wait.1 % 2 ^ 16)
        let s := { s with cas := { s.cas with rem := s.cas.rem.filter fun r => !(need.any fun e => decide (e.2 = r.tag)) } }
        rmCame n ask (got ++ rs) s
      else s
    | _ => s

/-! ### Instruction words (R263, R264, R265) -/

/-- The operation of a 9-bit opcode (Table RMC-1), with the operand field of the slots after its own; every other opcode is illegal. -/
def rmExec (op : Nat) (fld : BitVec 27) (n : Nat) (s : State) : Host.Outcome State Fault Refusal :=
  match op with
  | 0x000 => execRmNop n s | 0x001 => execDup n s | 0x002 => execDrop n s | 0x003 => execSwap n s
  | 0x004 => execOver n s | 0x005 => execRot n s | 0x006 => execNip n s | 0x007 => execPick n s
  | 0x008 => execTor n s | 0x009 => execFromr n s | 0x00A => execRfetch n s
  | 0x010 => execRmAdd n s | 0x011 => execRmSub n s | 0x012 => execRmAnd n s | 0x013 => execRmOr n s
  | 0x014 => execRmXor n s | 0x015 => execRmNot n s | 0x016 => execRmNeg n s | 0x017 => execRmShl n s
  | 0x018 => execRmShra n s | 0x019 => execRmShrl n s | 0x01A => execEq n s | 0x01B => execLt n s
  | 0x01C => execLtu n s | 0x01D => execEqz n s
  | 0x020 => execRmMul n s | 0x021 => execRmMuld n s | 0x022 => execRmDiv n s | 0x023 => execRmDivr n s
  | 0x030 => execRmLd n s | 0x031 => execRmSt n s | 0x032 => execRmLdh0 n s | 0x033 => execRmLdh1 n s
  | 0x034 => execRmSth0 n s | 0x035 => execRmSth1 n s | 0x036 => execRmLdd n s | 0x037 => execRmStd n s
  | 0x038 => execXadd n s | 0x039 => execXswap n s | 0x03A => execFence n s
  | 0x040 => execRet n s | 0x041 => execJmps n s | 0x042 => execCalls n s
  | 0x050 => execRetg n s | 0x051 => execRetx n s | 0x052 => execWait n s | 0x053 => execEi n s
  | 0x054 => execDi n s | 0x055 => execSrd n s | 0x056 => execSwr n s | 0x057 => execTrap n s
  | 0x058 => execVissue n s | 0x059 => execVresume n s
  | 0x100 => execLit n fld s | 0x101 => rmLitw n fld none s | 0x102 => execRmBr n fld s | 0x103 => execBz n fld s
  | 0x104 => execBnz n fld s | 0x105 => execCall n fld s | 0x106 => execGate n fld s
  | _ => rmOp n op 3 (fun _ => rmFlt rcILLEGAL 0) s
/-- Opcode in slot k of an instruction word, and its operand field: slots k + 1 to 3. -/
def slotOp (w : Word) (k : Nat) : Nat := w.toNat / 2 ^ (9 * (3 - k)) % 512
def slotFld (w : Word) (k : Nat) : BitVec 27 := BitVec.ofNat 27 (w.toNat % 2 ^ (9 * (3 - k)))
/-- The operation that core n issues next: the one in its slot of the word at PC. -/
def rmIssue (s : State) (n : Nat) : Host.Outcome State Fault Refusal :=
  match rmFetch s n with
  | .error _ => execRmNop n s
  | .ok t =>
    let w := kvGet 0#36 (core t n).words (core t n).pc
    rmExec (slotOp w (core t n).slot) (slotFld w (core t n).slot) n t
/-- Cycles of an operation, stalls apart (Table RMC-1), from the states before and after it. An entry takes 10 (Table RMC-6). -/
def rmCycles (op n : Nat) (s t : State) : Nat :=
  if rf s (R.rmENTRY_CNT n) ≠ rf t (R.rmENTRY_CNT n) then 10
  else if op ∈ [0x020, 0x021, 0x036, 0x040, 0x041, 0x042, 0x102, 0x105] then 3
  else if op ∈ [0x022, 0x023] then 12
  else if op ∈ [0x030, 0x032, 0x033, 0x038, 0x039, 0x055, 0x056, 0x058, 0x059, 0x101] then 2
  else if op ∈ [0x050, 0x106] then 6 + 2 * (core t n).ds.length
  else if op = 0x051 then 8
  else if op = 0x103 then (if rmTop s n 0 = 0#36 then 3 else 1)
  else if op = 0x104 then (if rmTop s n 0 = 0#36 then 1 else 3)
  else 1
/-- The state an outcome leaves, or the state before it. -/
def outState (s : State) (o : Host.Outcome State Fault Refusal) : State := match o with | .next t => t | _ => s
/-- Opcode of the operation that core n issues next; NOP where its fetch waits or faults. -/
def rmNextOp (s : State) (n : Nat) : Nat :=
  match rmFetch s n with
  | .ok t => slotOp (kvGet 0#36 (core t n).words (core t n).pc) (core t n).slot
  | .error _ => 0
/-- One RMC cycle of a running core: its operation goes on; at a boundary an exception that is due, an entry, or the next operation (R275). -/
def rmCycle (s : State) (n : Nat) : State :=
  if rmRuns s n = false then s
  else if 0 < (core s n).busy then modCore s n fun c => { c with busy := c.busy - 1 }
  else
    let t := if (core s n).perr ≠ [] then outState s (execPostedErr n s) else if rmEnters s n then rmEntry s n else outState s (rmIssue s n)
    modCore t n fun c => { c with busy := rmCycles (rmNextOp s n) n s t - 1 }

end Sys2Proof.Machine
end

