-- ==== Sys2Proof/Machine/VecExec.lean ====
section
/-! DEFINITION. The vector instructions (Tables VIN-3, VIN-4, VIN-5, VIN-7, VIN-8, VIN-10): each is its operation code given to a pipe. -/

namespace Sys2Proof.Machine

/-- VMOV (OP 0x001). -/
def execVmov (p : Nat) (o : VOrg) (f : VFields) (s : State) : Host.Outcome State Fault Refusal := vCommand 0x001 p o f s
/-- VADD (OP 0x002). -/
def execVadd (p : Nat) (o : VOrg) (f : VFields) (s : State) : Host.Outcome State Fault Refusal := vCommand 0x002 p o f s
/-- VSUB (OP 0x003). -/
def execVsub (p : Nat) (o : VOrg) (f : VFields) (s : State) : Host.Outcome State Fault Refusal := vCommand 0x003 p o f s
/-- VNEG (OP 0x004). -/
def execVneg (p : Nat) (o : VOrg) (f : VFields) (s : State) : Host.Outcome State Fault Refusal := vCommand 0x004 p o f s
/-- VABS (OP 0x005). -/
def execVabs (p : Nat) (o : VOrg) (f : VFields) (s : State) : Host.Outcome State Fault Refusal := vCommand 0x005 p o f s
/-- VMIN (OP 0x006). -/
def execVmin (p : Nat) (o : VOrg) (f : VFields) (s : State) : Host.Outcome State Fault Refusal := vCommand 0x006 p o f s
/-- VMAX (OP 0x007). -/
def execVmax (p : Nat) (o : VOrg) (f : VFields) (s : State) : Host.Outcome State Fault Refusal := vCommand 0x007 p o f s
/-- VCPYS (OP 0x008). -/
def execVcpys (p : Nat) (o : VOrg) (f : VFields) (s : State) : Host.Outcome State Fault Refusal := vCommand 0x008 p o f s
/-- VAND (OP 0x009). -/
def execVand (p : Nat) (o : VOrg) (f : VFields) (s : State) : Host.Outcome State Fault Refusal := vCommand 0x009 p o f s
/-- VOR (OP 0x00A). -/
def execVor (p : Nat) (o : VOrg) (f : VFields) (s : State) : Host.Outcome State Fault Refusal := vCommand 0x00A p o f s
/-- VXOR (OP 0x00B). -/
def execVxor (p : Nat) (o : VOrg) (f : VFields) (s : State) : Host.Outcome State Fault Refusal := vCommand 0x00B p o f s
/-- VNOT (OP 0x00C). -/
def execVnot (p : Nat) (o : VOrg) (f : VFields) (s : State) : Host.Outcome State Fault Refusal := vCommand 0x00C p o f s
/-- VSHL (OP 0x00D). -/
def execVshl (p : Nat) (o : VOrg) (f : VFields) (s : State) : Host.Outcome State Fault Refusal := vCommand 0x00D p o f s
/-- VSHRA (OP 0x00E). -/
def execVshra (p : Nat) (o : VOrg) (f : VFields) (s : State) : Host.Outcome State Fault Refusal := vCommand 0x00E p o f s
/-- VSHRL (OP 0x00F). -/
def execVshrl (p : Nat) (o : VOrg) (f : VFields) (s : State) : Host.Outcome State Fault Refusal := vCommand 0x00F p o f s
/-- VCMP (OP 0x010). -/
def execVcmp (p : Nat) (o : VOrg) (f : VFields) (s : State) : Host.Outcome State Fault Refusal := vCommand 0x010 p o f s
/-- VSEL (OP 0x011). -/
def execVsel (p : Nat) (o : VOrg) (f : VFields) (s : State) : Host.Outcome State Fault Refusal := vCommand 0x011 p o f s
/-- VCLAMP (OP 0x012). -/
def execVclamp (p : Nat) (o : VOrg) (f : VFields) (s : State) : Host.Outcome State Fault Refusal := vCommand 0x012 p o f s
/-- VLERP (OP 0x013). -/
def execVlerp (p : Nat) (o : VOrg) (f : VFields) (s : State) : Host.Outcome State Fault Refusal := vCommand 0x013 p o f s
/-- VIDX (OP 0x014). -/
def execVidx (p : Nat) (o : VOrg) (f : VFields) (s : State) : Host.Outcome State Fault Refusal := vCommand 0x014 p o f s
/-- VMUL (OP 0x020). -/
def execVmul (p : Nat) (o : VOrg) (f : VFields) (s : State) : Host.Outcome State Fault Refusal := vCommand 0x020 p o f s
/-- VMULD (OP 0x021). -/
def execVmuld (p : Nat) (o : VOrg) (f : VFields) (s : State) : Host.Outcome State Fault Refusal := vCommand 0x021 p o f s
/-- VFMA (OP 0x022). -/
def execVfma (p : Nat) (o : VOrg) (f : VFields) (s : State) : Host.Outcome State Fault Refusal := vCommand 0x022 p o f s
/-- VMACD (OP 0x023). -/
def execVmacd (p : Nat) (o : VOrg) (f : VFields) (s : State) : Host.Outcome State Fault Refusal := vCommand 0x023 p o f s
/-- VRND (OP 0x024). -/
def execVrnd (p : Nat) (o : VOrg) (f : VFields) (s : State) : Host.Outcome State Fault Refusal := vCommand 0x024 p o f s
/-- VCVT (OP 0x025). -/
def execVcvt (p : Nat) (o : VOrg) (f : VFields) (s : State) : Host.Outcome State Fault Refusal := vCommand 0x025 p o f s
/-- VDIV (OP 0x028). -/
def execVdiv (p : Nat) (o : VOrg) (f : VFields) (s : State) : Host.Outcome State Fault Refusal := vCommand 0x028 p o f s
/-- VDIVR (OP 0x029). -/
def execVdivr (p : Nat) (o : VOrg) (f : VFields) (s : State) : Host.Outcome State Fault Refusal := vCommand 0x029 p o f s
/-- VSQRT (OP 0x02A). -/
def execVsqrt (p : Nat) (o : VOrg) (f : VFields) (s : State) : Host.Outcome State Fault Refusal := vCommand 0x02A p o f s
/-- VQGET (OP 0x040). -/
def execVqget (p : Nat) (o : VOrg) (f : VFields) (s : State) : Host.Outcome State Fault Refusal := vCommand 0x040 p o f s
/-- VRSUM (OP 0x030). -/
def execVrsum (p : Nat) (o : VOrg) (f : VFields) (s : State) : Host.Outcome State Fault Refusal := vCommand 0x030 p o f s
/-- VRDOT (OP 0x031). -/
def execVrdot (p : Nat) (o : VOrg) (f : VFields) (s : State) : Host.Outcome State Fault Refusal := vCommand 0x031 p o f s
/-- VRMIN (OP 0x032). -/
def execVrmin (p : Nat) (o : VOrg) (f : VFields) (s : State) : Host.Outcome State Fault Refusal := vCommand 0x032 p o f s
/-- VRMAX (OP 0x033). -/
def execVrmax (p : Nat) (o : VOrg) (f : VFields) (s : State) : Host.Outcome State Fault Refusal := vCommand 0x033 p o f s
/-- VBAND (OP 0x041). -/
def execVband (p : Nat) (o : VOrg) (f : VFields) (s : State) : Host.Outcome State Fault Refusal := vCommand 0x041 p o f s
/-- VXCOR (OP 0x042). -/
def execVxcor (p : Nat) (o : VOrg) (f : VFields) (s : State) : Host.Outcome State Fault Refusal := vCommand 0x042 p o f s
/-- VBFLY (OP 0x043). -/
def execVbfly (p : Nat) (o : VOrg) (f : VFields) (s : State) : Host.Outcome State Fault Refusal := vCommand 0x043 p o f s
/-- VNOP (OP 0x000). -/
def execVnop (p : Nat) (o : VOrg) (f : VFields) (s : State) : Host.Outcome State Fault Refusal := vCommand 0x000 p o f s
/-- VFENCE (OP 0x3F0). -/
def execVfence (p : Nat) (o : VOrg) (f : VFields) (s : State) : Host.Outcome State Fault Refusal := vCommand 0x3F0 p o f s

end Sys2Proof.Machine
end

