-- ==== Sys2Proof/Machine/Dispatch.lean ====
section
/-! DEFINITION. One arm per command: a direct call of its meaning. -/

namespace Sys2Proof.Machine

def exec (i : Instr) (s : State) : Host.Outcome State Fault Refusal :=
  match i with
  | .registerWrite m lvl a w => Sys2Proof.Machine.execRegisterWrite m lvl a w s
  | .sharedAccessGrant b => Sys2Proof.Machine.execSharedAccessGrant b s
  | .rmwCompletion b => Sys2Proof.Machine.execRmwCompletion b s
  | .correctedWriteBack b => Sys2Proof.Machine.execCorrectedWriteBack b s
  | .patrolScrub b => Sys2Proof.Machine.execPatrolScrub b s
  | .streamInitDone => Sys2Proof.Machine.execStreamInitDone s
  | .lvtBaseWrite w => Sys2Proof.Machine.execLvtBaseWrite w s
  | .bulkPartialWrite a ws => Sys2Proof.Machine.execBulkPartialWrite a ws s
  | .bulkBurstWrite a ws => Sys2Proof.Machine.execBulkBurstWrite a ws s
  | .combineEntryTimeout burst => Sys2Proof.Machine.execCombineEntryTimeout burst s
  | .flush => Sys2Proof.Machine.execFlush s
  | .flushDone => Sys2Proof.Machine.execFlushDone s
  | .bulkRead a n tag => Sys2Proof.Machine.execBulkRead a n tag s
  | .bulkRefresh ch => Sys2Proof.Machine.execBulkRefresh ch s
  | .dramTemperatureReport dev hot => Sys2Proof.Machine.execDramTemperatureReport dev hot s
  | .bulkScrubRead => Sys2Proof.Machine.execBulkScrubRead s
  | .bulkTrainingDone full => Sys2Proof.Machine.execBulkTrainingDone full s
  | .bulkZeroFillDone => Sys2Proof.Machine.execBulkZeroFillDone s
  | .blockFetch p => Sys2Proof.Machine.execBlockFetch p s
  | .vectorGroupAdvance mask => Sys2Proof.Machine.execVectorGroupAdvance mask s
  | .chainTimeout p => Sys2Proof.Machine.execChainTimeout p s
  | .rmRelease p => Sys2Proof.Machine.execRmRelease p s
  | .pipeIdleTimeout p => Sys2Proof.Machine.execPipeIdleTimeout p s
  | .pipePowerdownDone p => Sys2Proof.Machine.execPipePowerdownDone p s
  | .pipeWakeDone p => Sys2Proof.Machine.execPipeWakeDone p s
  | .longRegisterWrite p off w => Sys2Proof.Machine.execLongRegisterWrite p off w s
  | .unitEnableWrite u en => Sys2Proof.Machine.execUnitEnableWrite u en s
  | .unitDrainComplete u => Sys2Proof.Machine.execUnitDrainComplete u s
  | .drainLimitExpiry u => Sys2Proof.Machine.execDrainLimitExpiry u s
  | .unitIsolateDone u => Sys2Proof.Machine.execUnitIsolateDone u s
  | .unitWakeDone u => Sys2Proof.Machine.execUnitWakeDone u s
  | .vmov p o f => Sys2Proof.Machine.execVmov p o f s
  | .vadd p o f => Sys2Proof.Machine.execVadd p o f s
  | .vsub p o f => Sys2Proof.Machine.execVsub p o f s
  | .vneg p o f => Sys2Proof.Machine.execVneg p o f s
  | .vabs p o f => Sys2Proof.Machine.execVabs p o f s
  | .vmin p o f => Sys2Proof.Machine.execVmin p o f s
  | .vmax p o f => Sys2Proof.Machine.execVmax p o f s
  | .vcpys p o f => Sys2Proof.Machine.execVcpys p o f s
  | .vand p o f => Sys2Proof.Machine.execVand p o f s
  | .vor p o f => Sys2Proof.Machine.execVor p o f s
  | .vxor p o f => Sys2Proof.Machine.execVxor p o f s
  | .vnot p o f => Sys2Proof.Machine.execVnot p o f s
  | .vshl p o f => Sys2Proof.Machine.execVshl p o f s
  | .vshra p o f => Sys2Proof.Machine.execVshra p o f s
  | .vshrl p o f => Sys2Proof.Machine.execVshrl p o f s
  | .vcmp p o f => Sys2Proof.Machine.execVcmp p o f s
  | .vsel p o f => Sys2Proof.Machine.execVsel p o f s
  | .vclamp p o f => Sys2Proof.Machine.execVclamp p o f s
  | .vlerp p o f => Sys2Proof.Machine.execVlerp p o f s
  | .vidx p o f => Sys2Proof.Machine.execVidx p o f s
  | .vmul p o f => Sys2Proof.Machine.execVmul p o f s
  | .vmuld p o f => Sys2Proof.Machine.execVmuld p o f s
  | .vfma p o f => Sys2Proof.Machine.execVfma p o f s
  | .vmacd p o f => Sys2Proof.Machine.execVmacd p o f s
  | .vrnd p o f => Sys2Proof.Machine.execVrnd p o f s
  | .vcvt p o f => Sys2Proof.Machine.execVcvt p o f s
  | .vdiv p o f => Sys2Proof.Machine.execVdiv p o f s
  | .vdivr p o f => Sys2Proof.Machine.execVdivr p o f s
  | .vsqrt p o f => Sys2Proof.Machine.execVsqrt p o f s
  | .vqget p o f => Sys2Proof.Machine.execVqget p o f s
  | .vrsum p o f => Sys2Proof.Machine.execVrsum p o f s
  | .vrdot p o f => Sys2Proof.Machine.execVrdot p o f s
  | .vrmin p o f => Sys2Proof.Machine.execVrmin p o f s
  | .vrmax p o f => Sys2Proof.Machine.execVrmax p o f s
  | .vband p o f => Sys2Proof.Machine.execVband p o f s
  | .vxcor p o f => Sys2Proof.Machine.execVxcor p o f s
  | .vbfly p o f => Sys2Proof.Machine.execVbfly p o f s
  | .vnop p o f => Sys2Proof.Machine.execVnop p o f s
  | .vfence p o f => Sys2Proof.Machine.execVfence p o f s
  | .start n => Sys2Proof.Machine.execStart n s
  | .stop n => Sys2Proof.Machine.execStop n s
  | .faultAck n => Sys2Proof.Machine.execFaultAck n s
  | .loopIterationEnd n => Sys2Proof.Machine.execLoopIterationEnd n s
  | .clusterResultLanding n => Sys2Proof.Machine.execClusterResultLanding n s
  | .storeReachesMemory n => Sys2Proof.Machine.execStoreReachesMemory n s
  | .clusterFinish n => Sys2Proof.Machine.execClusterFinish n s
  | .clusterWindowAccess n tag w => Sys2Proof.Machine.execClusterWindowAccess n tag w s
  | .clusterIdleTimeout n => Sys2Proof.Machine.execClusterIdleTimeout n s
  | .clusterWakeDone n => Sys2Proof.Machine.execClusterWakeDone n s
  | .clusterInitDone n => Sys2Proof.Machine.execClusterInitDone n s
  | .nop n h unit => Sys2Proof.Machine.execNop n h unit s
  | .mac n h b => Sys2Proof.Machine.execMac n h b s
  | .mach n h b => Sys2Proof.Machine.execMach n h b s
  | .macx n h b => Sys2Proof.Machine.execMacx n h b s
  | .acld n h b => Sys2Proof.Machine.execAcld n h b s
  | .sacq n h b => Sys2Proof.Machine.execSacq n h b s
  | .saci n h b => Sys2Proof.Machine.execSaci n h b s
  | .sach n h b => Sys2Proof.Machine.execSach n h b s
  | .sacd n h b => Sys2Proof.Machine.execSacd n h b s
  | .sacdi n h b => Sys2Proof.Machine.execSacdi n h b s
  | .sacw n h b => Sys2Proof.Machine.execSacw n h b s
  | .mul n h b => Sys2Proof.Machine.execMul n h b s
  | .mulq n h b => Sys2Proof.Machine.execMulq n h b s
  | .mulh n h b => Sys2Proof.Machine.execMulh n h b s
  | .mulhq n h b => Sys2Proof.Machine.execMulhq n h b s
  | .muld n h b => Sys2Proof.Machine.execMuld n h b s
  | .fadd n h b => Sys2Proof.Machine.execFadd n h b s
  | .fsub n h b => Sys2Proof.Machine.execFsub n h b s
  | .fmul n h b => Sys2Proof.Machine.execFmul n h b s
  | .fma n h b => Sys2Proof.Machine.execFma n h b s
  | .fnma n h b => Sys2Proof.Machine.execFnma n h b s
  | .add n h b => Sys2Proof.Machine.execAdd n h b s
  | .sub n h b => Sys2Proof.Machine.execSub n h b s
  | .addi n h b => Sys2Proof.Machine.execAddi n h b s
  | .neg n h b => Sys2Proof.Machine.execNeg n h b s
  | .abs n h b => Sys2Proof.Machine.execAbs n h b s
  | .min n h b => Sys2Proof.Machine.execMin n h b s
  | .max n h b => Sys2Proof.Machine.execMax n h b s
  | .and n h b => Sys2Proof.Machine.execAnd n h b s
  | .or n h b => Sys2Proof.Machine.execOr n h b s
  | .xor n h b => Sys2Proof.Machine.execXor n h b s
  | .andn n h b => Sys2Proof.Machine.execAndn n h b s
  | .not n h b => Sys2Proof.Machine.execNot n h b s
  | .mov n h b => Sys2Proof.Machine.execMov n h b s
  | .shl n h b => Sys2Proof.Machine.execShl n h b s
  | .shra n h b => Sys2Proof.Machine.execShra n h b s
  | .shrl n h b => Sys2Proof.Machine.execShrl n h b s
  | .shli n h b => Sys2Proof.Machine.execShli n h b s
  | .shrai n h b => Sys2Proof.Machine.execShrai n h b s
  | .shrli n h b => Sys2Proof.Machine.execShrli n h b s
  | .cmp n h b => Sys2Proof.Machine.execCmp n h b s
  | .cmpu n h b => Sys2Proof.Machine.execCmpu n h b s
  | .fcmp n h b => Sys2Proof.Machine.execFcmp n h b s
  | .cmpi n h b => Sys2Proof.Machine.execCmpi n h b s
  | .clog n h b => Sys2Proof.Machine.execClog n h b s
  | .mvr n h b => Sys2Proof.Machine.execMvr n h b s
  | .mvri n h b => Sys2Proof.Machine.execMvri n h b s
  | .getr n h b => Sys2Proof.Machine.execGetr n h b s
  | .sets n h dst imm => Sys2Proof.Machine.execSets n h dst imm s
  | .seth n h dst imm => Sys2Proof.Machine.execSeth n h dst imm s
  | .ld n h b => Sys2Proof.Machine.execLd n h b s
  | .ldh0 n h b => Sys2Proof.Machine.execLdh0 n h b s
  | .ldh1 n h b => Sys2Proof.Machine.execLdh1 n h b s
  | .ldd n h b => Sys2Proof.Machine.execLdd n h b s
  | .st n h b => Sys2Proof.Machine.execSt n h b s
  | .sth0 n h b => Sys2Proof.Machine.execSth0 n h b s
  | .sth1 n h b => Sys2Proof.Machine.execSth1 n h b s
  | .std n h b => Sys2Proof.Machine.execStd n h b s
  | .modp n h b => Sys2Proof.Machine.execModp n h b s
  | .br n h b => Sys2Proof.Machine.execBr n h b s
  | .brr n h b => Sys2Proof.Machine.execBrr n h b s
  | .halt n h b => Sys2Proof.Machine.execHalt n h b s
  | .lend n h b => Sys2Proof.Machine.execLend n h b s
  | .loopr n h rot b => Sys2Proof.Machine.execLoopr n h rot b s
  | .loopi n h rot count => Sys2Proof.Machine.execLoopi n h rot count s
  | .smax n h b => Sys2Proof.Machine.execSmax n h b s
  | .smin n h b => Sys2Proof.Machine.execSmin n h b s
  | .div n h b => Sys2Proof.Machine.execDiv n h b s
  | .divr n h b => Sys2Proof.Machine.execDivr n h b s
  | .qdiv n h b => Sys2Proof.Machine.execQdiv n h b s
  | .fdiv n h b => Sys2Proof.Machine.execFdiv n h b s
  | .fsqrt n h b => Sys2Proof.Machine.execFsqrt n h b s
  | .cvt n h b => Sys2Proof.Machine.execCvt n h b s
  | .rsat n h b => Sys2Proof.Machine.execRsat n h b s
  | .cls n h b => Sys2Proof.Machine.execCls n h b s
  | .popc n h b => Sys2Proof.Machine.execPopc n h b s
  | .extu n h b => Sys2Proof.Machine.execExtu n h b s
  | .exts n h b => Sys2Proof.Machine.execExts n h b s
  | .ins n h b => Sys2Proof.Machine.execIns n h b s
  | .brev n h b => Sys2Proof.Machine.execBrev n h b s
  | .timeTick => Sys2Proof.Machine.execTimeTick s
  | .distanceTick => Sys2Proof.Machine.execDistanceTick s
  | .minSpacingEnd => Sys2Proof.Machine.execMinSpacingEnd s
  | .tickLoss => Sys2Proof.Machine.execTickLoss s
  | .tickArrival => Sys2Proof.Machine.execTickArrival s
  | .actionNop => Sys2Proof.Machine.execActionNop s
  | .clusterStart => Sys2Proof.Machine.execClusterStart s
  | .clusterDeadline => Sys2Proof.Machine.execClusterDeadline s
  | .vectorBlock => Sys2Proof.Machine.execVectorBlock s
  | .dmaStart => Sys2Proof.Machine.execDmaStart s
  | .queueFreeze => Sys2Proof.Machine.execQueueFreeze s
  | .frameEmit => Sys2Proof.Machine.execFrameEmit s
  | .probeStep => Sys2Proof.Machine.execProbeStep s
  | .mapSwap => Sys2Proof.Machine.execMapSwap s
  | .paramCommit => Sys2Proof.Machine.execParamCommit s
  | .wake => Sys2Proof.Machine.execWake s
  | .sleep => Sys2Proof.Machine.execSleep s
  | .event => Sys2Proof.Machine.execEvent s
  | .barrier => Sys2Proof.Machine.execBarrier s
  | .ownership => Sys2Proof.Machine.execOwnership s
  | .switchPoint => Sys2Proof.Machine.execSwitchPoint s
  | .barrierRelease => Sys2Proof.Machine.execBarrierRelease s
  | .barrierMiss => Sys2Proof.Machine.execBarrierMiss s
  | .unitFaultReport => Sys2Proof.Machine.execUnitFaultReport s
  | .timetableLoadDone => Sys2Proof.Machine.execTimetableLoadDone s
  | .calliopeRearm => Sys2Proof.Machine.execCalliopeRearm s
  | .receiveFrame p f => Sys2Proof.Machine.execReceiveFrame p f s
  | .syncHoldoverTimeout => Sys2Proof.Machine.execSyncHoldoverTimeout s
  | .ptpSyncTransmit p => Sys2Proof.Machine.execPtpSyncTransmit p s
  | .classifierLookup p => Sys2Proof.Machine.execClassifierLookup p s
  | .sampleCommit => Sys2Proof.Machine.execSampleCommit s
  | .clsInsert => Sys2Proof.Machine.execClsInsert s
  | .clsDelete => Sys2Proof.Machine.execClsDelete s
  | .clsFind => Sys2Proof.Machine.execClsFind s
  | .qdRead => Sys2Proof.Machine.execQdRead s
  | .qdWrite => Sys2Proof.Machine.execQdWrite s
  | .queueThaw => Sys2Proof.Machine.execQueueThaw s
  | .thawDone => Sys2Proof.Machine.execThawDone s
  | .frameEmitArrival p => Sys2Proof.Machine.execFrameEmitArrival p s
  | .streamAssembly p => Sys2Proof.Machine.execStreamAssembly p s
  | .frameTransmit p => Sys2Proof.Machine.execFrameTransmit p s
  | .keeperTimerExpiry p st => Sys2Proof.Machine.execKeeperTimerExpiry p st s
  | .kprime p st => Sys2Proof.Machine.execKprime p st s
  | .streamValidClear p st => Sys2Proof.Machine.execStreamValidClear p st s
  | .nodeEntryWrite n w => Sys2Proof.Machine.execNodeEntryWrite n w s
  | .eventWindowClose c b => Sys2Proof.Machine.execEventWindowClose c b s
  | .ack c b => Sys2Proof.Machine.execAck c b s
  | .linkChange p up => Sys2Proof.Machine.execLinkChange p up s
  | .linkDownReport p => Sys2Proof.Machine.execLinkDownReport p s
  | .channelValidWrite c w => Sys2Proof.Machine.execChannelValidWrite c w s
  | .pstepWrite hi w => Sys2Proof.Machine.execPstepWrite hi w s
  | .guardForce => Sys2Proof.Machine.execGuardForce s
  | .swapNow => Sys2Proof.Machine.execSwapNow s
  | .revert => Sys2Proof.Machine.execRevert s
  | .rmNop n => Sys2Proof.Machine.execRmNop n s
  | .dup n => Sys2Proof.Machine.execDup n s
  | .drop n => Sys2Proof.Machine.execDrop n s
  | .swap n => Sys2Proof.Machine.execSwap n s
  | .rmOver n => Sys2Proof.Machine.execOver n s
  | .rot n => Sys2Proof.Machine.execRot n s
  | .nip n => Sys2Proof.Machine.execNip n s
  | .pick n => Sys2Proof.Machine.execPick n s
  | .tor n => Sys2Proof.Machine.execTor n s
  | .fromr n => Sys2Proof.Machine.execFromr n s
  | .rfetch n => Sys2Proof.Machine.execRfetch n s
  | .rmAdd n => Sys2Proof.Machine.execRmAdd n s
  | .rmSub n => Sys2Proof.Machine.execRmSub n s
  | .rmAnd n => Sys2Proof.Machine.execRmAnd n s
  | .rmOr n => Sys2Proof.Machine.execRmOr n s
  | .rmXor n => Sys2Proof.Machine.execRmXor n s
  | .rmNot n => Sys2Proof.Machine.execRmNot n s
  | .rmNeg n => Sys2Proof.Machine.execRmNeg n s
  | .rmShl n => Sys2Proof.Machine.execRmShl n s
  | .rmShra n => Sys2Proof.Machine.execRmShra n s
  | .rmShrl n => Sys2Proof.Machine.execRmShrl n s
  | .eq n => Sys2Proof.Machine.execEq n s
  | .lt n => Sys2Proof.Machine.execLt n s
  | .ltu n => Sys2Proof.Machine.execLtu n s
  | .eqz n => Sys2Proof.Machine.execEqz n s
  | .rmMul n => Sys2Proof.Machine.execRmMul n s
  | .rmMuld n => Sys2Proof.Machine.execRmMuld n s
  | .rmDiv n => Sys2Proof.Machine.execRmDiv n s
  | .rmDivr n => Sys2Proof.Machine.execRmDivr n s
  | .rmLd n => Sys2Proof.Machine.execRmLd n s
  | .rmSt n => Sys2Proof.Machine.execRmSt n s
  | .rmLdh0 n => Sys2Proof.Machine.execRmLdh0 n s
  | .rmLdh1 n => Sys2Proof.Machine.execRmLdh1 n s
  | .rmSth0 n => Sys2Proof.Machine.execRmSth0 n s
  | .rmSth1 n => Sys2Proof.Machine.execRmSth1 n s
  | .rmLdd n => Sys2Proof.Machine.execRmLdd n s
  | .rmStd n => Sys2Proof.Machine.execRmStd n s
  | .xadd n => Sys2Proof.Machine.execXadd n s
  | .xswap n => Sys2Proof.Machine.execXswap n s
  | .fence n => Sys2Proof.Machine.execFence n s
  | .ret n => Sys2Proof.Machine.execRet n s
  | .jmps n => Sys2Proof.Machine.execJmps n s
  | .calls n => Sys2Proof.Machine.execCalls n s
  | .retg n => Sys2Proof.Machine.execRetg n s
  | .retx n => Sys2Proof.Machine.execRetx n s
  | .wait n => Sys2Proof.Machine.execWait n s
  | .ei n => Sys2Proof.Machine.execEi n s
  | .di n => Sys2Proof.Machine.execDi n s
  | .srd n => Sys2Proof.Machine.execSrd n s
  | .swr n => Sys2Proof.Machine.execSwr n s
  | .trap n => Sys2Proof.Machine.execTrap n s
  | .vissue n => Sys2Proof.Machine.execVissue n s
  | .vresume n => Sys2Proof.Machine.execVresume n s
  | .lit n fld => Sys2Proof.Machine.execLit n fld s
  | .litw n fld lit => Sys2Proof.Machine.execLitw n fld lit s
  | .rmBr n fld => Sys2Proof.Machine.execRmBr n fld s
  | .bz n fld => Sys2Proof.Machine.execBz n fld s
  | .bnz n fld => Sys2Proof.Machine.execBnz n fld s
  | .call n fld => Sys2Proof.Machine.execCall n fld s
  | .gate n fld => Sys2Proof.Machine.execGate n fld s
  | .vectorIssueReply n => Sys2Proof.Machine.execVectorIssueReply n s
  | .remoteAccessReply n => Sys2Proof.Machine.execRemoteAccessReply n s
  | .storeBufferDrain n => Sys2Proof.Machine.execStoreBufferDrain n s
  | .postedErr n => Sys2Proof.Machine.execPostedErr n s
  | .exceptionEntry n => Sys2Proof.Machine.execExceptionEntry n s
  | .waitWake n => Sys2Proof.Machine.execWaitWake n s
  | .watchdogWarning n => Sys2Proof.Machine.execWatchdogWarning n s
  | .watchdogExpiry n => Sys2Proof.Machine.execWatchdogExpiry n s
  | .wdKick n => Sys2Proof.Machine.execWdKick n s
  | .restart n => Sys2Proof.Machine.execRestart n s
  | .sourceRaise src => Sys2Proof.Machine.execSourceRaise src s
  | .set src => Sys2Proof.Machine.execSet src s
  | .clear src => Sys2Proof.Machine.execClear src s
  | .claim n => Sys2Proof.Machine.execClaim n s
  | .eoi n v => Sys2Proof.Machine.execEoi n v s
  | .holdoffExpiry g => Sys2Proof.Machine.execHoldoffExpiry g s
  | .coreWakeDone n => Sys2Proof.Machine.execCoreWakeDone n s
  | .midwayTransaction t => Sys2Proof.Machine.execMidwayTransaction t s
  | .turnstileGrant port => Sys2Proof.Machine.execTurnstileGrant port s
  | .qosAging m id => Sys2Proof.Machine.execQosAging m id s
  | .transactionResponse m id => Sys2Proof.Machine.execTransactionResponse m id s
  | .transactionTimeout m id => Sys2Proof.Machine.execTransactionTimeout m id s
  | .lateResponse m id => Sys2Proof.Machine.execLateResponse m id s
  | .dmaChannelStart c => Sys2Proof.Machine.execDmaChannelStart c s
  | .abort c => Sys2Proof.Machine.execAbort c s
  | .dmaReadBeat p => Sys2Proof.Machine.execDmaReadBeat p s
  | .dmaIndexRead c => Sys2Proof.Machine.execDmaIndexRead c s
  | .dmaWriteBeat p => Sys2Proof.Machine.execDmaWriteBeat p s
  | .dmaSyncAck c => Sys2Proof.Machine.execDmaSyncAck c s
  | .bribyTrainingDone l => Sys2Proof.Machine.execBribyTrainingDone l s
  | .bribyLinkLoss l => Sys2Proof.Machine.execBribyLinkLoss l s
  | .bribyLinkDownReport l => Sys2Proof.Machine.execBribyLinkDownReport l s
  | .gapBlock l stamp echo quarter c2 c3 => Sys2Proof.Machine.execGapBlock l stamp echo quarter c2 c3 s
  | .calibrationWindowEnd l => Sys2Proof.Machine.execCalibrationWindowEnd l s
  | .helloTransmit l => Sys2Proof.Machine.execHelloTransmit l s
  | .hello l p => Sys2Proof.Machine.execHello l p s
  | .readPacket l p => Sys2Proof.Machine.execReadPacket l p s
  | .writePacket l p => Sys2Proof.Machine.execWritePacket l p s
  | .writeMaskedPacket l p => Sys2Proof.Machine.execWriteMaskedPacket l p s
  | .atomicPacket l p => Sys2Proof.Machine.execAtomicPacket l p s
  | .syncPacket l p => Sys2Proof.Machine.execSyncPacket l p s
  | .readResp l p => Sys2Proof.Machine.execReadResp l p s
  | .writeAck l p => Sys2Proof.Machine.execWriteAck l p s
  | .timeTransmit => Sys2Proof.Machine.execTimeTransmit s
  | .timePacket l p => Sys2Proof.Machine.execTimePacket l p s
  | .tickMark l p => Sys2Proof.Machine.execTickMark l p s
  | .markedTickRaise => Sys2Proof.Machine.execMarkedTickRaise s
  | .masterLost => Sys2Proof.Machine.execMasterLost s
  | .holdoverGridTick => Sys2Proof.Machine.execHoldoverGridTick s
  | .holdoverExpiry => Sys2Proof.Machine.execHoldoverExpiry s
  | .digest l p => Sys2Proof.Machine.execDigest l p s
  | .takeover => Sys2Proof.Machine.execTakeover s
  | .takeoverPacket l p => Sys2Proof.Machine.execTakeoverPacket l p s
  | .eventPacket l p => Sys2Proof.Machine.execEventPacket l p s
  | .commandPacket l p => Sys2Proof.Machine.execCommandPacket l p s
  | .replyPacket l p => Sys2Proof.Machine.execReplyPacket l p s
  | .fwdTimeout tag => Sys2Proof.Machine.execFwdTimeout tag s
  | .bar0Read off wide => Sys2Proof.Machine.execBar0Read off wide s
  | .bar0Write off wide lo hi => Sys2Proof.Machine.execBar0Write off wide lo hi s
  | .bar0Timeout off write => Sys2Proof.Machine.execBar0Timeout off write s
  | .hostCompletion m id st data => Sys2Proof.Machine.execHostCompletion m id st data s
  | .hostCompletionTimeout m id => Sys2Proof.Machine.execHostCompletionTimeout m id s
  | .msixSend v => Sys2Proof.Machine.execMsixSend v s
  | .msixUnmask v => Sys2Proof.Machine.execMsixUnmask v s
  | .crProd r v => Sys2Proof.Machine.execCrProd r v s
  | .commandEntryFetch r ws => Sys2Proof.Machine.execCommandEntryFetch r ws s
  | .replyWrite r => Sys2Proof.Machine.execReplyWrite r s
  | .rrCons r v => Sys2Proof.Machine.execRrCons r v s
  | .ringEn r en => Sys2Proof.Machine.execRingEn r en s
  | .uartPacket ws => Sys2Proof.Machine.execUartPacket ws s
  | .getIdentity c => Sys2Proof.Machine.execGetIdentity c s
  | .getStatus c => Sys2Proof.Machine.execGetStatus c s
  | .echo c => Sys2Proof.Machine.execEcho c s
  | .timeSet c => Sys2Proof.Machine.execTimeSet c s
  | .setMode c => Sys2Proof.Machine.execSetMode c s
  | .imageBegin c => Sys2Proof.Machine.execImageBegin c s
  | .imageChunk c data => Sys2Proof.Machine.execImageChunk c data s
  | .imageCommit c => Sys2Proof.Machine.execImageCommit c s
  | .imageAbort c => Sys2Proof.Machine.execImageAbort c s
  | .bootSelect c => Sys2Proof.Machine.execBootSelect c s
  | .ttArm c => Sys2Proof.Machine.execTtArm c s
  | .ttSwitch c => Sys2Proof.Machine.execTtSwitch c s
  | .ttLoss c => Sys2Proof.Machine.execTtLoss c s
  | .readWords c => Sys2Proof.Machine.execReadWords c s
  | .writeWords c => Sys2Proof.Machine.execWriteWords c s
  | .readBlock c => Sys2Proof.Machine.execReadBlock c s
  | .writeBlock c => Sys2Proof.Machine.execWriteBlock c s
  | .blockTransferDone st data => Sys2Proof.Machine.execBlockTransferDone st data s
  | .atomic c => Sys2Proof.Machine.execAtomic c s
  | .paramBegin c => Sys2Proof.Machine.execParamBegin c s
  | .paramAdd c => Sys2Proof.Machine.execParamAdd c s
  | .paramSeal c => Sys2Proof.Machine.execParamSeal c s
  | .paramDiscard c => Sys2Proof.Machine.execParamDiscard c s
  | .paramStatus c => Sys2Proof.Machine.execParamStatus c s
  | .queueSet c => Sys2Proof.Machine.execQueueSet c s
  | .queueGet c => Sys2Proof.Machine.execQueueGet c s
  | .clsOp c => Sys2Proof.Machine.execClsOp c s
  | .nodeSet c => Sys2Proof.Machine.execNodeSet c s
  | .probeSet c => Sys2Proof.Machine.execProbeSet c s
  | .probeCtrl c => Sys2Proof.Machine.execProbeCtrl c s
  | .mapCtrl c => Sys2Proof.Machine.execMapCtrl c s
  | .cascStatus c => Sys2Proof.Machine.execCascStatus c s
  | .shadowSet c => Sys2Proof.Machine.execShadowSet c s
  | .shadowTake c => Sys2Proof.Machine.execShadowTake c s
  | .powerCap c => Sys2Proof.Machine.execPowerCap c s
  | .powerStatus c => Sys2Proof.Machine.execPowerStatus c s
  | .troubleRead c => Sys2Proof.Machine.execTroubleRead c s
  | .troubleClear c => Sys2Proof.Machine.execTroubleClear c s
  | .reset c => Sys2Proof.Machine.execReset c s
  | .clearStartFails c => Sys2Proof.Machine.execClearStartFails c s
  | .selfTest c => Sys2Proof.Machine.execSelfTest c s
  | .repairStatus c => Sys2Proof.Machine.execRepairStatus c s
  | .keyProgram c => Sys2Proof.Machine.execKeyProgram c s
  | .keyRevoke c => Sys2Proof.Machine.execKeyRevoke c s
  | .startOk => Sys2Proof.Machine.execStartOk s
  | .startTimeout => Sys2Proof.Machine.execStartTimeout s
  | .powerOn => Sys2Proof.Machine.execPowerOn s
  | .ncoldPinLow => Sys2Proof.Machine.execNcoldPinLow s
  | .nwarmPinLow => Sys2Proof.Machine.execNwarmPinLow s
  | .perstAsserted => Sys2Proof.Machine.execPerstAsserted s
  | .warmReq => Sys2Proof.Machine.execWarmReq s
  | .coldReq => Sys2Proof.Machine.execColdReq s
  | .warmReset => Sys2Proof.Machine.execWarmReset s
  | .warmQuiesceDone => Sys2Proof.Machine.execWarmQuiesceDone s
  | .coldRelease fuseBad trimBad => Sys2Proof.Machine.execColdRelease fuseBad trimBad s
  | .clockLock isl => Sys2Proof.Machine.execClockLock isl s
  | .monitorBoot => Sys2Proof.Machine.execMonitorBoot s
  | .islOn w => Sys2Proof.Machine.execIslOn w s
  | .forceRel => Sys2Proof.Machine.execForceRel s
  | .islandLockLoss isl => Sys2Proof.Machine.execIslandLockLoss isl s
  | .referenceLoss => Sys2Proof.Machine.execReferenceLoss s
  | .referenceRestored => Sys2Proof.Machine.execReferenceRestored s
  | .lowSupplySet mv => Sys2Proof.Machine.execLowSupplySet mv s
  | .lowSupplyClear mv => Sys2Proof.Machine.execLowSupplyClear mv s
  | .powerWindowEnd mw => Sys2Proof.Machine.execPowerWindowEnd mw s
  | .coreOff w => Sys2Proof.Machine.execCoreOff w s
  | .brownOut => Sys2Proof.Machine.execBrownOut s
  | .brownOutRecovery => Sys2Proof.Machine.execBrownOutRecovery s
  | .inputLoss mv => Sys2Proof.Machine.execInputLoss mv s
  | .inputRestored mv => Sys2Proof.Machine.execInputRestored mv s
  | .holdupEnd byPin => Sys2Proof.Machine.execHoldupEnd byPin s
  | .aonPowerRemoval => Sys2Proof.Machine.execAonPowerRemoval s
  | .tjMeasurement t => Sys2Proof.Machine.execTjMeasurement t s
  | .clearFaults => Sys2Proof.Machine.execClearFaults s
  | .capability => Sys2Proof.Machine.execCapability s
  | .statusByte => Sys2Proof.Machine.execStatusByte s
  | .statusWord => Sys2Proof.Machine.execStatusWord s
  | .statusInput => Sys2Proof.Machine.execStatusInput s
  | .statusTemperature => Sys2Proof.Machine.execStatusTemperature s
  | .readVin => Sys2Proof.Machine.execReadVin s
  | .readIin => Sys2Proof.Machine.execReadIin s
  | .readTemperature1 => Sys2Proof.Machine.execReadTemperature1 s
  | .readTemperature2 => Sys2Proof.Machine.execReadTemperature2 s
  | .readPin => Sys2Proof.Machine.execReadPin s
  | .pmbusRevision => Sys2Proof.Machine.execPmbusRevision s
  | .mfrId => Sys2Proof.Machine.execMfrId s
  | .mfrModel => Sys2Proof.Machine.execMfrModel s
  | .mfrRevision => Sys2Proof.Machine.execMfrRevision s
  | .pmbusUnsupported code write => Sys2Proof.Machine.execPmbusUnsupported code write s
  | .troubleNotice => Sys2Proof.Machine.execTroubleNotice s
  | .trbSwset w => Sys2Proof.Machine.execTrbSwset w s
  | .logEntryWrite => Sys2Proof.Machine.execLogEntryWrite s
  | .gpioSet w => Sys2Proof.Machine.execGpioSet w s
  | .gpioClr w => Sys2Proof.Machine.execGpioClr w s
  | .gpioEdge n up => Sys2Proof.Machine.execGpioEdge n up s
  | .encoderEdge e a b => Sys2Proof.Machine.execEncoderEdge e a b s
  | .encCountWrite e w => Sys2Proof.Machine.execEncCountWrite e w s
  | .encOpenDetect e => Sys2Proof.Machine.execEncOpenDetect e s
  | .ppsOutPulse => Sys2Proof.Machine.execPpsOutPulse s
  | .captureEdge tick => Sys2Proof.Machine.execCaptureEdge tick s
  | .captureSecondsRead tick => Sys2Proof.Machine.execCaptureSecondsRead tick s
  | .captureNsRead tick => Sys2Proof.Machine.execCaptureNsRead tick s
  | .resetPinRelease pin => Sys2Proof.Machine.execResetPinRelease pin s
  | .inputSupplyLoss => Sys2Proof.Machine.execInputSupplyLoss s
  | .pcieLinkChange up => Sys2Proof.Machine.execPcieLinkChange up s
  | .busMasterEnableChange up => Sys2Proof.Machine.execBusMasterEnableChange up s
  | .bribyPacketDrop l => Sys2Proof.Machine.execBribyPacketDrop l s

end Sys2Proof.Machine
end

