-- ==== Sys2Proof/Machine/Idle.lean ====
section
/-! DEFINITION. What the module does in an AON cycle without a command: time passes, and the running clusters and cores issue (log entry 4). -/

namespace Sys2Proof.Machine

/-- A running cluster in a released island issues its bundles of 16 CLU cycles, 20 ns (R8, R132). -/
def idleCluster (s : State) (n : Nat) : State :=
  (List.range 16).foldl (fun s _ =>
    if isUp s (iCLU n) ∧ s.forced.getLsbD (iCLU n) = false ∧ runState s n = rsRUNNING then clStep s n else s) s
/-- A running core in a released island goes through its 12 RMC cycles (R8, R262). -/
def idleCore (s : State) (n : Nat) : State :=
  (List.range 12).foldl (fun s _ => if isUp s iRMC ∧ s.forced.getLsbD iRMC = false then rmCycle s n else s) s
/-- One AON cycle, 20 ns. -/
def idleCycle (s : State) : State :=
  keep s ((coreIds s).foldl idleCore <| (List.range s.cfg.part.clusters).foldl idleCluster (if s.aonOn then elapse s 20 else { s with now := s.now + 20 }))

end Sys2Proof.Machine
end

