-- ==== Sys2Proof/Safety.lean ====
section
/-! DEFINITION. What counts as a safe run: no step stops. -/

namespace Sys2Proof.Machine

/-- Island `i` is released, clocked and not forced: a command in it has the effect its rule gives. -/
def State.live (s : State) (i : Nat) : Prop := isUp s i = true ∧ s.forced.getLsbD i = false
/-- Pipe `p` is present, ON, IDLE, with nothing queued, running, waiting or held, and no pipe runs an instruction (R92, R101, R104). -/
def State.pipeReady (s : State) (p : Nat) : Prop :=
  p < s.cfg.part.pipes ∧ s.pipes.length = s.cfg.part.pipes ∧ (∀ q, (pipe s q).run = none) ∧ pipe s p = pipeZero ∧
    rf s (R.vpUNIT_STATE p) = usON ∧ rf s (R.vpPOWER p) = pIDLE ∧ rb s (R.vpCAL_HELD p) = false ∧ rb s (R.vpRM_HELD p) = false
/-- Cluster `n` is present in a live island and runs; nothing of it is in flight, no loop level is open, no bundle is begun, no window
access is to be retried, and no word has a memory error. -/
def State.clReady (s : State) (n : Nat) : Prop :=
  s.live (iCLU n) ∧ n < s.cfg.part.clusters ∧ s.clusters.length = s.cfg.part.clusters ∧ runState s n = rsRUNNING ∧ s.ecc = [] ∧
    (cl s n).fly = [] ∧ (cl s n).stores = [] ∧ (cl s n).levels = [] ∧ (cl s n).due = none ∧ (cl s n).bun = [] ∧ (cl s n).retry = [] ∧
    (cl s n).divFree ≤ (cl s n).cyc
/-- Command `i` gives cluster n the operation word `w`: in a cluster that does not run nothing happens; with END, as an eighth word, or where
UNIT does not ascend, the bundle that has waited issues with it; otherwise it waits with the words before it (R134). -/
def State.issues (s : State) (n : Nat) (i : Instr) (w : Word) : Prop :=
  let b := (cl s n).bun
  let whole : Prop := opEnd w = true ∨ b.length = 7 ∨ ∃ v, b.getLast? = some v ∧ opUnit w ≤ opUnit v
  (runState s n ≠ rsRUNNING → exec i s = .next s) ∧
    (runState s n = rsRUNNING → whole → exec i s = .next (keep s (clBundle s n (b ++ [w])))) ∧
    (runState s n = rsRUNNING → ¬whole → ∃ t, exec i s = .next t ∧ (cl t n).bun = b ++ [w] ∧ t.mem = s.mem)
/-- `t` is `s` after cluster `n` has issued a bundle of one operation: results `fly` and stores `st` are in flight, the next bundle is the
next word's in the next cycle, and no word but the one of PC has changed. -/
def State.oneOp (s t : State) (n : Nat) (fly : List ClFly) (st : List ClStore) : Prop :=
  (cl t n).fly = fly ∧ (cl t n).stores = st ∧ (cl t n).cyc = (cl s n).cyc + 1 ∧ rf t (R.scPC n) = (rf s (R.scPC n) + 1) % 2 ^ 16 ∧
    runState t n = rsRUNNING ∧ ∀ a, a ≠ (R.scPC n).addr → rd t a = rd s a
/-- Action i of the active timetable t, of type `ty`, in frame f, may be dispatched now; it is not late, no report is on its way to Calliope
and no reset waits (R184). -/
def State.actReady (s : State) (t : TT) (f i ty : Nat) : Prop :=
  s.live iMWY ∧ nextAct s = some (t, f, i) ∧ actType t i = ty ∧ s.cal.lates = [] ∧ s.calIn = [] ∧ s.rstReq = []
/-- `s` with action i of frame f dispatched and no effect of it yet. -/
def State.took (s : State) (f i : Nat) : State := modCal s fun c => { c with df := f, ix := i + 1 }
/-- No tick of the module's own source goes down to other modules as a marker (R341). -/
def State.marksNot (s : State) : Prop := isMaster s = false ∨ rb s R.casMARK_EN = false ∨ isUp s iCAS = false
/-- Beyond the words at `as`, `t` has every word of `s`. -/
def State.sameBut (s t : State) (as : List Nat) : Prop := ∀ a, a ∉ as → rd t a = rd s a
/-- Core n runs at a level up to `lim`, it awaits nothing, the word of its next operation has been fetched, and no reset waits. -/
def State.rmReady (s : State) (n lim : Nat) : Prop :=
  s.live iRMC ∧ rmRuns s n = true ∧ (kvFind (core s n).words (core s n).pc).isSome = true ∧ rmLvl s n ≤ lim ∧ s.rstReq = [] ∧ s.cores.length = s.cfg.part.cores
/-- `t` is `s` after core n has executed an operation in line: it holds data entries `ds`, return entries `rs` and stores `sb`, and beyond the
held counts and the words at `as` nothing in memory has changed. -/
def State.rmNext (s t : State) (n : Nat) (ds rs : List Word) (sb : List SbEnt) (as : List Nat) : Prop :=
  (core t n).ds = ds ∧ (core t n).rs = rs ∧ (core t n).sb = sb ∧
    (core t n).slot = (if (core s n).slot < 3 then (core s n).slot + 1 else 0) ∧
    (core t n).pc = (if (core s n).slot < 3 then (core s n).pc else ((core s n).pc + 1) % 2 ^ 36) ∧
    s.sameBut t ((R.rmDCNT n).addr :: as)
/-- `t` is `s` after core n has executed an operation that goes on at `pc`. -/
def State.rmWent (s t : State) (n : Nat) (ds rs : List Word) (pc : Nat) : Prop :=
  (core t n).ds = ds ∧ (core t n).rs = rs ∧ (core t n).pc = pc ∧ (core t n).slot = 0 ∧ s.sameBut t [(R.rmDCNT n).addr]
/-- Link l is UP, not marked as a duplicate number's, and a packet `p` of type `pt` on it is received; no reset waits (R331, R332, R335). -/
def State.briReady (s : State) (l : Nat) (p : BPkt) (pt : Nat) : Prop :=
  s.live iCAS ∧ l < s.cfg.part.links ∧ s.cas.links.length = s.cfg.part.links ∧ rf s (R.casLSTATE l) = 2 ∧ (link s l).dup = false ∧
    p.ptype = pt ∧ s.rstReq = []
/-- A packet to module m leaves at once over link k: the link is UP and has a credit of each class. -/
def State.reaches (s : State) (m k : Nat) : Prop :=
  route s m = some k ∧ linkUp s k = true ∧ (link s k).dup = false ∧ 0 < (link s k).cred2 ∧ 0 < (link s k).cred3 ∧
    s.cas.links.length = s.cfg.part.links
/-- Stream Memory word `a` exists, is initialised, in a bank that is on, and nothing is pending or in error in the memory. -/
def State.smOpen (s : State) (a : Nat) : Prop :=
  s.live iVEC ∧ a < s.cfg.part.streamWords ∧ rb s R.smINIT_DONE = true ∧ (∀ b, b < s.cfg.part.banks → bankOff s b = false) ∧ s.sm.rmw = [] ∧ s.ecc = [] ∧
    s.sm.wait = [] ∧ rb s R.smLVT_PROT = false
/-- `t` is `s` after it has sent `p` over link k, as its blocks (R332); beyond the GAP blocks that return credits (R333) nothing else has
left on any link. -/
def State.sends (s t : State) (k : Nat) (p : BPkt) : Prop :=
  (link t k).sent = (link s k).sent ++ [p] ∧ (∃ g, (link t k).blocks = (link s k).blocks ++ pktBlocks s k p ++ g) ∧
    ∀ j, j ≠ k → link t j = { link s j with blocks := (link t j).blocks }
/-- Addresses of the cascade's registers that a change of routes writes (R336). -/
def routeRegs : List Nat :=
  R.casMASTER_ID.addr :: (List.range 4).map (fun l => (R.casIS_UP_LINK l).addr) ++ (List.range 32).map (fun m => (R.casROUTE m).addr)
/-- The path of the packets a command row executes here: its ring, or the UART for the buffer. -/
def cmdPath : CmdSrc → CmdPath
  | .ring r => .ring r
  | .mail => .uart
/-- Packet `ws`, for this module, is the one waiting to be executed; Monitor runs and the host interface is up, no broadcast or forward is
open, and no reset waits (R358, R361, R371). -/
def State.cmdHere (s : State) (c : CmdSrc) (ws : List HWord) : Prop :=
  s.live iHST ∧ monRuns s = true ∧ s.rstReq = [] ∧ s.hst.fwds = [] ∧ pw ws 2 < 63 ∧
    match c with
    | .ring r => r < s.hst.rings.length ∧ ring s r = ⟨some ws, false, []⟩
    | .mail => s.hst.mail = [⟨.uart, ws⟩]
/-- `ws` waits as `cmdHere`, has opcode `code`, and nothing in its header, its length or the mode refuses it (R361, Table HCI-4). -/
def State.cmdReady (s : State) (c : CmdSrc) (code : Nat) (ws : List HWord) : Prop :=
  s.cmdHere c ws ∧ pkOp ws = code ∧ pkFlags ws ≤ 3 ∧ pw ws 3 ≤ 60 ∧
    ∃ r, opRow code = some r ∧ r.lo ≤ pkLen ws ∧ pkLen ws ≤ r.hi ∧ (r.only = 8 ∨ r.only = mode s) ∧ (mode s = mRECOVERY → r.rcv = 1)
/-- `t` is `s` after the packet `ws` has been counted and answered with this status, detail and data (R361). -/
def State.answered (s t : State) (c : CmdSrc) (ws : List HWord) (st detail : Nat) (data : List HWord) : Prop :=
  rf t R.hstCMD_CNT = min (rf s R.hstCMD_CNT + 1) (2 ^ 36 - 1) ∧
    rf t R.hstERR_CNT = (if st = hsOK then rf s R.hstERR_CNT else min (rf s R.hstERR_CNT + 1) (2 ^ 36 - 1)) ∧
    match c with
    | .ring r => ring t r = ⟨some ws, true, [(mkReply s ws st detail data, true)]⟩
    | .mail => t.hst.mail = [] ∧ t.hst.uartOut = s.hst.uartOut ++ [mkReply s ws st detail data]
/-- The words a command row changes by being counted and answered. -/
def cmdRegs : List Nat := [R.hstCMD_CNT.addr, R.hstERR_CNT.addr]
/-- `i` is the command row of an opcode (Table HCI-4); IMAGE_CHUNK apart. -/
def cmdRow (c : CmdSrc) (i : Instr) (code : Nat) : Prop := (i, code) ∈
  ([(.getIdentity c, 0x01), (.getStatus c, 0x02), (.echo c, 0x03), (.timeSet c, 0x04), (.setMode c, 0x10), (.imageBegin c, 0x20),
   (.imageCommit c, 0x22), (.imageAbort c, 0x23), (.bootSelect c, 0x24), (.ttArm c, 0x30), (.ttSwitch c, 0x31), (.ttLoss c, 0x32),
   (.readWords c, 0x40), (.writeWords c, 0x41), (.readBlock c, 0x42), (.writeBlock c, 0x43), (.atomic c, 0x44), (.paramBegin c, 0x50),
   (.paramAdd c, 0x51), (.paramSeal c, 0x52), (.paramDiscard c, 0x53), (.paramStatus c, 0x54)] ++
  [(.queueSet c, 0x60), (.queueGet c, 0x61), (.clsOp c, 0x62), (.nodeSet c, 0x63), (.probeSet c, 0x70), (.probeCtrl c, 0x71),
   (.mapCtrl c, 0x72), (.cascStatus c, 0x80), (.shadowSet c, 0x81), (.shadowTake c, 0x82), (.powerCap c, 0x90), (.powerStatus c, 0x91),
   (.troubleRead c, 0xA0), (.troubleClear c, 0xA1), (.reset c, 0xB0), (.clearStartFails c, 0xB1), (.selfTest c, 0xB2),
   (.repairStatus c, 0xB3), (.keyProgram c, 0xC0), (.keyRevoke c, 0xC1)] : List (Instr × Nat))
/-- No store is in flight or held in the memories, the pipes or the clusters, and the causes of a reset are codes of Table MRP-4. -/
def State.quiet (s : State) : Prop :=
  s.sm.rmw = [] ∧ s.fld.hold = [] ∧ s.bm.comb = [] ∧ (∀ p, (pipe s p).longW = []) ∧ (∀ n, (cl s n).fly = [] ∧ (cl s n).stores = []) ∧
    s.pwr.code < 16 ∧ ∀ c ∈ s.pwr.merged, c < 16
/-- No island is in the undefined state of R391. -/
def State.defined (s : State) : Prop := s.forced = 0#23
/-- The next step goes on. -/
def State.goesOn (s : State) : Prop := ∃ t, step s = .next t
/-- A run of `k` steps goes on to its end. -/
def State.safe (s : State) (k : Nat) : Prop := ∃ t, Host.Core.run Sys2Proof.core k s = .next t

end Sys2Proof.Machine
end

