-- ==== Sys2Proof/Certificates/Slice0/Obligations.lean ====
section
/-! DEFINITION. The statements for the provers. `s.live i`: island i is released and not forced (R387, R391). -/


open Sys2Proof Sys2Proof.Machine

/-- Stream Memory's own commands: a completion writes the word the bank holds (R63), a write-back removes a corrected error (R64), a
grant serves the one waiting access of an idle bank, answers its transaction and moves the pointer past the winner (R54, R55, R56), the scrubber reads the next
row (R66), initialisation leaves zeros (R69), LVT_BASE is taken in CONFIGURE where every slot fits and else ignored (R70).
The model's choices in it: log entries 8, 14 and 16. -/
def Obligations.StreamMemoryCommands : Prop :=
  ∀ s : State, s.live iVEC →
    (∀ (b a : Nat) (w : Word), kvFind s.sm.rmw b = some (a, w) →
      ∃ t, exec (.rmwCompletion b) s = .next t ∧ rd t a = w ∧ kvFind t.sm.rmw b = none ∧ eccAt t a = none ∧
        (∀ x, x ≠ a → rd t x = rd s x) ∧ t.hst = s.hst ∧ t.clusters = s.clusters) ∧
    (∀ b a : Nat, s.sm.wback.find? (fun x => decide (smBank s x = b)) = some a →
      ∃ t, exec (.correctedWriteBack b) s = .next t ∧ eccAt t a = none ∧ a ∉ t.sm.wback ∧ t.mem = s.mem) ∧
    (∀ (b : Nat) (q : SmReq), kvFind s.sm.rmw b = none → s.sm.wait = [q] → q.port < 4 → smBank s q.addr = b → q.kind = .read →
      bankOff s b = false → eccAt s q.addr = none →
      ∃ t, exec (.sharedAccessGrant b) s = .next t ∧ t.sm.wait = [] ∧ t.sm.resp = [⟨q.txn, stOK, [rd s q.addr]⟩] ∧
        t.mw = (txnWord s q.txn q.idx stOK (rd s q.addr)).mw ∧ kvGet 0 t.sm.shPtr b = (4 + q.port + 1) % 8 ∧ t.mem = s.mem) ∧
    (∀ b : Nat, rb s R.smSCRUB_EN = true → b < s.cfg.part.banks → bankOff s b = false → kvFind s.sm.rmw b = none →
      smWaiting s b = [] → eccAt s (kvGet 0 s.sm.scrubRows b % 32768 * s.cfg.part.banks + b) = none →
      ∃ t, exec (.patrolScrub b) s = .next t ∧ kvGet 0 t.sm.scrubRows b = kvGet 0 s.sm.scrubRows b + 1 ∧
        (∀ x, x ≠ R.smSCRUB_PASSES.addr → rd t x = rd s x)) ∧
    (rb s R.smINIT_DONE = false →
      ∃ t, exec .streamInitDone s = .next t ∧ rb t R.smINIT_DONE = true ∧ (∀ a, a < s.cfg.part.streamWords → rd t a = 0#36) ∧
        (∀ a, a < s.cfg.part.streamWords → eccAt t a = none) ∧ islAt s iVEC + 32768 ≤ t.now) ∧
    (∀ w : Word, mode s = mCONFIGURE → bits w.toNat 22 8 * 256 + 2 * s.cfg.part.queues ≤ s.cfg.part.streamWords →
      ∃ t, exec (.lvtBaseWrite w) s = .next t ∧ lvtBase t = bits w.toNat 22 8 * 256 ∧
        (∀ x, x ≠ R.smLVT_BASE.addr → rd t x = rd s x)) ∧
    (∀ w : Word, mode s ≠ mCONFIGURE → exec (.lvtBaseWrite w) s = .next s) ∧
    (∀ w : Word, s.cfg.part.streamWords < bits w.toNat 22 8 * 256 + 2 * s.cfg.part.queues → exec (.lvtBaseWrite w) s = .next s)

/-- Writes into Bulk Memory (R74): a partial write opens an entry of the combining buffer with the words and the instant, an aligned
16-word write replaces the burst, drops its entry and its error, FLUSH reads 1 until every entry is written, and an entry that
times out is written into its burst.
Reads, refresh, scrubbing and start of Bulk Memory: a read of a burst without an error answers OK with the words, the buffer's
first (R74, R75); an uncorrectable one answers DATA_ERR, sets UE, counts and raises 228 (R76); a refresh comes no earlier than the
interval, halved while a device is hot (R75); the scrubber reads the burst of SCRUB_POS and moves it on (R77); training and the zero
fill end with TRAINED_FULL and INIT_DONE (R78). The model's choices in it: log entries 8, 14 and 36. -/
def Obligations.BulkMemoryCommands : Prop :=
  (∀ s : State, s.live iBLK →
    (∀ (a : Nat) (w : Word), isBulk s a = true → combFind s (burstOf a) = none → s.bm.comb.length < 32 →
      ∃ t, exec (.bulkPartialWrite a [w]) s = .next t ∧ t.bm.comb = s.bm.comb ++ [⟨burstOf a, [(a, w)], [], s.now⟩] ∧ t.mem = s.mem ∧
        bulkWord t a = w) ∧
    (∀ (a : Nat) (ws : List Word), isBulk s a = true → a % 16 = 0 → ws.length = 16 →
      ∃ t, exec (.bulkBurstWrite a ws) s = .next t ∧ (∀ i, i < 16 → rd t (a + i) = ws.getD i 0#36) ∧
        (∀ x, x < a ∨ a + 16 ≤ x → rd t x = rd s x) ∧ combFind t a = none ∧ eccAt t a = none) ∧
    (∃ t, exec .flush s = .next t ∧ rb t R.bmFLUSH = true ∧ t.bm = s.bm ∧ (∀ x, x ≠ R.bmFLUSH.addr → rd t x = rd s x)) ∧
    (rb s R.bmFLUSH = true → exec .flushDone s = .next (wb (bulkDrain s) R.bmFLUSH false)) ∧
    (∀ (e : CombEntry) (a : Nat) (w : Word), combFind s e.burst = some e → e.words = [(a, w)] → e.halves = [] → eccAt s e.burst = none →
      ∃ t, exec (.combineEntryTimeout e.burst) s = .next t ∧ rd t a = w ∧ (∀ x, x ≠ a → rd t x = rd s x) ∧
        combFind t e.burst = none ∧ e.born + 1280 ≤ t.now)) ∧
  (∀ s : State, s.live iBLK →
    (∀ a n tag : Nat, inBurst s a n = true → eccAt s (burstOf a) = none →
      exec (.bulkRead a n tag) s =
        .next { s with bm := { s.bm with resp := ⟨tag, stOK, (List.range n).map (fun i => bulkWord s (a + i))⟩ } }) ∧
    (∀ a n tag : Nat, inBurst s a n = true → eccAt s (burstOf a) = some .unc →
      ∃ t, exec (.bulkRead a n tag) s = .next t ∧ t.bm.resp = ⟨tag, stDATA, []⟩ ∧ rb t R.bmUE = true ∧
        t.raiseQ = s.raiseQ ++ [228] ∧ eccAt t (burstOf a) = some .unc) ∧
    (∀ ch : Nat, ch < s.cfg.part.channels →
      ∃ t, exec (.bulkRefresh ch) s = .next t ∧ t.now = max s.now (kvGet 0 s.bm.refresh ch + refreshNs s) ∧
        kvGet 0 t.bm.refresh ch = t.now ∧ t.mem = s.mem) ∧
    (∀ (d : Nat), s.bm.hot = [] → rb s R.bmHOT_REFRESH = false →
      (∃ t, exec (.dramTemperatureReport d true) s = .next t ∧ rb t R.bmHOT_REFRESH = true ∧ t.bm.hot = [d] ∧ refreshNs t = 1950 ∧
        t.noticeQ = s.noticeQ ++ [⟨64 * 6 + 5, 0, 0#36⟩]) ∧
      (∃ t, exec (.dramTemperatureReport d false) s = .next t ∧ rb t R.bmHOT_REFRESH = false ∧ refreshNs t = 3900 ∧
        t.noticeQ = s.noticeQ)) ∧
    (rb s R.bmSCRUB_EN = true → eccAt s (bulkBase + 16 * rf s R.bmSCRUB_POS) = none → rf s R.bmSCRUB_POS + 1 < bulkBursts s →
      exec .bulkScrubRead s = .next (wf s R.bmSCRUB_POS (rf s R.bmSCRUB_POS + 1))) ∧
    (∀ full : Bool, s.bm.trained = false →
      ∃ t, exec (.bulkTrainingDone full) s = .next t ∧ t.bm.trained = true ∧
        rb t R.bmTRAINED_FULL = (full || !s.hst.trainOk) ∧ t.hst.trainOk = true) ∧
    (s.bm.trained = true → rb s R.bmINIT_DONE = false →
      ∃ t, exec .bulkZeroFillDone s = .next t ∧ rb t R.bmINIT_DONE = true ∧ t.bm.comb = [] ∧
        (∀ a, isBulk s a = true → rd t a = 0#36)))

/-- Every vector instruction, in every form: it is offered to its pipe's queue as the three words of Table VEC-4, and the pipe runs as
far as it can (R88, R92; the run to the end is the model's, log entry 18). -/
def Obligations.VectorInstructionsAreIssued : Prop :=
  ∀ (s : State) (p : Nat) (o : VOrg) (f : VFields), s.live iVEC → p < s.cfg.part.pipes →
    ∀ e ∈ [(0x001, Instr.vmov p o f), (0x002, .vadd p o f), (0x003, .vsub p o f), (0x004, .vneg p o f), (0x005, .vabs p o f),
      (0x006, .vmin p o f), (0x007, .vmax p o f), (0x008, .vcpys p o f), (0x009, .vand p o f), (0x00A, .vor p o f),
      (0x00B, .vxor p o f), (0x00C, .vnot p o f), (0x00D, .vshl p o f), (0x00E, .vshra p o f), (0x00F, .vshrl p o f),
      (0x010, .vcmp p o f), (0x011, .vsel p o f), (0x012, .vclamp p o f), (0x013, .vlerp p o f), (0x014, .vidx p o f),
      (0x020, .vmul p o f), (0x021, .vmuld p o f), (0x022, .vfma p o f), (0x023, .vmacd p o f), (0x024, .vrnd p o f),
      (0x025, .vcvt p o f), (0x028, .vdiv p o f), (0x029, .vdivr p o f), (0x02A, .vsqrt p o f), (0x040, .vqget p o f),
      (0x030, .vrsum p o f), (0x031, .vrdot p o f), (0x032, .vrmin p o f), (0x033, .vrmax p o f), (0x041, .vband p o f),
      (0x042, .vxcor p o f), (0x043, .vbfly p o f), (0x000, .vnop p o f), (0x3F0, .vfence p o f)],
      exec e.2 s = .next (keep s (vSettle vLong
        (pipeIssue s p (viWords e.1 f).1 (viWords e.1 f).2.1 (viWords e.1 f).2.2 o none none).2 p))

/-- An element-wise instruction of one element whose sources are scalars or None and whose destination is a long register, legal and
issued to a ready pipe, leaves its lane's result in the register, ORs its flags into ARF, counts in DONE_CNT, and leaves the pipe
with nothing running; the element's value is what Table VIN-3 gives (R33, R34, R85, R116).
The model's choices in it: log entries 13 and 18. -/
def Obligations.VectorElementResult : Prop :=
  ∀ (s : State) (p r n : Nat) (o : VOrg) (f : VFields), s.live iVEC → s.pipeReady p → f.n = 1#24 → vOpd f.d.toNat = .long r n →
    ∀ e ∈ [(0x001, Instr.vmov p o f), (0x002, .vadd p o f), (0x003, .vsub p o f), (0x004, .vneg p o f), (0x005, .vabs p o f),
      (0x006, .vmin p o f), (0x007, .vmax p o f), (0x008, .vcpys p o f), (0x009, .vand p o f), (0x00A, .vor p o f),
      (0x00B, .vxor p o f), (0x00C, .vnot p o f), (0x00D, .vshl p o f), (0x00E, .vshra p o f), (0x00F, .vshrl p o f),
      (0x010, .vcmp p o f), (0x011, .vsel p o f), (0x012, .vclamp p o f), (0x013, .vlerp p o f), (0x014, .vidx p o f),
      (0x020, .vmul p o f), (0x021, .vmuld p o f), (0x022, .vfma p o f), (0x023, .vmacd p o f), (0x024, .vrnd p o f),
      (0x025, .vcvt p o f), (0x028, .vdiv p o f), (0x029, .vdivr p o f), (0x02A, .vsqrt p o f)],
      let w := viWords e.1 f
      let v := viDecode w.1 w.2.1 w.2.2
      let c := vCaps s p v
      vLegal s p w.1 w.2.1 w.2.2 = true → (∀ d x, c.a ≠ .str d x) → (∀ d x, c.b ≠ .str d x) → (∀ d x, c.c ≠ .str d x) →
      (∀ m k d, c.a ≠ .long m k d) → (∀ m k d, c.b ≠ .long m k d) → (∀ m k d, c.c ≠ .long m k d) → vChains c = [] →
      let dbl := (vDbl v.op v.typ v.mod 0).getD false
      let y := vLane v (viRm v (rf s (R.vpDRM p))) 0 (capScal c.a) (capScal c.b) (capScal c.c)
      ∃ t, exec e.2 s = .next t ∧ rd t (longAt p (128 * r)) = mkW y.1 ∧
        (dbl = true → rd t (longAt p (128 * r + 1)) = mkW (y.1 / 2 ^ 36)) ∧ (pipe t p).run = none ∧
        rf t (R.vpARF p) = rf s (R.vpARF p) ||| y.2.toNat ∧ rf t (R.vpDONE_CNT p) = min (rf s (R.vpDONE_CNT p) + 1) (2 ^ 36 - 1) ∧
        (∀ x, x < blkBase .vp p ∨ blkBase .vp p + 0x10000 ≤ x → rd t x = rd s x)

/-- One-element reductions and rows, the queue read and the butterfly, and the instructions without elements. VRSUM, VRDOT, VRMIN and
VRMAX of one scalar element leave what Table VIN-6 gives in the long register D (R124, R126); VBAND of one row of one unclipped term,
and VXCOR of one row of one sample, leave the row (R127, R128); VQGET of one slot leaves what R122 and R123 give; VBFLY of one pair
leaves both outputs (R130); VNOP and an instruction of no element change nothing but DONE_CNT (R89, R90), and so does VFENCE while
every pipe is empty (R98). The model's choices in it: log entries 13 and 18. -/
def Obligations.VectorReductionRowAndQueueResults : Prop :=
  ∀ (s : State) (p r n : Nat) (o : VOrg) (f : VFields), s.live iVEC → s.pipeReady p → vOpd f.d.toNat = .long r n →
    (∀ e ∈ [(0x030, Instr.vrsum p o f), (0x031, .vrdot p o f), (0x032, .vrmin p o f), (0x033, .vrmax p o f)],
      let w := viWords e.1 f
      let v := viDecode w.1 w.2.1 w.2.2
      let c := vCaps s p v
      f.n = 1#24 → vLegal s p w.1 w.2.1 w.2.2 = true → (∃ k, c.a = .scal k) → (c.b = .none ∨ ∃ k, c.b = .scal k) → c.c = .none →
      let g := redGroup v (viRm v (rf s (R.vpDRM p))) none [(0, capScal c.a, capScal c.b)]
      let y := redResult v ((vDbl v.op v.typ v.mod 0).getD false) (g.1.getD 0)
      ∃ t, exec e.2 s = .next t ∧ rd t (longAt p (128 * r)) = mkW y.1 ∧ (pipe t p).run = none ∧
        rf t (R.vpARF p) = rf s (R.vpARF p) ||| (g.2 ||| y.2).toNat ∧
        rf t (R.vpDONE_CNT p) = min (rf s (R.vpDONE_CNT p) + 1) (2 ^ 36 - 1)) ∧
    (let w := viWords 0x041 f
     let v := viDecode w.1 w.2.1 w.2.2
     let c := vCaps s p v
     ∀ (j k m l : Nat) (a b : Bool), f.n = 1#24 → v.mod = 1 → vLegal s p w.1 w.2.1 w.2.2 = true → c.a = .long j k a →
       c.b = .long m l b → 0 ≤ bandE (capScal c.c) 0 0 → bandE (capScal c.c) 0 0 < (bandCap c.b : Int) →
       let q := rowAcc v (viRm v (rf s (R.vpDRM p))) 0 (rdN s (longAt p (128 * j)))
         (rdN s (longAt p (128 * m + (bandE (capScal c.c) 0 0).toNat)))
       let y := rowResult v false q.1
       a = false → b = false →
       ∃ t, exec (.vband p o f) s = .next t ∧ rd t (longAt p (128 * r)) = mkW y.1 ∧ (pipe t p).run = none ∧
         rf t (R.vpARF p) = rf s (R.vpARF p) ||| (q.2 ||| y.2).toNat) ∧
    (let w := viWords 0x042 f
     let v := viDecode w.1 w.2.1 w.2.2
     let c := vCaps s p v
     ∀ (j k : Nat) (a : Bool) (d x : SDesc), f.n = 1#24 → v.mod % 128 = 0 → vLegal s p w.1 w.2.1 w.2.2 = true → c.a = .long j k a →
       c.b = .str d x → a = false → capScal c.c % 2 ^ 24 = 1 →
       let plus := chipPlus s (d.w3 % 2 ^ 12) ((pstep s : Int) + sext 36 d.w4)
       let q := rowChip v (viRm v (rf s (R.vpDRM p))) 0 (rdN s (longAt p (128 * j))) plus
       let y := rowResult v false q.1
       ∃ t, exec (.vxcor p o f) s = .next t ∧ rd t (longAt p (128 * r)) = mkW y.1 ∧ (pipe t p).run = none) ∧
    (let w := viWords 0x040 f
     let v := viDecode w.1 w.2.1 w.2.2
     let c := vCaps s p v
     ∀ (d x : SDesc) (y : Nat), f.n = 1#24 → vLegal s p w.1 w.2.1 w.2.2 = true → c.a = .str d x → d.idxq = false →
       d.len ≠ 0 → (c.b = .none ∨ ∃ k, c.b = .scal k) → d.base < s.cfg.part.queues → s.sm.rmw = [] → s.sm.wait = [] →
       vCheckAll s o false 1 [lvtBase s + 2 * d.base, lvtBase s + 2 * d.base + 1] = none →
       eccAt s (lvtBase s + 2 * d.base) = none → eccAt s (lvtBase s + 2 * d.base + 1) = none →
       vqget v.mod (d.w3 % 2 ^ 35) (tagOf (s.devTime - (22 + Config.freeNat s.free % 23))) (rdN s (lvtBase s + 2 * d.base))
         (rdN s (lvtBase s + 2 * d.base + 1)) (capScal c.b)
         (decide (rdN s (lvtBase s + 2 * d.base + 1) = 0) && !s.fld.tagZero.contains d.base) = some y →
       ∃ t, exec (.vqget p o f) s = .next t ∧ rd t (longAt p (128 * r)) = mkW y ∧ (pipe t p).run = none) ∧
    (∀ e ∈ [(0x002, Instr.vadd p o f), (0x030, .vrsum p o f), (0x041, .vband p o f)],
      f.n = 0#24 → vLegal s p (viWords e.1 f).1 (viWords e.1 f).2.1 (viWords e.1 f).2.2 = true →
      vChains (vCaps s p (viDecode (viWords e.1 f).1 (viWords e.1 f).2.1 (viWords e.1 f).2.2)) = [] →
      ∃ t, exec e.2 s = .next t ∧ (pipe t p).run = none ∧
        rf t (R.vpDONE_CNT p) = min (rf s (R.vpDONE_CNT p) + 1) (2 ^ 36 - 1) ∧ (∀ x, rd t (longAt p x) = rd s (longAt p x)) ∧
        rf t (R.vpARF p) = rf s (R.vpARF p))

/-- VNOP, VFENCE and VBFLY on a ready pipe: the first two change nothing but DONE_CNT when every pipe is empty (R90, R98), and a
butterfly of one pair over unit-stride streams leaves the top output at D and the bottom one 2^(LOGH + 1) words on (R130).
The model's choices in it: log entry 18. -/
def Obligations.VectorNopFenceAndButterfly : Prop :=
  ∀ (s : State) (p : Nat) (o : VOrg) (f : VFields), s.live iVEC → s.pipeReady p →
    (viWords 0 f = (0#36, 0#36, 0#36) → ∃ t, exec (.vnop p o f) s = .next t ∧ (pipe t p).run = none ∧
      rf t (R.vpDONE_CNT p) = min (rf s (R.vpDONE_CNT p) + 1) (2 ^ 36 - 1) ∧ (∀ x, rd t (longAt p x) = rd s (longAt p x))) ∧
    ((∀ q, (pipe s q).calQ = [] ∧ (pipe s q).rmQ = [] ∧ (pipe s q).blocks = []) →
      vLegal s p (viWords 0x3F0 f).1 (viWords 0x3F0 f).2.1 (viWords 0x3F0 f).2.2 = true →
      ∃ t, exec (.vfence p o f) s = .next t ∧ (pipe t p).run = none ∧
        rf t (R.vpDONE_CNT p) = min (rf s (R.vpDONE_CNT p) + 1) (2 ^ 36 - 1)) ∧
    (let w := viWords 0x043 f
     let v := viDecode w.1 w.2.1 w.2.2
     let c := vCaps s p v
     ∀ (dd dx da ax db bx : SDesc) (r n : Nat), f.n = 1#24 → vLegal s p w.1 w.2.1 w.2.2 = true →
       c.d = .str dd dx → c.a = .str da ax → c.b = .str db bx → c.c = .long r n true → dd.mode = 0 → da.mode = 0 → db.mode = 0 →
       dd.len ≠ 0 → da.len ≠ 0 → db.len ≠ 0 → s.sm.rmw = [] → s.sm.wait = [] → s.ecc = [] →
       let h := 2 ^ (v.mod % 32 + 1)
       let pa := elWords true da.base
       let pb := elWords true db.base
       let pd := elWords true dd.base ++ elWords true (dd.base + h)
       vCheckAll s o false 1 pa = none → vCheckAll s o false 2 pb = none → vCheckAll s o true 0 pd = none → pd.Nodup →
       let y := vFly v (viRm v (rf s (R.vpDRM p))) (wordsVal s pa) (wordsVal s pb) (wordsVal s (longEl p r true 0))
       ∃ t, exec (.vbfly p o f) s = .next t ∧ (pipe t p).run = none ∧
         wordsVal t (elWords true dd.base) = y.1.1 % 2 ^ 72 ∧ wordsVal t (elWords true (dd.base + h)) = y.1.2 % 2 ^ 72 ∧
         (∀ x, x < s.cfg.part.streamWords → x ∉ pd → rd t x = rd s x))

/-- An instruction that fails a check at issue never runs: the pipe's Progress Record becomes valid with cause ILLEGAL, element 0 and
the instruction's words, source 48 + p is raised, and the queue of its origin is held (R91, R99 to R101, R109).
The model's choices in it: log entry 18. -/
def Obligations.VectorIllegalIsRejected : Prop :=
  ∀ (s : State) (p act a : Nat) (f : VFields), s.live iVEC → s.pipeReady p →
    vLegal s p (viWords 0x002 f).1 (viWords 0x002 f).2.1 (viWords 0x002 f).2.2 = false →
    ∃ t, exec (.vadd p (.cal act a) f) s = .next t ∧ rb t (R.vpVALID p) = true ∧ bits (rdN t (R.vpPR0 p).addr) 33 28 = vcILLEGAL ∧
      bits (rdN t (R.vpPR0 p).addr) 23 0 = 0 ∧ rd t (blkBase .vp p + 0x12) = (viWords 0x002 f).1 ∧
      rd t (blkBase .vp p + 0x13) = (viWords 0x002 f).2.1 ∧ rd t (blkBase .vp p + 0x14) = (viWords 0x002 f).2.2 ∧
      (48 + p) ∈ t.raiseQ ∧ rb t (R.vpCAL_HELD p) = true ∧ (pipe t p).run = none ∧ t.calIn = s.calIn ++ [.pipeFault p]

/-- What a pipe does beside its instructions: a block's next instruction is fetched into the Calliope queue (R93); a VEC cycle passes:
a pipe with everything granted ends its cycle, one with a last shared access has it performed, and one whose bank holds a completion
stalls and is counted (R57, R63, R121); an instruction that waited for its partner too long faults with CHAIN_TIMEOUT (R87); RM_RELEASE frees the Ringmaster queue
(R101); an idle pipe starts its power-down, reaches RETAINED or GATED, and wakes to IDLE (R104, R105); a long register takes a write
(R108). The model's choices in it: log entries 8, 18 and 35. -/
def Obligations.VectorPipeUpkeep : Prop :=
  ∀ (s : State) (p : Nat), s.live iVEC → p < s.cfg.part.pipes → s.pipes.length = s.cfg.part.pipes →
    (∀ (b : VBlock), (pipe s p).blocks = [b] → b.fetched < b.len → (pipe s p).calQ = [] → s.sm.rmw = [] → s.sm.wait = [] → s.ecc = [] →
      vCheckAll s (.cal b.act (b.addr + 3 * b.fetched)) false 6
        [b.addr + 3 * b.fetched, b.addr + 3 * b.fetched + 1, b.addr + 3 * b.fetched + 2] = none →
      ∃ t e, exec (.blockFetch p) s = .next t ∧ (pipe t p).calQ = [e] ∧ e.w0 = rd s (b.addr + 3 * b.fetched) ∧
        e.w1 = rd s (b.addr + 3 * b.fetched + 1) ∧ e.w2 = rd s (b.addr + 3 * b.fetched + 2) ∧ e.bad = none ∧
        (pipe t p).blocks = [{ b with fetched := b.fetched + 1 }]) ∧
    (exec (.vectorGroupAdvance 0#4) s = .next (elapse s 1)) ∧
    (∀ (r : VRun), (pipe s p).run = some r → r.todo = some [] →
      exec (.vectorGroupAdvance (BitVec.ofNat 4 (2 ^ p))) s = .next (keep s (elapse (vDo s p) 1))) ∧
    (∀ (r : VRun) (q : VReq), (pipe s p).run = some r → r.todo = some [q] → q.own = false →
      let b := smBank s q.addr
      (kvFind s.sm.rmw b = none → smWaiting s b = [] →
        exec (.vectorGroupAdvance (BitVec.ofNat 4 (2 ^ p))) s = .next (keep s (elapse (vDo (vPerform (smTurn s b p) p q) p) 1))) ∧
      ((kvFind s.sm.rmw b).isSome = true →
        exec (.vectorGroupAdvance (BitVec.ofNat 4 (2 ^ p))) s =
          .next (keep s (elapse (cnt (smComplete s b) (R.vpSHARED_STALL_CNT p)) 1)))) ∧
    (∀ (r : VRun) (i : Nat), ((pipe s p).run.bind fun r => r.waitSince) = some i → (pipe (vPrep s p) p).run = some r →
      r.waitSince.isSome = true → r.outs = [] → (∃ a x, r.ent.org = .cal a x) →
      ∃ t, exec (.chainTimeout p) s = .next t ∧ (pipe t p).run = none ∧ bit (rdN t (R.vpPR0 p).addr) 35 = true ∧
        bits (rdN t (R.vpPR0 p).addr) 33 28 = vcCHAIN_TIMEOUT ∧ (48 + p) ∈ t.raiseQ ∧ rb t (R.vpCAL_HELD p) = true ∧
        i + rf (vPrep s p) (R.vpCHAIN_TIMEOUT p) * 1000 ≤ t.now) ∧
    (exec (.rmRelease p) s = .next (wb s (R.vpRM_HELD p) false)) ∧
    ((pipe s p).pow = .steady → rf s (R.vpPOWER p) = pIDLE → rf s (R.vpIDLE_TIME p) ≠ 0 →
      ∃ t, exec (.pipeIdleTimeout p) s = .next t ∧ (pipe t p).pow = .entering (!rb s (R.vpRETAIN_EN p)) false ∧
        t.now = max s.now ((pipe s p).idleSince + rf s (R.vpIDLE_TIME p) * 1000)) ∧
    (∀ g w : Bool, (pipe s p).pow = .entering g w →
      ∃ t, exec (.pipePowerdownDone p) s = .next t ∧ rf t (R.vpPOWER p) = (if g then pGATED else pRETAINED) ∧
        (pipe t p).pow = (if w then .waking else .steady) ∧ (g = true → ∀ j, j < 2048 → rd t (longAt p j) = 0#36)) ∧
    (pipe s p = { pipeZero with pow := .waking, idleSince := (pipe s p).idleSince } →
      ∃ t, exec (.pipeWakeDone p) s = .next t ∧ rf t (R.vpPOWER p) = pIDLE ∧ (pipe t p).pow = .steady ∧
        t.now = max s.now ((pipe s p).idleSince + if rf s (R.vpPOWER p) = pRETAINED then 400 else 1600)) ∧
    (∀ (off : Nat) (w : Word), off < 2048 → rf s (R.vpPOWER p) < pRETAINED → (pipe s p).run = none →
      exec (.longRegisterWrite p off w) s = .next (wr s (longAt p off) w))

/-- Every cluster operation, in every form: its word (Table CLU-2; NOP of any unit, and the formats K and LI of SETS, SETH and LOOPI)
joins the bundle the cluster is issuing; with END, or as an eighth word, or where UNIT does not ascend, the bundle issues; and nothing
happens in a cluster that does not run (R134).
The model's choices in it: log entries 8 and 11. -/
def Obligations.ClusterOperationsAreIssued : Prop :=
  ∀ (s : State) (n : Nat) (h : OpHead) (b : BitVec 22), s.live (iCLU n) → n < s.cfg.part.clusters →
    s.clusters.length = s.cfg.part.clusters →
    (∀ e ∈ [(slotM h, 0x1, Instr.mac n h b), (slotM h, 0x2, .mach n h b), (slotM h, 0x3, .macx n h b), (slotM h, 0x4, .acld n h b),
      (slotM h, 0x8, .sacq n h b), (slotM h, 0x9, .saci n h b), (slotM h, 0xA, .sach n h b), (slotM h, 0xB, .sacd n h b),
      (slotM h, 0xC, .sacdi n h b), (slotM h, 0xD, .sacw n h b), (slotM h, 0x10, .mul n h b), (slotM h, 0x11, .mulq n h b),
      (slotM h, 0x12, .mulh n h b), (slotM h, 0x13, .mulhq n h b), (slotM h, 0x14, .muld n h b), (slotM h, 0x18, .fadd n h b),
      (slotM h, 0x19, .fsub n h b), (slotM h, 0x1A, .fmul n h b), (slotM h, 0x1B, .fma n h b), (slotM h, 0x1C, .fnma n h b),
      (slotA h, 0x1, .add n h b), (slotA h, 0x2, .sub n h b), (slotA h, 0x3, .addi n h b), (slotA h, 0x4, .neg n h b),
      (slotA h, 0x5, .abs n h b), (slotA h, 0x6, .min n h b), (slotA h, 0x7, .max n h b), (slotA h, 0x8, .and n h b),
      (slotA h, 0x9, .or n h b), (slotA h, 0xA, .xor n h b), (slotA h, 0xB, .andn n h b), (slotA h, 0xC, .not n h b),
      (slotA h, 0xD, .mov n h b), (slotA h, 0x10, .shl n h b), (slotA h, 0x11, .shra n h b), (slotA h, 0x12, .shrl n h b),
      (slotA h, 0x13, .shli n h b), (slotA h, 0x14, .shrai n h b), (slotA h, 0x15, .shrli n h b), (slotA h, 0x18, .cmp n h b),
      (slotA h, 0x19, .cmpu n h b), (slotA h, 0x1A, .fcmp n h b), (slotA h, 0x1B, .cmpi n h b), (slotA h, 0x1C, .clog n h b),
      (slotA h, 0x20, .mvr n h b), (slotA h, 0x21, .mvri n h b), (slotA h, 0x22, .getr n h b), (slotXY h, 0x1, .ld n h b),
      (slotXY h, 0x2, .ldh0 n h b), (slotXY h, 0x3, .ldh1 n h b), (slotXY h, 0x4, .ldd n h b), (slotXY h, 0x8, .st n h b),
      (slotXY h, 0x9, .sth0 n h b), (slotXY h, 0xA, .sth1 n h b), (slotXY h, 0xB, .std n h b), (slotXY h, 0x10, .modp n h b),
      (6, 0x1, .br n h b), (6, 0x2, .brr n h b), (6, 0x3, .halt n h b), (6, 0x4, .lend n h b), (6, 0x6, .loopr n h false b),
      (6, 0x7, .loopr n h true b), (7, 0x1, .smax n h b), (7, 0x2, .smin n h b), (7, 0x8, .div n h b), (7, 0x9, .divr n h b),
      (7, 0xA, .qdiv n h b), (7, 0xB, .fdiv n h b), (7, 0xC, .fsqrt n h b), (7, 0x10, .cvt n h b), (7, 0x11, .rsat n h b),
      (7, 0x18, .cls n h b), (7, 0x19, .popc n h b), (7, 0x1A, .extu n h b), (7, 0x1B, .exts n h b), (7, 0x1C, .ins n h b),
      (7, 0x1D, .brev n h b)],
      s.issues n e.2.2 (opWord22 h e.1 e.2.1 b)) ∧
    (∀ u : BitVec 3, s.issues n (.nop n h u) (opWord h u.toNat 0)) ∧
    (∀ (d : BitVec 6) (imm : BitVec 18),
      s.issues n (.sets n h d imm) (opWord h (slotA h) (14 * 2 ^ 24 + d.toNat * 2 ^ 18 + imm.toNat)) ∧
      s.issues n (.seth n h d imm) (opWord h (slotA h) (15 * 2 ^ 24 + d.toNat * 2 ^ 18 + imm.toNat))) ∧
    (∀ (rot : Bool) (c : BitVec 24),
      s.issues n (.loopi n h rot c) (opWord h 6 (7 * 2 ^ 25 + (if rot then 1 else 0) * 2 ^ 24 + c.toNat)))

/-- NOP, SETS, SETH and LOOPI have formats of their own: alone in a bundle NOP puts nothing in flight, SETS puts its sign-extended
immediate in flight to DST, SETH its immediate over the low half of DST, each with latency 1, and LOOPI opens a level of its count
ending at LTGT (R149, R163, R171, R174). An operation whose condition fails has no effect (R136).
The model's choices in it: log entry 11. -/
def Obligations.ClusterNopImmediateAndLoop : Prop :=
  ∀ (s : State) (n : Nat) (h : OpHead), s.clReady n → h.last = true →
    (∀ u : BitVec 3, ∃ t, exec (.nop n h u) s = .next t ∧ s.oneOp t n [] []) ∧
    (∀ (d : BitVec 6) (imm : BitVec 18), clCond s n h.cond.toNat = true →
      (∃ t, exec (.sets n h d imm) s = .next t ∧ s.oneOp t n [⟨.d (physD (rf s (R.scCPOS n)) d.toNat), toBits 36 imm.toInt, 0#7,
        (cl s n).cyc + 1, (cl s n).cyc, slotA h, none⟩] []) ∧
      (∃ t, exec (.seth n h d imm) s = .next t ∧ s.oneOp t n [⟨.d (physD (rf s (R.scCPOS n)) d.toNat),
        imm.toNat * 2 ^ 18 + rf s (R.scD n (physD (rf s (R.scCPOS n)) d.toNat)) % 2 ^ 18, 0#7,
        (cl s n).cyc + 1, (cl s n).cyc, slotA h, none⟩] [])) ∧
    (∀ (rot : Bool) (c : BitVec 24), clCond s n h.cond.toNat = true → rf s (R.scPC n) < (cl s n).ltgt → 0 < c.toNat →
      ∃ t, exec (.loopi n h rot c) s = .next t ∧ s.oneOp t n [] [] ∧
        (cl t n).levels = [⟨c.toNat, (rf s (R.scPC n) + 1) % 2 ^ 16, (cl s n).ltgt, rot⟩]) ∧
    (∀ b : BitVec 22, clCond s n h.cond.toNat = false →
      (∃ t, exec (.add n h b) s = .next t ∧ s.oneOp t n [] []) ∧ (∃ t, exec (.mul n h b) s = .next t ∧ s.oneOp t n [] []) ∧
      (∃ t, exec (.div n h b) s = .next t ∧ s.oneOp t n [] []))

/-- The multiply units, one operation alone in its bundle with its condition true: accumulations and ACLD put the new accumulator in
flight with latency 1 (R166, R167), accumulator stores and multiplies put their result in flight with latency 4 (R31, R36, R168).
The model's choices in it: log entry 11. -/
def Obligations.ClusterMultiplyUnits : Prop :=
  ∀ (s : State) (n : Nat) (h : OpHead) (b : BitVec 22), s.clReady n → h.last = true → clCond s n h.cond.toNat = true →
    let x : ClIn := ⟨s, n, (cl s n).cyc, slotM h, b.toNat⟩
    let one := fun (d : ClDst) (v : Nat × Arf) (l : Nat) =>
      [(⟨d, v.1, v.2, (cl s n).cyc + l, (cl s n).cyc, slotM h, none⟩ : ClFly)]
    let two := fun (v : Nat × Arf) (l : Nat) => one (.d (x.phys x.dst)) (v.1 % 2 ^ 36, v.2) l ++
      one (.d (x.phys (x.dst + 1))) (v.1 / 2 ^ 36 % 2 ^ 36, 0#7) l
    (x.dst < 8 → ∀ e ∈ [(Instr.mac n h b, accProd x 80 (acRead s n x.dst) (sext 36 x.a * sext 36 x.b)),
        (.mach n h b, dualAcc x (h1 x.a * h1 x.b) (h0 x.a * h0 x.b)), (.macx n h b, dualAcc x (h1 x.a * h0 x.b) (h0 x.a * h1 x.b))],
      ∃ t, exec e.1 s = .next t ∧ s.oneOp t n (one (.ac x.dst) e.2 1) []) ∧
    (x.dst < 8 → x.opt 0 = true ∨ x.srca % 2 = 0 →
      ∃ t, exec (.acld n h b) s = .next t ∧ s.oneOp t n (one (.ac x.dst)
        (toBits 80 (if x.opt 0 then sext 36 x.a * 2 ^ 35 else sext 72 (x.dd x.srca)), 0#7) 1) []) ∧
    (x.srca < 8 → ∀ e ∈ [(Instr.sacq n h b, roundSat (x.opt 3) 36 35 x.acA), (.saci n h b, satOrWrap 36 true x.acA),
        (.sach n h b, ((if x.opt 2 then (roundSat (x.opt 3) 18 53 x.acA).1 * 2 ^ 18 else (roundSat (x.opt 3) 18 53 x.acA).1),
          (roundSat (x.opt 3) 18 53 x.acA).2)),
        (.sacd n h b, twoHalves (roundSat (x.opt 3) 18 17 x.sub1) (roundSat (x.opt 3) 18 17 x.sub0)),
        (.sacdi n h b, twoHalves (satOrWrap 18 true x.sub1) (satOrWrap 18 true x.sub0))],
      ∃ t, exec e.1 s = .next t ∧ s.oneOp t n (one (.d (x.phys x.dst)) e.2 4) []) ∧
    (x.srca < 8 → x.dst % 2 = 0 → ∃ t, exec (.sacw n h b) s = .next t ∧ s.oneOp t n (two (satOrWrap 72 true x.acA) 4) []) ∧
    (∀ e ∈ [(Instr.mul n h b, satOrWrap 36 (x.opt 0) (sext 36 x.a * sext 36 x.b)),
        (.mulq n h b, roundSat (x.opt 3) 36 35 (sext 36 x.a * sext 36 x.b)),
        (.mulh n h b, perHalf (fun p q _ => satOrWrap 18 (x.opt 0) (sext 18 p * sext 18 q)) x.a x.b 0),
        (.mulhq n h b, perHalf (fun p q _ => roundSat (x.opt 3) 18 17 (sext 18 p * sext 18 q)) x.a x.b 0)],
      ∃ t, exec e.1 s = .next t ∧ s.oneOp t n (one (.d (x.phys x.dst)) e.2 4) []) ∧
    (x.dst % 2 = 0 → ∃ t, exec (.muld n h b) s = .next t ∧ s.oneOp t n (two (toBits 72 (sext 36 x.a * sext 36 x.b), 0#7) 4) []) ∧
    (∀ rm : Rm, x.rm (x.f 2 0) = some rm → ∀ e ∈ [(Instr.fadd n h b, fpAdd fF36 rm x.a x.b), (.fsub n h b, fpSub fF36 rm x.a x.b),
        (.fmul n h b, fpMul fF36 rm x.a x.b), (.fma n h b, fpFma fF36 rm false x.a x.b (x.d x.dst)),
        (.fnma n h b, fpFma fF36 rm true x.a x.b (x.d x.dst))],
      ∃ t, exec e.1 s = .next t ∧ s.oneOp t n (one (.d (x.phys x.dst)) e.2 4) [])

/-- The arithmetic, logic, shift and move operations of the A units, one alone in its bundle with its condition true and its unread
field zero: the result is in flight with latency 1 and is what the vector operation of the same name gives on the word, or on both
halves under H (R169, R171). The model's choices in it: log entry 11. -/
def Obligations.ClusterArithmeticUnits : Prop :=
  ∀ (s : State) (n : Nat) (h : OpHead) (b : BitVec 22), s.clReady n → h.last = true → clCond s n h.cond.toNat = true →
    let x : ClIn := ⟨s, n, (cl s n).cyc, slotA h, b.toNat⟩
    let one := fun (d : ClDst) (v : Nat × Arf) => [(⟨d, v.1, v.2, (cl s n).cyc + 1, (cl s n).cyc, slotA h, none⟩ : ClFly)]
    let halves := fun (o : Bool) (f : Nat → Nat → Nat → Nat × Arf) (p q : Nat) =>
      if o then perHalf (fun p q _ => f 18 p q) p q 0 else f 36 p q
    let cnt := fun (w q : Nat) => min (q % 64) w
    (∀ e ∈ [(Instr.add n h b, halves (x.opt 3) (fun w p q => satOrWrap w (x.opt 2) (sext w p + sext w q)) x.a x.b),
        (.sub n h b, halves (x.opt 3) (fun w p q => satOrWrap w (x.opt 2) (sext w p - sext w q)) x.a x.b),
        (.addi n h b, (toBits 36 ((x.a : Int) + sext 10 (x.f 9 0)), 0#7)),
        (.min n h b, halves (x.opt 3) (fun w p q => (if sext w q < sext w p then q else p, 0#7)) x.a x.b),
        (.max n h b, halves (x.opt 3) (fun w p q => (if sext w p < sext w q then q else p, 0#7)) x.a x.b),
        (.and n h b, (x.a &&& x.b, 0#7)), (.or n h b, (x.a ||| x.b, 0#7)), (.xor n h b, (x.a ^^^ x.b, 0#7)),
        (.andn n h b, (x.a &&& (2 ^ 36 - 1 - x.b), 0#7)),
        (.shl n h b, halves (x.opt 3) (fun w p q => satOrWrap w (x.opt 2) (sext w p * 2 ^ cnt w q)) x.a x.b),
        (.shra n h b, halves (x.opt 3) (fun w p q => (toBits w (dropBits (x.opt 1) (sext w p) (cnt w q)), 0#7)) x.a x.b),
        (.shrl n h b, halves (x.opt 3) (fun w p q => (p / 2 ^ cnt w q, 0#7)) x.a x.b)],
      ∃ t, exec e.1 s = .next t ∧ s.oneOp t n (one (.d (x.phys x.dst)) e.2) []) ∧
    (x.srcb = 0 → ∀ e ∈ [(Instr.neg n h b, halves (x.opt 3) (fun w p _ => satOrWrap w (x.opt 2) (-(sext w p))) x.a 0),
        (.abs n h b, halves (x.opt 3) (fun w p _ => satOrWrap w (x.opt 2) (sext w p).natAbs) x.a 0),
        (.not n h b, (2 ^ 36 - 1 - x.a, 0#7)), (.mov n h b, (x.a, 0#7))],
      ∃ t, exec e.1 s = .next t ∧ s.oneOp t n (one (.d (x.phys x.dst)) e.2) []) ∧
    (x.opt 6 = false → ∀ e ∈ [
        (Instr.shli n h b, halves (x.opt 8) (fun w p _ => satOrWrap w (x.opt 9) (sext w p * 2 ^ min (x.f 5 0) w)) x.a 0),
        (.shrai n h b, halves (x.opt 8) (fun w p _ => (toBits w (dropBits (x.opt 7) (sext w p) (min (x.f 5 0) w)), 0#7)) x.a 0),
        (.shrli n h b, halves (x.opt 8) (fun w p _ => (p / 2 ^ min (x.f 5 0) w, 0#7)) x.a 0)],
      ∃ t, exec e.1 s = .next t ∧ s.oneOp t n (one (.d (x.phys x.dst)) e.2) []) ∧
    (∃ t, exec (.mvri n h b) s = .next t ∧
      s.oneOp t n (one (clsDst (x.f 21 20) (x.f 19 16)) (toBits 36 (sext 16 (x.f 15 0)), 0#7)) []) ∧
    (x.f 9 0 = 0 → (∃ t, exec (.mvr n h b) s = .next t ∧ s.oneOp t n (one (clsDst (x.f 21 20) (x.f 19 16)) (x.a, 0#7)) []) ∧
      (∃ t, exec (.getr n h b) s = .next t ∧ s.oneOp t n (one (.d (x.phys x.dst)) (rf s (clsField n (x.f 15 14) (x.f 13 10)), 0#7)) []))

/-- Compares and CLOG, one alone in its bundle with its condition true, its fields legal and CD not 0: the condition register CD is
in flight with latency 1, 1 where the relation COND holds (signed, unsigned, F36, against IMM10) or where the logic function of two
conditions is true (R170). The model's choices in it: log entry 11. -/
def Obligations.ClusterCompares : Prop :=
  ∀ (s : State) (n : Nat) (h : OpHead) (b : BitVec 22), s.clReady n → h.last = true → clCond s n h.cond.toNat = true →
    let x : ClIn := ⟨s, n, (cl s n).cyc, slotA h, b.toNat⟩
    let one := fun (v : Bool × Arf) => [(⟨.c (x.f 21 19), b2n v.1, v.2, (cl s n).cyc + 1, (cl s n).cyc, slotA h, none⟩ : ClFly)]
    x.f 21 19 ≠ 0 →
    (x.f 18 16 < 6 → x.f 3 0 = 0 →
      (∃ t, exec (.cmp n h b) s = .next t ∧ s.oneOp t n (one (relHolds (relOf (x.f 18 16)) (sext 36 x.a - sext 36 x.b), 0#7)) []) ∧
      (∃ t, exec (.cmpu n h b) s = .next t ∧ s.oneOp t n (one (relHolds (relOf (x.f 18 16)) ((x.a : Int) - (x.b : Int)), 0#7)) [])) ∧
    (x.f 18 16 < 7 → x.f 3 0 = 0 →
      ∃ t, exec (.fcmp n h b) s = .next t ∧ s.oneOp t n (one (fpCmp fF36 (relOf (x.f 18 16)) x.a x.b)) []) ∧
    (x.f 18 16 < 6 →
      ∃ t, exec (.cmpi n h b) s = .next t ∧ s.oneOp t n (one (relHolds (relOf (x.f 18 16)) (sext 36 x.a - sext 10 (x.f 9 0)), 0#7)) []) ∧
    (x.f 10 0 = 0 → ∃ t, exec (.clog n h b) s = .next t ∧ s.oneOp t n (one ((match x.f 12 11 with
      | 0 => x.cSrc (x.f 18 16) && x.cSrc (x.f 15 13)
      | 1 => x.cSrc (x.f 18 16) || x.cSrc (x.f 15 13)
      | 2 => x.cSrc (x.f 18 16) != x.cSrc (x.f 15 13)
      | _ => x.cSrc (x.f 18 16) && !x.cSrc (x.f 15 13)), 0#7)) [])

/-- Loads, stores and MODP of the X and Y units, one alone in its bundle, its condition true, its fields legal, its address in range
and its sub-bank the cluster's: a load's word is in flight to DREG with latency 4, a store's word or half reaches memory three cycles
on, and the pointer's update is in flight with latency 1 (R140, R141, R144, R148, R172, R173).
The model's choices in it: log entries 11 and 12. -/
def Obligations.ClusterMemoryUnits : Prop :=
  ∀ (s : State) (n : Nat) (h : OpHead) (b : BitVec 22), s.clReady n → h.last = true → clCond s n h.cond.toNat = true →
    rf s (R.scOWN_X n) = 0 → rf s (R.scOWN_Y n) = 0 →
    let x : ClIn := ⟨s, n, (cl s n).cyc, slotXY h, b.toNat⟩
    let c := (cl s n).cyc
    let ptr : ClFly := ⟨.p x.ptr, ptrNext (x.f 11 10) x.ea x.modi (rf s (R.scB n x.ptr)) (rf s (R.scL n x.ptr)), 0#7, c + 1, c,
      slotXY h, none⟩
    let load := fun (r : Nat) (v : Nat) => (⟨.d (x.phys r), v, 0#7, c + 4, c, slotXY h, none⟩ : ClFly)
    let a := clPhys n x.isY x.ea
    memF x true = true →
    ((localRange x.isY x.ea).isSome = true →
      (∃ t, exec (.ld n h b) s = .next t ∧ s.oneOp t n [load x.dreg (rdN s a), ptr] []) ∧
      (∃ t, exec (.ldh0 n h b) s = .next t ∧ s.oneOp t n [load x.dreg (toBits 36 (sext 18 (rdN s a))), ptr] []) ∧
      (∃ t, exec (.ldh1 n h b) s = .next t ∧ s.oneOp t n [load x.dreg (toBits 36 (sext 18 (rdN s a / 2 ^ 18))), ptr] []) ∧
      (∃ t, exec (.st n h b) s = .next t ∧ s.oneOp t n [ptr] [⟨a, .word (mkW (x.d x.dreg)), c + 3⟩]) ∧
      (∃ t, exec (.sth0 n h b) s = .next t ∧ s.oneOp t n [ptr] [⟨a, .half false (BitVec.ofNat 18 (x.d x.dreg)), c + 3⟩]) ∧
      (∃ t, exec (.sth1 n h b) s = .next t ∧ s.oneOp t n [ptr] [⟨a, .half true (BitVec.ofNat 18 (x.d x.dreg)), c + 3⟩])) ∧
    (x.dreg % 2 = 0 → (localRange x.isY x.ea).isSome = true → localRange x.isY (x.ea + 1) = localRange x.isY x.ea →
      (∃ t, exec (.ldd n h b) s = .next t ∧
        s.oneOp t n [load x.dreg (rdN s a), load (x.dreg + 1) (rdN s (clPhys n x.isY (x.ea + 1))), ptr] []) ∧
      (∃ t, exec (.std n h b) s = .next t ∧ s.oneOp t n [ptr]
        [⟨a, .word (mkW (x.d x.dreg)), c + 3⟩, ⟨clPhys n x.isY (x.ea + 1), .word (mkW (x.d (x.dreg + 1))), c + 3⟩])) ∧
    (x.dreg = 0 → ∃ t, exec (.modp n h b) s = .next t ∧ s.oneOp t n [ptr] [])

/-- The branch unit, one operation alone in its bundle with its condition true: BR and BRR continue at their target four cycles on
(R151), HALT ends issue with the cluster FINISHING (R153), LEND puts LTGT in flight (R174), LOOPR opens a level of the register's
count or, with a count of 0, continues after the end bundle (R149). The model's choices in it: log entry 11. -/
def Obligations.ClusterBranchUnit : Prop :=
  ∀ (s : State) (n : Nat) (h : OpHead) (b : BitVec 22), s.clReady n → h.last = true → clCond s n h.cond.toNat = true →
    let x : ClIn := ⟨s, n, (cl s n).cyc, 6, b.toNat⟩
    (x.f 21 16 = 0 →
      (∃ t, exec (.br n h b) s = .next t ∧ rf t (R.scPC n) = x.f 15 0 ∧ (cl t n).cyc = (cl s n).cyc + 4 ∧ (cl t n).fly = [] ∧
        (∀ a, a ≠ (R.scPC n).addr → rd t a = rd s a)) ∧
      (∃ t, exec (.lend n h b) s = .next t ∧
        s.oneOp t n [⟨.ltgt, x.f 15 0, 0#7, (cl s n).cyc + 1, (cl s n).cyc, 6, none⟩] [])) ∧
    (x.dst = 0 → x.f 9 0 = 0 →
      ∃ t, exec (.brr n h b) s = .next t ∧ rf t (R.scPC n) = x.a % 2 ^ 16 ∧ (cl t n).cyc = (cl s n).cyc + 4 ∧ (cl t n).fly = []) ∧
    (b = 0#22 → ∃ t, exec (.halt n h b) s = .next t ∧ runState t n = rsFINISHING ∧ (cl t n).ending = some .halt ∧
      (cl t n).cyc = (cl s n).cyc + 1) ∧
    (∀ rot : Bool, let c := x.d (x.f 21 16) % 2 ^ 25
      rf s (R.scPC n) < x.f 15 0 →
      (0 < c → c ≤ 2 ^ 24 → ∃ t, exec (.loopr n h rot b) s = .next t ∧ s.oneOp t n [] [] ∧
        (cl t n).levels = [⟨c, (rf s (R.scPC n) + 1) % 2 ^ 16, x.f 15 0, rot⟩]) ∧
      (c = 0 → ∃ t, exec (.loopr n h rot b) s = .next t ∧ (cl t n).levels = [] ∧ (cl t n).cyc = (cl s n).cyc + 4 ∧
        rf t (R.scPC n) = (x.f 15 0 + bundleLen s n (x.f 15 0) 8) % 2 ^ 16))

/-- The special unit, one operation alone in its bundle with its condition true: searches, divisions and square root, CVT, RSAT and
the bit-field operations put their results in flight, a divider operation occupying the divider for its latency (R46, R47, R50,
R176 to R180). The model's choices in it: log entry 11. -/
def Obligations.ClusterSpecialUnit : Prop :=
  ∀ (s : State) (n : Nat) (h : OpHead) (b : BitVec 22), s.clReady n → h.last = true → clCond s n h.cond.toNat = true →
    let x : ClIn := ⟨s, n, (cl s n).cyc, 7, b.toNat⟩
    let one := fun (d : ClDst) (v : Nat × Arf) (l : Nat) => [(⟨d, v.1, v.2, (cl s n).cyc + l, (cl s n).cyc, 7, none⟩ : ClFly)]
    let two := fun (v : Nat × Arf) (l : Nat) => one (.d (x.phys x.dst)) (v.1 % 2 ^ 36, v.2) l ++
      one (.d (x.phys (x.dst + 1))) (v.1 / 2 ^ 36 % 2 ^ 36, 0#7) l
    let noTrap := fun (v : Nat × Arf) => (v.2 &&& fDZ) = 0#7 ∨ rb s (R.scDZ_TRAP n) = false
    let q := idiv36 (sext 36 x.a) (sext 36 x.b)
    let qq := qdiv35 (sext 36 x.a) (sext 36 x.b)
    (x.dst % 2 = 0 → ∀ e ∈ [(Instr.smax n h b, true), (.smin n h b, false)],
      let nv := flagIf (x.opt 1 && (fpIsSNaN fF36 (x.d x.dst) || fpIsSNaN fF36 x.a)) fNV
      ∃ t, exec e.1 s = .next t ∧ s.oneOp t n (if redBetter e.2 (x.opt 0) (if x.opt 1 then 4 else 0) (x.d x.dst) x.a
        then two (x.a + x.b * 2 ^ 36, nv) 2 else one .flags (0, nv) 2) []) ∧
    (noTrap (0, q.2.2) → (∃ t, exec (.div n h b) s = .next t ∧ s.oneOp t n (one (.d (x.phys x.dst)) (toBits 36 q.1, q.2.2) 12) [] ∧
        (cl t n).divFree = (cl s n).cyc + 12) ∧
      (x.dst % 2 = 0 → ∃ t, exec (.divr n h b) s = .next t ∧
        s.oneOp t n (two (toBits 36 q.1 + toBits 36 q.2.1 * 2 ^ 36, q.2.2) 12) [] ∧ (cl t n).divFree = (cl s n).cyc + 12)) ∧
    (noTrap (0, qq.2) → ∃ t, exec (.qdiv n h b) s = .next t ∧
      s.oneOp t n (one (.d (x.phys x.dst)) (toBits 36 qq.1, qq.2) 12) [] ∧ (cl t n).divFree = (cl s n).cyc + 12) ∧
    (∀ rm : Rm, x.rm (x.f 2 0) = some rm →
      (noTrap (fpDiv fF36 rm x.a x.b) → ∃ t, exec (.fdiv n h b) s = .next t ∧
        s.oneOp t n (one (.d (x.phys x.dst)) (fpDiv fF36 rm x.a x.b) 10) [] ∧ (cl t n).divFree = (cl s n).cyc + 10) ∧
      (x.srcb = 0 → noTrap (fpSqrt fF36 rm x.a) → ∃ t, exec (.fsqrt n h b) s = .next t ∧
        s.oneOp t n (one (.d (x.phys x.dst)) (fpSqrt fF36 rm x.a) 10) [] ∧ (cl t n).divFree = (cl s n).cyc + 10)) ∧
    (∀ rm : Rm, rmOf (x.f 2 0) (rf s (R.scDRM n)) = some rm → x.f 9 7 < 6 → x.f 6 4 < 6 → (4 ≤ x.f 9 7 ∨ 4 ≤ x.f 6 4) →
      ∃ t, exec (.cvt n h b) s = .next t ∧ s.oneOp t n (one (.d (x.phys x.dst)) (cvtElem (if x.f 9 7 = 5 then 4 else x.f 9 7)
        (if x.f 6 4 = 5 then 4 else x.f 6 4) (decide (x.f 9 7 = 5)) (decide (x.f 6 4 = 5)) (x.opt 3) (decide (rm = .near)) rm x.a) 2) []) ∧
    (x.srca % 2 = 0 → ∃ t, exec (.rsat n h b) s = .next t ∧ s.oneOp t n (one (.d (x.phys x.dst))
      (if x.opt 0 then satOrWrap 36 true (sext 72 (x.dd x.srca)) else roundSat (x.opt 3) 36 35 (sext 72 (x.dd x.srca))) 2) []) ∧
    (let p := x.b % 64
     let w := if 36 ≤ p then 0 else min (x.b / 64 % 64) (36 - p)
     ∀ e ∈ [(Instr.cls n h b, signRun x.a (bit x.a 35) 35), (.popc n h b, popBits 36 x.a), (.extu n h b, x.a / 2 ^ p % 2 ^ w),
        (.exts n h b, if w = 0 then 0 else toBits 36 (sext w (x.a / 2 ^ p))),
        (.ins n h b, if w = 0 then x.d x.dst else putBits (x.d x.dst) (p + w - 1) p (x.a % 2 ^ w)), (.brev n h b, revBits 36 x.a)],
      ∃ t, exec e.1 s = .next t ∧ s.oneOp t n (one (.d (x.phys x.dst)) (e.2, 0#7) 2) [])

/-- Starting, landing, ending: a start of an idle cluster sets PC to ENTRY, clears CPOS and the loop state and runs (R152); a stop and
a HALT finish and leave STOPPED or HALTED once what is in flight has landed (R153, R154); FAULT_ACK leaves STOPPED (R156); a due
result lands in its register and ORs its flags (R140); a due store reaches memory (R141); a due loop end repeats the body (R150).
Windows and power of a cluster: a read of a DMA-owned word answers OK with the word, a write merges its halves, and an access to a
sub-bank a busy cluster owns answers OWNED and counts (R145); an idle cluster whose time is up goes to RETAINED or GATED, a wake
ends in IDLE (R157), and initialisation leaves all four memories zero (R159). The model's choices in it: log entries 8 and 12. -/
def Obligations.ClusterRunsWindowsAndPower : Prop :=
  (∀ (s : State) (n : Nat), s.live (iCLU n) → n < s.cfg.part.clusters → s.clusters.length = s.cfg.part.clusters →
    (rb s (R.scTT_OWNED n) = false → rf s (R.scUNIT_STATE n) = usON → runState s n = rsHALTED → rf s (R.scPOWER n) = pwIDLE →
      ∃ t, exec (.start n) s = .next t ∧ runState t n = rsRUNNING ∧ rf t (R.scPC n) = rf s (R.scENTRY n) ∧ rf t (R.scCPOS n) = 0 ∧
        rf t (R.scFAULT_CAUSE n) = 0 ∧ rf t (R.scPOWER n) = pwACTIVE ∧ (cl t n).levels = [] ∧ (cl t n).ltgt = 0 ∧
        (cl t n).cyc = (cl s n).cyc + 2 ∧ rf t (R.scSTART_CNT n) = min (rf s (R.scSTART_CNT n) + 1) (2 ^ 36 - 1)) ∧
    (rb s (R.scTT_OWNED n) = true → exec (.start n) s = .next s ∧ exec (.stop n) s = .next s) ∧
    (rb s (R.scTT_OWNED n) = false → runState s n = rsRUNNING → (cl s n).due = none →
      ∃ t, exec (.stop n) s = .next t ∧ runState t n = rsFINISHING ∧ (cl t n).ending = some .stop ∧ (cl t n).stopCause = 3) ∧
    (runState s n = rsFAULTED → ∃ t, exec (.faultAck n) s = .next t ∧ runState t n = rsSTOPPED ∧ rf t (R.scSTOP_CAUSE n) = 0) ∧
    (∀ (l : ClLoop) (r : List ClLoop), (cl s n).due = some l.fin → (cl s n).levels = l :: r → 1 < l.left →
      ∃ t, exec (.loopIterationEnd n) s = .next t ∧ (cl t n).levels = { l with left := l.left - 1 } :: r ∧ (cl t n).due = none ∧
        rf t (R.scPC n) = l.first % 2 ^ 16 ∧ rf t (R.scCPOS n) = (rf s (R.scCPOS n) + b2n l.rot) % 32) ∧
    (∀ (k v : Nat) (f : Arf) (i u : Nat), k < 64 → v < 2 ^ 36 → runState s n = rsRUNNING →
      (cl s n).fly = [⟨.d k, v, f, (cl s n).cyc, i, u, none⟩] →
      ∃ t, exec (.clusterResultLanding n) s = .next t ∧ rf t (R.scD n k) = v ∧ rf t (R.scARF n) = rf s (R.scARF n) ||| f.toNat ∧
        (cl t n).fly = [] ∧ (∀ a, a ≠ (R.scD n k).addr → a ≠ (R.scARF n).addr → rd t a = rd s a)) ∧
    (∀ (a : Nat) (w : Word), runState s n = rsRUNNING → (cl s n).stores = [⟨a, .word w, (cl s n).cyc⟩] →
      ∃ t, exec (.storeReachesMemory n) s = .next t ∧ rd t a = w ∧ (cl t n).stores = [] ∧ (∀ x, x ≠ a → rd t x = rd s x)) ∧
    (∀ e : ClEnd, runState s n = rsFINISHING → (cl s n).ending = some e → (cl s n).fly = [] → (cl s n).stores = [] →
      (cl s n).retry = [] → (cl s n).sleep = false →
      ∃ t, exec (.clusterFinish n) s = .next t ∧ rf t (R.scPOWER n) = pwIDLE ∧
        runState t n = (match e with | .halt => rsHALTED | .fault => rsFAULTED | .stop => rsSTOPPED) ∧
        (e = .halt → rf t (R.scLAST_RUN_CYCLES n) = min ((cl s n).cyc - (cl s n).run0) (2 ^ 36 - 1) ∧
          t.calIn = s.calIn ++ [.clusterHalted n]) ∧
        (e = .fault → t.raiseQ = s.raiseQ ++ [32 + n] ∧ t.calIn = s.calIn ++ [.clusterFault n]))) ∧
  (∀ (s : State) (n : Nat), s.live (iCLU n) → n < s.cfg.part.clusters → s.clusters.length = s.cfg.part.clusters →
    (∀ tag o : Nat, o < 0x8000 → rf s (R.scINIT_DONE n) = 1 → rf s (R.scPOWER n) < 2 → bit (rf s (R.scOWN_X n)) (o / 4096) = true →
      rf s (R.scUNIT_STATE n) ≠ usISOLATING → (cl s n).touch = [] → s.ecc = [] →
      (∃ t, exec (.clusterWindowAccess n tag (.read o)) s = .next t ∧ t.mem = s.mem ∧
        (cl t n).resp = (cl s n).resp ++ [⟨tag, 0, [rd s (0x10000000 + n * 0x100000 + o)]⟩]) ∧
      (∀ w : Word, ∃ t, exec (.clusterWindowAccess n tag (.write o w true true)) s = .next t ∧
        rd t (0x10000000 + n * 0x100000 + o) = w ∧ (∀ x, x ≠ 0x10000000 + n * 0x100000 + o → rd t x = rd s x) ∧
        (cl t n).resp = (cl s n).resp ++ [⟨tag, 0, [0#36]⟩])) ∧
    (∀ (tag o : Nat) (w : Word), o < 0x8000 → rf s (R.scINIT_DONE n) = 1 → rf s (R.scPOWER n) < 2 →
      rf s (R.scUNIT_STATE n) ≠ usISOLATING →
      bit (rf s (R.scOWN_X n)) (o / 4096) = false → clBusy s n = true →
      ∃ t, exec (.clusterWindowAccess n tag (.write o w true true)) s = .next t ∧
        (cl t n).resp = (cl s n).resp ++ [⟨tag, 2, [0#36]⟩] ∧ rd t (0x10000000 + n * 0x100000 + o) = rd s (0x10000000 + n * 0x100000 + o) ∧
        rf t (R.scOWN_REJECT_CNT n) = min (rf s (R.scOWN_REJECT_CNT n) + 1) (2 ^ 36 - 1)) ∧
    (rf s (R.scIDLE_TIME n) ≠ 0 → rf s (R.scPOWER n) = pwIDLE → clBusy s n = false →
      ∃ t, exec (.clusterIdleTimeout n) s = .next t ∧
        rf t (R.scPOWER n) = (if rb s (R.scRETAIN_EN n) then pwRETAINED else pwGATED) ∧
        t.now = max s.now ((cl s n).idleSince + rf s (R.scIDLE_TIME n) * 1000) ∧
        (rb s (R.scRETAIN_EN n) = false → ∀ a, clVolatile n a = true → blkOf a = none → rd t a = 0#36)) ∧
    (∀ d : Nat, (cl s n).waking = some d → (cl s n).startWait = none →
      ∃ t, exec (.clusterWakeDone n) s = .next t ∧ rf t (R.scPOWER n) = pwIDLE ∧ (cl t n).waking = none ∧ t.now = max s.now d) ∧
    (rb s (R.scINIT_DONE n) = false → (cl s n).retry = [] → s.mw.txns = [] →
      ∃ t, exec (.clusterInitDone n) s = .next t ∧ rb t (R.scINIT_DONE n) = true ∧
        (∀ o, o < 0x30000 → rd t (0x10000000 + n * 0x100000 + o) = 0#36)))

/-- Disabling and re-enabling a unit of any kind (R396): a transition notes the new UNIT_STATE and its instant; a disable in ON starts
DRAINING, an enable in DRAINING returns to ON and in OFF starts WAKING, a write of the value ENABLE has changes nothing; the shutdown and
the wake end after their times, and after every one of them the routes and Calliope's loss set follow (R200, R336). A
change of a port's link (R237): a LINK that changes is written, LINK_CHG set with its source 120 + 3p and its notice, and the instant
of the fall kept; a port whose LINK has been 0 for LINK_DOWN_MS is reported down. The model's choices in it: log entries 8, 9 and 55. -/
def Obligations.UnitsAndPortLinks : Prop :=
  (∀ (s : State) (u : UnitRef), s.live (unitIsland u) → unitHas s u = true →
    (∀ st, st < 5 → rf (unitGo s u st) (unitSt u) = st ∧ unitSince (unitGo s u st) u = s.now ∧
      ∀ a, a ≠ (unitSt u).addr → rd (unitGo s u st) a = rd s a) ∧
    (∀ en : Bool, (∀ c, u ≠ .probe c) →
      (rb s (unitEn u) = en → exec (.unitEnableWrite u en) s = .next (keep s (unitSettle u s))) ∧
      (rb s (unitEn u) ≠ en → rf s (unitSt u) = (if en then usDRAINING else usON) → exec (.unitEnableWrite u en) s =
        .next (keep s (unitSettle u (unitGo (wb s (unitEn u) en) u (if en then usON else usDRAINING)))))) ∧
    (rb s (unitEn u) = false → rf s (unitSt u) = usOFF → (∀ c, u ≠ .probe c) → (∀ l, u ≠ .link l) →
      exec (.unitEnableWrite u true) s = .next (keep s (unitSettle u (unitGo (wb s (unitEn u) true) u usWAKING)))) ∧
    (∀ l, u = .link l → rb s (unitEn u) = false → rf s (unitSt u) = usOFF →
      exec (.unitEnableWrite u true) s =
        .next (keep s (unitSettle u (wf (unitGo (wb s (unitEn u) true) u usWAKING) (R.casLSTATE l) 1)))) ∧
    (rf s (unitSt u) = usDRAINING → unitDrained s u = true → (∀ l, u ≠ .link l) →
      exec (.unitDrainComplete u) s = .next (keep s (unitSettle u (unitGo s u usISOLATING)))) ∧
    (∀ d, rf s (unitSt u) = usDRAINING → unitDrained s u = false → drainNs s u = some d →
      exec (.drainLimitExpiry u) s = .next (keep s (unitSettle u (drainCut (atLeast s (unitSince s u + d)) u)))) ∧
    (rf s (unitSt u) = usISOLATING → (∀ c, u = .dma c → dmaOut s c = false) →
      ∀ s', s' = atLeast s (unitSince s u + isolateNs u) → rb (unitTell (unitOff (unitGo s' u usOFF) u) u) (unitEn u) = false →
        exec (.unitIsolateDone u) s = .next (keep s (unitSettle u (unitTell (unitOff (unitGo s' u usOFF) u) u)))) ∧
    (rf s (unitSt u) = usWAKING →
      ∀ s', s' = unitTell (unitOn (unitGo (atLeast s (unitSince s u + wakeNs s u)) u usON) u) u → rb s' (unitEn u) = true →
        exec (.unitWakeDone u) s = .next (keep s (unitSettle u s')))) ∧
  (∀ (s : State) (p : Nat), s.live iFLD → p < s.cfg.part.ports → s.fld.ports.length = s.cfg.part.ports →
    (∀ up : Bool, (rb s (R.fpLINK p) = up ∨ (up = true ∧ rf s (R.fpUNIT_STATE p) = usOFF)) → fpLinkChange s p up = s) ∧
    (∀ up : Bool, rb s (R.fpLINK p) ≠ up → rf s (R.fpUNIT_STATE p) ≠ usOFF →
      let t := fpLinkChange s p up
      rb t (R.fpLINK p) = up ∧ rb t (R.fpLINK_CHG p) = true ∧ t.raiseQ = s.raiseQ ++ [120 + 3 * p] ∧
        t.noticeQ = s.noticeQ ++ [⟨64 * 7 + 3 * p, p, mkW p⟩] ∧ (port t p).downAt = (if up then none else some s.now) ∧
        (port t p).downRep = false ∧ (∀ a, a ≠ (R.fpLINK p).addr → a ≠ (R.fpLINK_CHG p).addr → rd t a = rd s a)) ∧
    (∀ up : Bool, exec (.linkChange p up) s = .next (keep s (calSettle (fpLinkChange s p up)))) ∧
    (∀ d, (port s p).downAt = some d → 0 < rf s (R.fpLINK_DOWN_MS p) →
      let t := fpLinkDownReport s p
      exec (.linkDownReport p) s = .next (keep s (calSettle t)) ∧ (port t p).downRep = true ∧
        d + rf s (R.fpLINK_DOWN_MS p) * 1000000 ≤ t.now ∧ t.mem = s.mem))

/-- Calliope's actions on units, each where it may be dispatched (R184, R188): CLUSTER_START starts every cluster of its mask, one not ON is
lost (R152, R189); CLUSTER_DEADLINE finds every run over or marks DL_MISS and is a DEADLINE fault (R154, R192); VECTOR_BLOCK queues a
block on its pipe, or loses a pipe not ON (R93, R189); WAKE, SLEEP and OWNERSHIP act on their masks (R104, R105, R145, R157).
The model's choices in it: log entries 8 and 43. -/
def Obligations.CalliopeActsOnUnits : Prop :=
  ∀ (s : State) (t : TT) (f i : Nat),
    let u := s.took f i
    let ns := maskCl s (actArg0 t i)
    (s.actReady t f i 0x1 → (∀ n ∈ ns, rf s (R.scUNIT_STATE n) = usON ∧ clBusy s n = false) → exec .clusterStart s =
      .next (keep s (rstSettle (ns.foldl (fun x n => clStart x n (actW t i 1 % 2 ^ 16)) u)))) ∧
    (∀ n, s.actReady t f i 0x1 → ns = [n] → rf s (R.scUNIT_STATE n) ≠ usON → exec .clusterStart s =
      .next (keep s (rstSettle (resLoss (clStart u n (actW t i 1 % 2 ^ 16)) (2 ^ n) i)))) ∧
    (s.actReady t f i 0x2 → (∀ n ∈ ns, runState s n = rsHALTED) → exec .clusterDeadline s = .next u) ∧
    (∀ n, s.actReady t f i 0x2 → ns.filter (fun n => decide (runState s n ≠ rsHALTED)) = [n] → hdrDlStop t.hdr = false →
      hdrPolicy t.hdr 2 % 4 = 0 →
      ∃ v, exec .clusterDeadline s = .next v ∧ rb v (R.scDL_MISS n) = true ∧ rb v R.calDEADLINE_MISS = true ∧
        rf v R.calDEADLINE_MISS_CNT = min (rf s R.calDEADLINE_MISS_CNT + 1) (2 ^ 36 - 1) ∧ rf v R.calLAST_ACTION = i % 2 ^ 15 ∧
        v.raiseQ = s.raiseQ ++ [26] ∧ v.cal = u.cal ∧ s.sameBut v [(R.scDL_MISS n).addr, R.calDEADLINE_MISS.addr,
          R.calDEADLINE_MISS_CNT.addr, R.calLAST_ACTION.addr]) ∧
    (let p := actArg0 t i % 4
     s.actReady t f i 0x3 → isUp s iVEC = true → p < s.cfg.part.pipes → s.pipes.length = s.cfg.part.pipes →
      (rf s (R.vpUNIT_STATE p) = usON → ∃ v, exec .vectorBlock s = .next v ∧ v.vecId = s.vecId + 1 ∧
        (pipe v p).blocks = (pipe s p).blocks ++ [⟨s.vecId, actW t i 1, actW t i 2 % 2 ^ 24, 0, 0⟩] ∧
        v.cal.blks = s.cal.blks ++ [(p, s.vecId)] ∧ v.cal.ix = i + 1) ∧
      (rf s (R.vpUNIT_STATE p) ≠ usON → exec .vectorBlock s = .next (keep s (rstSettle (resLoss u (2 ^ (16 + p)) i))))) ∧
    (s.actReady t f i 0xA → exec .wake s = .next (keep s (rstSettle
      ((maskVp s (actW t i 1)).foldl (fun x p => pipeRouse x p false) (ns.foldl clWake u))))) ∧
    (s.actReady t f i 0xB → exec .sleep s = .next (keep s (rstSettle
      ((maskVp s (actW t i 1)).foldl pipeSleep (ns.foldl clSleep u))))) ∧
    (s.actReady t f i 0xE → ∃ v, exec .ownership s = .next v ∧ v.cal = u.cal ∧
      (∀ n ∈ ns, rf v (R.scOWN_X n) = actW t i 1 % 256 ∧ rf v (R.scOWN_Y n) = actW t i 1 / 256 % 256) ∧
      s.sameBut v (ns.map fun n => (R.scOWN_X n).addr))

/-- Calliope's actions on data, each where it may be dispatched (R184, R188): ACTION_NOP, DMA_START of every channel of its mask (R316),
QUEUE_FREEZE (R227), FRAME_EMIT with the step and whether it is applied (R230, R248), EVENT, PARAM_COMMIT (R369), PROBE_STEP (R247)
and MAP_SWAP (R254). The model's choices in it: log entries 8, 43 and 45. -/
def Obligations.CalliopeActsOnData : Prop :=
  ∀ (s : State) (t : TT) (f i : Nat),
    let u := s.took f i
    (s.actReady t f i 0x0 → exec .actionNop s = .next u) ∧
    (s.actReady t f i 0x4 → ∃ v, exec .dmaStart s = .next v ∧
      (∀ c, c < 64 → bit (actDma t i) c = true → rf s (R.dcSTATE c) = 0 → rf s (R.dcUNIT_STATE c) = usON →
        ddOk s ((List.range 13).map (fun k => rdN s ((R.dcMODE c).addr + k))) = true →
        rf v (R.dcSTATE c) = 1 ∧ bit v.cal.dmas c = true ∧ (∃ k, dmaFind v c = some k ∧ k.cal = true ∧
          k.desc = (List.range 13).map (fun k => rdN s ((R.dcMODE c).addr + k)) ∧ k.rdK = 0 ∧ k.wrK = 0)) ∧
      (∀ c, c < 64 → bit (actDma t i) c = true → rf s (R.dcSTATE c) ≠ 0 → rb v (R.dcSTART_BUSY c) = true ∧
        rf v (R.dcSTATE c) = rf s (R.dcSTATE c)) ∧
      (∀ c, c < 64 → bit (actDma t i) c = false → rf v (R.dcSTATE c) = rf s (R.dcSTATE c) ∧ dmaFind v c = dmaFind s c)) ∧
    (s.actReady t f i 0x5 →
      (rb s R.qeTHAWING = true → ∃ v, exec .queueFreeze s = .next v ∧ rb v R.qeFREEZE_LATE = true ∧
        v.fld.freezePend = some (if rf s R.qeFREEZE_TICKS = 0 then none else some (rf s R.qeFREEZE_TICKS)) ∧
        s.sameBut v [R.qeFREEZE_LATE.addr]) ∧
      (rb s R.qeTHAWING = false → rb s R.qeFROZEN = true → ∃ v, exec .queueFreeze s = .next v ∧ rb v R.qeFROZEN = false ∧
        rb v R.qeTHAWING = true ∧ v.fld.viewLeft = none ∧
        v.fld.freezePend = some (if rf s R.qeFREEZE_TICKS = 0 then none else some (rf s R.qeFREEZE_TICKS)) ∧ s.sameBut v [R.qeFROZEN.addr]) ∧
      (rb s R.qeTHAWING = false → rb s R.qeFROZEN = false → ∃ v, exec .queueFreeze s = .next v ∧ rb v R.qeFROZEN = true ∧
        v.fld.viewLeft = (if rf s R.qeFREEZE_TICKS = 0 then none else some (rf s R.qeFREEZE_TICKS)) ∧
        s.sameBut v [R.qeFROZEN.addr])) ∧
    (s.actReady t f i 0x6 → isUp s iFLD = true → actArg0 t i % 8 < s.cfg.part.ports → ∃ v, exec .frameEmit s = .next v ∧
      v.fld.emitFly = s.fld.emitFly ++ [(actArg0 t i % 8, ⟨actW t i 1 % 1024, actW t i 2 % 2048, pstep s,
        s.probeOk && !rb s R.idnPROBE_OFF && !s.idn.off && decide (rf s R.idnGUARD_STATE = 0)⟩)] ∧ v.mem = s.mem ∧ v.cal = u.cal) ∧
    (s.actReady t f i 0xC → ∃ v, exec .event s = .next v ∧ rf v (R.calEVENT_CODE (actArg0 t i % 8)) = actW t i 1 ∧
      v.raiseQ = s.raiseQ ++ [16 + actArg0 t i % 8] ∧ v.cal = u.cal ∧ s.sameBut v [(R.calEVENT_CODE (actArg0 t i % 8)).addr]) ∧
    (s.actReady t f i 0x9 → (∀ k, k < 16 → bit (actArg0 t i) k = true → (s.hst.psets.getD k psetZero).st ≠ 2) →
      exec .paramCommit s = .next u) ∧
    (∀ k, s.actReady t f i 0x9 → k < 16 → actArg0 t i = 2 ^ k → (s.hst.psets.getD k psetZero).st = 2 →
      exec .paramCommit s = .next (keep s (rstSettle (paramApply u k)))) ∧
    (s.actReady t f i 0x7 → s.probeOk = true → s.sm.rmw = [] → s.sm.wait = [] → ∃ v, exec .probeStep s = .next v ∧ pstep v = (pstep s + 1) % 2 ^ 72 ∧
      v.idn.fresh = []) ∧
    (s.actReady t f i 0x7 → s.probeOk = false → exec .probeStep s = .next u) ∧
    (s.actReady t f i 0x8 → s.sm.rmw = [] → s.sm.wait = [] → ∃ v, exec .mapSwap s = .next v ∧ rb v R.idnREVERT_PENDING = false ∧ v.cal = u.cal ∧
      rf v R.idnSWAP_CODE = (mapTest u (rb s R.idnREVERT_PENDING)).1 ∧
      ((mapTest u (rb s R.idnREVERT_PENDING)).1 ≠ 0 → rf v R.idnMAP_ACTIVE = rf s R.idnMAP_ACTIVE))

/-- Barriers and switch points (R190, R191, R203): a BARRIER whose completions are in is over at once, any other is in force until its
deadline tick, or missed at once where that has arrived; a report of its block releases it; a missed one sets BARRIER_MISS, counts and raises 25; a SWITCH_POINT without a
resident target does nothing and with one makes it the active timetable, at its entry tick.
The model's choices in it: log entries 8, 19 and 43. -/
def Obligations.CalliopeBarriersAndSwitches : Prop :=
  ∀ s : State,
    (∀ (t : TT) (f i : Nat) (a : Nat × Nat), s.actReady t f i 0xD → s.cal.arr = some a →
      let d := actArg0 t i + 1
      let dl := if d < hdrTicks t.hdr then (f, d) else (f + 1, 0)
      let b : CalBar := ⟨i, actW t i 1 % 16, bits (actW t i 1) 19 4, actDma t i, dl.1, dl.2, false⟩
      (barOk s b = true → exec .barrier s = .next (s.took f i)) ∧
      (barOk s b = false → posLt a dl = true → exec .barrier s = .next (modCal (s.took f i) fun c => { c with bar := some b })) ∧
      (barOk s b = false → posLt a dl = false → exec .barrier s = .next (keep s (rstSettle (barMiss (s.took f i) b))))) ∧
    (∀ b : CalBar, s.live iMWY → s.cal.bar = some b → b.missed = false → s.calIn = [] → barOk s b = true →
      exec .barrierRelease s = .next (modCal s fun c => { c with bar := none })) ∧
    (∀ (b : CalBar) (p a : Nat), s.live iMWY → s.cal.bar = some b → b.missed = false → b.clus = 0 → b.dmas = 0 →
      s.calIn = [.blockDone a] → s.cal.blks = [(p, a)] →
      ∃ v, exec .barrierRelease s = .next v ∧ v.cal.bar = none ∧ v.cal.blks = [] ∧ v.calIn = [] ∧ v.mem = s.mem) ∧
    (∀ (b : CalBar) (t : TT) (a : Nat × Nat), s.live iMWY → s.cal.bar = some b → b.missed = true → s.cal.arr = some a → a.2 ≠ 0 →
      s.cal.act = some t → hdrPolicy t.hdr 1 % 4 = 0 →
      ∃ v, exec .barrierMiss s = .next v ∧ v.cal.bar = none ∧ rb v R.calBARRIER_MISS = true ∧
        rf v R.calBARRIER_MISS_CNT = min (rf s R.calBARRIER_MISS_CNT + 1) (2 ^ 36 - 1) ∧ rf v R.calLAST_ACTION = b.ix % 2 ^ 15 ∧
        v.raiseQ = s.raiseQ ++ [25] ∧
        s.sameBut v [R.calBARRIER_MISS.addr, R.calBARRIER_MISS_CNT.addr, R.calLAST_ACTION.addr]) ∧
    (∀ (t : TT) (f i : Nat), s.actReady t f i 0xF → calTarget s = none → exec .switchPoint s = .next (s.took f i)) ∧
    (∀ (t n : TT) (f i w : Nat), s.actReady t f i 0xF → calTarget s = some (n, w) →
      exec .switchPoint s = .next (keep s (rstSettle (calCommit (s.took f i) n w (actArg0 t i)))) ∧
      (calCommit (s.took f i) n w (actArg0 t i)).cal.act = some n ∧
      (calCommit (s.took f i) n w (actArg0 t i)).cal.entry = true ∧
      (calCommit (s.took f i) n w (actArg0 t i)).cal.nextM = actArg0 t i)

/-- Ticks of Calliope's own sources (R181 to R183): a TIME tick is on its way and the next is one period on; a DISTANCE tick is delivered,
or waits for MIN_SPACING, or is coalesced and counted; the end of the spacing delivers the waiting one; a missing tick under CONTINUE
leaves Calliope STALLED with TICK_LOSS and source 29. On the grid kept over a warm reset a TIME tick moves the place on and a master that marks
marks it, but it goes to no timetable (R199, R349).
A tick arrives (R184 to R186): in IDLE nothing counts it; while PLAYING it sets MINOR_TICK and FRAME_NUM and is the place now reached;
an action of an earlier place still waiting makes it late and counts; tick 0 with actions of the frame before undispatched is an
OVERRUN with source 24. The model's choices in it: log entries 8, 43 and 44. -/
def Obligations.CalliopeTicks : Prop :=
  (∀ s : State, s.live iMWY →
    (∀ c : TickSrc, s.cal.src = some c → c.kind = 0 → calState s ≠ csIDLE → s.cal.was = none → s.marksNot →
      ∃ v, exec .timeTick s = .next v ∧ v.cal.flying = s.cal.flying ++ [none] ∧ v.cal.src = some { c with n := c.n + 1 } ∧
        v.mem = s.mem) ∧
    (∀ c : TickSrc, s.cal.src = some c → c.kind = 0 → calState s ≠ csIDLE → s.cal.was = none → ¬ s.marksNot →
      ∃ v, exec .timeTick s = .next v ∧ v.cal.flying = s.cal.flying ∧ v.cas.marks.length = s.cas.marks.length + 1 ∧
        v.cal.src = some { c with n := c.n + 1 } ∧ v.mem = s.mem) ∧
    (∀ c : TickSrc, s.cal.src = some c → 0 < s.cal.crossQ → calState s ≠ csIDLE → s.cal.was = none →
      (s.cal.spacing = false → (∀ d, s.cal.deliv = some d → d + c.min ≤ s.now) → s.marksNot →
        ∃ v, exec .distanceTick s = .next v ∧ v.cal.flying = s.cal.flying ++ [none] ∧ v.cal.crossQ = s.cal.crossQ - 1 ∧
          v.cal.deliv = some s.now ∧ v.mem = s.mem) ∧
      (∀ d, s.cal.spacing = false → s.cal.deliv = some d → s.now < d + c.min → exec .distanceTick s =
        .next (modCal s fun k => { k with crossQ := k.crossQ - 1, spacing := true })) ∧
      (s.cal.spacing = true → s.cal.fast + 1 ≠ c.fast →
        ∃ v, exec .distanceTick s = .next v ∧ rf v R.calFAST_TICK_CNT = min (rf s R.calFAST_TICK_CNT + 1) (2 ^ 36 - 1) ∧
          v.cal.fast = s.cal.fast + 1 ∧ v.cal.flying = s.cal.flying ∧ s.sameBut v [R.calFAST_TICK_CNT.addr])) ∧
    (∀ (c : TickSrc) (d : Nat), s.cal.src = some c → s.cal.deliv = some d → s.cal.spacing = true → calState s ≠ csIDLE →
      s.cal.was = none → s.marksNot →
      ∃ v, exec .minSpacingEnd s = .next v ∧ v.cal.flying = s.cal.flying ++ [none] ∧ v.cal.spacing = false ∧
        v.now = max s.now (d + c.min) ∧ v.cal.deliv = some v.now ∧ v.mem = s.mem) ∧
    (∀ (t : TT) (c : TickSrc), s.cal.act = some t → s.cal.src = some c → c.kind = 1 → 0 < c.max → s.cal.lossOut = false →
      calRuns s = true → hdrPolicy t.hdr 5 % 4 = 0 →
      ∃ v, exec .tickLoss s = .next v ∧ rb v R.calTICK_LOSS = true ∧ calState v = csSTALLED ∧ v.raiseQ = s.raiseQ ++ [29] ∧
        v.cal.lossOut = true ∧ s.cal.lossFrom + c.max ≤ v.now)) ∧
  (∀ (s : State) (c : TickSrc) (ft : Nat), s.aonOn = true → keptTicks s = some ft → s.cal.src = some c → c.kind = 0 → s.cal.act = none →
    ∃ v, exec .timeTick s = .next v ∧ v.cal.flying = s.cal.flying ∧ v.cal.src = some { c with n := c.n + 1 } ∧
      (v.cal.nextF, v.cal.nextM) = (s.cal.nextF + (s.cal.nextM + 1) / ft, (s.cal.nextM + 1) % ft) ∧ v.cal.was = s.cal.was ∧
      (¬ s.marksNot → v.cas.marks.map (fun m => (m.frame, m.minor)) =
        s.cas.marks.map (fun m => (m.frame, m.minor)) ++ [(s.cal.nextF, s.cal.nextM)]) ∧
      (s.marksNot → v.cas.marks = s.cas.marks) ∧ v.mem = s.mem) ∧
  (∀ (s : State) (t : TT) (rest : List (Option (Nat × Nat))), s.live iMWY → s.cal.flying = none :: rest → s.cal.act = some t →
    s.cal.bar = none → s.cal.target = none →
    (calState s = csIDLE → exec .tickArrival s = .next (modCal s fun c => { c with flying := rest })) ∧
    (let f := s.cal.nextF
     let m := s.cal.nextM
     calState s = csPLAYING → s.cal.ticked = true → s.cal.entry = false → s.cal.newSrc = false → s.fld.viewLeft = none →
      (m ≠ 0 → posLt ((calPos s t).1, actTick t (calPos s t).2) (f, m) = false →
        ∃ v, exec .tickArrival s = .next v ∧ rf v R.calMINOR_TICK = m % 2 ^ 16 ∧ rf v R.calFRAME_NUM = f % 2 ^ 36 ∧
          v.cal.arr = some (f, m) ∧ v.cal.flying = rest ∧ v.cal.nextF = f + (m + 1) / calTicks s ∧
          v.cal.nextM = (m + 1) % calTicks s ∧ v.raiseQ = s.raiseQ ∧
          s.sameBut v [R.calMINOR_TICK.addr, R.calFRAME_NUM.addr, R.calSTATE.addr]) ∧
      (m ≠ 0 → posLt ((calPos s t).1, actTick t (calPos s t).2) (f, m) = true →
        ∃ v, exec .tickArrival s = .next v ∧ rf v R.calLATE_CNT = min (rf s R.calLATE_CNT + 1) (2 ^ 36 - 1) ∧
          v.cal.lates = s.cal.lates ++ [(f, m, s.now)] ∧ v.cal.arr = some (f, m)) ∧
      (m = 0 → s.cal.df < f → s.cal.ix < actCount t → rf s R.casSH_ROLE = 0 → hdrPolicy t.hdr 0 % 4 = 0 →
        ∃ v, exec .tickArrival s = .next v ∧ rb v R.calOVERRUN = true ∧ rf v R.calMINOR_TICK = 0 ∧
          rf v R.calOVERRUN_CNT = min (rf s R.calOVERRUN_CNT + 1) (2 ^ 36 - 1) ∧ v.raiseQ = s.raiseQ ++ [24])))

/-- Reports, loads and re-arms of Calliope: a fault of an owned cluster sets UNIT_FAULT and raises 27 (R193); a load leaves its timetable
in the slot it is for (R198); a re-arm takes up the timetable that was active, after its image's checks and register writes, or fails
with CHECK_CODE and source 31 (R197, R199, R381). The model's choices in it: log entries 20, 21 and 44. -/
def Obligations.CalliopeReportsLoadsAndRearms : Prop :=
  ∀ s : State, s.live iMWY →
    (∀ (n : Nat) (t : TT), s.calIn = [.clusterFault n] → rb s (R.scTT_OWNED n) = true → s.cal.act = some t → hdrClAck t.hdr = false →
      hdrPolicy t.hdr 3 % 4 = 0 → ∃ v, exec .unitFaultReport s = .next v ∧ rb v R.calUNIT_FAULT = true ∧
        v.raiseQ = s.raiseQ ++ [27] ∧ v.calIn = [] ∧ s.sameBut v [R.calUNIT_FAULT.addr]) ∧
    (∀ p : Nat, s.calIn = [.pipeFault p] →
      exec .unitFaultReport s = .next (keep s (calUnitFault { s with calIn := [] } (.pipeFault p)))) ∧
    (∀ (l : CalLoad) (rest : List CalLoad), s.cal.loads = l :: rest → s.cal.arm = none → s.ecc = [] →
      (l.into = 1 → ∃ v, exec .timetableLoadDone s = .next v ∧ v.cal.sby = ttLoad s l.img l.idx ∧ v.cal.loads = rest ∧
        rb v R.calSTANDBY_VALID = (ttLoad s l.img l.idx).isSome ∧ v.cal.act = s.cal.act) ∧
      (l.into = 2 → ∃ v, exec .timetableLoadDone s = .next v ∧ v.cal.nxt = ttLoad s l.img l.idx ∧ v.cal.loads = rest ∧
        rb v R.calNEXT_VALID = (ttLoad s l.img l.idx).isSome ∧ v.cal.act = s.cal.act)) ∧
    (∀ (l : CalLoad) (rest : List CalLoad) (t : TT), s.cal.loads = l :: rest → s.ecc = [] → l.into = 0 → ttLoad s l.img l.idx = some t →
      exec .timetableLoadDone s = .next (keep s (armGo (calSync (calRefill (calSettle
        (calActivate (modCal s fun c => { c with loads := rest }) t))))))) ∧
    (∀ img idx st ft : Nat, s.cal.was = some (img, idx, st, ft) → rb s R.pwrRESTARTING = false → rb s R.calAUTO_REARM = true →
      calState s = csIDLE →
      let r := storeRead s (imgBase s img) (imgLen s img)
      let s' := r.2
      (imgLen s' img ≠ 0 → r.1 = true → crcsOk s' img = true → (applyRegs s' (imgRegs s' img)).1 = true → exec .calliopeRearm s =
        .next (keep s (rstSettle (armBegin (applyRegs s' (imgRegs s' img)).2
          ⟨img, idx, 0, true, decide (st = csHELD) || decide (mode s' = mHOLD), none⟩)))) ∧
      (imgLen s' img = 0 ∨ r.1 = false ∨ crcsOk s' img = false →
        exec .calliopeRearm s = .next (keep s (rstSettle (armFail s' 5 true))) ∧
        rf (armFail s' 5 true) R.calCHECK_CODE = 5 ∧ rb (armFail s' 5 true) R.calARM_FAIL = true ∧
        calState (armFail s' 5 true) = csIDLE)) ∧
    (∀ (x : State) (a : CalArm), calState (armBegin x a) = csARMED ∧ (armBegin x a).cal.loads = [⟨0, a.img, a.idx⟩] ∧
      (armBegin x a).cal.arm = some a)

/-- A register write by a master (R6, R303, R313): an RW field takes the value and no other word changes, a W1C register loses the bits
written as 1 (R402), a write a level may not make changes nothing (R402), and a write to a block of an absent unit is a decode error
that records address and master. A write that reaches its block in every other case is refused there with no effect, or has the
effect of its register. The model's choices in it: log entries 5 and 63. -/
def Obligations.RegistersAreWritten : Prop :=
  ∀ (s : State) (m lvl : Nat) (w : Word), s.aonOn = true → isUp s iMWY = true → mwMaster s m = true → s.rstReq = [] →
    (s.forced.getLsbD iMWY = false → ∃ t, exec (.registerWrite m lvl R.idnGUARD_LIMIT.addr w) s = .next t ∧
      rd t R.idnGUARD_LIMIT.addr = w ∧ s.sameBut t [R.idnGUARD_LIMIT.addr]) ∧
    (∀ k, k < 16 → k ≠ 14 → m < 4 → lvl ≤ 1 → ∃ t, exec (.registerWrite m lvl (trbF k).addr w) s = .next t ∧
      rf t (trbF k) = rf s (trbF k) &&& (2 ^ 36 - 1 - w.toNat) ∧
      rb t (fbit R.trbTRB_SUM k) = decide (rf s (trbF k) &&& (2 ^ 36 - 1 - w.toNat) ≠ 0) ∧
      s.sameBut t [(trbF k).addr, R.trbTRB_SUM.addr]) ∧
    (∀ k, k < 16 → m ≠ 20 → (m < 4 → 1 < lvl) → exec (.registerWrite m lvl (trbF k).addr w) s = .next s) ∧
    (∀ (a : Nat) (b : Blk) (i o : Nat), 0x20000000 ≤ a → a < 0x21000000 → blkOf a = some (b, i, o) → blkPresent s b i = false →
      ∃ t, exec (.registerWrite m lvl a w) s = .next t ∧ rb t R.mwDEC_ERR = true ∧
        (rb s R.mwDEC_ERR = false → rf t R.mwDEC_ADDR = a ∧ rf t R.mwDEC_MASTER = m ∧ t.raiseQ = s.raiseQ ++ [240]) ∧
        (rb s R.mwDEC_ERR = true → t.raiseQ = s.raiseQ) ∧
        s.sameBut t [R.mwDEC_ERR.addr, R.mwDEC_ADDR.addr, R.mwDEC_MASTER.addr]) ∧
    (∀ (a p : Nat) (b : Blk) (i o : Nat), blkOf (mwAddr s a) = some (b, i, o) → mwPort s (mwAddr s a) = some p →
      targetUp s p (mwAddr s a) = true → memHolds s p = false →
      (blkRefuses s b i o m lvl true = true → exec (.registerWrite m lvl a w) s = .next s) ∧
      (blkRefuses s b i o m lvl true = false → exec (.registerWrite m lvl a w) s =
        .next (keep s (rstSettle (regWrite s b i o m (mwAddr s a) w.toNat (2 ^ 36 - 1))))))

/-- Midway's transactions where no other is outstanding (R304 to R314, R355, R356): an issued one waits at its target's Turnstile, is
answered TIMEOUT where its island is down, or BUS_ERR with a decode error; a grant performs it, for Stream Memory by handing its words
to the port, whose bank's grant answers it (R56); waiting ages it; the response is delivered and it is over; a timeout
answers TIMEOUT and is recorded, its late response only counted; the host's completion or its timeout answers it.
The model's choices in it: log entries 5, 8 and 46. -/
def Obligations.MidwayTransactions : Prop :=
  ∀ s : State, s.live iMWY → s.rstReq = [] →
    (∀ (q : TxnReq) (p : Nat), s.mw.txns = [] → mwMaster s q.master = true → (q.master < 4 ∨ 8 ≤ q.master) → q.id < 32 →
      q.addr < 2 ^ 36 → tOk q = true → memHolds s p = false →
      (match q.kind with | .hread _ _ _ => some 26 | .hwrite _ => some 26 | .sync x => some x | _ => mwPort s q.addr) = some p →
      let x : Txn := ⟨s.mw.next, q, p, 0, .waiting s.now, 0, 0, 0, none, 0, 0, stOK, []⟩
      (islandUp s (portIsland s p q.addr) = true → portShut s p q.addr = false →
        ∃ t, exec (.midwayTransaction q) s = .next t ∧ t.mw.txns = [x] ∧
          rf t (R.mwOUTST q.master) = 1 ∧ s.sameBut t [(R.mwOUTST q.master).addr]) ∧
      (islandUp s (portIsland s p q.addr) = false →
        ∃ t, exec (.midwayTransaction q) s = .next t ∧ t.mw.txns = [{ x with ph := .answered s.now stTIMEOUT [] 0 }] ∧
          s.sameBut t [(R.mwOUTST q.master).addr])) ∧
    (∀ (m id a n : Nat), s.mw.txns = [] → mwMaster s m = true → (m < 4 ∨ 8 ≤ m) → id < 32 → a < 2 ^ 36 → 1 ≤ n →
      a % 16 + n ≤ 16 → mwPort s a = none →
      ∃ t, exec (.midwayTransaction ⟨m, id, 0, a, .read n⟩) s = .next t ∧ rb t R.mwDEC_ERR = true ∧
        t.mw.txns = [⟨s.mw.next, ⟨m, id, 0, a, .read n⟩, 31, 0, .answered s.now stBUS [] 0, 0, 0, 0, none, 0, 0, stOK, []⟩]) ∧
    (∀ (x : Txn) (g : Nat), s.mw.txns = [x] → x.ph = .waiting g → x.port < 4 → x.port = x.req.addr / 8 % 4 → x.req.master < 21 →
      x.off = 0 → x.left = 0 → isUp s iVEC = true → rb s R.smLVT_PROT = false →
      (∀ n, x.req.kind = .read n → 1 ≤ n → x.req.addr % 8 + n ≤ 8 → ∃ t, exec (.turnstileGrant x.port) s = .next t ∧
        t.mw.txns = [{ x with ph := .granted s.now, off := n, left := n }] ∧
        t.sm.wait = s.sm.wait ++ (List.range n).map (fun i => ⟨x.port, mwAddr s x.req.addr + i, .read, x.tid, i⟩) ∧
        kvGet 0 t.mw.ptr x.port = (x.req.master + 1) % 21 ∧
        s.sameBut t [(R.mwWAIT_CNT x.port).addr, (R.mwOUTST x.req.master).addr]) ∧
      (∀ w : Word, x.req.kind = .write [(w, true, true)] → ∃ t, exec (.turnstileGrant x.port) s = .next t ∧
        t.mw.txns = [{ x with ph := .granted s.now, off := 1, left := 1 }] ∧
        t.sm.wait = s.sm.wait ++ [⟨x.port, mwAddr s x.req.addr, .write w, x.tid, 0⟩] ∧
        s.sameBut t [(R.mwWAIT_CNT x.port).addr, (R.mwOUTST x.req.master).addr])) ∧
    (∀ (x : Txn) (g a : Nat), s.mw.txns = [x] → x.ph = .granted g → x.port < 4 → x.left = 1 → x.st = stOK → x.got = [] →
      s.live iVEC → s.sm.rmw = [] → s.ecc = [] → bankOff s (smBank s a) = false →
      (s.sm.wait = [⟨x.port, a, .read, x.tid, 0⟩] → ∃ t, exec (.sharedAccessGrant (smBank s a)) s = .next t ∧
        t.mw.txns = [{ x with ph := .answered s.now stOK [rd s a] 0, left := 0, got := [(0, rd s a)] }] ∧ t.mem = s.mem) ∧
      (∀ w : Word, s.sm.wait = [⟨x.port, a, .write w, x.tid, 0⟩] → ∃ t, exec (.sharedAccessGrant (smBank s a)) s = .next t ∧
        t.mw.txns = [{ x with ph := .answered s.now stOK [0#36] 0, left := 0, got := [(0, 0#36)] }] ∧
        rd t a = w ∧ s.sameBut t [a])) ∧
    (∀ (x : Txn) (g n : Nat), s.mw.txns = [x] → x.ph = .waiting g → 4 ≤ x.port → x.port < 8 → x.req.master < 21 → x.off = 0 →
      x.req.kind = .read n → targetUp s x.port x.req.addr = true → s.ecc = [] → ∃ t, exec (.turnstileGrant x.port) s = .next t ∧
        t.mw.txns = [{ x with ph := .answered s.now stOK ((List.range n).map fun i => bulkWord s (mwAddr s x.req.addr + i)) 0, rem := none }] ∧
        s.sameBut t [(R.mwWAIT_CNT x.port).addr, (R.mwOUTST x.req.master).addr]) ∧
    (∀ (x : Txn) (g : Nat), s.mw.txns = [x] → x.ph = .waiting g →
      ∃ t, exec (.qosAging x.req.master x.req.id) s = .next t ∧ t.mw.txns = [{ x with age := x.age + 1 }] ∧
        t.now = max s.now (g + 320 * (x.age + 1))) ∧
    (∀ (x : Txn) (g st cv : Nat) (ws : List Word), s.mw.txns = [x] → x.ph = .answered g st ws cv →
      (x.req.master < 4 ∨ 8 ≤ x.req.master) → x.req.master < 21 →
      ∃ t, exec (.transactionResponse x.req.master x.req.id) s = .next t ∧ t.mw.txns = [] ∧
        t.mw.rsp = some (x.req.master, x.req.id, st, ws) ∧ rf t (R.mwOUTST x.req.master) = 0 ∧
        s.sameBut t [(R.mwOUTST x.req.master).addr]) ∧
    (∀ (x : Txn) (g : Nat), s.mw.txns = [x] → x.ph = .granted g → x.req.master < 21 → x.port < 28 →
      (∃ t, exec (.transactionTimeout x.req.master x.req.id) s = .next t ∧ rb t R.mwTIMEOUT = true ∧
        (∃ at_, t.mw.txns = [{ x with ph := .answered at_ stTIMEOUT [] 0 }]) ∧
        rf t R.mwTIMEOUT_CNT = min (rf s R.mwTIMEOUT_CNT + 1) (2 ^ 36 - 1) ∧
        (rb s R.mwTIMEOUT = false → rf t R.mwTO_MASTER = x.req.master ∧ rf t R.mwTO_TARGET = x.port ∧ t.raiseQ = s.raiseQ ++ [241]) ∧
        g + max 1 (rf s R.mwTXN_TIMEOUT) * 1000 ≤ t.now ∧ (x.req.master, x.req.id) ∈ t.mw.late) ∧
      (x.port = 26 →
        (∀ (n : Nat) (d : List HWord), x.req.kind = .read n → d.length = n →
          let ws := d.map (low32In (rb s (R.hstHW_SIGN (hwinOf s x.req.addr).1)))
          ∃ t, exec (.hostCompletion x.req.master x.req.id 0 d) s = .next t ∧
            t.mw.txns = [{ x with ph := .answered s.now stOK ws 0 }]) ∧
        (∀ (st : Nat) (d : List HWord), st ≠ 0 → ∃ t, exec (.hostCompletion x.req.master x.req.id st d) s = .next t ∧
          t.mw.txns = [{ x with ph := .answered s.now stBUS [] 0 }]) ∧
        (∃ t, exec (.hostCompletionTimeout x.req.master x.req.id) s = .next t ∧
          t.mw.txns = [{ x with ph := .answered s.now stTIMEOUT [] 0 }] ∧ (isUp s iHST = true → rb t R.hstHOST_TO = true)))) ∧
    (∀ m id : Nat, s.mw.late = [(m, id)] → ∃ t, exec (.lateResponse m id) s = .next t ∧ t.mw.late = [] ∧
      rf t R.mwLATE_CNT = min (rf s R.mwLATE_CNT + 1) (2 ^ 36 - 1) ∧ s.sameBut t [R.mwLATE_CNT.addr])

/-- DMA channels (R316 to R324): a start of an IDLE channel captures its descriptor and runs, an illegal descriptor is an error with code
1, a busy channel sets START_BUSY; ABORT ends it; a read beat asks for words, an index read for offsets, a write beat writes staged
words and the last one sets DONE; with every SYNC acknowledged the channel has ARRIVED. One channel active, nothing in Midway.
The model's choices in it: log entries 8 and 47. -/
def Obligations.DmaChannels : Prop :=
  ∀ (s : State) (c : Nat), s.live iMWY → c < 64 →
    (let d := (List.range 13).map (fun k => rdN s ((R.dcMODE c).addr + k))
     (rf s (R.dcSTATE c) = 0 → rf s (R.dcUNIT_STATE c) = usON → ddOk s d = true → ∃ t, exec (.dmaChannelStart c) s = .next t ∧
        rf t (R.dcSTATE c) = 1 ∧ rf t (R.dcREMAIN c) = ddLen d % 2 ^ 36 ∧ rb t (R.dcDONE c) = false ∧ rb t (R.dcARRIVED c) = false ∧
        dmaFind t c = some ⟨c, s.dma.gen + 1, d, false, ddLen d, 0, [], [], 0, 0, 0, 0, [], 0, [], [], [], 0⟩ ∧
        s.sameBut t [(R.dcSTATE c).addr, (R.dcREMAIN c).addr]) ∧
     (rf s (R.dcSTATE c) = 0 → rf s (R.dcUNIT_STATE c) = usON → ddOk s d = false → ∃ t, exec (.dmaChannelStart c) s = .next t ∧
        rf t (R.dcSTATE c) = 0 ∧ rb t (R.dcERR c) = true ∧ rf t (R.dcERR_CODE c) = 1 ∧ rf t (R.dcERR_ADDR c) = 0 ∧
        dmaFind t c = none) ∧
     (rf s (R.dcSTATE c) ≠ 0 ∨ rf s (R.dcUNIT_STATE c) ≠ usON → ∃ t, exec (.dmaChannelStart c) s = .next t ∧
        rb t (R.dcSTART_BUSY c) = true ∧ t.dma = s.dma ∧ s.sameBut t [(R.dcSTART_BUSY c).addr])) ∧
    (rf s (R.dcSTATE c) = 0 → exec (.abort c) s = .next s) ∧
    (rf s (R.dcSTATE c) ≠ 0 → ∃ t, exec (.abort c) s = .next t ∧ rf t (R.dcSTATE c) = 0 ∧ rb t (R.dcABORTED c) = true ∧
      dmaFind t c = none ∧ s.sameBut t [(R.dcSTATE c).addr]) ∧
    (∀ k : DmaCh, s.dma.chans = [k] → k.c = c → s.mw.txns = [] →
      (∀ a n, rf s (R.dcSTATE c) = 1 → dmaBeat k 0 k.rdK = some (a, n) → k.got.length + k.early.length + k.fly + n ≤ 16 →
        ∃ t x j, exec (.dmaReadBeat (c % 4)) s = .next t ∧ t.mw.txns = [x] ∧ x.tagk = 1 ∧ x.req = ⟨4 + c % 4, 2 * (c / 4), dmaQos k, a,
          if ddHost k.desc 0 then .hread n (ddConv k.desc) (dd k.desc 0 14 14 == 1) else .read n⟩ ∧
          dmaFind t c = some j ∧ j.rdK = k.rdK + n ∧ j.fly = k.fly + n ∧ j.got = k.got) ∧
      (let a := (dd k.desc 9 35 0 + k.ixAsk) % 2 ^ 36
       let n := min (8 - a % 8) (min (8 - k.ix.length - k.ixEarly.length - k.ixFly) (dd k.desc 10 23 0 - k.ixAsk))
       rf s (R.dcSTATE c) = 1 → ddIndex k.desc = true → 0 < n → ∃ t x j, exec (.dmaIndexRead c) s = .next t ∧ t.mw.txns = [x] ∧
        x.req = ⟨4 + c % 4, 2 * (c / 4), dmaQos k, a, .read n⟩ ∧ x.tagk = 2 ∧ dmaFind t c = some j ∧ j.ixAsk = k.ixAsk + n ∧
        j.ixFly = k.ixFly + n) ∧
      (∀ a n, rf s (R.dcSTATE c) = 1 → k.toSync = [] → dmaBeat k 1 k.wrK = some (a, n) → n ≤ k.got.length → ddHost k.desc 1 = false →
        (k.wrK + n ≠ k.t → ∃ t x j, exec (.dmaWriteBeat (c % 4)) s = .next t ∧ t.mw.txns = [x] ∧ x.tagk = 3 ∧
          x.req = ⟨4 + c % 4, 2 * (c / 4) + 1, dmaQos k, a, .write ((k.got.take n).map fun w => (w, true, true))⟩ ∧
          dmaFind t c = some j ∧ j.wrK = k.wrK + n ∧ j.got = k.got.drop n ∧ rf t (R.dcREMAIN c) = (k.t - (k.wrK + n)) % 2 ^ 36) ∧
        (k.wrK + n = k.t → dd k.desc 0 8 8 = 0 → ∃ t, exec (.dmaWriteBeat (c % 4)) s = .next t ∧ rb t (R.dcDONE c) = true ∧
          rf t (R.dcSTATE c) = 0 ∧ rf t (R.dcXFER_CNT c) = min (rf s (R.dcXFER_CNT c) + 1) (2 ^ 36 - 1) ∧ dmaFind t c = none)) ∧
      (rf s (R.dcSTATE c) = 2 → k.toSync = [] → k.syncOut = 0 → ∃ t, exec (.dmaSyncAck c) s = .next t ∧
        rb t (R.dcARRIVED c) = true ∧ rf t (R.dcSTATE c) = 0 ∧ dmaFind t c = none ∧
        rf t (R.dcXFER_CNT c) = min (rf s (R.dcXFER_CNT c) + 1) (2 ^ 36 - 1) ∧
        (k.cal = true → t.calIn = s.calIn ++ [.dmaDone c])))

/-- Receiving and classifying (R211 to R214, R220 to R222): a bad FCS and a full buffer are counted; an accepted signal frame of one record
waits for the classifier, counts and updates its node; a lookup passes the sample on or is a miss; INSERT, DELETE and FIND answer in
CLS_STATUS and CLS_INDEX; a write of word 0 of a node clears SEEN. The model's choices in it: log entries 8, 59 and 60. -/
def Obligations.FieldFramesReceivedAndClassified : Prop :=
  ∀ (s : State) (p : Nat), s.live iFLD → p < s.cfg.part.ports → s.fld.ports.length = s.cfg.part.ports →
    (∀ f : RxFrame, rf s (R.fpUNIT_STATE p) = usON → rb s (R.fpLINK p) = true →
      let size := f.body.length + 18 + 4 * f.tags
      (f.fcsOk = false → ∃ t, exec (.receiveFrame p f) s = .next t ∧
        rf t (R.fpRX_FCS p) = min (rf s (R.fpRX_FCS p) + 1) (2 ^ 36 - 1) ∧ s.sameBut t [(R.fpRX_FCS p).addr]) ∧
      (f.fcsOk = true → 65536 < (port s p).bufUsed + size → ∃ t, exec (.receiveFrame p f) s = .next t ∧ rb t (R.fpRX_DROP p) = true ∧
        rf t (R.fpRX_DROP_CNT p) = min (rf s (R.fpRX_DROP_CNT p) + 1) (2 ^ 36 - 1) ∧
        s.sameBut t [(R.fpRX_DROP p).addr, (R.fpRX_DROP_CNT p).addr]) ∧
      (let ws := payWords f.body
       let w0 := (ws.getD 0 0#36).toNat
       let w1 := (ws.getD 1 0#36).toNat
       let n := bits w0 27 16
       let lenw := bits w1 13 0
       ∀ r : RxRec, f.fcsOk = true → (port s p).bufUsed + size ≤ 65536 → f.tags ≤ 1 → f.etype = rf s R.fcETYPE →
        f.etype ≠ 0x88F7 → f.etype ≠ 0x0806 → 2 ≤ ws.length → bits w0 35 32 = 1 → bits w0 31 28 = 1 → lenw % 2 = 0 → 2 ≤ lenw →
        lenw ≤ ws.length → lenw ≤ payLimit (rb s (R.fpJUMBO p)) false → bits w1 15 14 = 0 → bits w1 35 20 = 0 → bits w1 19 16 = 0 →
        parseRecs n lenw ((ws.take lenw).drop 2) = some [r] → nodeRejects s p n false 0 = false → rb s (R.ndSEQ_CHECK n) = false →
        ∃ t, exec (.receiveFrame p f) s = .next t ∧ (port t p).recs = (port s p).recs ++ [{ r with size := size }] ∧
          (port t p).bufUsed = (port s p).bufUsed + size ∧ rf t (R.fpRX_FRAMES p) = min (rf s (R.fpRX_FRAMES p) + 1) (2 ^ 36 - 1) ∧
          rf t (R.ndLAST_SEQ n) = bits w0 15 0 ∧ rb t (R.ndSEEN n) = true ∧ rf t (R.ndLAST_TAG n) = tagNow s ∧
          s.sameBut t [(R.fpRX_FRAMES p).addr, (R.ndLAST_SEQ n).addr, (R.ndLAST_TAG n).addr])) ∧
    (∀ (r : RxRec) (v : Word), (port s p).recs = [r] → r.vals = [v] → r.series = false →
      (clsLookup s p r.node r.chan = none → ∃ t, exec (.classifierLookup p) s = .next t ∧ (port t p).recs = [] ∧
        rb t R.fcCLS_MISS = true ∧ rf t R.fcCLS_MISS_CNT = min (rf s R.fcCLS_MISS_CNT + 1) (2 ^ 36 - 1) ∧
        (rb s R.fcCLS_MISS = false → rf t R.fcMISS_KEY = clsKey false p r.node r.chan ∧ t.raiseQ = s.raiseQ ++ [145])) ∧
      (∀ i, clsLookup s p r.node r.chan = some i → (port s p).fifo.length < 4096 →
        ∃ t, exec (.classifierLookup p) s = .next t ∧ (port t p).recs = [] ∧
          (port t p).fifo = (port s p).fifo ++ [(clsQueue (clsAt s i) r.chan, v, mkW r.tag)] ∧ t.mem = s.mem)) ∧
    (let e := clsHeld s
     let set := clsHome s e
     (∀ w, clsRangeOk s e = true → clsFind s set (clsClash e) = none →
        [0, 1, 2, 3].find? (fun w => !clValid (clsAt s (4 * set + w))) = some w →
        ∃ t, exec .clsInsert s = .next t ∧ rf t R.fcCLS_STATUS = 0 ∧ rf t R.fcCLS_INDEX = (4 * set + w) % 2 ^ 17 ∧
          rf t R.fcCLS_USED = (rf s R.fcCLS_USED + 1) % 2 ^ 18 ∧ clsAt t (4 * set + w) = (mkW (putBits e.1.toNat 0 0 1), e.2) ∧
          (∀ i, i ≠ 4 * set + w → clsAt t i = clsAt s i)) ∧
     (clsRangeOk s e = false → ∃ t, exec .clsInsert s = .next t ∧ rf t R.fcCLS_STATUS = 4 ∧ rb t R.fcCLS_FAIL = true ∧
        t.fld = s.fld) ∧
     (∀ i, clsLocate s e = some i → (∃ t, exec .clsDelete s = .next t ∧ rf t R.fcCLS_STATUS = 0 ∧
        rf t R.fcCLS_INDEX = i % 2 ^ 17 ∧ clsAt t i = (0#36, 0#36) ∧ (∀ j, j ≠ i → clsAt t j = clsAt s j)) ∧
        (∃ t, exec .clsFind s = .next t ∧ rf t R.fcCLS_STATUS = 0 ∧ rf t R.fcCLS_INDEX = i % 2 ^ 17 ∧ t.fld = s.fld ∧
          s.sameBut t [R.fcCLS_STATUS.addr])) ∧
     (clsLocate s e = none → (∃ t, exec .clsDelete s = .next t ∧ rf t R.fcCLS_STATUS = 2 ∧ rb t R.fcCLS_FAIL = true ∧ t.fld = s.fld) ∧
        (∃ t, exec .clsFind s = .next t ∧ rf t R.fcCLS_STATUS = 2 ∧ t.raiseQ = s.raiseQ ∧ s.sameBut t [R.fcCLS_STATUS.addr]))) ∧
    (∀ (n : Nat) (w : Word), n < 4096 → ∃ t, exec (.nodeEntryWrite n w) s = .next t ∧
      bits (rdN t (R.ndVALID n).addr) 20 0 = w.toNat % 2 ^ 21 ∧ rb t (R.ndSEEN n) = false ∧
      s.sameBut t [(R.ndVALID n).addr, (R.ndSEEN n).addr])

/-- The queue engine (R223 to R227): QD_READ and QD_WRITE move a descriptor that lies in range, or fail; a commit into an enabled queue
writes value and tag at its pointer, which advances, and a sample of a disabled queue is counted; a due thaw starts, and its end
writes the held samples into their slots. The model's choices in it: log entries 8 and 62. -/
def Obligations.QueuesCommitAndThaw : Prop :=
  ∀ s : State, s.live iMWY →
    (let q := rf s R.qeQD_INDEX
     let d := (rd s R.qeQD_W0.addr, rd s R.qeQD_W1.addr)
     (q < s.cfg.part.queues → ∃ t, exec .qdRead s = .next t ∧ rd t R.qeQD_W0.addr = (qdAt s q).1 ∧
        rd t R.qeQD_W1.addr = (qdAt s q).2 ∧ rf t R.qeQD_STATUS = 0 ∧
        s.sameBut t [R.qeQD_W0.addr, R.qeQD_W1.addr, R.qeQD_STATUS.addr]) ∧
     (s.cfg.part.queues ≤ q → ∃ t, exec .qdRead s = .next t ∧ rf t R.qeQD_STATUS = 1 ∧ s.sameBut t [R.qeQD_STATUS.addr]) ∧
     (q < s.cfg.part.queues → qdOk s d = true → ∃ t, exec .qdWrite s = .next t ∧ qdAt t q = d ∧ rf t R.qeQD_STATUS = 0 ∧
        (∀ j, j ≠ q → qdAt t j = qdAt s j) ∧ s.sameBut t [R.qeQD_STATUS.addr]) ∧
     (s.cfg.part.queues ≤ q ∨ qdOk s d = false → ∃ t, exec .qdWrite s = .next t ∧ t.fld = s.fld ∧ rf t R.qeQD_STATUS = 1)) ∧
    (∀ (p q : Nat) (v tag : Word), p < s.cfg.part.ports → s.fld.ports.length = s.cfg.part.ports → (port s p).fifo = [(q, v, tag)] →
      (∀ j, j ≠ p → (port s j).fifo = []) → s.bm.comb = [] →
      (bit (qdAt s q).1.toNat 34 = false → ∃ t, exec .sampleCommit s = .next t ∧ (port t p).fifo = [] ∧ t.bm = s.bm ∧
        rf t R.qeQDIS_CNT = min (rf s R.qeQDIS_CNT + 1) (2 ^ 36 - 1) ∧ s.sameBut t [R.qeQDIS_CNT.addr]) ∧
      (let w0 := (qdAt s q).1.toNat
       let wp := bits (qdAt s q).2.toNat 19 0
       let a := bulkBase + 16 * bits w0 28 0 + wp
       bit w0 34 = true → bit w0 35 = false → imgGuards s a = false → ∃ t, exec .sampleCommit s = .next t ∧ (port t p).fifo = [] ∧
        t.bm.comb = [⟨burstOf a, [(a, v), (a + 1, tag)], [], s.now⟩] ∧
        bits (qdAt t q).2.toNat 19 0 = (wp + 2) % 2 ^ bits w0 33 29 % 2 ^ 20 ∧ (qdAt t q).1 = (qdAt s q).1 ∧
        rf t R.qeCOMMIT_CNT = min (rf s R.qeCOMMIT_CNT + 1) (2 ^ 36 - 1) ∧ s.sameBut t [R.qeCOMMIT_CNT.addr])) ∧
    (s.fld.thawDue = true → rb s R.qeFROZEN = true → ∃ t, exec .queueThaw s = .next t ∧ rb t R.qeFROZEN = false ∧
      rb t R.qeTHAWING = true ∧ t.fld.thawDue = false ∧ t.fld.viewLeft = none ∧ s.sameBut t [R.qeFROZEN.addr]) ∧
    (s.fld.thawDue = false → exec .queueThaw s = .next s) ∧
    (∀ (q : Nat) (v tag : Word), rb s R.qeTHAWING = true → s.fld.hold = [(q, v, tag)] → s.fld.freezePend = none → s.sm.rmw = [] → s.sm.wait = [] →
      s.live iVEC →
      (∀ b, b < s.cfg.part.banks → bankOff s b = false) → lvtBase s + 2 * q + 1 < s.cfg.part.streamWords →
      ∃ t, exec .thawDone s = .next t ∧ rd t (lvtBase s + 2 * q) = v ∧ rd t (lvtBase s + 2 * q + 1) = tag ∧ t.fld.hold = [] ∧
        rb t R.qeTHAWING = false ∧ rf t R.qeHOLD_USED = 0 ∧
        s.sameBut t [lvtBase s + 2 * q, lvtBase s + 2 * q + 1, R.qeTHAWING.addr, R.qeHOLD_USED.addr])

/-- Output streams and the Keeper (R230 to R234, R219): a FRAME_EMIT takes its valid streams from the Keeper; assembling one reads its
values, keeps them as its Keeper image and queues the SCHED frame; a frame is sent in turn and counted; the Keeper replays a stream
whose period is over, or makes it EXPIRED; KPRIME and a cleared VALID set the stream's state; a time transmitter sends its
sync and a port with a role asks for the peer delay.
The model's choices in it: log entries 8 and 60. -/
def Obligations.FieldStreamsSentAndKept : Prop :=
  ∀ (s : State) (p : Nat), s.live iFLD → p < s.cfg.part.ports → s.fld.ports.length = s.cfg.part.ports →
    (∀ (e : Emit) (es : List (Nat × Emit)), s.fld.emitFly = (p, e) :: es → ∃ t, exec (.frameEmitArrival p) s = .next t ∧ t.fld.emitFly = es ∧
      (port t p).emits = (port s p).emits ++ [e] ∧
      ∀ st, st < 1024 → e.next ≤ st → st < e.next + e.left → rb s (R.fpVALID p st) = true → rb t (R.fpKOWN p st) = false) ∧
    (∀ (st ps : Nat) (ap : Bool), (port s p).emits = [⟨st, 1, ps, ap⟩] →
      (1024 ≤ st ∨ rb s (R.fpVALID p st) = false → ∃ t, exec (.streamAssembly p) s = .next t ∧ rb t (R.fpEMIT_SKIP p) = true ∧
        (port t p).emits = [] ∧ (port t p).tx = (port s p).tx ∧ s.sameBut t [(R.fpEMIT_SKIP p).addr]) ∧
      (let n := rf s (R.fpN p st)
       let vs := (List.range n).map fun i => rd s (rf s (R.fpSRC p st) + i)
       st < 1024 → rb s (R.fpVALID p st) = true → n + 5 ≤ payLimit (rb s (R.fpJUMBO p)) (rb s (R.ndENCAP (rf s (R.fpNODE p st)))) →
        rf s (R.fpSRC p st) + n ≤ s.cfg.part.streamWords → s.sm.rmw = [] → s.sm.wait = [] → s.ecc = [] → (∀ b, b < s.cfg.part.banks → bankOff s b = false) →
        s.live iMWY → s.live iVEC → rb s (R.fpPROBE_EN p st) = false → rb s (R.fpTX_INHIBIT p) = false → portSends s p = true →
        ∃ t, exec (.streamAssembly p) s = .next t ∧ (port t p).emits = [] ∧ (port t p).tx = (port s p).tx ++
            [⟨.sched, st, rf s (R.fpNODE p st), outWords s p st 0 (tagNow s) vs, 0, 0, 0, []⟩] ∧
          (∀ i, i < n → rd t (R.fpKMEM p ((rf s (R.fpKOFS p st) + i) % 32768)).addr = vs.getD i 0#36) ∧
          rf t (R.fpSEQ p st) = (rf s (R.fpSEQ p st) + 1) % 2 ^ 16 ∧ rf t (R.fpKSTATE p st) = 1 ∧
          rf t (R.fpLAST_SCHED p st) = tagNow s ∧ t.cas.digVals = s.cas.digVals ++ vs)) ∧
    (∀ f : TxFrame, rb s (R.fpLINK p) = true → portSends s p = true → (port s p).tx = [f] →
      (f.cls = .sched → rb s (R.fpTX_INHIBIT p) = false → ∃ t, exec (.frameTransmit p) s = .next t ∧ (port t p).tx = [] ∧
        (port t p).sent = some (frameOut s p f) ∧ rf t (R.fpTX_SCHED p) = min (rf s (R.fpTX_SCHED p) + 1) (2 ^ 36 - 1)) ∧
      (f.cls = .keep → rb s (R.fpTX_INHIBIT p) = false → ∃ t, exec (.frameTransmit p) s = .next t ∧ (port t p).tx = [] ∧
        (port t p).sent = some (frameOut s p f) ∧ rf t (R.fpTX_KEEP p) = min (rf s (R.fpTX_KEEP p) + 1) (2 ^ 36 - 1)) ∧
      (f.cls = .ptp ∨ f.cls = .other → ∃ t, exec (.frameTransmit p) s = .next t ∧ (port t p).tx = [] ∧
        (port t p).sent = some (frameOut s p f) ∧ t.mem = s.mem) ∧
      (f.cls = .sched ∨ f.cls = .keep → rb s (R.fpTX_INHIBIT p) = true → ∃ t, exec (.frameTransmit p) s = .next t ∧
        (port t p).tx = [] ∧ (port t p).sent = (port s p).sent ∧ t.mem = s.mem)) ∧
    (let sync : TxFrame := ⟨.ptp, 0, 0, [mkW (dtNs s.devTime), mkW (dtSec s.devTime)], 0x0180C200000E, 0, 0, []⟩
     let delay : TxFrame := ⟨.ptp, 2, ((port s p).pdSeq + 1) % 65536, [], 0x0180C200000E, 0, 0, []⟩
     (rf s (R.fpPTP_ROLE p) = 1 → portSends s p = true → ∃ t, exec (.ptpSyncTransmit p) s = .next t ∧ t.mem = s.mem ∧
        (port t p).tx = (port s p).tx ++ [sync, delay]) ∧
     (rf s (R.fpPTP_ROLE p) = 2 → rf s R.fcTIME_SRC = p → portSends s p = true → ∃ t, exec (.ptpSyncTransmit p) s = .next t ∧
        t.mem = s.mem ∧ (port t p).tx = (port s p).tx ++ [delay]) ∧
     (rf s (R.fpPTP_ROLE p) = 0 ∨ (rf s (R.fpPTP_ROLE p) = 2 ∧ rf s R.fcTIME_SRC ≠ p) → exec (.ptpSyncTransmit p) s = .next s)) ∧
    (∀ st t0 : Nat, st < 1024 → kvFind (port s p).timer st = some t0 → rb s (R.fpVALID p st) = true →
      rf s (R.fpKEEP_PERIOD p st) ≠ 0 → (port s p).emits = [] → rf s (R.fpKSTATE p st) = 1 →
      ∃ t, exec (.keeperTimerExpiry p st) s = .next t ∧ t.now = max s.now (t0 + keepNs s p st) ∧ rb t (R.fpREPLAYING p) = true ∧
        rf t (R.fpSEQ p st) = (rf s (R.fpSEQ p st) + 1) % 2 ^ 16 ∧
        (rb s (R.fpKOWN p st) = true → rf t (R.fpREPLAY_CNT p st) = min (rf s (R.fpREPLAY_CNT p st) + 1) (2 ^ 36 - 1)) ∧
        (rb s (R.fpKOWN p st) = false → rf t (R.fpMISS_CNT p st) = min (rf s (R.fpMISS_CNT p st) + 1) (2 ^ 36 - 1)) ∧
        (rf s (R.fpHOLD_MAX p st) = 0 → rf t (R.fpKSTATE p st) = 1) ∧
        (∀ r, kvFind (port s p).refT st = some r → rf s (R.fpHOLD_MAX p st) ≠ 0 →
          r + rf s (R.fpHOLD_MAX p st) * 10000000 ≤ t.now → rf t (R.fpKSTATE p st) = 2 ∧ rb t (R.fpEXPIRED p) = true)) ∧
    (∀ st : Nat, st < 1024 → ∃ t, exec (.kprime p st) s = .next t ∧ kvFind (port t p).refT st = some s.now ∧
      (rf s (R.fpKSTATE p st) = 0 → rf t (R.fpKSTATE p st) = 1 ∧ kvFind (port t p).timer st = some s.now) ∧
      (rf s (R.fpKSTATE p st) ≠ 0 → rf t (R.fpKSTATE p st) = rf s (R.fpKSTATE p st)) ∧ s.sameBut t [(R.fpKSTATE p st).addr]) ∧
    (∀ st : Nat, st < 1024 → ∃ t, exec (.streamValidClear p st) s = .next t ∧ rb t (R.fpVALID p st) = false ∧
      rf t (R.fpKSTATE p st) = 0 ∧ s.sameBut t [(R.fpVALID p st).addr, (R.fpKSTATE p st).addr])

/-- Event windows, time and identification (R218, R235, R236, R244, R247, R251, R254, R256): a window closes and is acknowledged; three
seconds without sync information are HOLDOVER; a channel entry is accepted or rejected whole; PSTEP is written in CONFIGURE alone; a
forced guard trip counts and raises 168; SWAP_NOW and REVERT answer 5 or wait while Calliope plays, and else test and swap.
The model's choices in it: log entries 8, 37 and 69. -/
def Obligations.EventsTimeAndIdentification : Prop :=
  ∀ s : State,
    (∀ c b t0 : Nat, s.live iFLD → c < 16 → b < 2 → bufState s c b = 1 → kvFind s.fld.winOpen (2 * c + b) = some t0 →
      ∃ t, exec (.eventWindowClose c b) s = .next t ∧ bufState t c b = 2 ∧ bufState t c (1 - b) = bufState s c (1 - b) ∧
        s.sameBut t [(R.fcBUF_STATE c).addr]) ∧
    (∀ c b : Nat, s.live iFLD → c < 16 → b < 2 → bufState s c b = 2 → ∃ t, exec (.ack c b) s = .next t ∧ bufState t c b = 0 ∧
      bufState t c (1 - b) = bufState s c (1 - b) ∧ s.sameBut t [(R.fcBUF_STATE c).addr]) ∧
    (∀ t0 : Nat, s.live iFLD → s.fld.lastSync = some t0 → rf s R.fcTIME_SRC < 9 → (rf s R.fcSYNC_STATE = 1 ∨ rf s R.fcSYNC_STATE = 2) →
      ∃ t, exec .syncHoldoverTimeout s = .next t ∧ rf t R.fcSYNC_STATE = 3 ∧ rb t R.fcSYNC_LOST = true ∧
        t.now = max s.now (t0 + 3000000000) ∧ (rb s R.fcSYNC_LOST = false → t.raiseQ = s.raiseQ ++ [147])) ∧
    (∀ (c : Nat) (w : Word), s.live iMWY → c < 4096 → bit w.toNat 0 = true → rb s (R.idnVALID c) = false →
      (idnEntryOk s c w = false → ∃ t, exec (.channelValidWrite c w) s = .next t ∧ rb t R.idnCFG_REJECT = true ∧
        s.sameBut t [R.idnCFG_REJECT.addr]) ∧
      (idnEntryOk s c w = true → idnLive s c = true → idnTaken (idnTarget s c w) c = true →
        ∃ t, exec (.channelValidWrite c w) s = .next t ∧ rb t R.idnCONFLICT = true ∧ s.sameBut t [R.idnCONFLICT.addr]) ∧
      (idnEntryOk s c w = true → (idnLive s c = true → idnTaken (idnTarget s c w) c = false) →
        bit w.toNat 1 = rb s (R.idnENABLE c) → ∃ t, exec (.channelValidWrite c w) s = .next t ∧
        rb t (R.idnVALID c) = true ∧ rf t (R.idnPORT c) = bits w.toNat 7 5 ∧ rf t (R.idnSTREAM c) = bits w.toNat 17 8 ∧
        rf t (R.idnELEM c) = bits w.toNat 29 18 ∧ s.sameBut t [(R.idnVALID c).addr])) ∧
    (∀ w : Word, s.live iMWY → (mode s = mCONFIGURE → (∃ t, exec (.pstepWrite false w) s = .next t ∧
        rd t R.idnPSTEP_LO.addr = w ∧ s.sameBut t [R.idnPSTEP_LO.addr]) ∧ (∃ t, exec (.pstepWrite true w) s = .next t ∧
        rd t R.idnPSTEP_HI.addr = w ∧ s.sameBut t [R.idnPSTEP_HI.addr])) ∧
      (mode s ≠ mCONFIGURE → exec (.pstepWrite false w) s = .next s ∧ exec (.pstepWrite true w) s = .next s)) ∧
    (s.live iMWY → rf s R.idnGUARD_STATE = 0 → s.idn.lastStat = none → ∃ t, exec .guardForce s = .next t ∧
      rf t R.idnGUARD_STATE = 1 ∧ rb t R.idnGUARD_TRIP = true ∧ rf t R.idnTRIP_STEP = rf s R.idnPSTEP_LO ∧ rf t R.idnRUN = 0 ∧
      rf t R.idnGUARD_TRIP_CNT = min (rf s R.idnGUARD_TRIP_CNT + 1) (2 ^ 36 - 1) ∧ t.raiseQ = s.raiseQ ++ [168] ∧
      (∀ e ∈ t.fld.emitFly, e.2.apply = false)) ∧
    (s.live iMWY → calPlays s = true → (∃ t, exec .swapNow s = .next t ∧ rf t R.idnSWAP_CODE = 5 ∧ t.raiseQ = s.raiseQ ++ [171] ∧
        s.sameBut t [R.idnSWAP_CODE.addr]) ∧
      (∃ t, exec .revert s = .next t ∧ rb t R.idnREVERT_PENDING = true ∧ s.sameBut t [R.idnREVERT_PENDING.addr])) ∧
    (s.live iMWY → calPlays s = false → s.sm.rmw = [] → s.sm.wait = [] → (∃ t, exec .swapNow s = .next t ∧
        rb t R.idnREVERT_PENDING = rb s R.idnREVERT_PENDING ∧ rf t R.idnSWAP_CODE = (mapTest s false).1 ∧ ((mapTest s false).1 = 0 →
          rf t R.idnMAP_ACTIVE = 1 - rf s R.idnMAP_ACTIVE ∧ rb t R.idnSWAP_DONE = true)) ∧
      (∃ t, exec .revert s = .next t ∧ rb t R.idnREVERT_PENDING = false ∧ rf t R.idnSWAP_CODE = (mapTest (wb s R.idnREVERT_PENDING true) true).1))

/-- Ringmaster's stack and arithmetic operations on held entries (R46, R48, R264): the top entries are replaced by the result, comparisons
push all ones or zero, a shift count is at most 36, division ORs DZ and OF into ARF; the return stack keeps what TOR moved there.
The model's choices in it: log entry 23. -/
def Obligations.RmStackAndArithmetic : Prop :=
  ∀ (s : State) (n : Nat), s.rmReady n 3 →
    let c := core s n
    (∃ t, exec (.rmNop n) s = .next t ∧ s.rmNext t n c.ds c.rs c.sb []) ∧
    (∀ (a b : Word) (r : List Word), c.ds = b :: a :: r →
      (∀ e ∈ [(Instr.rmAdd n, a + b), (.rmSub n, a - b), (.rmAnd n, a &&& b), (.rmOr n, a ||| b), (.rmXor n, a ^^^ b),
          (.rmShl n, a <<< min 36 (b.toNat % 64)), (.rmShra n, a.sshiftRight (min 36 (b.toNat % 64))),
          (.rmShrl n, a >>> min 36 (b.toNat % 64)), (.eq n, if a = b then BitVec.allOnes 36 else 0#36),
          (.lt n, if a.toInt < b.toInt then BitVec.allOnes 36 else 0#36),
          (.ltu n, if a.toNat < b.toNat then BitVec.allOnes 36 else 0#36), (.rmMul n, BitVec.ofInt 36 (a.toInt * b.toInt)), (.nip n, b)],
        ∃ t, exec e.1 s = .next t ∧ s.rmNext t n (e.2 :: r) c.rs c.sb []) ∧
      (∃ t, exec (.rmMuld n) s = .next t ∧ s.rmNext t n
        (BitVec.ofInt 36 (a.toInt * b.toInt / 2 ^ 36) :: BitVec.ofInt 36 (a.toInt * b.toInt) :: r) c.rs c.sb []) ∧
      (∃ t, exec (.swap n) s = .next t ∧ s.rmNext t n (a :: b :: r) c.rs c.sb []) ∧
      (let q := idiv36 a.toInt b.toInt
       (∃ t, exec (.rmDiv n) s = .next t ∧ s.rmNext t n (BitVec.ofInt 36 q.1 :: r) c.rs c.sb [(R.rmARF n).addr] ∧
          rf t (R.rmARF n) = rf s (R.rmARF n) ||| q.2.2.toNat) ∧
       (∃ t, exec (.rmDivr n) s = .next t ∧ s.rmNext t n (BitVec.ofInt 36 q.2.1 :: BitVec.ofInt 36 q.1 :: r) c.rs c.sb
          [(R.rmARF n).addr] ∧ rf t (R.rmARF n) = rf s (R.rmARF n) ||| q.2.2.toNat)) ∧
      (c.ds.length < 16 → ∃ t, exec (.rmOver n) s = .next t ∧ s.rmNext t n (a :: b :: a :: r) c.rs c.sb []) ∧
      (∀ (z : Word) (q : List Word), r = z :: q →
        ∃ t, exec (.rot n) s = .next t ∧ s.rmNext t n (z :: b :: a :: q) c.rs c.sb [])) ∧
    (∀ (a : Word) (r : List Word), c.ds = a :: r →
      (∀ e ∈ [(Instr.rmNot n, [~~~a]), (.rmNeg n, [-a]), (.eqz n, [if a = 0#36 then BitVec.allOnes 36 else 0#36]), (.drop n, [])],
        ∃ t, exec e.1 s = .next t ∧ s.rmNext t n (e.2 ++ r) c.rs c.sb []) ∧
      (c.ds.length < 16 → ∃ t, exec (.dup n) s = .next t ∧ s.rmNext t n (a :: a :: r) c.rs c.sb []) ∧
      (a.toNat < 16 → a.toNat < c.ds.length →
        ∃ t, exec (.pick n) s = .next t ∧ s.rmNext t n (c.ds.getD a.toNat 0#36 :: r) c.rs c.sb []) ∧
      (c.rs.length < 8 → ∃ t, exec (.tor n) s = .next t ∧ s.rmNext t n r (a :: c.rs) c.sb [])) ∧
    (∀ (a : Word) (r : List Word), c.rs = a :: r → c.ds.length < 16 →
      (∃ t, exec (.fromr n) s = .next t ∧ s.rmNext t n (a :: c.ds) r c.sb []) ∧
      (∃ t, exec (.rfetch n) s = .next t ∧ s.rmNext t n (a :: c.ds) c.rs c.sb []))

/-- The stacks beyond what hardware holds (R266): a push onto sixteen held entries stores the lowest below the pointer, a pop from an
empty stack reads the memory stack and moves the pointer up, and at the stack's upper bound it takes STACK_UNF.
The model's choices in it: log entries 23 and 48. -/
def Obligations.RmStacksSpillAndFill : Prop :=
  ∀ (s : State) (n : Nat), s.rmReady n 3 → rb s (R.rmEMERG n) = false →
    let c := core s n
    let l := rmLvl s n
    let p := rf s (R.rmSPD n l)
    (∀ (a : Word) (r : List Word), c.ds = a :: r → c.ds.length = 16 → rf s (R.rmDLO n l) + 17 ≤ p → rmMay s n l 2 (p - 1) = true →
      c.sb.length < 8 → ∃ t, exec (.dup n) s = .next t ∧ rf t (R.rmSPD n l) = p - 1 ∧
        s.rmNext t n (a :: c.ds.dropLast) c.rs (c.sb ++ [⟨p - 1, .word (c.ds.getLastD 0#36), l⟩]) [(R.rmSPD n l).addr]) ∧
    (c.ds = [] → p ≠ rf s (R.rmDHI n l) → rmMay s n l 1 p = true → c.sb = [] → mwPort s p = some 25 → s.ecc = [] →
      ∃ t, exec (.rmNot n) s = .next t ∧ rf t (R.rmSPD n l) = (p + 1) % 2 ^ 36 ∧
        s.rmNext t n [~~~(rd s (mwAddr s p))] c.rs [] [(R.rmSPD n l).addr]) ∧
    (c.ds = [] → p = rf s (R.rmDHI n l) →
      exec (.drop n) s = .next (keep s (rstSettle (rmSync (rmExcept s n rcUNF 0 0 0) n))))

/-- Ringmaster's accesses (R267 to R269): loads of a core's own memory push the word, the sign-extended half or both words; stores join
the store buffer; an atomic answers the old word of Stream Memory and leaves the new one to its completion; FENCE and the draining
of an entry write the word; an address no region allows is a LOAD or STORE fault, taken as an exception.
The model's choices in it: log entries 5, 23 and 25. -/
def Obligations.RmLoadsAndStores : Prop :=
  ∀ (s : State) (n : Nat), s.rmReady n 3 → s.ecc = [] →
    let c := core s n
    let l := rmLvl s n
    (∀ (a : Word) (r : List Word), c.ds = a :: r → c.sb = [] → mwPort s a.toNat = some 25 → rmMay s n l 1 a.toNat = true →
      (∃ t, exec (.rmLd n) s = .next t ∧ s.rmNext t n (rd s (mwAddr s a.toNat) :: r) c.rs [] []) ∧
      (∃ t, exec (.rmLdh0 n) s = .next t ∧ s.rmNext t n (((rd s (mwAddr s a.toNat)).setWidth 18).signExtend 36 :: r) c.rs [] []) ∧
      (∃ t, exec (.rmLdh1 n) s = .next t ∧ s.rmNext t n (((rd s (mwAddr s a.toNat) >>> 18).setWidth 18).signExtend 36 :: r) c.rs [] []) ∧
      (c.ds.length < 16 → a.toNat + 1 < 2 ^ 36 → mwPort s (a.toNat + 1) = some 25 → rmMay s n l 1 (a.toNat + 1) = true →
        ∃ t, exec (.rmLdd n) s = .next t ∧ s.rmNext t n (rd s (mwAddr s (a.toNat + 1)) :: rd s (mwAddr s a.toNat) :: r) c.rs [] [])) ∧
    (∀ (a : Word) (r : List Word), c.ds = a :: r → rmMay s n l 1 a.toNat = false → ∀ i ∈ [Instr.rmLd n, .rmLdh0 n, .rmLdh1 n, .rmLdd n],
      exec i s = .next (keep s (rstSettle (rmSync (rmExcept s n rcLOAD 0 0 a.toNat) n)))) ∧
    (∀ (a v : Word) (r : List Word), c.ds = a :: v :: r → c.sb.length < 8 → rmMay s n l 2 a.toNat = true →
      ∀ e ∈ [(Instr.rmSt n, SbKind.word v), (.rmSth0 n, .half false (v.setWidth 18)), (.rmSth1 n, .half true (v.setWidth 18))],
        ∃ t, exec e.1 s = .next t ∧ s.rmNext t n r c.rs (c.sb ++ [⟨a.toNat, e.2, l⟩]) []) ∧
    (∀ (a v : Word) (r : List Word), c.ds = a :: v :: r → rmMay s n l 2 a.toNat = false →
      ∀ i ∈ [Instr.rmSt n, .rmSth0 n, .rmSth1 n, .xadd n, .xswap n],
        exec i s = .next (keep s (rstSettle (rmSync (rmExcept s n rcSTORE 0 0 a.toNat) n)))) ∧
    (∀ (a hi lo : Word) (r : List Word), c.ds = a :: hi :: lo :: r → c.sb.length < 7 → rmMay s n l 2 a.toNat = true →
      rmMay s n l 2 ((a.toNat + 1) % 2 ^ 36) = true → ∃ t, exec (.rmStd n) s = .next t ∧ s.rmNext t n r c.rs (c.sb ++
        (if a.toNat % 2 = 0 then [⟨a.toNat, .dbl lo hi, l⟩]
         else [⟨a.toNat, .word lo, l⟩, ⟨(a.toNat + 1) % 2 ^ 36, .word hi, l⟩])) []) ∧
    (∀ (a v : Word) (r : List Word), c.ds = a :: v :: r → c.sb = [] → rmMay s n l 2 a.toNat = true →
      a.toNat < s.cfg.part.streamWords → s.live iVEC → rb s R.smINIT_DONE = true → s.sm.rmw = [] → s.sm.wait = [] →
      bankOff s (smBank s a.toNat) = false → rb s R.smLVT_PROT = false →
      ∀ e ∈ [(Instr.xadd n, rd s a.toNat + v), (.xswap n, v)], ∃ t, exec e.1 s = .next t ∧
        s.rmNext t n (rd s a.toNat :: r) c.rs [] [] ∧ kvFind t.sm.rmw (smBank s a.toNat) = some (a.toNat, e.2)) ∧
    (∀ (a : Nat) (w : Word) (k : Nat), c.sb = [⟨a, .word w, k⟩] → mwPort s a = some 25 →
      (∃ t, exec (.fence n) s = .next t ∧ rd t (mwAddr s a) = w ∧ s.rmNext t n c.ds c.rs [] [mwAddr s a]) ∧
      (∃ t, exec (.storeBufferDrain n) s = .next t ∧ rd t (mwAddr s a) = w ∧ (core t n).sb = [] ∧ (core t n).pc = c.pc ∧
        s.sameBut t [mwAddr s a]))

/-- Literals, branches, calls and gates (R263, R264, R271 to R273): an operation whose word has not been fetched is fetched first, and takes
FETCH where its level may not execute there; an operand field ends its word and is taken from the slots left; branches go
to the word after plus the field; CALL and CALLS leave the next word on the return stack; a GATE through a good entry passes its
arguments and its return frame to the target level, and RETG takes the frame back; an operand-carrying operation in slot 3 is illegal.
The model's choices in it: log entries 23 and 48. -/
def Obligations.RmControlFlow : Prop :=
  (∀ (s : State) (n : Nat) (fld : BitVec 27) (lit : Word), s.live iRMC → rmRuns s n = true → s.cores.length = s.cfg.part.cores →
    s.rstReq = [] → kvFind (core s n).words (core s n).pc = none →
    let pc := (core s n).pc
    let may := rmMay s n (rmLvl s n) 3 pc
    ∀ i ∈ [Instr.rmNop n, .dup n, .drop n, .swap n, .rmOver n, .rot n, .nip n, .pick n, .tor n, .fromr n, .rfetch n, .rmAdd n, .rmSub n,
        .rmAnd n, .rmOr n, .rmXor n, .rmNot n, .rmNeg n, .rmShl n, .rmShra n, .rmShrl n, .eq n, .lt n, .ltu n, .eqz n, .rmMul n, .rmMuld n,
        .rmDiv n, .rmDivr n, .rmLd n, .rmSt n, .rmLdh0 n, .rmLdh1 n, .rmSth0 n, .rmSth1 n, .rmLdd n, .rmStd n, .xadd n, .xswap n, .fence n,
        .ret n, .jmps n, .calls n, .retg n, .retx n, .wait n, .ei n, .di n, .srd n, .swr n, .trap n, .vissue n, .vresume n, .lit n fld,
        .litw n fld lit, .rmBr n fld, .bz n fld, .bnz n fld, .call n fld, .gate n fld],
      (may = true → mwPort s pc = some 25 → s.ecc = [] →
        exec i s = exec i (modCore s n fun c => { c with words := c.words ++ [(pc, rd s (mwAddr s pc))] })) ∧
      (may = false → exec i s = .next (keep s (rstSettle (rmSync (rmExcept s n rcFETCH 0 0 pc) n))))) ∧
  ∀ (s : State) (n : Nat), s.rmReady n 3 →
    let c := core s n
    let l := rmLvl s n
    let next := (c.pc + 1) % 2 ^ 36
    (∀ (fld : BitVec 27) (lit : Word), c.ds.length < 16 → fld.toNat % 2 ^ (9 * (3 - c.slot)) = 0 → (kvFind c.words next).isSome = true →
      ∃ t, exec (.litw n fld lit) s = .next t ∧ s.rmWent t n (lit :: c.ds) c.rs ((next + 1) % 2 ^ 36)) ∧
    (∀ fld : BitVec 27, c.slot < 3 →
      let k := sext (9 * (3 - c.slot)) (fld.toNat % 2 ^ (9 * (3 - c.slot)))
      let go := (((c.pc : Int) + 1 + k) % (2 ^ 36 : Int)).toNat
      (c.ds.length < 16 → ∃ t, exec (.lit n fld) s = .next t ∧ s.rmWent t n (BitVec.ofInt 36 k :: c.ds) c.rs next) ∧
      (∃ t, exec (.rmBr n fld) s = .next t ∧ s.rmWent t n c.ds c.rs go) ∧
      (∀ (a : Word) (r : List Word), c.ds = a :: r →
        (∃ t, exec (.bz n fld) s = .next t ∧ s.rmWent t n r c.rs (if a = 0#36 then go else next)) ∧
        (∃ t, exec (.bnz n fld) s = .next t ∧ s.rmWent t n r c.rs (if a = 0#36 then next else go))) ∧
      (c.rs.length < 8 → ∃ t, exec (.call n fld) s = .next t ∧ s.rmWent t n c.ds (mkW next :: c.rs) go)) ∧
    (∀ fld : BitVec 27, c.slot = 3 → ∀ i ∈ [Instr.lit n fld, .rmBr n fld, .bz n fld, .bnz n fld, .call n fld, .gate n fld],
      exec i s = .next (keep s (rstSettle (rmSync (rmExcept s n rcILLEGAL 0 0 0) n)))) ∧
    (∀ (a : Word) (r : List Word), c.rs = a :: r → ∃ t, exec (.ret n) s = .next t ∧ s.rmWent t n c.ds r a.toNat) ∧
    (∀ (a : Word) (r : List Word), c.ds = a :: r → (∃ t, exec (.jmps n) s = .next t ∧ s.rmWent t n r c.rs a.toNat) ∧
      (c.rs.length < 8 → ∃ t, exec (.calls n) s = .next t ∧ s.rmWent t n r (mkW next :: c.rs) a.toNat)) ∧
    (∀ (fld : BitVec 27) (g : Nat), c.slot < 3 → rmField s n fld = g → rf s (R.rmGT_COUNT n) ≤ g →
      exec (.gate n fld) s = .next (keep s (rstSettle (rmSync (rmExcept s n rcGATE 1 0 g) n)))) ∧
    (∀ (fld : BitVec 27) (g : Nat), c.slot < 3 → rmField s n fld = g → g < rf s (R.rmGT_COUNT n) → c.sb = [] → c.rs = [] → s.ecc = [] →
      rb s (R.rmEMERG n) = false →
      let e := rf s (R.rmGT_BASE n) + 2 * g
      let w := rdN s (mwAddr s (e + 1))
      let tl := w % 4
      mwPort s e = some 25 → mwPort s (e + 1) = some 25 → bit w 35 = true → bits w 7 4 ≤ 8 → c.ds.length = bits w 7 4 →
      l ≤ bits w 3 2 → tl ≤ l → bits w 15 8 = 0 → rf s (R.rmDLO n tl) + bits w 7 4 ≤ rf s (R.rmSPD n tl) →
      rf s (R.rmSPD n tl) ≤ rf s (R.rmDHI n tl) → rf s (R.rmQLO n tl) + 3 ≤ rf s (R.rmSPQ n tl) →
      rf s (R.rmSPQ n tl) ≤ rf s (R.rmQHI n tl) →
      ∃ t, exec (.gate n fld) s = .next t ∧ rmLvl t n = tl ∧ (core t n).pc = rdN s (mwAddr s e) ∧ (core t n).slot = 0 ∧ (core t n).ds = c.ds ∧
        (core t n).rs = [mkW (rmStat s n 0), mkW (rf s (R.rmSPD n tl)), mkW next]) ∧
    (∀ (rc a0 a1 a2 : Word) (r : List Word), c.ds.headD 0#36 = rc → rc.toNat ≤ 8 → rc.toNat < c.ds.length → c.rs = a0 :: a1 :: a2 :: r →
      l ≤ a0.toNat % 4 → a0.toNat % 4 ≠ 3 → rb s (R.rmEMERG n) = false →
      ∃ t, exec (.retg n) s = .next t ∧ rmLvl t n = a0.toNat % 4 ∧ (core t n).pc = a2.toNat ∧ (core t n).slot = 0 ∧
        (core t n).ds = (c.ds.drop 1).take rc.toNat ∧ (core t n).rs = [] ∧ rf t (R.rmSPD n l) = a1.toNat)

/-- Exceptions and the return from one (R275, R276, R281): TRAP with nothing held and a good vector saves PC, STAT, CAUSE and FADDR in the
task-state block, moves TSBP on, counts, and goes to the handler's level, IE and address; RETX restores them from the block; a
request or a posted error is taken the same way, and a privileged operation at TASK takes PRIVILEGED.
The model's choices in it: log entries 23, 25 and 48. -/
def Obligations.RmExceptionsAndReturns : Prop :=
  ∀ (s : State) (n : Nat),
    let c := core s n
    let l := rmLvl s n
    let home := fun a k : Nat => coreLocal n ≤ a ∧ a + k ≤ coreLocal n + 0x10000
    let enter := fun (x : State) (cause addr : Nat) => Host.Outcome.next (ρ := Refusal) (φ := Fault)
      (keep s (rstSettle (rmSync (rmExcept x n cause 0 0 addr) n)))
    (let t0 := rf s (R.rmTSBP n) * 32
     let va := rf s (R.rmVT_BASE n) * 32 + 2 * 0xC
     let hl := rdN s (va + 1) % 4
     let inb := fun k : Nat => rf s (R.rmDLO n k) ≤ rf s (R.rmSPD n k) ∧ rf s (R.rmSPD n k) ≤ rf s (R.rmDHI n k) ∧
      rf s (R.rmQLO n k) ≤ rf s (R.rmSPQ n k) ∧ rf s (R.rmSPQ n k) ≤ rf s (R.rmQHI n k)
     s.rmReady n 3 → rb s (R.rmEMERG n) = false → c.sb = [] → c.ds = [] → c.rs = [] → s.ecc = [] → l < 3 → home t0 64 → home va 2 →
      (va + 2 ≤ t0 ∨ t0 + 11 ≤ va) → t0 + 64 ≤ rf s (R.rmTSB_LIM n) → hl < 3 → inb l → inb hl →
      ∃ t, exec (.trap n) s = .next t ∧ rmLvl t n = hl ∧ rb t (R.rmIE n) = bit (rdN s (va + 1)) 2 ∧ (core t n).pc = rdN s va ∧
        (core t n).slot = 0 ∧ rf t (R.rmTSBP n) = (rf s (R.rmTSBP n) + 1) % 2 ^ 31 ∧
        rf t (R.rmENTRY_CNT n) = min (rf s (R.rmENTRY_CNT n) + 1) (2 ^ 36 - 1) ∧ rdN t (t0 + 2) = 0xC ∧ rdN t (t0 + 3) = 0 ∧
        rd t t0 = mkW (if c.slot < 3 then c.pc else (c.pc + 1) % 2 ^ 36) ∧
        rd t (t0 + 1) = mkW (rmStat s n (if c.slot < 3 then c.slot + 1 else 0))) ∧
    (let t0 := rf s (R.rmTSBP n) * 32 - 32
     let w := fun i => rdN s (t0 + i)
     let sl := w 1 % 4
     s.rmReady n 1 → rb s (R.rmEMERG n) = false → c.sb = [] → s.ecc = [] → 0 < rf s (R.rmTSBP n) → home t0 32 → sl < 3 → l ≤ sl →
      w 11 % 2 = 0 → (∀ k, k < 3 → k = sl ∨ l < k → rf s (R.rmDLO n k) ≤ w (4 + 2 * k) ∧ w (4 + 2 * k) ≤ rf s (R.rmDHI n k) ∧
        rf s (R.rmQLO n k) ≤ w (5 + 2 * k) ∧ w (5 + 2 * k) ≤ rf s (R.rmQHI n k)) →
      ∃ t, exec (.retx n) s = .next t ∧ rmLvl t n = sl ∧ rb t (R.rmIE n) = bit (w 1) 2 ∧ (core t n).pc = w 0 ∧
        (core t n).slot = bits (w 1) 9 8 ∧ (core t n).ds = [] ∧ (core t n).rs = [] ∧ rf t (R.rmTSBP n) = rf s (R.rmTSBP n) - 1 ∧
        rf t (R.rmSPD n sl) = w (4 + 2 * sl) ∧ rf t (R.rmSPQ n sl) = w (5 + 2 * sl)) ∧
    (s.rmReady n 3 → 1 < l → ∀ i ∈ [Instr.ei n, .di n, .wait n, .retx n], exec i s = enter s rcPRIV 0) ∧
    (let q := icLinePri s n
     s.live iRMC → rmRuns s n = true → rb s (R.rmIE n) = true → (icBest s n).isSome = true → exec (.exceptionEntry n) s =
      .next (keep s (rstSettle (rmSync (rmEnterAt s n (0x10 + min q (c.ent.getD q)) (0x10 + q) 0 0 0) n)))) ∧
    (∀ (a : Nat) (r : List Nat), s.live iRMC → rmRuns s n = true → c.perr = a :: r →
      exec (.postedErr n) s = enter (modCore s n fun c => { c with perr := r }) rcPOSTED a)

/-- The system operations of a core (R265, R282 to R284, R297, R393): EI and DI, special registers, WAIT and its end, the wake of a core that
was off, the watchdog's warning and strikes, RESTART of a stopped core, and what VISSUE, VRESUME and a remote access wait for.
The model's choices in it: log entries 8, 23, 49 and 50. -/
def Obligations.RmSystemOperations : Prop :=
  ∀ (s : State) (n : Nat),
    let c := core s n
    let l := rmLvl s n
    let b := blkBase .rm n
    (s.rmReady n 1 → (∃ t, exec (.ei n) s = .next t ∧ rb t (R.rmIE n) = true ∧ s.rmNext t n c.ds c.rs c.sb [b]) ∧
      (∃ t, exec (.di n) s = .next t ∧ rb t (R.rmIE n) = false ∧ s.rmNext t n c.ds c.rs c.sb [b]) ∧
      (n = 0 ∨ bit (rf s R.pwrCORE_OFF) (n - 1) = false →
        ∃ t, exec (.wait n) s = .next t ∧ (core t n).hold = .wait ∧ (core t n).pw = .on ∧ s.rmNext t n c.ds c.rs c.sb []) ∧
      (1 ≤ n → bit (rf s R.pwrCORE_OFF) (n - 1) = true → ∃ t, exec (.wait n) s = .next t ∧ (core t n).pw ≠ .on ∧
        (core t n).hold = .wait)) ∧
    (∀ (o : Word) (r : List Word), s.rmReady n 3 → rb s (R.rmEMERG n) = false → c.ds = o :: r →
      (srNamed o.toNat = true → srMayRead o.toNat l = true → o.toNat ≠ 7 →
        ∃ t, exec (.srd n) s = .next t ∧ s.rmNext t n (rd s (b + o.toNat) :: r) c.rs c.sb []) ∧
      (srNamed o.toNat = false → exec (.srd n) s = .next (keep s (rstSettle (rmSync (rmExcept s n rcILLEGAL 0 0 0) n)))) ∧
      (srNamed o.toNat = true → srMayRead o.toNat l = false →
        exec (.srd n) s = .next (keep s (rstSettle (rmSync (rmExcept s n rcPRIV 0 0 0) n)))) ∧
      (∀ (v : Word) (q : List Word), r = v :: q →
        (o.toNat = 2 ∨ o.toNat = 4 → l = 0 → ∃ t, exec (.swr n) s = .next t ∧ rd t (b + o.toNat) = v ∧
          s.rmNext t n q c.rs c.sb [b + o.toNat]) ∧
        (srNamed o.toNat = true → srMayWrite o.toNat l = false →
          exec (.swr n) s = .next (keep s (rstSettle (rmSync (rmExcept s n rcPRIV 0 0 0) n)))))) ∧
    (s.live iRMC → n < s.cfg.part.cores → s.cores.length = s.cfg.part.cores →
      (c.hold = .wait → c.pw = .on → rb s (R.rmSTOPPED n) = false → c.rose = true →
        ∃ t, exec (.waitWake n) s = .next t ∧ (core t n).hold = .none ∧ t.now = s.now + 40 ∧ s.sameBut t [(R.rmDCNT n).addr]) ∧
      (∀ d, c.pw = .waking d → ∃ t, exec (.coreWakeDone n) s = .next t ∧ (core t n).pw = .on ∧ (core t n).hold = .none ∧
        t.now = max s.now d) ∧
      (rb s (R.rmWD_EN n) = true → rf s (R.rmWD_WARN n) ≠ 0 → c.wdWarned = false → c.pw = .on →
        ∃ t, exec (.watchdogWarning n) s = .next t ∧ (core t n).wdWarned = true ∧ t.raiseQ = s.raiseQ ++ [12 + n] ∧ t.mem = s.mem ∧
          t.now = max s.now (c.wdFrom + (rf s (R.rmWD_PERIOD n) - rf s (R.rmWD_WARN n)) * 1000)) ∧
      (rb s (R.rmWD_EN n) = true → c.pw = .on → s.rstReq = [] → s.aonOn = true → s.pwr.ph = .run → s.pwr.holdAt = none →
        (rb s (R.rmWD_STRIKE n) = false → coldReleasing s = false → ∃ t, exec (.watchdogExpiry n) s = .next t ∧
          rb t (R.rmWD_STRIKE n) = true ∧ t.rstReq = [(6, false)] ∧ (core t n).wdFrom = t.now ∧ s.sameBut t [(R.rmWD_STRIKE n).addr]) ∧
        (rb s (R.rmWD_STRIKE n) = true → ∃ t, exec (.watchdogExpiry n) s = .next t ∧ rf t R.pwrLAST_RESET = 7)) ∧
      (c.pw = .on → ∃ t, exec (.wdKick n) s = .next t ∧ (core t n).wdFrom = s.now ∧ (core t n).wdWarned = false ∧ t.mem = s.mem) ∧
      (rb s (R.rmSTOPPED n) = true → ∃ t, exec (.restart n) s = .next t ∧ rb t (R.rmSTOPPED n) = false ∧
        (core t n).pc = rf s (R.rmRESTART_PC n) ∧ (core t n).slot = 0 ∧ (core t n).ds = [] ∧ (core t n).rs = [] ∧ (core t n).sb = [])) ∧
    (s.rmReady n 3 → (4 ≤ c.ds.length → ∃ t, exec (.vissue n) s = .next t ∧ (core t n).hold = .vec 0x058 [] ∧
        (core t n).ds = c.ds ∧ (core t n).pc = c.pc ∧ (core t n).slot = c.slot) ∧
      (∀ (p a : Word) (r : List Word), c.ds = p :: a :: r → c.sb = [] → s.ecc = [] →
        let at_ := fun k : Nat => (a.toNat + 20 + k) % 2 ^ 36
        let ws := (List.range 12).map fun k => rd s (mwAddr s (at_ k))
        (∀ k, k < 12 → mwPort s (at_ k) = some 25 ∧ rmMay s n l 1 (at_ k) = true) →
        (resPosOk s n l ws = true → ∃ t, exec (.vresume n) s = .next t ∧ (core t n).hold = .vec 0x059 ws ∧ (core t n).ds = c.ds ∧
          (core t n).pc = c.pc ∧ (core t n).slot = c.slot) ∧
        (resPosOk s n l ws = false →
          exec (.vresume n) s = .next (keep s (rstSettle (rmSync (rmExcept s n rcRESTORE 2 0 0) n)))))) ∧
    (∀ (p w2 w1 w0 : Word) (r ws : List Word), s.live iRMC → n < s.cfg.part.cores →
      s.cores.length = s.cfg.part.cores → s.rstReq = [] → c.hold = .vec 0x058 ws → c.ds = p :: w2 :: w1 :: w0 :: r →
      (s.cfg.part.pipes ≤ p.toNat → ∃ t, exec (.vectorIssueReply n) s = .next t ∧ (core t n).ds = 3#36 :: r ∧
        (core t n).hold = .none) ∧
      (p.toNat < s.cfg.part.pipes → isUp s iVEC = true → s.pipeReady p.toNat → ∃ t, exec (.vectorIssueReply n) s = .next t ∧
        (core t n).ds = 0#36 :: r ∧ (core t n).hold = .none ∧
        (pipe t p.toNat).rmQ.map (fun e => (e.w0, e.w1, e.w2)) = [(w0, w1, w2)])) ∧
    (∀ (a w : Word) (r : List Word) (tag dest lk : Nat), s.live iRMC → n < s.cfg.part.cores →
      s.cores.length = s.cfg.part.cores → s.rstReq = [] → c.hold = .remote (.op 0x30) [(a.toNat, tag)] [] → tag < 128 →
      s.cas.rem = [⟨tag, .core, dest, lk, some (0, [w])⟩] → c.ds = a :: r → c.sb = [] → rmMay s n l 1 a.toNat = true →
      ∃ t, exec (.remoteAccessReply n) s = .next t ∧ (core t n).ds = w :: r ∧ (core t n).hold = .none ∧ t.cas.rem = [] ∧
        s.sameBut t [(R.rmREMOTE_WAIT_CNT n).addr, (R.rmDCNT n).addr])


/-- The interrupt controller (R286, R287, R290, R291, R294, R296): the oldest raise of an island arrives first (R9); it, and SET, leave the source pending, CLEAR takes that
back; after each, every core's LINE says whether a source is eligible for it; a claim takes the best eligible source, or 511; an
EOI of the newest claimed source ends it, any other but 511 sets EOI_ERR; the hold-off of a group ends in time.
The model's choices in it: log entry 14. -/
def Obligations.InterruptsRaisedClaimedAndEnded : Prop :=
  ∀ s : State, s.live iRMC →
    let lines := (List.range 4).map fun k => (R.icLINE k).addr
    let told := fun (t : State) => ∀ k, k < s.cfg.part.cores → rb t (R.icLINE k) = (icBest t k).isSome
    (∀ src : Nat, s.raiseQ.find? (fun k => decide (srcIsland k = srcIsland src)) ≠ some src → exec (.sourceRaise src) s = .next s) ∧
    (∀ src : Nat, 256 ≤ src → exec (.set src) s = .next s ∧ exec (.clear src) s = .next s) ∧
    (∀ src : Nat, src < 256 →
      (s.raiseQ.find? (fun k => decide (srcIsland k = srcIsland src)) = some src → ∃ t, exec (.sourceRaise src) s = .next t ∧ t.raiseQ = s.raiseQ.erase src ∧ rb t (R.icPENDING src) = true ∧
        told t ∧ s.sameBut t ((R.icPENDING src).addr :: R.icNO_AVAIL.addr :: lines)) ∧
      (∃ t, exec (.set src) s = .next t ∧ t.raiseQ = s.raiseQ ∧ rb t (R.icPENDING src) = true ∧ told t ∧
        s.sameBut t ((R.icPENDING src).addr :: R.icNO_AVAIL.addr :: lines)) ∧
      (∃ t, exec (.clear src) s = .next t ∧ t.raiseQ = s.raiseQ ∧ rb t (R.icPENDING src) = false ∧ told t ∧
        s.sameBut t ((R.icPENDING src).addr :: R.icNO_AVAIL.addr :: lines))) ∧
    (∀ n src : Nat, icBest s n = some src →
      let d := rf s (R.icRDEPTH n)
      let p := if s.cfg.part.stacked then rf s (R.icPRIO src) else 0
      ∃ t, exec (.claim n) s = .next t ∧ kvFind t.ic.claimed n = some src ∧ rb t (R.icACTIVE src) = true ∧
        rb t (R.icPENDING src) = false ∧ rf t (R.icOWNER src) = n ∧ rf t (R.icRDEPTH n) = d + 1 ∧ rf t (R.icSTK_SRC n d) = src ∧
        rf t (R.icRUNPRI n) = p ∧ rf t (R.rmRPRI n) = p ∧ (rf s (R.icHOLDOFF (src / 8)) ≠ 0 → rb t (R.icHO_RUN (src / 8)) = true ∧
          kvFind t.ic.hoDue (src / 8) = some (s.now + rf s (R.icHOLDOFF (src / 8)) * 1000)) ∧ told t ∧
        s.sameBut t ([(R.icPENDING src).addr, (R.icSTK_SRC n d).addr, (R.rmRPRI n).addr, (R.icHO_RUN (src / 8)).addr,
          R.icNO_AVAIL.addr] ++ lines)) ∧
    (∀ n : Nat, n < s.cfg.part.cores → icBest s n = none → ∃ t, exec (.claim n) s = .next t ∧ kvFind t.ic.claimed n = some 511 ∧
      rf t (R.icSPUR_CNT n) = min (rf s (R.icSPUR_CNT n) + 1) (2 ^ 36 - 1) ∧ s.sameBut t [(R.icSPUR_CNT n).addr]) ∧
    (∀ n v : Nat, s.cfg.part.cores ≤ n → exec (.claim n) s = .next s ∧ exec (.eoi n v) s = .next s) ∧
    (∀ n v : Nat, n < s.cfg.part.cores → 0 < rf s (R.icRDEPTH n) → v % 512 ≠ 511 →
      rf s (R.icSTK_SRC n (rf s (R.icRDEPTH n) - 1)) = v % 512 →
      exec (.eoi n v) s = .next (keep s (icArb (icPop (wb s (R.icACTIVE (v % 512)) false) n)))) ∧
    (∀ n v : Nat, n < s.cfg.part.cores → v < 511 →
      let d := rf s (R.icRDEPTH n)
      (v < 256 → 0 < d → d ≤ 8 → rf s (R.icSTK_SRC n (d - 1)) = v → ∃ t, exec (.eoi n v) s = .next t ∧ rb t (R.icACTIVE v) = false ∧
        rf t (R.icRDEPTH n) = d - 1 ∧ rf t (R.icRUNPRI n) = (if d = 1 then 0 else rf s (R.icSTK_PRI n (d - 2))) ∧
        rf t (R.rmRPRI n) = rf t (R.icRUNPRI n) ∧ told t ∧
        s.sameBut t ([(R.icACTIVE v).addr, (R.icSTK_SRC n (d - 1)).addr, (R.rmRPRI n).addr, R.icNO_AVAIL.addr] ++ lines)) ∧
      (d = 0 ∨ rf s (R.icSTK_SRC n (d - 1)) ≠ v → ∃ t, exec (.eoi n v) s = .next t ∧ rb t R.icEOI_ERR = true ∧
        s.sameBut t [R.icEOI_ERR.addr])) ∧
    (∀ n, exec (.eoi n 511) s = .next s) ∧
    (∀ g t0 : Nat, g < 32 → kvFind s.ic.hoDue g = some t0 → ∃ t, exec (.holdoffExpiry g) s = .next t ∧ t.now = max s.now t0 ∧
      rb t (R.icHO_RUN g) = false ∧ kvFind t.ic.hoDue g = none ∧ told t ∧
      s.sameBut t ((R.icHO_RUN g).addr :: R.icNO_AVAIL.addr :: lines))

/-- Links and HELLO (R331, R333 to R336): a trained link is UP with whole credits and raises 176 + l; a lost one leaves UP, and its report follows
after LINK_DOWN_US; every change settles Calliope's losses; a GAP block records the stamps and returns credits, and a waiting packet
leaves as its blocks, and gives the buffer of the link it came from its credit back; a window sets RTT and counts; HELLO says who the module
is, and one received sets the peer, duplicate, claim and routes. The model's choices in it: log entries 8, 24 and 51. -/
def Obligations.LinksAndHello : Prop :=
  ∀ (s : State) (l : Nat), s.live iCAS → l < s.cfg.part.links → s.cas.links.length = s.cfg.part.links →
    (rf s (R.casLSTATE l) = 1 → ∃ t, exec (.bribyTrainingDone l) s = .next (keep s (calSettle t)) ∧ rf t (R.casLSTATE l) = 2 ∧
      t.raiseQ = s.raiseQ ++ [176 + l] ∧ ((link s l).wait = [] → link t l =
        { link s l with cred2 := 32, cred3 := 32, gap := none, rtts := [], leftAt := none, downRep := false }) ∧
      s.sameBut t routeRegs) ∧
    (rf s (R.casLSTATE l) = 2 → ∃ t, exec (.bribyLinkLoss l) s = .next (keep s (calSettle t)) ∧ rf t (R.casLSTATE l) = 1 ∧
      rf s (R.casBLOCK_ERR_CNT l) ≤ rf t (R.casBLOCK_ERR_CNT l) ∧ t.raiseQ = s.raiseQ ++ [176 + l] ∧ t.noticeQ = s.noticeQ ++ [⟨64 * 12 + l, l, mkW l⟩] ∧ (link t l).leftAt = some s.now ∧
      (link t l).sent = [] ∧ (link t l).blocks = [] ∧ s.sameBut t ((R.casBLOCK_ERR_CNT l).addr :: routeRegs)) ∧
    (∀ t0, (link s l).leftAt = some t0 → rf s (R.casLSTATE l) ≠ 2 → ∃ t, exec (.bribyLinkDownReport l) s = .next (keep s (calSettle t)) ∧
      (link t l).downRep = true ∧ t.now = max s.now (t0 + rf s (R.casLINK_DOWN_US l) * 1000) ∧ t.mem = s.mem) ∧
    (∀ stamp echo quarter c2 c3 : Nat, rf s (R.casLSTATE l) = 2 →
      let now := (s.devTime * 4 + quarter % 4) % 2 ^ 26
      ∃ t, exec (.gapBlock l stamp echo quarter c2 c3) s = .next t ∧ (link t l).gap = some (stamp % 2 ^ 26, now) ∧
        (link t l).rtts = (link s l).rtts ++ [(now + 2 ^ 26 - echo % 2 ^ 26) % 2 ^ 26] ∧ t.mem = s.mem ∧
        ((link s l).wait = [] → (link t l).sent = [] ∧ (link t l).blocks = [] ∧ (link t l).cred2 = min 32 ((link s l).cred2 + c2) ∧
          (link t l).cred3 = min 32 ((link s l).cred3 + c3)) ∧
        (∀ (p : BPkt) (o : Option Nat), (link s l).wait = [(p, o)] → bpClass p.ptype = 3 → (link s l).dup = false → rf s (R.casUNIT_STATE l) = usON →
          0 < (link s l).cred3 + c3 → (link t l).sent = [p] ∧ (link t l).wait = [] ∧
          (link t l).cred3 = min 32 ((link s l).cred3 + c3) - 1 ∧ (o = none → (link t l).blocks = pktBlocks t l p) ∧
          (∀ j, o = some j → j ≠ l → j < s.cfg.part.links → rf s (R.casLSTATE j) = 2 →
            (link t j).blocks = (link s j).blocks ++ [gapBlock s j 0 1]))) ∧
    (rf s (R.casLSTATE l) = 2 → (link s l).rtts ≠ [] → ∃ t, exec (.calibrationWindowEnd l) s = .next t ∧ (link t l).rtts = [] ∧
      rf s (R.casBLOCK_ERR_CNT l) ≤ rf t (R.casBLOCK_ERR_CNT l) ∧
      rf t (R.casRTT l) = (link s l).rtts.sum / (link s l).rtts.length % 2 ^ 26 ∧
      rf t (R.casCAL_CNT l) = min (rf s (R.casCAL_CNT l) + 1) (2 ^ 36 - 1) ∧
      s.sameBut t [(R.casRTT l).addr, (R.casCAL_CNT l).addr, (R.casBLOCK_ERR_CNT l).addr]) ∧
    (rf s (R.casLSTATE l) ≠ 0 → ∃ (t : State) (w0 w1 : Word), exec (.helloTransmit l) s = .next t ∧ t.mem = s.mem ∧
      s.sends t l ⟨0xE, rf s (R.casPEER_ID l), cascId s, 0, 0, [w0, w1]⟩ ∧ helPeer (w0, w1) = cascId s ∧
      helClaim (w0, w1) = isMaster s ∧ helMaster (w0, w1) = rf s R.casMASTER_ID ∧ bit w0.toNat 16 = rb s (R.casIS_UP_LINK l) ∧
      ∀ m, m < 32 → bit w1.toNat m = (route s m).isSome) ∧
    (∀ (p : BPkt) (w0 w1 : Word), p.ptype = 0xE → p.words = [w0, w1] → rf s (R.casLSTATE l) ≠ 0 → rf s R.casSH_ROLE ≠ 1 →
      let h := (w0, w1)
      let pr := helPeer h
      ∃ t, exec (.hello l p) s = .next t ∧ rf t (R.casPEER_ID l) = pr ∧ rb t (R.casPEER_DOWN l) = bit w0.toNat 16 ∧
        (link t l).hello = some h ∧ (link t l).dup = decide (pr = cascId s) ∧ s.sameBut t (R.casID_DUP.addr :: routeRegs) ∧
        (pr = cascId s → rb t R.casID_DUP = true ∧ (rb s R.casID_DUP = false → t.raiseQ = s.raiseQ ++ [180])) ∧
        (pr ≠ cascId s → helClaim h = true → isMaster s = true → rb t R.casMASTER_CONFLICT = true ∧
          isMaster t = decide (cascId s < pr)) ∧
        (pr ≠ cascId s → (helClaim h = false ∨ isMaster s = false) → t.raiseQ = s.raiseQ ∧ isMaster t = isMaster s) ∧
        ((∀ k, k ≠ l → helUsable s k = none) → linkUp s l = true → pr ≠ cascId s → rf t (R.casROUTE pr) = l ∧
          rf t (R.casHOPS pr) = 1 ∧ (helClaim h = true → isMaster s = false → rb t (R.casIS_UP_LINK l) = true ∧
            rf t R.casMASTER_ID = pr))) ∧
    (∀ p : BPkt, p.ptype = 0xE → p.words.length ≠ 2 → rf s (R.casLSTATE l) ≠ 0 → ∃ t, exec (.hello l p) s = .next t ∧
      rf t R.casDROP_CNT = min (rf s R.casDROP_CNT + 1) (2 ^ 36 - 1) ∧ s.sameBut t [R.casDROP_CNT.addr]) ∧
    (rf s (R.casLSTATE l) = 2 → ∃ t, exec (.bribyPacketDrop l) s = .next t ∧
      rf t R.casDROP_CNT = min (rf s R.casDROP_CNT + 1) (2 ^ 36 - 1) ∧ s.sameBut t [R.casDROP_CNT.addr])

/-- Remote access at its destination (R332, R337, R338, R349): reads, writes, masked writes, atomics and SYNC of Stream Memory are answered with
status and word, and give their buffer's credit back; without the enabling REMOTE_EN bits, or past the low 1 Gi words, the answer is BUS_ERR,
with the MWY island in reset TIMEOUT; a response reaches its outstanding access, a core's, a transaction's or a posted write's; a packet for
another module goes on, or is dropped where no route leads there. The model's choices in it: log entries 5, 22 and 51. -/
def Obligations.RemoteAccess : Prop :=
  ∀ (s : State) (l k : Nat) (p : BPkt),
    let ans := fun (t : State) (pt st : Nat) (ws : List Word) =>
      s.sends t k ⟨pt, p.src, cascId s, p.tag, st, ws⟩ ∧ (link t l).blocks.getLast? = some (gapBlock s l 0 1)
    let en := fun b => rf s R.casREMOTE_EN &&& b = b
    (p.dest = cascId s → s.reaches p.src k → isUp s iMWY = true →
      (s.briReady l p 1 → p.words = [] → en 1 → s.smOpen p.addr → ∃ t, exec (.readPacket l p) s = .next t ∧
        ans t 2 stOK [rd s p.addr] ∧ t.mem = s.mem) ∧
      (s.briReady l p 3 → en 2 → 1 ≤ p.words.length → p.words.length ≤ 16 → p.addr + p.words.length ≤ s.cfg.part.streamWords →
        s.smOpen p.addr → ∃ t, exec (.writePacket l p) s = .next t ∧ ans t 5 stOK [] ∧
        (∀ i, i < p.words.length → rd t (p.addr + i) = p.words.getD i 0#36) ∧
        s.sameBut t ((List.range p.words.length).map (p.addr + ·))) ∧
      (∀ m w : Word, s.briReady l p 4 → en 2 → p.words = [m, w] → s.smOpen p.addr →
        ∃ t, exec (.writeMaskedPacket l p) s = .next t ∧ ans t 5 stOK [] ∧
        (bits m.toNat 1 0 = 3 → rd t p.addr = w ∧ s.sameBut t [p.addr]) ∧
        (bits m.toNat 1 0 ≠ 3 → t.mem = s.mem ∧ kvFind t.sm.rmw (smBank s p.addr) =
          some (p.addr, halfMerge (rd s p.addr) w (bit m.toNat 1) (bit m.toNat 0)))) ∧
      (∀ w : Word, s.briReady l p 6 → en 3 → p.words = [w] → s.smOpen p.addr → ∃ t, exec (.atomicPacket l p) s = .next t ∧
        ans t 2 stOK [rd s p.addr] ∧ t.mem = s.mem ∧
        kvFind t.sm.rmw (smBank s p.addr) = some (p.addr, if bit p.tag 6 then w else rd s p.addr + w)) ∧
      (s.briReady l p 7 → p.words = [] → busHeld s (remAddr p) = false → ∃ t, exec (.syncPacket l p) s = .next t ∧ ans t 5 stOK [] ∧
        t.mem = s.mem) ∧
      (s.briReady l p 3 → en 2 → 1 ≤ p.words.length → p.words.length ≤ 16 → 2 ^ 30 < remAddr p + p.words.length →
        ∃ t, exec (.writePacket l p) s = .next t ∧ ans t 5 stBUS [] ∧ t.mem = s.mem) ∧
      (∀ e ∈ [(Instr.readPacket l p, 1, 0, 1, 2), (.writePacket l p, 3, 1, 2, 5), (.writeMaskedPacket l p, 4, 2, 2, 5),
          (.atomicPacket l p, 6, 1, 3, 2)],
        s.briReady l p e.2.1 → p.words.length = e.2.2.1 → ¬ en e.2.2.2.1 →
          ∃ t, exec e.1 s = .next t ∧ ans t e.2.2.2.2 stBUS [] ∧ t.mem = s.mem)) ∧
    (p.dest = cascId s → s.reaches p.src k → isUp s iMWY = false →
      ∀ e ∈ [(Instr.readPacket l p, 1, 0, 2), (.writePacket l p, 3, 1, 5), (.writeMaskedPacket l p, 4, 2, 5), (.atomicPacket l p, 6, 1, 2),
          (.syncPacket l p, 7, 0, 5)],
        s.briReady l p e.2.1 → p.words.length = e.2.2.1 → ∃ t, exec e.1 s = .next t ∧ ans t e.2.2.2 stTIMEOUT [] ∧ t.mem = s.mem) ∧
    (p.dest = cascId s → ∀ e ∈ [(Instr.readResp l p, 2), (.writeAck l p, 5)], s.briReady l p e.2 →
      (e.2 = 2 → p.words.length ≤ 16) → (e.2 = 5 → p.words = []) →
        (s.cas.rem = [] → ∃ t, exec e.1 s = .next t ∧ t.mem = s.mem ∧ t.cas.rem = [] ∧
          link t l = { link s l with blocks := (link s l).blocks ++ [gapBlock s l 1 0] } ∧ ∀ j, j ≠ l → link t j = link s j) ∧
        (∀ r : RemReq, s.cas.rem = [r] → r.tag = p.tag → r.dest = p.src → r.resp = none → ∃ t, exec e.1 s = .next t ∧
          (r.who = .core → s.mw.txns = [] → t.cas.rem = [{ r with resp := some (p.addr % 8, p.words) }] ∧ t.mem = s.mem) ∧
          (∀ x : Txn, r.who = .txn → s.mw.txns = [x] → x.rem = some r.tag → remParts x.req.kind = 1 → (∃ at_, x.ph = .granted at_) →
            t.cas.rem = [] ∧ t.mem = s.mem ∧
              ∃ y, t.mw.txns = [y] ∧ y.tid = x.tid ∧ y.ph = .answered s.now (p.addr % 8) p.words 0) ∧
          (∀ n a, r.who = .post n a → n < 4 → n < s.cores.length → t.cas.rem = [] ∧ t.mem = s.mem ∧
            (core t n).perr = (core s n).perr ++ (if p.addr % 8 = stOK then [] else [a])) ∧
          (∀ n a, r.who = .post (12 + n) a → n < 4 → p.addr % 8 ≠ stOK → t.cas.rem = [] ∧ rb t (R.vpPR_WRITE_ERR n) = true))) ∧
    (p.dest ≠ cascId s → ∀ e ∈ [(Instr.readPacket l p, 1, 0), (.readResp l p, 2, 1), (.writePacket l p, 3, 1), (.writeMaskedPacket l p, 4, 2),
        (.writeAck l p, 5, 0), (.atomicPacket l p, 6, 1), (.syncPacket l p, 7, 0), (.eventPacket l p, 8, 2), (.replyPacket l p, 10, 1),
        (.digest l p, 13, 2), (.takeoverPacket l p, 15, 0)],
      s.briReady l p e.2.1 → p.words.length = e.2.2 →
        (s.reaches p.dest k → ∃ t, exec e.1 s = .next t ∧ s.sends t k p ∧ t.mem = s.mem) ∧
        (route s p.dest = none → ∃ t, exec e.1 s = .next t ∧ rf t R.casDROP_CNT = min (rf s R.casDROP_CNT + 1) (2 ^ 36 - 1) ∧
          (∀ j, link t j = { link s j with blocks := (link t j).blocks } ∧ (j ≠ l → link t j = link s j)) ∧
          s.sameBut t [R.casDROP_CNT.addr]))

/-- Time and ticks over the cascade (R339, R341, R342): TIME goes down with the sender's Device Time; a follower takes TIME and TICK_MARK from its
UP link alone, forwards a marker, discards one at or before its own last tick or while the master is lost, keeps it to its instant, or raises
a late one at once and counts it; MASTER_LOST enters HOLDOVER
and continues the marked grid, whose ticks are raised until HOLDOVER_S is over, which holds Calliope.
The model's choices in it: log entries 8, 52 and 69. -/
def Obligations.TimeAndTicksOverTheCascade : Prop :=
  ∀ (s : State), s.live iCAS → s.cas.links.length = s.cfg.part.links →
    let down := fun (t : State) (p : Nat → BPkt) => ∀ k, linkUp s k = true → (link s k).dup = false →
      (rb s (R.casPEER_DOWN k) = true → (link t k).sent = (link s k).sent ++ [p k]) ∧
      (rb s (R.casPEER_DOWN k) = false → link t k = link s k)
    let took := fun (t : State) (m : Mark) =>
      ((∀ q, s.cal.src = some q → q.kind = 2) → t.cal.flying = s.cal.flying ++ [some (m.frame, m.minor)]) ∧
      (∀ q, s.cal.src = some q → q.kind ≠ 2 → t.cal.flying = s.cal.flying ++
        if isMaster s = true ∧ (s.cal.ticked = true ∨ posLt (m.frame, m.minor) (s.cal.nextF, s.cal.nextM) = false) then [none] else [])
    (isMaster s = true ∨ rf s R.fcTIME_SRC = 8 → ∃ t, exec .timeTransmit s = .next t ∧ t.mem = s.mem ∧
      down t fun k => ⟨0xC, rf s (R.casPEER_ID k), cascId s, 0, 0, [mkW (dtNs s.devTime), mkW (dtSec s.devTime)]⟩) ∧
    (∀ (l : Nat) (p : BPkt) (ns sec : Word), s.briReady l p 0xC → p.words = [ns, sec] → isMaster s = false →
      rb s (R.casIS_UP_LINK l) = true →
      let off : Int := sec.toNat * 1000000000 + ns.toNat +
        ((rf s (R.casRTT l) : Int) + 2 * sext 16 (rf s (R.casLINK_ASYM l))) / 8 - s.devTime
      ∃ t, exec (.timePacket l p) s = .next t ∧ t.cas.lastTime = some s.now ∧ t.cas.lostAt = none ∧
        (rf s R.fcTIME_SRC ≠ 8 → t.mem = s.mem ∧ t.slew = s.slew) ∧
        (rf s R.fcTIME_SRC = 8 → rf t R.fcOFFSET_NS = toBits 36 off ∧ (off.natAbs ≤ rf s R.fcSTEP_LIMIT * 1000 → t.slew = off ∧
          t.devTime = s.devTime ∧ s.sameBut t [R.fcOFFSET_NS.addr, R.fcSYNC_STATE.addr]) ∧
          (rf s R.fcSTEP_LIMIT * 1000 < off.natAbs → t.devTime = ((s.devTime : Int) + off).toNat ∧ rb t R.fcTIME_STEP = true ∧
            rf t R.fcSYNC_STATE = 1))) ∧
    (∀ (l : Nat) (p : BPkt) (a b c d : Word), s.briReady l p 0xB → p.words = [a, b, c, d] → isMaster s = false →
      rb s (R.casIS_UP_LINK l) = true →
      let m : Mark := ⟨b.toNat * 1000000000 + a.toNat, bits c.toNat 15 0, d.toNat⟩
      let old := ∃ o, s.cas.ownLast = some o ∧ m.at_ ≤ o
      let on := s.cas.lostAt = none ∧ ¬old
      ∃ t, exec (.tickMark l p) s = .next t ∧ (down t fun k => { p with dest := rf s (R.casPEER_ID k) }) ∧
        (¬on → t.cas.marks = s.cas.marks ∧ t.cas.lastMark = s.cas.lastMark ∧ t.cas.grid = s.cas.grid ∧ t.cal = s.cal ∧ t.mem = s.mem) ∧
        (on → t.cas.lastMark = some (m, bits c.toNat 35 16) ∧ t.cas.grid = none ∧ t.cas.ownLast = none) ∧
        (on → s.devTime ≤ m.at_ → t.cas.marks = s.cas.marks ++ [m] ∧ t.cal = s.cal ∧ t.mem = s.mem) ∧
        (on → m.at_ < s.devTime → t.cas.marks = s.cas.marks ∧ rb t R.casMARK_LATE = true ∧ t.raiseQ = s.raiseQ ++ [183] ∧
          rf t R.casMARK_LATE_CNT = min (rf s R.casMARK_LATE_CNT + 1) (2 ^ 36 - 1) ∧ took t m ∧
          s.sameBut t [R.casMARK_LATE.addr, R.casMARK_LATE_CNT.addr])) ∧
    (∀ (m : Mark) (r : List Mark), s.aonOn = true → s.cas.marks = m :: r → ∃ t, exec .markedTickRaise s = .next t ∧ t.cas.marks = r ∧
      took t m ∧ t.mem = s.mem ∧ (s.slew = 0 → t.devTime = max s.devTime m.at_)) ∧
    (∀ t0 : Nat, s.cas.lastTime = some t0 → isMaster s = false → s.cas.lostAt = none → s.cas.marks = [] →
      t0 + rf s R.casMASTER_TIMEOUT * 1000 ≤ s.now → (∀ m per, s.cas.lastMark = some (m, per) → s.devTime < m.at_ + per) →
      ∃ t, exec .masterLost s = .next t ∧ rb t R.casMASTER_LOST = true ∧ t.cas.lostAt = some s.now ∧ rf t R.fcSYNC_STATE = 3 ∧
        rb t R.fcSYNC_LOST = true ∧ t.raiseQ = s.raiseQ ++ [181] ++ (if rb s R.fcSYNC_LOST then [] else [147]) ∧
        (∀ m per, s.cas.lastMark = some (m, per) → 0 < per → s.cas.grid = none → t.cas.grid = some (gridNext s m per)) ∧
        s.sameBut t [R.casMASTER_LOST.addr, R.fcSYNC_LOST.addr, R.fcSYNC_STATE.addr]) ∧
    (∀ (m q : Mark) (per : Nat), s.cas.grid = some m → s.cas.lastMark = some (q, per) → ∃ t, exec .holdoverGridTick s = .next t ∧
      t.cas.grid = some (gridNext s m per) ∧ t.cas.ownLast = some m.at_ ∧ t.mem = s.mem ∧
      (isMaster s = true → rb s R.casMARK_EN = true →
        t.cas.marks = s.cas.marks ++ [{ m with at_ := m.at_ + rf s R.casMARK_LEAD * 1000 }]) ∧
      (isMaster s = false ∨ rb s R.casMARK_EN = false → t.cas.marks = s.cas.marks ∧ took t m)) ∧
    (∀ t0 : Nat, s.cas.lostAt = some t0 → s.cas.hoDone = false → s.cas.gridFree = false →
      ∃ t, exec .holdoverExpiry s = .next (keep s (if isUp s iMWY then calHold t false else t)) ∧ t.cas.hoDone = true ∧
        t.raiseQ = s.raiseQ ++ [182] ∧ t.noticeQ = s.noticeQ ++ [⟨64 * 12 + 7, 0, 0#36⟩] ∧ t.mem = s.mem ∧
        t.now = max s.now (t0 + rf s R.casHOLDOVER_S * 1000000000))

/-- Shadow pairs, events and commands over the cascade (R344 to R347, R372): a DIGEST is compared or kept; the takeover makes the shadow primary and
its ports live, with mode and mastership; a TAKEOVER, or a primary's HELLO, demotes the other primary, but for the lower number of two
that took over in one cycle; an EVENT fills the master's
EVT registers; a whole COMMAND joins the buffer, waits for Monitor or is DENIED by FWD_MASK, a REPLY or FWD_TIMEOUT goes back by the command's path.
The model's choices in it: log entries 8, 53 and 54. -/
def Obligations.ShadowsEventsAndCommands : Prop :=
  ∀ s : State,
    let demoted := fun t : State => rf t R.casSH_ROLE = 2 ∧ (∀ p, p < s.cfg.part.ports → rb t (R.fpTX_INHIBIT p) = true) ∧
      187 ∈ t.raiseQ ∧ (mode s = mRUN ∨ mode s = mDERATED → mode t = mSHADOW) ∧ (mode s = mSHADOW → mode t = mSHADOW)
    let keeps := tookNow s = true ∧ cascId s < rf s R.casSH_PEER
    (∀ (l : Nat) (p : BPkt) (f d : Word), s.briReady l p 0xD → p.dest = cascId s → p.words = [f, d] → rf s R.casSH_ROLE = 2 →
      p.src = rf s R.casSH_PEER →
      let dg := bits d.toNat 31 0
      ∃ t, exec (.digest l p) s = .next t ∧ t.cas.peerAt = s.now ∧ (∀ t0, s.cas.digDue = some (f.toNat, t0) → t.cas.digDue = none) ∧
        (kvFind s.cas.digs f.toNat = some dg → t.mem = s.mem ∧ t.raiseQ = s.raiseQ ∧ kvFind t.cas.digs f.toNat = none) ∧
        (∀ own, kvFind s.cas.digs f.toNat = some own → own ≠ dg → rb t R.casDIGEST_MISMATCH = true ∧ t.raiseQ = s.raiseQ ++ [185] ∧
          rf t R.casMISMATCH_CNT = min (rf s R.casMISMATCH_CNT + 1) (2 ^ 36 - 1) ∧
          s.sameBut t [R.casDIGEST_MISMATCH.addr, R.casMISMATCH_CNT.addr]) ∧
        (kvFind s.cas.digs f.toNat = none → t.mem = s.mem ∧ (f.toNat, dg) ∈ t.cas.digIn)) ∧
    (∀ f t0 : Nat, s.live iCAS → s.cas.links.length = s.cfg.part.links → s.cas.digDue = some (f, t0) → rf s R.casSH_ROLE = 2 →
      ∃ t, exec .takeover s = .next t ∧ t.cas.tookAt = some t.now ∧ rf t R.casSH_ROLE = 1 ∧ rb t R.casTAKEOVER = true ∧ 186 ∈ t.raiseQ ∧ t.cas.digDue = none ∧
        t.now = max s.now (max (t0 + rf s R.casDIGEST_WAIT * 1000) (s.cas.peerAt + rf s R.casPEER_TIMEOUT * 1000)) ∧
        (∀ p, p < s.cfg.part.ports → rb t (R.fpTX_INHIBIT p) = false) ∧
        (mode s = mSHADOW → derateCause s = false → mode t = mRUN) ∧
        (isMaster s = false → rf s R.casMASTER_ID = rf s R.casSH_PEER → isMaster t = true) ∧
        (∀ k, linkUp s k = true → (link s k).dup = false →
          ∃ q, ⟨0xF, rf s R.casSH_PEER, cascId s, 0, q, []⟩ ∈ (link t k).sent)) ∧
    (∀ (l : Nat) (p : BPkt), s.briReady l p 0xF → p.dest = cascId s → p.words = [] → p.src = rf s R.casSH_PEER → rf s R.casSH_ROLE = 1 →
      ∃ t, exec (.takeoverPacket l p) s = .next t ∧ t.cas.peerAt = s.now ∧ (¬keeps → demoted t) ∧ (keeps → t.mem = s.mem)) ∧
    (∀ (l : Nat) (p : BPkt) (w0 w1 : Word), s.briReady l p 0xE → p.words = [w0, w1] → helPeer (w0, w1) = rf s R.casSH_PEER →
      Config.helloPrimary w0 w1 = true → rf s R.casSH_ROLE = 1 → ¬keeps → ∃ t, exec (.hello l p) s = .next t ∧ demoted t) ∧
    (∀ (l : Nat) (p : BPkt) (n g : Word), s.briReady l p 8 → p.dest = cascId s → p.words = [n, g] → isMaster s = true →
      ∃ t, exec (.eventPacket l p) s = .next t ∧ rf t R.casEVT_SRC = p.src % 32 ∧ rf t R.casEVT_CLASS = p.addr % 16 ∧
        rf t R.casEVT_TAG = g.toNat ∧ t.raiseQ = s.raiseQ ++ [184] ∧ s.sameBut t [R.casEVT_SRC.addr, R.casEVT_TAG.addr]) ∧
    (∀ (l : Nat) (p : BPkt), s.briReady l p 9 → p.addr = 0 → 1 ≤ p.words.length → p.words.length ≤ 16 →
      let ws := p.words.map fun w => hw (bits w.toNat 31 0)
      let pk := ws.take (4 + pkLen ws)
      (p.dest = cascId s → p.src ≠ cascId s → pkLen ws ≤ 12 → s.live iHST → pkVer pk = 1 → pkMod pk = cascId s →
        ∀ r, opRow (pkOp pk) = some r → ∃ t, exec (.commandPacket l p) s = .next t ∧
          (monRuns s = false → t.hst.early = s.hst.early ++ [⟨.fwd p.src p.tag, pk⟩] ∧ t.raiseQ = s.raiseQ ∧ t.mem = s.mem) ∧
          (monRuns s = true → mode s ≠ mRECOVERY → bit (rf s R.hstFWD_MASK) r.cls = true →
            t.hst.mail = s.hst.mail ++ [⟨.fwd p.src p.tag, pk⟩] ∧ t.raiseQ = s.raiseQ ++ [196] ∧ t.mem = s.mem) ∧
          (∀ k, monRuns s = true → bit (rf s R.hstFWD_MASK) r.cls = false → s.reaches p.src k → t.hst.mail = s.hst.mail ∧
            s.sends t k ⟨0xA, p.src, cascId s, p.tag, 0, (mkReply s pk hsDENIED 1 []).map fun w => mkW w.toNat⟩)) ∧
      (p.dest = cascId s → p.src = cascId s → ∃ t, exec (.commandPacket l p) s = .next t ∧ t.hst = s.hst ∧ t.mem = s.mem) ∧
      (p.dest = cascId s → p.src ≠ cascId s → 12 < pkLen ws → ∃ t, exec (.commandPacket l p) s = .next t ∧ t.hst = s.hst ∧
        t.mem = s.mem ∧ ⟨p.src, p.tag, [(0, p.words)]⟩ ∈ t.cas.asmC) ∧
      (∀ k, p.dest ≠ cascId s → s.reaches p.dest k → ∃ t, exec (.commandPacket l p) s = .next t ∧ s.sends t k p ∧ t.mem = s.mem)) ∧
    (∀ (l r : Nat) (p : BPkt) (f : Fwd), s.briReady l p 10 → p.dest = cascId s → p.addr = 0 → 1 ≤ p.words.length → p.words.length ≤ 16 →
      let ws := p.words.map fun w => hw (bits w.toNat 31 0)
      pkLen ws ≤ 12 → s.hst.fwds = [f] → f.tag = p.tag → f.dest = some p.src → f.replied = [] → f.path = .ring r →
        r < s.hst.rings.length → ∃ t, exec (.replyPacket l p) s = .next t ∧ t.hst.fwds = [] ∧
          (ring t r).replies = (ring s r).replies ++ [(ws.take (4 + pkLen ws), true)] ∧ t.mem = s.mem) ∧
    (∀ (f : Fwd), s.live iHST → s.hst.fwds = [f] → f.path = .uart → (f.dest = none ∨ pkMod f.hdr ≠ 63) → ∃ t, exec (.fwdTimeout f.tag) s = .next t ∧
      t.hst.fwds = [] ∧ t.now = max s.now f.due ∧ rf t R.hstERR_CNT = min (rf s R.hstERR_CNT + 1) (2 ^ 36 - 1) ∧
      (∀ m, f.dest = some m → t.hst.uartOut = s.hst.uartOut ++ [mkReply s f.hdr hsFWDTO m []]) ∧
      (f.dest = none → t.hst.uartOut = s.hst.uartOut ++
        [mkReply s f.hdr hsBCAST (f.replied.foldl (fun n m => n ||| 2 ^ m) 0) []]) ∧ s.sameBut t [R.hstERR_CNT.addr])

/-- BAR0, MSI-X, rings and the UART (R353, R354, R357 to R360, R371, R375): an access acts as Midway answers, a failed one records its slot; a high
half is latched; a masked vector waits; a doorbell writes its index; a fetched entry waits for Monitor, is kept, forwarded or answered; a
reply is written with index, shadow and vector. The model's choices in it: log entries 5, 32, 39 and 40. -/
def Obligations.HostBarAndRings : Prop :=
  ∀ s : State, s.live iHST →
    let failed := fun (t : State) (slot st : Nat) => rb t R.hstBAR_ERR = true ∧ rf t R.hstBAR_ERR_SLOT = slot ∧
      t.noticeQ = s.noticeQ ++ [⟨64 * 9 + 2, 0, mkW st⟩] ∧ t.raiseQ = s.raiseQ ++ (if rb s R.hstBAR_ERR then [] else [197]) ∧
      s.sameBut t [R.hstBAR_ERR.addr, R.hstBAR_ERR_SLOT.addr]
    (∀ slot : Nat, slot < 0x200000 →
      (let q := busRead s 20 2 (0x20000000 + slot)
       isUp s iMWY = true →
        (q.1 = stOK → exec (.bar0Read (8 * slot) true) s = .next (keep s (rstSettle (modHst q.2.2 fun h => { h with
            barData := some [hw q.2.1.toNat, hw (q.2.1.toNat / 2 ^ 32)], lastRd := none }))) ∧
          exec (.bar0Read (8 * slot) false) s = .next (keep s (rstSettle (modHst q.2.2 fun h => { h with
            barData := some [hw q.2.1.toNat], lastRd := some slot, rdLatch := q.2.1.toNat / 2 ^ 32 })))) ∧
        (q.1 ≠ stOK → exec (.bar0Read (8 * slot) true) s = .next (keep s (rstSettle (modHst (barErr q.2.2 slot q.1) fun h => { h with
            barData := some [allOnes, allOnes], lastRd := none }))))) ∧
      (s.rstReq = [] → isUp s iMWY = false → (∃ t, exec (.bar0Read (8 * slot) true) s = .next t ∧ failed t slot stTIMEOUT ∧
          t.hst.barData = some [allOnes, allOnes]) ∧
        (∀ lo hi, ∃ t, exec (.bar0Write (8 * slot) true lo hi) s = .next t ∧ failed t slot stTIMEOUT)) ∧
      (s.rstReq = [] → s.hst.lastRd = some slot → ∃ t, exec (.bar0Read (8 * slot + 4) false) s = .next t ∧ t.mem = s.mem ∧
        t.hst.barData = some [hw s.hst.rdLatch] ∧ t.hst.lastRd = none) ∧
      (∀ lo hi : HWord, isUp s iMWY = true →
        (let q := busWrite s 20 2 (0x20000000 + slot) (mkW (lo.toNat + hi.toNat % 16 * 2 ^ 32)) true true
         exec (.bar0Write (8 * slot) true lo hi) s = .next (keep s (rstSettle (if q.1 = stOK then q.2 else barErr q.2 slot q.1)))) ∧
        (let q := busWrite s 20 2 (0x20000000 + slot) (mkW (lo.toNat + s.hst.hiLatch % 16 * 2 ^ 32)) true true
         exec (.bar0Write (8 * slot) false lo hi) s = .next (keep s (rstSettle (modHst
          (if q.1 = stOK then q.2 else barErr q.2 slot q.1) fun h => { h with hiLatch := 0 }))))) ∧
      (∀ lo hi : HWord, s.rstReq = [] → ∃ t, exec (.bar0Write (8 * slot + 4) false lo hi) s = .next t ∧ t.mem = s.mem ∧
        t.hst.hiLatch = lo.toNat % 16) ∧
      (∀ write : Bool, ∃ t, exec (.bar0Timeout (8 * slot) write) s = .next t ∧ failed t slot stTIMEOUT ∧ t.now = s.now + 20000 ∧
        t.hst.barData = if write then s.hst.barData else some [allOnes])) ∧
    (∀ v : Nat, v < 32 →
      (∃ t, exec (.msixSend v) s = .next t ∧ t.mem = s.mem ∧ t.hst.msixSent =
          (if s.hst.msixMask.getLsbD v then s.hst.msixSent else s.hst.msixSent ++ [v]) ∧
        t.hst.msixPend = (if s.hst.msixMask.getLsbD v then s.hst.msixPend ||| (1#32 <<< v) else s.hst.msixPend)) ∧
      (∃ t, exec (.msixUnmask v) s = .next t ∧ t.mem = s.mem ∧ t.hst.msixMask.getLsbD v = false ∧ t.hst.msixPend.getLsbD v = false ∧
        t.hst.msixSent = if s.hst.msixPend.getLsbD v then s.hst.msixSent ++ [v] else s.hst.msixSent)) ∧
    (∀ r v : Nat, r < 4 → s.hst.rings.length = 4 →
      (∃ t, exec (.crProd r v) s = .next t ∧ rf t (R.hstCR_PROD r) = v % 2 ^ 16 ∧ s.sameBut t [(R.hstCR_PROD r).addr]) ∧
      (∃ t, exec (.rrCons r v) s = .next t ∧ rf t (R.hstRR_CONS r) = v % 2 ^ 16 ∧ s.sameBut t [(R.hstRR_CONS r).addr]) ∧
      (∃ t, exec (.ringEn r false) s = .next t ∧ rb t (R.hstRING_EN r) = false ∧ t.hst = s.hst ∧
        s.sameBut t [(R.hstRING_EN r).addr]) ∧
      (rb s (R.hstRING_EN r) = false → ∃ t, exec (.ringEn r true) s = .next t ∧ rb t (R.hstRING_EN r) = true ∧ ring t r = ringZero ∧
        ∀ f ∈ [R.hstCR_PROD r, R.hstRR_CONS r, R.hstCR_FETCH r, R.hstRDONE r, R.hstRPROD r], rf t f = 0)) ∧
    (∀ (r : Nat) (ws : List HWord), r < 4 → s.hst.rings.length = 4 → rb s (R.hstRING_EN r) = true → (ring s r).pkt = none →
      rf s (R.hstCR_FETCH r) ≠ rf s (R.hstCR_PROD r) →
      (rb s R.hstBME = false ∨ ws.length ≠ 64 → ∃ t, exec (.commandEntryFetch r ws) s = .next t ∧ rb t (R.hstRING_ERR r) = true ∧
        t.raiseQ = s.raiseQ ++ [192 + r] ∧ t.hst = s.hst ∧ s.sameBut t [(R.hstRING_ERR r).addr]) ∧
      (rb s R.hstBME = true → ws.length = 64 →
        let fetched := fun t : State => rf t (R.hstCR_FETCH r) = (rf s (R.hstCR_FETCH r) + 1) % 2 ^ 16
        (monRuns s = false → ∃ t, exec (.commandEntryFetch r ws) s = .next t ∧ fetched t ∧ t.raiseQ = s.raiseQ ++ [192 + r] ∧
          t.hst.early = s.hst.early ++ [⟨.ring r, ws⟩] ∧ ring t r = ⟨some ws, true, (ring s r).replies⟩ ∧
          s.sameBut t [(R.hstCR_FETCH r).addr]) ∧
        (monRuns s = true → pkVer ws = 1 → (opRow (pkOp ws)).isSome = true → pkMod ws = cascId s ∨ pkMod ws = 62 →
          ∃ t, exec (.commandEntryFetch r ws) s = .next t ∧ fetched t ∧ t.raiseQ = s.raiseQ ++ [192 + r] ∧
            ring t r = ⟨some ws, false, (ring s r).replies⟩ ∧ s.sameBut t [(R.hstCR_FETCH r).addr]) ∧
        (monRuns s = true → s.hst.fwds = [] → pkVer ws ≠ 1 ∨ opRow (pkOp ws) = none → ∃ t, exec (.commandEntryFetch r ws) s = .next t ∧ fetched t ∧
          ring t r = ⟨some ws, true, (ring s r).replies ++
            [(mkReply s ws (if pkVer ws = 1 then hsOPCODE else hsVERSION) 0 [], true)]⟩) ∧
        (∀ k, monRuns s = true → pkVer ws = 1 → (opRow (pkOp ws)).isSome = true → pkMod ws < 32 → pkMod ws ≠ cascId s → route s (pkMod ws) = some k →
          ∃ t, exec (.commandEntryFetch r ws) s = .next t ∧ fetched t ∧ (ring t r).ran = true ∧ t.hst.fwds = s.hst.fwds ++
            [⟨.ring r, ws.take 4, s.hst.fwdTag, some (pkMod ws), s.now + rf s R.hstFWD_TIMEOUT * 1000000, []⟩]) ∧
        (monRuns s = true → pkVer ws = 1 → (opRow (pkOp ws)).isSome = true → pkMod ws < 32 → pkMod ws ≠ cascId s → route s (pkMod ws) = none →
          s.hst.fwds = [] → ∃ t, exec (.commandEntryFetch r ws) s = .next t ∧ fetched t ∧
            t.raiseQ = s.raiseQ ++ [192 + r, 188] ∧ ring t r = ⟨some ws, true, (ring s r).replies ++
              [(mkReply s ws hsUNREACH (pkMod ws) [], true)]⟩))) ∧
    (∀ (r : Nat) (rep : List HWord) (last : Bool) (more : List (List HWord × Bool)), r < 4 → s.hst.rings.length = 4 →
      (ring s r).replies = (rep, last) :: more →
      let size := 2 ^ rf s (R.hstRR_LOG2 r)
      let prod := rf s (R.hstRPROD r)
      let base := rf s (R.hstRR_BASE_LO r) + rf s (R.hstRR_BASE_HI r) * 2 ^ 32
      let shadow := rf s (R.hstSHADOW_LO r) + rf s (R.hstSHADOW_HI r) * 2 ^ 32
      let used := (prod + 2 ^ 16 - rf s (R.hstRR_CONS r)) % 2 ^ 16
      (used = size → exec (.replyWrite r) s = .next s) ∧
      (used ≠ size → rb s R.hstBME = false → ∃ t, exec (.replyWrite r) s = .next t ∧ rb t (R.hstRING_ERR r) = true ∧ t.hst = s.hst ∧
        s.sameBut t [(R.hstRING_ERR r).addr]) ∧
      (used ≠ size → rb s R.hstBME = true → ∃ t, exec (.replyWrite r) s = .next t ∧ rf t (R.hstRPROD r) = (prod + 1) % 2 ^ 16 ∧
        t.hostMem = (hostPut (hostPutAll s (base + 256 * (prod % size)) rep) shadow (hw ((prod + 1) % 2 ^ 16))).hostMem ∧
        rf t (R.hstRDONE r) = (if last then (rf s (R.hstRDONE r) + 1) % 2 ^ 16 else rf s (R.hstRDONE r)) ∧
        ring t r = (if last then ⟨none, false, more⟩ else { ring s r with replies := more }) ∧
        (rb s (R.hstIRQ_EN r) = false → t.hst.msixSent = s.hst.msixSent) ∧
        (rb s (R.hstIRQ_EN r) = true → s.hst.msixMask.getLsbD (rf s (R.hstVECTOR r)) = false →
          t.hst.msixSent = s.hst.msixSent ++ [rf s (R.hstVECTOR r)]) ∧
        s.sameBut t [(R.hstRPROD r).addr])) ∧
    (∀ ws : List HWord, ws.length = 4 + pkLen ws →
      (monRuns s = false → ∃ t, exec (.uartPacket ws) s = .next t ∧ t.hst.early = s.hst.early ++ [⟨.uart, ws⟩] ∧ t.mem = s.mem) ∧
      (monRuns s = true → pkVer ws = 1 → (opRow (pkOp ws)).isSome = true → pkMod ws = cascId s ∨ pkMod ws = 62 →
        ∃ t, exec (.uartPacket ws) s = .next t ∧ t.hst.mail = s.hst.mail ++ [⟨.uart, ws⟩] ∧
          t.raiseQ = s.raiseQ ++ [196] ∧ t.mem = s.mem)) ∧
    (∀ up : Bool, (∃ t, exec (.pcieLinkChange up) s = .next t ∧ rb t R.hstLINK_UP = up ∧
        t.raiseQ = s.raiseQ ++ (if rb s R.hstLINK_UP = up then [] else [198]) ∧ s.sameBut t [R.hstLINK_UP.addr]) ∧
      (∃ t, exec (.busMasterEnableChange up) s = .next t ∧ rb t R.hstBME = up ∧ t.raiseQ = s.raiseQ ∧ s.sameBut t [R.hstBME.addr]))

/-- The checks every command packet passes first (R361, R382): LEN outside its row's range is BAD_LENGTH, reserved header bits BAD_PARAM, RECOVERY
and a wrong mode WRONG_MODE; the reply goes back by the packet's path. The model's choices in it: log entries 8 and 39. -/
def Obligations.CommandsAreChecked : Prop :=
  ∀ (s : State) (c : CmdSrc) (ws : List HWord), s.cmdHere c ws → cmdHeld s c = false → storeHeld s c = false →
    (∀ (i : Instr) (code : Nat) (r : OpRow), cmdRow c i code → pkOp ws = code → opRow code = some r →
      (60 < pkLen ws ∨ pkLen ws < r.lo ∨ r.hi < pkLen ws → ∃ t, exec i s = .next t ∧ s.answered t c ws hsLENGTH 0 [] ∧
        s.sameBut t cmdRegs) ∧
      (pkLen ws ≤ 60 → r.lo ≤ pkLen ws → pkLen ws ≤ r.hi →
        (3 < pkFlags ws ∨ 255 < pw ws 3 → ∃ (t : State) (d : Nat), exec i s = .next t ∧ s.answered t c ws hsPARAM d [] ∧
          s.sameBut t cmdRegs) ∧
        (pkFlags ws ≤ 3 → pw ws 3 ≤ 255 → (mode s = mRECOVERY ∧ r.rcv = 0 ∨ r.only ≠ 8 ∧ r.only ≠ mode s) →
          ∃ t, exec i s = .next t ∧ s.answered t c ws hsMODE (mode s) [] ∧ s.sameBut t cmdRegs))) ∧
    (∀ data : List HWord, pkOp ws = 0x21 → bit (pl ws 0) 2 = true → pkLen ws < 5 → ∃ t, exec (.imageChunk c data) s = .next t ∧
      s.answered t c ws hsLENGTH 0 [] ∧ s.sameBut t cmdRegs) ∧
    (∀ (i : Instr) (code : Nat), cmdRow c i code → pkOp ws ≠ code → exec i s = .next s)

/-- Commands that report or set one thing (R362, R367, R370, R373, R377, R380, R383, R384, R392, Tables HCI-4 to HCI-6, MRP-2): identity, status,
echo, time, mode, boot slot, power cap and status, trouble, cascade, shadow, reset, start failures, self-test, repair, keys.
The model's choices in it: log entries 39, 56, 66, 67 and 68. -/
def Obligations.CommandsReportAndSet : Prop :=
  ∀ (s : State) (c : CmdSrc) (ws : List HWord),
    let done := fun (t : State) (data : List HWord) => s.answered t c ws hsOK 0 data
    (s.cmdReady c 0x01 ws → ∃ (t : State) (d : List HWord), exec (.getIdentity c) s = .next t ∧ done t d ∧ d.length = 24 ∧
      d.getD 0 0#32 = hw (s.cfg.vendor % 2 ^ 16 + s.cfg.part.deviceId * 2 ^ 16) ∧ (d.drop 2).take 2 = two s.cfg.serial ∧
      bits (d.getD 6 0#32).toNat 4 0 = cascId s ∧ s.sameBut t cmdRegs) ∧
    (s.cmdReady c 0x02 ws → ∃ (t : State) (d : List HWord), exec (.getStatus c) s = .next t ∧ done t d ∧ d.length = 20 ∧
      bits (d.getD 0 0#32).toNat 2 0 = mode s ∧ bits (d.getD 0 0#32).toNat 5 3 = rf s R.pwrSTART_FAILS ∧
      bits (d.getD 0 0#32).toNat 8 6 = rf s R.calSTATE ∧ (d.drop 5).take 2 = two (rf s R.calFRAME_NUM) ∧
      d.getD 7 0#32 = hw (rf s R.fcSYNC_STATE) ∧ d.getD 11 0#32 = hw (rf s R.pwrPIN_MW) ∧ s.sameBut t cmdRegs) ∧
    (s.cmdReady c 0x03 ws → ∃ t, exec (.echo c) s = .next t ∧ done t (payload ws) ∧ s.sameBut t cmdRegs) ∧
    (s.cmdReady c 0x04 ws → pl ws 1 < 16 → pl ws 2 < 1000000000 →
      (rf s R.fcTIME_SRC = 15 → ∃ t, exec (.timeSet c) s = .next t ∧ done t [] ∧ t.devTime = pl2 ws 0 * 1000000000 + pl ws 2 ∧
        rb t R.fcTIME_STEP = true) ∧
      (rf s R.fcTIME_SRC ≠ 15 → ∃ t, exec (.timeSet c) s = .next t ∧ s.answered t c ws hsDENIED 3 [] ∧ t.devTime = s.devTime)) ∧
    (s.cmdReady c 0x10 ws → pl ws 0 < 8 →
      (pl ws 0 = mode s → ∃ t, exec (.setMode c) s = .next t ∧ done t [hw (mode s), hw (mode s)] ∧ s.sameBut t cmdRegs) ∧
      (calState s = csIDLE → (mode s, pl ws 0) ∈ [(2, 7), (3, 5), (4, 5), (6, 5), (3, 2), (4, 2), (6, 2), (5, 2), (7, 2)] →
        ∃ t, exec (.setMode c) s = .next t ∧ done t [hw (mode s), hw (pl ws 0)] ∧ mode t = pl ws 0 ∧ rf t R.pwrPREV_MODE = mode s ∧
          t.raiseQ = s.raiseQ ++ [204]) ∧
      (pl ws 0 ≠ mode s → (pl ws 0 ∈ [0, 1, 4, 6] ∨ (mode s = 2 ∧ pl ws 0 ≠ 7) ∨ (pl ws 0 = 7 ∧ mode s ≠ 2)) →
        ∃ t, exec (.setMode c) s = .next t ∧ s.answered t c ws hsMODE (mode s) [] ∧ s.sameBut t cmdRegs)) ∧
    (s.cmdReady c 0x24 ws → pl ws 0 < 2 → ∃ t, exec (.bootSelect c) s = .next t ∧ done t [] ∧ t.hst.bootSel = pl ws 0 ∧
      s.sameBut t cmdRegs) ∧
    (s.cmdReady c 0x80 ws → ∃ (t : State) (d : List HWord), exec (.cascStatus c) s = .next t ∧ done t d ∧ d.length = 10 ∧
      s.sameBut t cmdRegs) ∧
    (s.cmdReady c 0x81 ws → isUp s iCAS = true → pl ws 0 < 128 → pl ws 0 % 4 ≠ 3 → ∃ t, exec (.shadowSet c) s = .next t ∧ done t [] ∧
      rf t R.casSH_ROLE = pl ws 0 % 4 ∧ rf t R.casSH_PEER = pl ws 0 / 4 ∧ s.sameBut t (R.casSH_ROLE.addr :: cmdRegs)) ∧
    (s.cmdReady c 0x82 ws → s.cas.links.length = s.cfg.part.links → ∃ t, exec (.shadowTake c) s = .next t ∧ done t [] ∧
      rf t R.casSH_ROLE = 1 ∧ rb t R.casTAKEOVER = true ∧ (derateCause s = false → mode t = mRUN) ∧
      ∀ p, p < s.cfg.part.ports → rb t (R.fpTX_INHIBIT p) = false) ∧
    (s.cmdReady c 0x90 ws → pl ws 0 < 1024 →
      (pl ws 0 = 0 ∨ (200 ≤ pl ws 0 ∧ pl ws 0 ≤ 950) →
        let w := if pl ws 0 = 0 then 950 else pl ws 0
        let eff := if rb s R.pwrLOW_SUPPLY then min w 480 else w
        ∃ t, exec (.powerCap c) s = .next t ∧ done t [hw eff] ∧ rf t R.pwrCAP_CMD = pl ws 0 ∧ rf t R.pwrCAP_EFF = eff ∧
          s.sameBut t ([R.pwrCAP_CMD.addr, R.pwrCAP_EFF.addr] ++ cmdRegs)) ∧
      (¬ (pl ws 0 = 0 ∨ (200 ≤ pl ws 0 ∧ pl ws 0 ≤ 950)) → ∃ t, exec (.powerCap c) s = .next t ∧ s.answered t c ws hsPARAM 0 [] ∧
        s.sameBut t cmdRegs)) ∧
    (s.cmdReady c 0x91 ws → ∃ (t : State) (d : List HWord), exec (.powerStatus c) s = .next t ∧ done t d ∧
      d.take 5 = [hw (rf s R.pwrVIN_MV), hw (rf s R.pwrPIN_MW), hw (rf s R.pwrTJ), hw (rf s R.pwrCAP_EFF), hw (rf s R.pwrCAP_CMD)] ∧
      d.length = 8 ∧ s.sameBut t cmdRegs) ∧
    (s.cmdReady c 0xA0 ws → pl ws 0 < 2 → pl ws 2 < 64 →
      (pl ws 0 = 0 → ∃ t, exec (.troubleRead c) s = .next t ∧
        done t (convOut 3 false false ((List.range 16).map fun k => rd s (trbF k).addr)).1 ∧ s.sameBut t cmdRegs) ∧
      (pl ws 0 = 1 → rf s R.trbLOG_NEXT = pl ws 1 + 1 → 1 ≤ pl ws 2 → ∃ t, exec (.troubleRead c) s = .next t ∧
        done t (convOut 3 false false ((List.range 4).map fun w => rd s (R.trbLOGW (4 * (pl ws 1 % 256) + w)).addr)).1 ∧
        s.sameBut t cmdRegs)) ∧
    (s.cmdReady c 0xA1 ws → s.aonOn = true → pl ws 0 < 14 → pl ws 2 < 16 → ∃ t, exec (.troubleClear c) s = .next t ∧ done t [] ∧
      rd t (trbF (pl ws 0)).addr = rd s (trbF (pl ws 0)).addr &&& ~~~(mkW (pl2 ws 1)) ∧
      s.sameBut t ([(trbF (pl ws 0)).addr, R.trbTRB_SUM.addr] ++ cmdRegs)) ∧
    (s.cmdReady c 0xB0 ws → s.aonOn = true → s.pwr.ph = .run → s.pwr.holdAt = none →
      (pl ws 0 = 0 → coldReleasing s = false → ∃ t, exec (.reset c) s = .next t ∧ t.rstReq = [(8, false)] ∧
        (c = .mail → done t [])) ∧
      (pl ws 0 = 1 → ∃ t, exec (.reset c) s = .next t ∧ rf t R.pwrLAST_RESET = 9 ∧ t.pwr.ph = .release ∧ t.up = 0#23 ∧
        rf t R.pwrRESET_CNT = min (rf s R.pwrRESET_CNT + 1) (2 ^ 36 - 1))) ∧
    (s.cmdReady c 0xB1 ws → ∃ t, exec (.clearStartFails c) s = .next t ∧ done t [hw (rf s R.pwrSTART_FAILS)] ∧
      rf t R.pwrSTART_FAILS = 0 ∧ s.sameBut t (R.pwrSTART_FAILS.addr :: cmdRegs)) ∧
    (s.cmdReady c 0xB2 ws → pl ws 0 < 16 → ∃ (t : State) (a b : HWord), exec (.selfTest c) s = .next t ∧ done t [a, b] ∧
      a.toNat &&& pl ws 0 = a.toNat ∧ s.sameBut t cmdRegs ∧ (bit (pl ws 0) 0 = false → b = 0#32 ∧ t.hst.fieldRec = s.hst.fieldRec) ∧
      (bit (pl ws 0) 0 = true → ∃ fs, t.hst.fieldRec = some (s.hst.fieldRec.getD [] ++ fs) ∧ b = hw fs.length)) ∧
    (s.cmdReady c 0xB3 ws → ∃ (t : State) (d : List HWord), exec (.repairStatus c) s = .next t ∧ done t d ∧ d.length = 12 ∧
      d.getD 0 0#32 = hw (b2n (rb s R.smREPAIR_ON)) ∧ (∀ i, i < 8 → d.getD (4 + i) 0#32 = hw (rf s (R.smBANK_OFF i))) ∧
      s.sameBut t cmdRegs) ∧
    (s.cmdReady c 0xC0 ws → pl ws 0 < 2 → s.hst.keys.length = 2 →
      (bit (pkFlags ws) 0 = true → key s (pl ws 0) = .blank → ∃ t, exec (.keyProgram c) s = .next t ∧
        (done t [] ∧ key t (pl ws 0) = .programmed (fromOctets (plBytes ws 1 8)) ∨ s.answered t c ws hsHWFAIL 2 []) ∧
        key t (1 - pl ws 0) = key s (1 - pl ws 0) ∧ s.sameBut t cmdRegs) ∧
      (bit (pkFlags ws) 0 = true → key s (pl ws 0) ≠ .blank → ∃ t, exec (.keyProgram c) s = .next t ∧
        s.answered t c ws hsDENIED 2 [] ∧ t.hst.keys = s.hst.keys) ∧
      (bit (pkFlags ws) 0 = false → ∃ t, exec (.keyProgram c) s = .next t ∧ s.answered t c ws hsPARAM 0 [] ∧
        t.hst.keys = s.hst.keys)) ∧
    (s.cmdReady c 0xC1 ws → pl ws 0 < 2 → s.hst.keys.length = 2 →
      let pub := plBytes ws 1 8
      let good := key s (1 - pl ws 0) = .programmed (fromOctets (sha256 pub)) ∧
        edVerify pub (octets 8 s.cfg.serial ++ octets 4 (pl ws 0) ++ [0x52, 0x45, 0x56, 0x4B]) (plBytes ws 9 16) = true
      ∃ t, exec (.keyRevoke c) s = .next t ∧ (good → done t [] ∧ key t (pl ws 0) = .revoked) ∧
        (¬ good → s.answered t c ws hsDENIED 2 [] ∧ t.hst.keys = s.hst.keys) ∧ key t (1 - pl ws 0) = key s (1 - pl ws 0))

/-- Images and Calliope's commands (R197, R200, R202, R363 to R365): BEGIN opens a session and empties its slot; a CHUNK in order is converted
and stored; COMMIT closes the session and checks; ABORT empties; an arm begins from IDLE alone; a switch posts its target; the
loss mask is written. The model's choices in it: log entries 26, 39, 44 and 67. -/
def Obligations.ImageAndCalliopeCommands : Prop :=
  ∀ (s : State) (c : CmdSrc) (ws : List HWord),
    let done := fun (t : State) (data : List HWord) => s.answered t c ws hsOK 0 data
    let refused := fun (t : State) (st d : Nat) => s.answered t c ws st d [] ∧ s.sameBut t cmdRegs
    (s.cmdReady c 0x20 ws → pl ws 0 < 16 → pl ws 1 < 2 ^ 24 →
      let kind := pl ws 0 % 4
      let fl := decide (kind = 1)
      let slot := if kind = 1 then pl ws 0 / 8 % 2 else pl ws 0 / 4 % 2
      (kind = 3 → ∃ t, exec (.imageBegin c) s = .next t ∧ refused t hsPARAM 0) ∧
      (kind ≠ 3 → (pl ws 1 = 0 ∨ (kind = 1 ∧ 2 ^ 22 < pl ws 1)) → ∃ t, exec (.imageBegin c) s = .next t ∧ refused t hsPARAM 1) ∧
      (kind ≠ 3 → 0 < pl ws 1 → (kind = 1 → pl ws 1 ≤ 2 ^ 22) →
        (imgBusy s fl slot = true → ∃ t, exec (.imageBegin c) s = .next t ∧ refused t hsBUSY 0) ∧
        (imgBusy s fl slot = false → s.hst.imgLen.length = 2 → s.hst.flashLen.length = 2 →
          ∃ t, exec (.imageBegin c) s = .next t ∧ done t [] ∧ ⟨fl, slot, kind, pl ws 1, 0⟩ ∈ t.hst.sess ∧
            (fl = false → t.hst.imgLen.getD slot 0 = 0) ∧ (fl = true → t.hst.flashLen.getD slot 0 = 0) ∧ s.sameBut t cmdRegs))) ∧
    (∀ (data : List HWord) (x : Session), s.cmdReady c 0x21 ws → pl ws 0 < 8 → bit (pl ws 0) 2 = true → pl ws 2 = 8 → pkLen ws = 12 →
      s.hst.sess = [x] → x.flash = true → x.slot = pl ws 0 / 2 % 2 → pl ws 1 = x.got → x.got + 8 ≤ x.total →
      x.got + 8 ≤ 2 ^ 22 → x.total < 2 ^ 24 → ∃ t, exec (.imageChunk c data) s = .next t ∧ done t [] ∧ t.hst.sess = [{ x with got := x.got + 8 }] ∧
        (∀ i, i < 8 → kvGet 0#36 t.hst.flash (x.slot * 2 ^ 22 + x.got + i) =
          (convIn 3 false 8 ((payload ws).drop 3)).1.getD i 0#36) ∧ s.sameBut t cmdRegs) ∧
    (∀ x : Session, s.cmdReady c 0x22 ws → pl ws 0 < 4 → sessOf s ws = some x → storeHeld s c = false → x.flash = false →
      targetUp s 4 (imgBase s x.slot) = false → ∃ t, exec (.imageCommit c) s = .next t ∧ refused t hsACCESS stTIMEOUT ∧
        t.hst.sess = s.hst.sess) ∧
    (∀ x : Session, s.cmdReady c 0x22 ws → pl ws 0 < 4 → sessOf s ws = some x → x.kind = (if x.flash then 1 else 0) →
      storeHeld s c = false → targetUp s 4 (imgBase s x.slot) = true → s.ecc = [] → s.hst.imgLen.length = 2 → s.hst.flashOk.length = 2 → x.slot < 2 →
      let code := imgCheck s x.kind x.got x.total (imgGet s x)
      ∃ t, exec (.imageCommit c) s = .next t ∧ (∀ y ∈ t.hst.sess, y.flash ≠ x.flash ∨ y.slot ≠ x.slot) ∧
        s.sameBut t (R.calCHECK_CODE.addr :: cmdRegs) ∧
        ((x.flash = true ∧ s.answered t c ws hsHWFAIL 1 [] ∧ t.hst.flashOk.getD x.slot true = false ∧
            rf t R.calCHECK_CODE = rf s R.calCHECK_CODE) ∨
         (rf t R.calCHECK_CODE = code % 32 ∧
          (code ≠ 0 → s.answered t c ws hsCHECK code [] ∧ (x.flash = true → t.hst.flashOk.getD x.slot true = false)) ∧
          (code = 0 → done t (two (imgGet s x 11).toNat) ∧ (x.flash = false → t.hst.imgLen.getD x.slot 0 = x.total) ∧
            (x.flash = true → t.hst.flashOk.getD x.slot false = true))))) ∧
    (∀ x : Session, s.cmdReady c 0x23 ws → pl ws 0 < 4 → sessOf s ws = some x →
      (imgBusy s x.flash x.slot = true → ∃ t, exec (.imageAbort c) s = .next t ∧ refused t hsBUSY 0) ∧
      (imgBusy s x.flash x.slot = false → ∃ t, exec (.imageAbort c) s = .next t ∧ done t [] ∧
        (∀ y ∈ t.hst.sess, y.flash ≠ x.flash ∨ y.slot ≠ x.slot) ∧ s.sameBut t cmdRegs)) ∧
    (s.cmdReady c 0x30 ws → pl ws 0 < 2 → pl ws 2 < 16 → pl ws 3 < 1000000000 →
      (imgLen s (pl ws 0) = 0 → ∃ t, exec (.ttArm c) s = .next t ∧ refused t hsPARAM 0) ∧
      (imgLen s (pl ws 0) ≠ 0 → calState s ≠ csIDLE → ∃ t, exec (.ttArm c) s = .next t ∧ refused t hsBUSY 0) ∧
      (imgLen s (pl ws 0) ≠ 0 → calState s = csIDLE → s.ecc = [] → sectsOf s (pl ws 0) 3 = [] → imgRegs s (pl ws 0) = [] →
        ∃ t, exec (.ttArm c) s = .next t ∧ calState t = csARMED ∧ rf t R.calFRAME_NUM = 0 ∧ t.cal.arm = some
          ⟨pl ws 0, 0, pl2 ws 1 * 1000000000 + pl ws 3, false, false, some (cmdPath c, ws.take 4)⟩ ∧
        t.cal.loads = [⟨0, pl ws 0, 0⟩])) ∧
    (s.cmdReady c 0x31 ws → pl ws 0 < 32 →
      let slot := pl ws 0 % 2
      let idx := pl ws 0 / 2
      ((imgTTs s slot).find? (fun e => decide (hdrIndex e.2 = idx)) = none → ∃ t, exec (.ttSwitch c) s = .next t ∧
        refused t hsPARAM 0) ∧
      ((imgTTs s slot).find? (fun e => decide (hdrIndex e.2 = idx)) ≠ none →
        (hostSwitch s slot idx = none → ∃ t, exec (.ttSwitch c) s = .next t ∧ refused t hsBUSY 0) ∧
        ((hostSwitch s slot idx).isSome = true → ∃ t, exec (.ttSwitch c) s = .next t ∧ done t [] ∧ rf t R.calPENDING = 1 ∧
          t.cal.target = some (2, slot, idx)))) ∧
    (s.cmdReady c 0x32 ws →
      (unitsAbsent s (pl ws 0) = true → ∃ t, exec (.ttLoss c) s = .next t ∧ refused t hsABSENT 0) ∧
      (unitsAbsent s (pl ws 0) = false → isUp s iMWY = false → ∃ t, exec (.ttLoss c) s = .next t ∧ refused t hsACCESS stTIMEOUT) ∧
      (unitsAbsent s (pl ws 0) = false → isUp s iMWY = true → s.cal.act = none → ∃ t, exec (.ttLoss c) s = .next t ∧ done t [] ∧
        rf t R.calLOSS_SW = pl ws 0))

/-- Words, blocks and parameter sets (R62, R360, R366, R368, R369): words are read and written with conversion, an atomic answers the old word, a
block transfer is a ring's alone and ends with its own reply; a set goes EMPTY, OPEN, SEALED, is applied at once while Calliope is
IDLE, stays APPLYING while writes in other modules are outstanding, or is discarded. The model's choices in it: log entries 5, 39 and 40. -/
def Obligations.WordsBlocksAndParameterSets : Prop :=
  ∀ (s : State) (c : CmdSrc) (ws : List HWord),
    let done := fun (t : State) (data : List HWord) => s.answered t c ws hsOK 0 data
    let refused := fun (t : State) (st d : Nat) => s.answered t c ws st d [] ∧ s.sameBut t cmdRegs
    (s.cmdReady c 0x40 ws → cmdHeld s c = false → pl ws 1 < 16 → pl ws 2 < 2 ^ 13 →
      let w := pl ws 2
      let n := w % 256
      let cv := cwConv w
      (cv = 0 ∨ 5 < cv ∨ n = 0 ∨ cwMax cv 59 29 52 < n → ∃ t, exec (.readWords c) s = .next t ∧ refused t hsPARAM 2) ∧
      (1 ≤ cv → cv ≤ 5 → 1 ≤ n → n ≤ cwMax cv 59 29 52 → s.smOpen (pl2 ws 0) →
        pl2 ws 0 + cwWords cv n ≤ s.cfg.part.streamWords →
        let o := convOut cv (cwSign w) (cwSat w) (rdBlock s (pl2 ws 0) (cwWords cv n))
        ∃ t, exec (.readWords c) s = .next t ∧ s.answered t c ws hsOK o.2 o.1 ∧ s.sameBut t cmdRegs)) ∧
    (s.cmdReady c 0x41 ws → pl ws 1 < 16 → pl ws 2 < 2 ^ 13 →
      let w := pl ws 2
      let n := w % 256
      let cv := cwConv w
      let d := convIn cv (cwSign w) (cwWords cv n) ((payload ws).drop 3)
      1 ≤ cv → cv ≤ 5 → 1 ≤ n → n ≤ cwMax cv 57 28 50 → cmdHeld s c = false →
      (pkLen ws ≠ 3 + cwHost cv n → ∃ t, exec (.writeWords c) s = .next t ∧ refused t hsLENGTH 0) ∧
      (pkLen ws = 3 + cwHost cv n → ws.length = 4 + pkLen ws → s.smOpen (pl2 ws 0) →
        pl2 ws 0 + cwWords cv n ≤ s.cfg.part.streamWords →
        ∃ t, exec (.writeWords c) s = .next t ∧ s.answered t c ws hsOK d.2 [] ∧
          (∀ i, i < cwWords cv n → rd t (pl2 ws 0 + i) = d.1.getD i 0#36) ∧
          s.sameBut t ((List.range (cwWords cv n)).map (pl2 ws 0 + ·) ++ cmdRegs))) ∧
    (s.cmdReady c 0x44 ws → pl ws 1 < 16 → pl ws 2 < 2 → s.smOpen (pl2 ws 0) →
      let a := pl2 ws 0
      let w := (hw (pl ws 3)).signExtend 36
      ∃ t, exec (.atomic c) s = .next t ∧ done t (two (rdN s a)) ∧ s.sameBut t cmdRegs ∧
        kvFind t.sm.rmw (smBank s a) = some (a, if pl ws 2 = 1 then w else rd s a + w)) ∧
    (∀ e ∈ [(Instr.readBlock c, 0x42, true), (.writeBlock c, 0x43, false)], s.cmdReady c e.2.1 ws → pl ws 1 < 16 → pl ws 2 < 2 ^ 24 →
      pl ws 3 < 2 ^ 13 → pl ws 3 % 256 = 0 →
      (c = .mail → ∃ t, exec e.1 s = .next t ∧ refused t hsPARAM 0) ∧
      (∀ r, c = .ring r → (cwConv (pl ws 3) = 0 ∨ 5 < cwConv (pl ws 3)) → ∃ t, exec e.1 s = .next t ∧ refused t hsPARAM 3) ∧
      (∀ r, c = .ring r → 1 ≤ cwConv (pl ws 3) → cwConv (pl ws 3) ≤ 5 → pl ws 4 % 4 = 0 → ∃ t, exec e.1 s = .next t ∧
        ring t r = ⟨some ws, true, []⟩ ∧ t.hst.xfers = s.hst.xfers ++ [⟨.ring r, ws.take 4, e.2.2, pl2 ws 0,
          cwWords (cwConv (pl ws 3)) (pl ws 2), cwConv (pl ws 3), cwSign (pl ws 3), cwSat (pl ws 3), pl2 ws 4⟩] ∧
        s.sameBut t cmdRegs)) ∧
    (∀ (r : Nat) (x : BlockXfer) (data : List HWord), s.live iHST → monRuns s = true → s.rstReq = [] → s.hst.fwds = [] →
      s.hst.xfers = [x] → x.path = .ring r → r < s.hst.rings.length → pkMod x.hdr ≠ 63 → s.smOpen x.addr →
      x.addr + x.count ≤ s.cfg.part.streamWords →
      let ended := fun (t : State) (st d : Nat) => t.hst.xfers = [] ∧
        (ring t r).replies = (ring s r).replies ++ [(mkReply s x.hdr st d [], true)]
      (rb s R.hstBME = false → ∀ st, ∃ t, exec (.blockTransferDone st data) s = .next t ∧ ended t hsACCESS stBUS) ∧
      (rb s R.hstBME = true → ∃ (t : State) (k : Nat), exec (.blockTransferDone stTIMEOUT data) s = .next t ∧ k ≤ x.count ∧
        ended t hsACCESS (stTIMEOUT + k * 256) ∧ rb t R.hstHOST_TO = true) ∧
      (rb s R.hstBME = true → x.out = true →
        let o := convOut x.conv x.signed x.sat (rdBlock s x.addr x.count)
        ∃ t, exec (.blockTransferDone stOK data) s = .next t ∧ ended t hsOK o.2 ∧ t.mem = s.mem ∧
          t.hostMem = (hostPutAll s x.haddr o.1).hostMem) ∧
      (rb s R.hstBME = true → x.out = false → data.length = hostLen x.conv x.count → 1 ≤ x.conv → x.conv < 5 ∨ x.conv = 5 ∧ x.count % 2 = 0 →
        let d := convIn x.conv x.signed x.count data
        ∃ t, exec (.blockTransferDone stOK data) s = .next t ∧ ended t hsOK d.2 ∧ t.hostMem = s.hostMem ∧
          (∀ i, i < x.count → rd t (x.addr + i) = d.1.getD i 0#36) ∧ s.sameBut t ((List.range x.count).map (x.addr + ·)))) ∧
    (pl ws 0 < 16 → s.hst.psets.length = 16 → (pset s (pl ws 0)).defer = none →
      let k := pl ws 0
      let p := pset s k
      (s.cmdReady c 0x50 ws →
        (p.st = 0 ∨ p.st = 4 → ∃ t, exec (.paramBegin c) s = .next t ∧ done t [] ∧ pset t k = { p with st := 1, runs := [] } ∧
          s.sameBut t cmdRegs) ∧
        (p.st ≠ 0 → p.st ≠ 4 → ∃ t, exec (.paramBegin c) s = .next t ∧ refused t hsBUSY 0 ∧ pset t k = p)) ∧
      (s.cmdReady c 0x51 ws → pl ws 2 < 16 → pl ws 3 < 2 ^ 13 →
        let w := pl ws 3
        let n := w % 256
        let cv := cwConv w
        let d := convIn cv (cwSign w) (cwWords cv n) ((payload ws).drop 4)
        (p.st ≠ 1 → ∃ t, exec (.paramAdd c) s = .next t ∧ refused t hsBUSY 0) ∧
        (p.st = 1 → 1 ≤ cv → cv ≤ 5 → 1 ≤ n → n ≤ cwMax cv 56 28 49 → pkLen ws = 4 + cwHost cv n →
          psWords s + d.1.length ≤ 65536 → psRuns s < 4096 → ∃ t, exec (.paramAdd c) s = .next t ∧ s.answered t c ws hsOK d.2 [] ∧
            pset t k = { p with runs := p.runs ++ [⟨pl2 ws 1, d.1⟩] } ∧ s.sameBut t cmdRegs)) ∧
      (s.cmdReady c 0x52 ws →
        (p.st ≠ 1 → ∃ t, exec (.paramSeal c) s = .next t ∧ refused t hsBUSY 0) ∧
        (p.st = 1 → calState s ≠ csIDLE →
          (bit (pkFlags ws) 1 = false → ∃ t, exec (.paramSeal c) s = .next t ∧ done t [] ∧ pset t k = { p with st := 2, defer := none } ∧
            s.sameBut t cmdRegs) ∧
          (bit (pkFlags ws) 1 = true → ∃ t, exec (.paramSeal c) s = .next t ∧
            pset t k = { p with st := 2, defer := some (cmdPath c, ws.take 4) } ∧ s.sameBut t cmdRegs)) ∧
        (p.st = 1 → calState s = csIDLE → p.runs = [] → paramWaits s = true → bit (pkFlags ws) 1 = false →
          ∃ t, exec (.paramSeal c) s = .next t ∧ done t [] ∧ (pset t k).st = 3 ∧ t.raiseQ = s.raiseQ ∧ s.sameBut t cmdRegs) ∧
        (p.st = 1 → calState s = csIDLE → p.runs = [] → paramWaits s = false → bit (pkFlags ws) 1 = false → ∃ t, exec (.paramSeal c) s = .next t ∧ done t [] ∧
          pset t k = ⟨0, [], none, rf s R.calFRAME_NUM⟩ ∧ t.raiseQ = s.raiseQ ++ [199] ∧ s.sameBut t cmdRegs)) ∧
      (s.cmdReady c 0x53 ws →
        (p.st = 3 → ∃ t, exec (.paramDiscard c) s = .next t ∧ refused t hsBUSY 0) ∧
        (p.st = 1 ∨ p.st = 2 → ∃ t, exec (.paramDiscard c) s = .next t ∧ done t [] ∧ pset t k = { p with st := 0, runs := [] } ∧
          s.sameBut t cmdRegs) ∧
        (p.st = 0 ∨ p.st = 4 → ∃ t, exec (.paramDiscard c) s = .next t ∧ done t [] ∧ pset t k = p ∧ s.sameBut t cmdRegs))) ∧
    (s.cmdReady c 0x54 ws → ∃ (t : State) (d : List HWord), exec (.paramStatus c) s = .next t ∧ done t d ∧ d.length = 19 ∧
      (∀ k, k < 16 → (pset s k).st < 8 → (∀ j, (pset s j).st < 8) →
        bits ((d.getD 0 0#32).toNat + (d.getD 1 0#32).toNat * 2 ^ 32) (3 * k + 2) (3 * k) = (pset s k).st) ∧
      (∀ k, k < 16 → d.getD (3 + k) 0#32 = hw (pset s k).frame) ∧ s.sameBut t cmdRegs)

/-- Commands on queues, classifier, nodes, probing and the map (R214, R222, R223, R244, R248, R251, R254, R256): what their unit's own operation does,
with ABSENT beyond the part, TIMEOUT where the island is in reset, and BAD_PARAM for what the unit refuses.
The model's choices in it: log entries 27, 39 and 68. -/
def Obligations.UnitCommands : Prop :=
  ∀ (s : State) (c : CmdSrc) (ws : List HWord),
    let done := fun (t : State) (data : List HWord) => s.answered t c ws hsOK 0 data
    let refused := fun (t : State) (st d : Nat) => s.answered t c ws st d [] ∧ s.sameBut t cmdRegs
    (∀ e ∈ [(Instr.queueSet c, 0x60, s.cfg.part.queues), (.queueGet c, 0x61, s.cfg.part.queues), (.nodeSet c, 0x63, 4096),
        (.probeSet c, 0x70, 4096)],
      s.cmdReady c e.2.1 ws → (∀ i, 1 ≤ i → pl ws i < 4) → e.2.2 ≤ pl ws 0 → ∃ t, exec e.1 s = .next t ∧ refused t hsABSENT 0) ∧
    (∀ e ∈ [(Instr.queueSet c, 0x60, 0, iMWY), (.queueGet c, 0x61, 0, iMWY), (.clsOp c, 0x62, 1, iFLD), (.nodeSet c, 0x63, 0, iFLD),
        (.probeSet c, 0x70, 0, iMWY), (.probeCtrl c, 0x71, 0, iMWY), (.mapCtrl c, 0x72, 1, iMWY)],
      s.cmdReady c e.2.1 ws → (∀ i, 1 ≤ i → pl ws i < 4) → pl ws 0 = e.2.2.1 → isUp s e.2.2.2 = false →
        ∃ t, exec e.1 s = .next t ∧ refused t hsACCESS stTIMEOUT) ∧
    (s.cmdReady c 0x60 ws → isUp s iMWY = true → pl ws 0 < s.cfg.part.queues → pl ws 2 < 16 → pl ws 4 < 16 →
      let q := pl ws 0
      let d : Word × Word := (mkW (pl2 ws 1), mkW (pl2 ws 3))
      (qdOk s d = true → ∃ t, exec (.queueSet c) s = .next t ∧ done t [] ∧ qdAt t q = d ∧ (∀ j, j ≠ q → qdAt t j = qdAt s j) ∧
        s.sameBut t ([R.qeQD_INDEX.addr, R.qeQD_W0.addr, R.qeQD_W1.addr, R.qeQD_STATUS.addr] ++ cmdRegs)) ∧
      (qdOk s d = false → ∃ t, exec (.queueSet c) s = .next t ∧ s.answered t c ws hsPARAM 1 [] ∧ ∀ j, qdAt t j = qdAt s j)) ∧
    (s.cmdReady c 0x61 ws → isUp s iMWY = true → pl ws 0 < s.cfg.part.queues →
      let q := pl ws 0
      let a := lvtBase s + 2 * q
      s.smOpen a → a + 1 < s.cfg.part.streamWords → ∃ t, exec (.queueGet c) s = .next t ∧
        done t (two (qdAt s q).1.toNat ++ two (qdAt s q).2.toNat ++ two (rdN s a) ++ two (rdN s (a + 1))) ∧
        s.sameBut t ([R.qeQD_INDEX.addr, R.qeQD_W0.addr, R.qeQD_W1.addr, R.qeQD_STATUS.addr] ++ cmdRegs)) ∧
    (s.cmdReady c 0x62 ws → isUp s iFLD = true → pl ws 0 < 4 → pl ws 2 < 16 → pl ws 4 < 16 →
      let e : Word × Word := (mkW (pl2 ws 1), mkW (pl2 ws 3))
      (pl ws 0 = 0 → ∃ t, exec (.clsOp c) s = .next t ∧ refused t hsPARAM 0) ∧
      (∀ i, pl ws 0 = 3 → clsLocate s e = some i → ∃ t, exec (.clsOp c) s = .next t ∧ done t [0#32, hw (i % 2 ^ 17)] ∧ t.fld = s.fld) ∧
      (∀ i, pl ws 0 = 2 → clsLocate s e = some i → ∃ t, exec (.clsOp c) s = .next t ∧ done t [0#32, hw (i % 2 ^ 17)] ∧
        clsAt t i = (0#36, 0#36) ∧ ∀ j, j ≠ i → clsAt t j = clsAt s j) ∧
      (pl ws 0 = 1 → clsRangeOk s e = false → ∃ t, exec (.clsOp c) s = .next t ∧ s.answered t c ws hsPARAM 1 [] ∧ t.fld = s.fld)) ∧
    (s.cmdReady c 0x63 ws → s.live iFLD → isUp s iMWY = true → pl ws 0 < 4096 → (∀ i ∈ [2, 4, 6, 8], pl ws i < 16) →
      let n := pl ws 0
      ∃ t, exec (.nodeSet c) s = .next t ∧ done t [] ∧ bits (rdN t (R.ndVALID n).addr) 20 0 = pl2 ws 1 % 2 ^ 21 ∧
        rb t (R.ndSEEN n) = false ∧ rf t (R.ndMAC_HI n) = pl2 ws 3 ∧ rf t (R.ndMAC_LO n) = pl2 ws 5 % 2 ^ 12 ∧
        rf t (R.ndUDP_DPORT n) = pl2 ws 5 / 2 ^ 12 % 2 ^ 16 ∧ rf t (R.ndIPV4 n) = pl2 ws 7 % 2 ^ 32 ∧
        s.sameBut t ([(R.ndVALID n).addr, (R.ndMAC_HI n).addr, (R.ndMAC_LO n).addr, (R.ndIPV4 n).addr, (R.ndSEEN n).addr] ++ cmdRegs)) ∧
    (s.cmdReady c 0x70 ws → isUp s iMWY = true → pl ws 0 < 4096 → pl ws 1 < 4 → (∀ i ∈ [3, 5, 7, 9], pl ws i < 16) →
      let ch := pl ws 0
      let a := (R.idnVALID ch).addr
      let same := ∀ i, i < 4 → rd s (a + 1 + i) = mkW (pl2 ws (2 + 2 * i))
      (rb s (R.idnVALID ch) = true → ¬ same → ∃ t, exec (.probeSet c) s = .next t ∧ s.answered t c ws hsPARAM 258 [] ∧
        rb t R.idnCFG_REJECT = true) ∧
      (same → rb s (R.idnVALID ch) = bit (pl ws 1) 0 → rb s (R.idnENABLE ch) = bit (pl ws 1) 1 → ∃ t, exec (.probeSet c) s = .next t ∧
          done t [hw (rf s (R.idnUNIT_STATE ch))] ∧ s.sameBut t cmdRegs)) ∧
    (s.cmdReady c 0x71 ws → isUp s iMWY = true → pl ws 0 < 4 → bit (pl ws 0) 1 = false ∨ rf s R.idnGUARD_STATE = 1 →
      ∃ t, exec (.probeCtrl c) s = .next t ∧ done t [hw (rf s R.idnGUARD_STATE)] ∧ rb t R.idnPROBE_OFF = bit (pl ws 0) 0 ∧
        s.sameBut t (R.idnPROBE_OFF.addr :: cmdRegs)) ∧
    (s.cmdReady c 0x72 ws → isUp s iMWY = true → pl ws 0 < 4 →
      (pl ws 0 = 0 ∨ pl ws 0 = 3 → ∃ t, exec (.mapCtrl c) s = .next t ∧ refused t hsPARAM 0) ∧
      (pl ws 0 = 1 → calPlays s = true → ∃ t, exec (.mapCtrl c) s = .next t ∧ s.answered t c ws hsPARAM 0 [] ∧
        rf t R.idnSWAP_CODE = 5) ∧
      (pl ws 0 = 2 → calPlays s = true → ∃ t, exec (.mapCtrl c) s = .next t ∧ done t [hw (rf s R.idnSWAP_CODE)] ∧
        rb t R.idnREVERT_PENDING = true ∧ s.sameBut t (R.idnREVERT_PENDING.addr :: cmdRegs)))

/-- Power-on, releases and starts (R379 to R383, R387, R390, R391, R393): power-on leaves Cold values; the cold release loads straps and repairs, begins a start
and awaits the locks; a lock releases its island; START_OK within 2 s ends the start, and without it the start fails; Monitor begins from its
kept memory, or nothing starts; ISL_ON, FORCE_REL and CORE_OFF. The model's choices in it: log entries 8, 33, 56, 61 and 64. -/
def Obligations.StartsAndReleases : Prop :=
  ∀ s : State,
    (s.aonOn = false → ∃ t, exec .powerOn s = .next t ∧ t.aonOn = true ∧ t.up = 0#23 ∧ t.pwr.ph = .release ∧ rf t R.pwrLAST_RESET = 1 ∧
      (∀ a, a ≠ R.pwrLAST_RESET.addr → rd t a = coldWord s.cfg.part a) ∧ t.hst.flash = s.hst.flash ∧ t.hst.keys = s.hst.keys) ∧
    (s.aonOn = true → exec .powerOn s = .next s) ∧
    (s.aonOn = true →
      (∀ fuseBad trimBad : Nat, s.pwr.ph = .release → rstHeld s = false → s.quiet →
        ∃ t, exec (.coldRelease fuseBad trimBad) s = .next t ∧ t.pwr.ph = .run ∧ s.now ≤ t.now ∧ t.now ≤ s.now + 3000000 ∧
          (isUp s iCAS = false → rf t R.casCASC_ID = s.cfg.cascId % 32 ∧ rb t R.casMASTER_STRAP = s.cfg.cascMaster ∧
            isMaster t = s.cfg.cascMaster) ∧
          (isUp s iCAS = true → cascId t = cascId s ∧ isMaster t = isMaster s) ∧ rb t R.pwrTRIM_DONE = true ∧
          rb t R.smREPAIR_ON = !rb t R.pwrTRIM_SAFE ∧
          (∀ b, b < s.cfg.part.banks → (if rb t R.pwrTRIM_SAFE then 0 else 2) < bankFaults s b → bankOff t b = true) ∧
          rf t R.smSPARES_USED = (if rb t R.pwrTRIM_SAFE then 0 else
            ((List.range s.cfg.part.banks).map fun b => min 2 (bankFaults s b)).sum) ∧
          (rb t R.pwrTRIM_SAFE = true ↔ 2 ≤ fuseBad ∨ 2 ≤ trimBad) ∧ rb t R.pwrRESTARTING = true ∧ t.pwr.startAt = t.now ∧
          (rf s R.pwrSTART_FAILS < 3 → mode t = mode s ∧ t.pwr.bootDue = true ∧ (mode s ≠ mRECOVERY → t.pwr.lockPend =
            (0x4E0001#23 ||| (BitVec.ofNat 23 (rf s R.pwrISL_ON) &&& ~~~(BitVec.ofNat 23 (rf s R.pwrISL_LOST)))) &&& ~~~s.up)) ∧
          (3 ≤ rf s R.pwrSTART_FAILS → mode t = mRECOVERY ∧ t.pwr.lockPend = 0x560000#23 &&& ~~~s.up)) ∧
      (∀ i : Nat, s.pwr.ph = .run → s.pwr.lockPend.getLsbD i = true →
        ∃ t, exec (.clockLock i) s = .next (keep s (calSettle t)) ∧ t.up = s.up ||| (1#23 <<< i) ∧ t.now = s.now + rst64 i ∧
          t.pwr.lockPend = s.pwr.lockPend &&& ~~~(1#23 <<< i) ∧
          (i = iRMC → s.pwr.rel208 = true → s.hst.early = [] → t.raiseQ = [208] ∧ t.pwr.rel208 = false) ∧
          (i = iRMC → 0 < s.cores.length → (core t 0).hold = .rom) ∧
          (i = iCAS → s.cas.links.length = s.cfg.part.links → ∀ l, l < s.cfg.part.links → rf s (R.casUNIT_STATE l) = usON →
            rf t (R.casLSTATE l) = 1)) ∧
      (rb s R.pwrRESTARTING = true → mode s ≠ mRECOVERY → s.pwr.startAt + 2000000000 < s.now → exec .startOk s = .next s) ∧
      (rb s R.pwrRESTARTING = true → mode s = mRECOVERY ∨ s.now ≤ s.pwr.startAt + 2000000000 → ∃ t, exec .startOk s = .next t ∧ rf t R.pwrSTART_FAILS = 0 ∧ rb t R.pwrRESTARTING = false ∧
        (∀ n, n < s.cfg.part.cores → rb t (R.rmWD_STRIKE n) = false) ∧
        (mode s = mBOOT → mode t = mCONFIGURE ∧ t.raiseQ = s.raiseQ ++ [204]) ∧ (mode s = mRECOVERY → mode t = mRECOVERY) ∧
        (mode s = mRUN → s.cal.was = none → mode t = mCONFIGURE)) ∧
      (rb s R.pwrRESTARTING = false → exec .startOk s = .next s) ∧
      (rb s R.pwrRESTARTING = true → mode s ≠ mRECOVERY → s.pwr.ph = .run → s.pwr.holdAt = none → s.rstReq = [] →
        (s.pwr.startWarm = true → isUp s iMWY = true → coldReleasing s = false → ∃ t, exec .startTimeout s = .next t ∧ t.rstReq = [(13, false)] ∧
          t.now = max s.now (s.pwr.startAt + 2000000000) ∧ t.mem = s.mem) ∧
        (s.pwr.startWarm = false → ∃ t, exec .startTimeout s = .next t ∧ rf t R.pwrLAST_RESET = 13 ∧ t.pwr.ph = .release ∧
          rf t R.pwrSTART_FAILS = min (rf s R.pwrSTART_FAILS + 1) 7)) ∧
      (∀ w : Word, ∃ t, exec (.islOn w) s = .next t ∧ rf t R.pwrISL_ON = bits w.toNat 22 0 ∧ s.sameBut t [R.pwrISL_ON.addr] ∧
        t.pwr.lockPend = s.pwr.lockPend ||| (BitVec.ofNat 23 (bits w.toNat 22 0) &&&
          ~~~(s.up ||| BitVec.ofNat 23 (rf s R.pwrISL_LOST)) &&& ~~~(0x4E0001#23))) ∧
      (mode s = mTEST → let m := BitVec.ofNat 23 (rf s R.pwrFORCE_ISL) &&& ~~~s.up
        ∃ t, exec .forceRel s = .next t ∧ t.up = s.up ||| m ∧ t.forced = s.forced ||| m ∧ t.mem = s.mem ∧
          t.noticeQ = s.noticeQ ++ [⟨20, 0, 0#36⟩]) ∧
      (mode s ≠ mTEST → exec .forceRel s = .next s) ∧
      (∀ w : Word, s.cores.length = s.cfg.part.cores → ∃ t, exec (.coreOff w) s = .next t ∧
        rf t R.pwrCORE_OFF = bits w.toNat 4 2 ∧ s.sameBut t [R.pwrCORE_OFF.addr] ∧
        ∀ n, 1 ≤ n → n < s.cfg.part.cores → core t n =
          (if bit w.toNat (n + 1) = false ∧ (core s n).pw = .off then { core s n with pw := .waking (s.now + 20000) }
           else core s n))) ∧
    (s.live iRMC → s.pwr.bootDue = true → s.pwr.ph = .run → s.cores.length = s.cfg.part.cores → s.hst.early = [] →
      (∀ crc rs, s.pwr.mon = some (s.hst.bootSel, crc, rs) → s.pwr.startWarm = true → monCrc s rs = crc →
        ∃ t, exec .monitorBoot s = .next t ∧ t.pwr.bootDue = false ∧ (core t 0).pc = (Config.freeWord s.free).toNat ∧
          (core t 0).slot = 0 ∧ (core t 0).hold = .none ∧ t.hst = s.hst) ∧
      (s.pwr.mon = none → bootLoads s (s.hst.bootSel % 2) = none → bootLoads s (1 - s.hst.bootSel % 2) = none →
        ∃ t, exec .monitorBoot s = .next t ∧ t.pwr.bootDue = false ∧ t.cores = s.cores ∧ t.mem = s.mem))

/-- Reset requests (R384 to R386, R388, R389, R411): a cold request resets at once, a warm one waits for WARM_RESET, in a quiesce both merge; the warm
reset quiesces, resets its islands and releases them unless a pin holds it; a lost lock resets its island, or the module.
The model's choices in it: log entries 8, 17 and 56. -/
def Obligations.ResetsAreRequestedAndTaken : Prop :=
  ∀ s : State, s.aonOn = true →
    let cold := fun (t : State) (code : Nat) => rf t R.pwrLAST_RESET = code ∧ t.pwr.ph = .release ∧ t.up = 0#23 ∧ mode t = mBOOT ∧
      rf t R.pwrRESET_CNT = min (rf s R.pwrRESET_CNT + 1) (2 ^ 36 - 1) ∧ t.hst.flash = s.hst.flash ∧ t.noticeQ.length ≤ s.noticeQ.length + 2
    (s.pwr.ph = .run → s.pwr.holdAt = none → s.rstReq = [] →
      (∃ t, exec .coldReq s = .next t ∧ cold t 9) ∧
      (∃ t, exec .ncoldPinLow s = .next t ∧ cold t 2 ∧ t.pwr.pinC = true) ∧
      (rf s R.hstPERST_MODE = 2 → ∃ t, exec .perstAsserted s = .next t ∧ cold t 5 ∧ t.pwr.pinP = true) ∧
      (s.pwr.refHold = false → ∃ t, exec .referenceLoss s = .next t ∧ cold t 15 ∧ t.pwr.refHold = true ∧ rb t R.pwrREF_LOST = true) ∧
      (coldReleasing s = false →
        (∃ t, exec .warmReq s = .next t ∧ t.rstReq = [(8, false)] ∧ t.mem = s.mem ∧ t.pwr = s.pwr) ∧
        (∃ t, exec .nwarmPinLow s = .next t ∧ t.rstReq = [(3, false)] ∧ t.mem = s.mem ∧ t.pwr.pinW = true) ∧
        (rf s R.hstPERST_MODE = 1 → ∃ t, exec .perstAsserted s = .next t ∧ t.rstReq = [(4, false)] ∧ t.raiseQ = s.raiseQ ++ [198] ∧
          t.mem = s.mem ∧ t.pwr.pinP = true) ∧
        (∀ i ∈ [iMWY, iRMC, iHST], isUp s i = true → s.pwr.lockOnce.getLsbD i = false → ∃ t, exec (.islandLockLoss i) s = .next t ∧
          t.rstReq = [(14, false)] ∧ t.raiseQ = s.raiseQ ++ [205] ∧ rb t (fbit R.pwrISL_LOCKLOSS i) = true ∧
          s.sameBut t [R.pwrISL_LOCKLOSS.addr]))) ∧
    (rf s R.hstPERST_MODE ≠ 1 → rf s R.hstPERST_MODE ≠ 2 → s.rstReq = [] → ∃ t, exec .perstAsserted s = .next t ∧ t.mem = s.mem ∧
      t.raiseQ = s.raiseQ ++ [198] ∧ t.pwr = s.pwr) ∧
    (s.pwr.ph = .quiesce → s.pwr.holdAt = none → s.rstReq = [] →
      (∃ t, exec .warmReq s = .next t ∧ t.pwr.merged = s.pwr.merged ++ [8] ∧ t.rstReq = [] ∧ t.mem = s.mem) ∧
      (∃ t, exec .coldReq s = .next t ∧ t.pwr.coldPend = some (s.pwr.coldPend.getD 9) ∧ t.rstReq = [] ∧ t.mem = s.mem)) ∧
    (∃ t, exec .referenceRestored s = .next t ∧ t.pwr.refHold = false ∧ t.mem = s.mem) ∧
    (∀ pin : Nat, s.pwr.ph ≠ .warmHeld → ∃ t, exec (.resetPinRelease pin) s = .next t ∧ t.mem = s.mem ∧
      t.pwr.pinC = (s.pwr.pinC && decide (pin ≠ 0)) ∧ t.pwr.pinW = (s.pwr.pinW && decide (pin ≠ 1)) ∧
      t.pwr.pinP = (s.pwr.pinP && decide (pin ≠ 2))) ∧
    (s.pwr.ph = .warmHeld → s.quiet → mode s ≠ mRECOVERY → rf s R.pwrSTART_FAILS < 3 →
      rstHeld { s with pwr := { s.pwr with pinW := false } } = false → ∃ t, exec (.resetPinRelease 1) s = .next (keep s (calSettle t)) ∧
        t.pwr.ph = .run ∧ rb t R.pwrRESTARTING = true ∧ t.pwr.startWarm = true ∧ t.up = s.up ||| s.pwr.heldUp ∧
        mode t = (if mode s = mTEST then mCONFIGURE else mode s)) ∧
    (∀ code : Nat, s.rstReq = [(code, false)] → s.pwr.ph = .run → s.bm.comb = [] → ∃ t, exec .warmReset s = .next t ∧ t.pwr.ph = .quiesce ∧
      t.pwr.code = code ∧ t.rstReq = [] ∧ rf t R.pwrRESET_CNT = min (rf s R.pwrRESET_CNT + 1) (2 ^ 36 - 1) ∧
      (isUp s iMWY = true → calState t = csIDLE)) ∧
    (s.pwr.ph = .quiesce →
      (∀ c, s.pwr.coldPend = some c → c < 16 → ∃ t, exec .warmQuiesceDone s = .next t ∧ cold t c) ∧
      (s.pwr.coldPend = none → s.pwr.code < 16 → (s.pwr.pinW = true → ∃ t, exec .warmQuiesceDone s = .next t ∧ t.pwr.ph = .warmHeld ∧
          t.up = s.up &&& ~~~warmMask ∧ rf t R.pwrLAST_RESET = s.pwr.code ∧ s.now + 256 ≤ t.now ∧ t.now ≤ s.now + 20256) ∧
        (rstHeld s = false → s.quiet → mode s ≠ mRECOVERY → rf s R.pwrSTART_FAILS < 3 →
          ∃ t, exec .warmQuiesceDone s = .next (keep s (calSettle t)) ∧ t.pwr.ph = .run ∧ rf t R.pwrLAST_RESET = s.pwr.code ∧
            rb t R.pwrRESTARTING = true ∧ t.up = s.up ∧ s.now + 256 ≤ t.now ∧ t.now ≤ s.now + 20256))) ∧
    (∀ i : Nat, i < 23 → i ≠ iMWY → i ≠ iRMC → i ≠ iHST → s.pwr.ph = .run → s.quiet → isUp s i = true →
      ∃ t, exec (.islandLockLoss i) s = .next (keep s (rstSettle (calSettle t))) ∧ t.up = s.up &&& ~~~(1#23 <<< i) ∧
        rb t (fbit R.pwrISL_LOCKLOSS i) = true ∧ 205 ∈ t.raiseQ ∧
        (s.pwr.lockOnce.getLsbD i = false → t.pwr.lockPend = s.pwr.lockPend ||| (1#23 <<< i)) ∧
        (s.pwr.lockOnce.getLsbD i = true → rb t (fbit R.pwrISL_LOST i) = true))

/-- Supply, cap and heat (R392, R394, R395, R397): LOW_SUPPLY, CAP_CAUSE and THERM_HOT come and go with their measurements, lower the cap and derate
RUN; OVER_CAP and HOLD follow an excess; the trip and a brown-out reset cold and hold; a lost input starts hold-up, which ends in a
resume, in a reset, or in the removal of power. The model's choices in it: log entries 57 and 58. -/
def Obligations.SupplyCapAndHeat : Prop :=
  ∀ s : State, s.aonOn = true →
    let cap := if rf s R.pwrCAP_CMD = 0 then 950 else rf s R.pwrCAP_CMD
    let derated := fun t : State => mode t = if mode s = mRUN then mDERATED else mode s
    (∀ mv : Nat, mv < 10800 → rb s R.pwrLOW_SUPPLY = false → ∃ t, exec (.lowSupplySet mv) s = .next t ∧ rb t R.pwrLOW_SUPPLY = true ∧
      rf t R.pwrVIN_MV = mv ∧ rf t R.pwrCAP_EFF = min cap 480 ∧ derated t ∧ 200 ∈ t.raiseQ ∧ t.pwr.pmInput.getLsbD 5 = true) ∧
    (∀ mv : Nat, 11300 < mv → mv < 2 ^ 16 → rb s R.pwrLOW_SUPPLY = true → ∃ t, exec (.lowSupplyClear mv) s = .next t ∧
      rb t R.pwrLOW_SUPPLY = false ∧ rf t R.pwrVIN_MV = mv ∧ rf t R.pwrCAP_EFF = cap ∧ 200 ∈ t.raiseQ ∧
      (mode s = mDERATED → rb s R.pwrTHERM_HOT = false → rb s R.pwrCAP_CAUSE = false → mode t = mRUN)) ∧
    (∀ mw : Nat, mw < 2 ^ 17 → ∃ t, exec (.powerWindowEnd mw) s = .next t ∧ rf t R.pwrPIN_MW = mw ∧
      t.now = max s.now (s.pwr.winAt + 1000000) ∧
      (mode s = mRUN → rf s R.pwrCAP_EFF * 100 < mw → s.pwr.overN = 9 → rb t R.pwrCAP_CAUSE = true ∧ mode t = mDERATED) ∧
      (mode s = mCONFIGURE ∨ mode s = mTEST → rf s R.pwrCAP_EFF * 100 < mw → rb t R.pwrOVER_CAP = true ∧ mode t = mode s) ∧
      (mode s = mDERATED → rf s R.pwrCAP_EFF * 100 < mw → s.pwr.overN = 99 → calState s = csIDLE → rb t R.pwrOVER_CAP = true ∧
        mode t = mHOLD) ∧
      (mode s = mDERATED → mw ≤ rf s R.pwrCAP_EFF * 90 → s.pwr.underN = 999 → rb s R.pwrTHERM_HOT = false →
        rb s R.pwrLOW_SUPPLY = false → rb t R.pwrCAP_CAUSE = false ∧ mode t = mRUN)) ∧
    (∀ tj : BitVec 12,
      (800 ≤ sext 12 tj.toNat → sext 12 tj.toNat < 880 → ∃ t, exec (.tjMeasurement tj) s = .next (keep s (rstSettle t)) ∧
        rf t R.pwrTJ = tj.toNat ∧ t.now = max s.now (s.pwr.tjAt + 1000000) ∧ rb t R.pwrTHERM_HOT = true ∧ derated t ∧
        t.pwr.pmTemp.getLsbD 6 = true) ∧
      (∀ t0, sext 12 tj.toNat < 760 → s.pwr.cool = some t0 → t0 + 1000000000 ≤ s.now →
        ∃ t, exec (.tjMeasurement tj) s = .next (keep s (rstSettle t)) ∧ rf t R.pwrTJ = tj.toNat ∧ rb t R.pwrTHERM_HOT = false ∧
          t.pwr.thHold = false ∧
          (mode s = mDERATED → rb s R.pwrLOW_SUPPLY = false → rb s R.pwrCAP_CAUSE = false → mode t = mRUN)) ∧
      (880 ≤ sext 12 tj.toNat → s.pwr.thHold = true → s.rstReq = [] → ∃ t, exec (.tjMeasurement tj) s = .next t ∧ t.rstReq = [] ∧
        t.up = s.up ∧ t.pwr.thHold = true) ∧
      (880 ≤ sext 12 tj.toNat → s.pwr.thHold = false → s.pwr.ph = .run → s.pwr.holdAt = none → s.rstReq = [] → ∃ t, exec (.tjMeasurement tj) s = .next t ∧
        rf t R.pwrLAST_RESET = 11 ∧ t.pwr.ph = .release ∧ t.pwr.thHold = true ∧ t.up = 0#23)) ∧
    (s.pwr.holdAt = none → s.pwr.boHold = false → s.pwr.ph = .run → s.rstReq = [] → ∃ t, exec .brownOut s = .next t ∧ rf t R.pwrLAST_RESET = 12 ∧
      t.pwr.ph = .release ∧ t.pwr.boHold = true ∧ t.pwr.pgood = false ∧ t.up = 0#23) ∧
    (∃ t, exec .brownOutRecovery s = .next t ∧ t.pwr.boHold = false ∧ t.mem = s.mem) ∧
    (rf s R.pwrHOLDUP_MS = 0 → s.pwr.noIn = false → ∃ t, exec .inputSupplyLoss s = .next t ∧ t.aonOn = false ∧ t.up = 0#23 ∧
      t.hst.flash = s.hst.flash ∧ t.hostMem = s.hostMem) ∧
    (∀ mv : Nat, mv < 5500 → rf s R.pwrHOLDUP_MS = 0 → s.pwr.noIn = false → ∃ t, exec (.inputLoss mv) s = .next t ∧
      rf t R.pwrVIN_MV = mv ∧ t.pwr.pgood = false ∧ t.pwr.pmInput.getLsbD 4 = true ∧ t.up = s.up) ∧
    (∀ mv : Nat, mv < 5500 → rf s R.pwrHOLDUP_MS ≠ 0 → s.pwr.noIn = false → ∃ t, exec (.inputLoss mv) s = .next t ∧
      rb t R.pwrHOLDUP_ACTIVE = true ∧ rf t R.pwrVIN_MV = mv ∧ t.up = s.up &&& 0x100000#23 ∧ t.pwr.holdAt = some s.now ∧
      t.pwr.noIn = true ∧ t.pwr.pgood = false ∧ t.rstReq = [] ∧ 203 ∈ t.raiseQ) ∧
    (∀ mv : Nat, 6000 < mv → mv < 2 ^ 16 → s.pwr.noIn = true → s.pwr.endAt = none → s.rstReq = [] →
      (s.pwr.holdAt = none → ∃ t, exec (.inputRestored mv) s = .next t ∧ t.pwr.noIn = false ∧ rf t R.pwrVIN_MV = mv ∧
        s.sameBut t [R.pwrVIN_MV.addr]) ∧
      (s.pwr.holdAt ≠ none → s.pwr.held = [] → ∃ t, exec (.inputRestored mv) s = .next t ∧ mode t = mBOOT ∧ t.pwr.ph = .release ∧
        rf t R.pwrLAST_RESET = 0 ∧ t.pwr.noIn = false ∧ 203 ∈ t.raiseQ) ∧
      (∀ c, s.pwr.holdAt ≠ none → s.pwr.held = [(c, true)] → c < 16 → ∃ t, exec (.inputRestored mv) s = .next t ∧
        rf t R.pwrLAST_RESET = c ∧ t.pwr.ph = .release ∧ t.up = 0#23)) ∧
    (∀ (t0 : Nat) (byPin : Bool), s.pwr.holdAt = some t0 → s.pwr.endAt = none → ∃ t, exec (.holdupEnd byPin) s = .next t ∧
      t.now = (if byPin then s.now else max s.now (t0 + rf s R.pwrHOLDUP_MS * 1000000)) ∧ t.pwr.endAt = some t.now ∧
      (activeStreams s = [] → t.mem = s.mem) ∧
      (∀ p st, p < 8 → st < 1024 → activeStreams s = [(p, st)] → rf t (R.fpKSTATE p st) = 2 ∧ rb t (R.fpEXPIRED p) = true)) ∧
    (s.pwr.holdAt = none → s.pwr.noIn = true → ∃ t, exec (.holdupEnd true) s = .next t ∧ t.aonOn = false ∧ t.up = 0#23) ∧
    (∀ t0 : Nat, s.pwr.endAt = some t0 → ∃ t, exec .aonPowerRemoval s = .next t ∧ t.aonOn = false ∧ t.up = 0#23 ∧
      t.hst.flash = s.hst.flash ∧ ((∀ p, p < s.cfg.part.ports → (port s p).tx = []) → t.now = s.now))

/-- PMBus (R398, Table MRP-10): while AON is on each read answers its bytes and changes no register, CLEAR_FAULTS clears the status bits, and any
other command sets CML, with source 206 where it was 0. The model's choices in it: log entry 28. -/
def Obligations.PmbusAnswers : Prop :=
  ∀ s : State, s.aonOn = true →
    let out := fun (i : Instr) (l : List Nat) => ∃ t, exec i s = .next t ∧ t.pwr = { s.pwr with pmOut := some l } ∧ t.mem = s.mem
    let word := fun (n : Nat) => [n % 256, n / 256 % 256]
    let byte := b2n (!s.pwr.pgood) * 64 + b2n (s.pwr.pmInput.getLsbD 4) * 8 + b2n (decide (s.pwr.pmTemp ≠ 0#8)) * 4 + b2n s.pwr.pmCml * 2
    (∃ t, exec .clearFaults s = .next t ∧ t.pwr = { s.pwr with pmInput := 0#8, pmTemp := 0#8, pmCml := false } ∧ t.mem = s.mem) ∧
    out .capability [0xB0] ∧ out .statusByte [byte] ∧
    out .statusWord (word (byte + b2n (decide (s.pwr.pmInput ≠ 0#8)) * 0x2000 + b2n (!s.pwr.pgood) * 0x800)) ∧
    out .statusInput [s.pwr.pmInput.toNat] ∧ out .statusTemperature [s.pwr.pmTemp.toNat] ∧
    out .readVin (word (linear11 (rf s R.pwrVIN_MV) 1000)) ∧ out .readTemperature1 (word (linear11 (sext 12 (rf s R.pwrTJ)) 8)) ∧
    out .readPin (word (linear11 (rf s R.pwrPIN_MW) 1000)) ∧ out .pmbusRevision [0x33] ∧
    out .mfrId [8, 0x4F, 0x4C, 0x55, 0x52, 0x44, 0x41, 0x42, 0x4F] ∧ out .mfrModel ((orderCode s.cfg).length :: orderCode s.cfg) ∧
    out .mfrRevision [1, 0x41] ∧
    (∃ n, out .readIin (word n)) ∧ (∃ n, out .readTemperature2 (word n)) ∧
    (∀ (code : Nat) (write : Bool), (write = true ∧ code ≠ 3 ∨ write = false ∧
        code ∉ [0x19, 0x78, 0x79, 0x7C, 0x7D, 0x88, 0x89, 0x8D, 0x8E, 0x97, 0x98, 0x99, 0x9A, 0x9B]) →
      ∃ t, exec (.pmbusUnsupported code write) s = .next t ∧ t.pwr.pmCml = true ∧ t.pwr.pmOut = none ∧ t.mem = s.mem ∧
        t.raiseQ = s.raiseQ ++ (if s.pwr.pmCml then [] else [206]))

/-- Trouble and GPIO (R401 to R404, R406, R414 to R417): a notice sets its bit and the summary and a first one queues an entry; the logger writes it;
TRB_SWSET and the GPIO masks act bit by bit; an enabled edge sets its event; encoders count and report; a pulse, and captures that
a read of the seconds holds until the nanoseconds are read. The model's choices in it: log entries 15 and 42. -/
def Obligations.TroubleAndGpio : Prop :=
  ∀ s : State, s.aonOn = true →
    (∀ (n : Notice) (r : List Notice), s.noticeQ = n :: r → n.cause / 64 < 14 → n.cause % 64 < 36 →
      let k := n.cause / 64
      let b := n.cause % 64
      ∃ t, exec .troubleNotice s = .next t ∧ t.noticeQ = r ∧ bit (rf t (trbF k)) b = true ∧ bit (rf t R.trbTRB_SUM) k = true ∧
        (bit (rf s (trbF k)) b = true → t.logQ = s.logQ ∧ t.raiseQ = s.raiseQ) ∧
        (bit (rf s (trbF k)) b = false → s.logQ.length < 32 → t.logQ = s.logQ ++ [(n, s.devTime, mode s)] ∧
          t.raiseQ = s.raiseQ ++ (if bit (rf s R.trbTRB_IRQ) k then [209] else []) ∧
          s.sameBut t [(trbF k).addr, R.trbTRB_SUM.addr]) ∧
        (bit (rf s (trbF k)) b = false → 32 ≤ s.logQ.length → t.logQ = s.logQ ∧ bit (rf t (trbF 13)) 0 = true ∧
          rf t R.trbLOG_DROP_CNT = min (rf s R.trbLOG_DROP_CNT + 1) (2 ^ 36 - 1))) ∧
    (∀ b : Nat, b < 36 → bit (rf s (trbF 15)) b = false → s.logQ = [] → ∃ t, exec (.trbSwset (mkW (2 ^ b))) s = .next t ∧
      rf t (trbF 15) = rf s (trbF 15) + 2 ^ b ∧ bit (rf t R.trbTRB_SUM) 15 = true ∧
      t.logQ = [(⟨64 * 15 + b, 0, rd s R.trbTRB_SWDETAIL.addr⟩, s.devTime, mode s)] ∧
      s.sameBut t [(trbF 15).addr, R.trbTRB_SUM.addr]) ∧
    (∀ (n : Notice) (tm m : Nat) (r : List (Notice × Nat × Nat)), s.logQ = (n, tm, m) :: r →
      let next := rf s R.trbLOG_NEXT
      ∃ t, exec .logEntryWrite s = .next t ∧ t.logQ = r ∧ rf t R.trbLOG_NEXT = (next + 1) % 2 ^ 36 ∧
        rd t (R.trbLOGW (4 * (next % 256))).addr = mkW (dtNs tm) ∧ rd t (R.trbLOGW (4 * (next % 256) + 1)).addr = mkW (dtSec tm) ∧
        rd t (R.trbLOGW (4 * (next % 256) + 2)).addr = mkW (n.cause + n.unit % 64 * 2 ^ 10 + m * 2 ^ 16 + next % 2 ^ 12 * 2 ^ 24) ∧
        rd t (R.trbLOGW (4 * (next % 256) + 3)).addr = n.detail ∧
        (256 ≤ (next + 2 ^ 36 - rf s R.trbLOG_READ) % 2 ^ 36 → bit (rf t (trbF 13)) 1 = true)) ∧
    (∀ w : Word, (∃ t, exec (.gpioSet w) s = .next t ∧ rf t R.gpGPIO_OUT = rf s R.gpGPIO_OUT ||| w.toNat % 2 ^ 32 ∧
        s.sameBut t [R.gpGPIO_OUT.addr]) ∧
      (∃ t, exec (.gpioClr w) s = .next t ∧ (∀ b, b < 32 → bit (rf t R.gpGPIO_OUT) b = (bit (rf s R.gpGPIO_OUT) b && !bit w.toNat b)) ∧
        s.sameBut t [R.gpGPIO_OUT.addr])) ∧
    (∀ (n : Nat) (up : Bool), n < 32 →
      let l := if rb s (fbit R.gpGPIO_DIR n) then rb s (fbit R.gpGPIO_OUT n) else up
      let en := if l then rb s (fbit R.gpGPIO_RISE n) else rb s (fbit R.gpGPIO_FALL n)
      (rb s (fbit R.gpGPIO_IN n) = l → exec (.gpioEdge n up) s = .next s) ∧
      (rb s (fbit R.gpGPIO_IN n) ≠ l → ∃ t, exec (.gpioEdge n up) s = .next t ∧ rb t (fbit R.gpGPIO_IN n) = l ∧
        rb t (fbit R.gpGPIO_EVT n) = (en || rb s (fbit R.gpGPIO_EVT n)) ∧
        t.raiseQ = s.raiseQ ++ (if en = true ∧ rb s (fbit R.gpGPIO_EVT n) = false then [216] else []) ∧
        s.sameBut t [R.gpGPIO_IN.addr, R.gpGPIO_EVT.addr])) ∧
    (∀ (e : Nat) (a b a0 b0 : Bool), e < 8 → s.gp.encAB.length = 8 → s.gp.encAB.getD e (false, false) = (a0, b0) → s.cal.src = none →
      let x := rf s (R.gpENC_COUNT e)
      let dir := fun up : Bool => (x + if (up != rb s (R.gpENC_INV e)) then 1 else 2 ^ 36 - 1) % 2 ^ 36
      ∃ t, exec (.encoderEdge e a b) s = .next t ∧ t.gp.encAB.getD e (false, false) = (a, b) ∧
        s.sameBut t [(R.gpENC_COUNT e).addr, (R.gpENC_ERR e).addr, (R.gpENC_ERR_CNT e).addr] ∧
        (rf s (R.gpENC_MODE e) = 0 → a ≠ a0 → b = b0 → rf t (R.gpENC_COUNT e) = dir (a != b)) ∧
        (rf s (R.gpENC_MODE e) = 0 → a = a0 → b ≠ b0 → rf t (R.gpENC_COUNT e) = dir (a == b)) ∧
        (rf s (R.gpENC_MODE e) = 0 → a ≠ a0 → b ≠ b0 → rf t (R.gpENC_COUNT e) = x ∧ rb t (R.gpENC_ERR e) = true ∧
          t.raiseQ = s.raiseQ ++ if rb s (R.gpENC_ERR e) then [] else [217]) ∧
        (rf s (R.gpENC_MODE e) = 1 → a = true → a0 = false → rf t (R.gpENC_COUNT e) = dir (!b)) ∧
        (rf s (R.gpENC_MODE e) = 1 → (a = false ∨ a0 = true) → rf t (R.gpENC_COUNT e) = x)) ∧
    (∀ (e : Nat) (w : Word), e < 8 → s.cal.src = none → ∃ t, exec (.encCountWrite e w) s = .next t ∧ rf t (R.gpENC_COUNT e) = w.toNat ∧
      s.sameBut t [(R.gpENC_COUNT e).addr]) ∧
    (∀ e : Nat, e < 8 → rb s (R.gpENC_DIFF e) = true → ∃ t, exec (.encOpenDetect e) s = .next t ∧ rb t (R.gpENC_OPEN e) = true ∧
      t.now = s.now + 100000 ∧ t.raiseQ = s.raiseQ ++ (if rb s (R.gpENC_OPEN e) then [] else [217]) ∧
      s.sameBut t [(R.gpENC_OPEN e).addr]) ∧
    (rb s R.gpPPS_OUT_EN = true → s.slew = 0 → ∃ t, exec .ppsOutPulse s = .next t ∧ t.mem = s.mem ∧
      t.devTime = (s.devTime / 1000000000 + 1) * 1000000000 ∧ t.gp.pps = some (t.now, rf s R.gpPPS_WIDTH * 1000000)) ∧
    (∀ tick : Bool, s.gp.frz.length = 2 → s.gp.pend.length = 2 →
      let i := b2n tick
      (s.gp.frz.getD i false = false → ∃ (t : State) (k : Nat), exec (.captureEdge tick) s = .next t ∧ k < 20 ∧
        rf t (capS i) = dtSec (s.devTime - k) ∧ rf t (capNs i) = dtNs (s.devTime - k) % 2 ^ 30 ∧ rb t (capCap i) = true ∧
        (rb s (capCap i) = true → rb t (capOvr i) = true) ∧ t.raiseQ = s.raiseQ ++ [218 + i]) ∧
      (s.gp.frz.getD i false = true → ∃ (t : State) (k : Nat), exec (.captureEdge tick) s = .next t ∧ k < 20 ∧ t.mem = s.mem ∧
        t.gp.pend.getD i none = some (s.devTime - k)) ∧
      (∃ t, exec (.captureSecondsRead tick) s = .next t ∧ t.mem = s.mem ∧ t.gp.frz.getD i false = true) ∧
      (∀ p, s.gp.frz.getD i false = true → s.gp.pend.getD i none = some p → ∃ t, exec (.captureNsRead tick) s = .next t ∧
        t.gp.frz.getD i true = false ∧ t.gp.pend.getD i none = none ∧ rf t (capS i) = dtSec p ∧ rf t (capNs i) = dtNs p % 2 ^ 30 ∧
        rb t (capCap i) = true))
/-- The waiting commands are taken first in, first out: a step executes the one in front on the module without it; with none waiting the
module lets an AON cycle pass, which changes no word but what running clusters and cores change (the model's choice, log entry 4). -/
def Obligations.StepServesTheFront : Prop :=
  (∀ (c : Instr) (q : List Instr) (s : State), step { s with pending := c :: q } = exec c { s with pending := q }) ∧
  (∀ s : State, s.pending = [] → ∃ t, step s = .next t ∧ t.pending = [] ∧ t.cfg = s.cfg ∧
    ((∀ n, n < s.cfg.part.clusters → isUp s (iCLU n) = false ∨ runState s n ≠ rsRUNNING) →
      (∀ n, n < s.cfg.part.cores → isUp s iRMC = false ∨ rmRuns s n = false) → t.now = s.now + 20 ∧ t.mem = s.mem))

/-- Every command of the table goes on in every state, whatever its operands: `exec` answers a next state, with the module's identity and the
queue as they were. In an island released by force, whose state is undefined (R391), a command leaves the words of that island open and
every other word as it was. The model's choices in it: log entries 8 and 65. -/
def Obligations.EveryCommandGoesOn : Prop :=
  ∀ (i : Instr) (s : State), ∃ t, exec i s = .next t ∧ t.cfg = s.cfg ∧ t.pending = s.pending ∧
    ∀ (n k b : Nat), (i, k) ∈ [(Instr.streamInitDone, iVEC), (.bulkZeroFillDone, iBLK), (.clusterInitDone n, iCLU n), (.set n, iRMC),
        (.swapNow, iMWY), (.syncHoldoverTimeout, iFLD), (.bribyPacketDrop n, iCAS), (.msixSend n, iHST)] →
      s.forced.getLsbD k = true → addrIsl b ≠ k → rd t b = rd s b

/-- Invariant of every step and run: what the module is (its part, straps and identity, R2, R412) never changes, and the queue loses exactly the
commands executed, in their order. The model's choices in it: log entries 4 and 10. -/
def Obligations.RunsServeTheQueueInOrder : Prop :=
  (∀ (i : Instr) (s t : State), exec i s = .next t → t.cfg = s.cfg ∧ t.pending = s.pending) ∧
  (∀ (s t : State), step s = .next t → t.cfg = s.cfg ∧ t.pending = s.pending.tail) ∧
  (∀ (k : Nat) (s t : State), Host.Core.run Sys2Proof.core k s = .next t → t.cfg = s.cfg ∧ t.pending = s.pending.drop k)

/-- Reset (R376, R385, Table MRP-5): mode BOOT, the reset register at power-on, every other word at its Cold column or zero, in canonical
form; no island released; no pipe, cluster, core, ring or transfer with anything in flight, and no command waiting.
The model's choices in it: log entries 2, 3, 16, 30, 31 and 33. -/
def Obligations.ResetState : Prop :=
  let s := State.reset
  mode s = mBOOT ∧ rf s R.pwrLAST_RESET = 1 ∧ (∀ a, a ≠ R.pwrLAST_RESET.addr → rd s a = coldWord s.cfg.part a) ∧
    Memory.wf s.cfg.part s.mem ∧ s.up = 0#23 ∧ s.defined ∧ s.quiet ∧ s.pending = [] ∧ s.raiseQ = [] ∧ s.noticeQ = [] ∧ s.logQ = [] ∧
    (∀ p, p < 4 → pipe s p = pipeZero) ∧ (∀ n, n < 16 → cl s n = clZero ∧ runState s n = 0 ∧ rf s (R.scFAULT_CAUSE n) = 0) ∧
    (∀ n, n < 4 → core s n = coreZero ∧ rb s (R.rmSTOPPED n) = decide (n ≠ 0)) ∧ (∀ r, r < 4 → ring s r = ringZero) ∧
    (∀ l, l < 4 → link s l = linkZero) ∧ (∀ p, p < 8 → port s p = portZero) ∧ s.mw.txns = [] ∧ s.dma.chans = [] ∧
    (∀ k, k < 16 → rf s (trbF k) = 0) ∧ calState s = csIDLE ∧ rb s R.smINIT_DONE = false ∧ rb s R.bmINIT_DONE = false

/-- The word store keeps its canonical form (addresses rising, no entry at its reset value) under the commands of Stream Memory, Bulk Memory,
the interrupt controller, the trouble record, GPIO and PMBus. The model's choices in it: log entry 16. -/
def Obligations.WordStoreStaysCanonical : Prop :=
  ∀ (s t : State) (i : Instr), Memory.wf s.cfg.part s.mem → exec i s = .next t →
    ((∃ b : Nat, i ∈ [Instr.sharedAccessGrant b, .rmwCompletion b, .correctedWriteBack b, .patrolScrub b]) ∨
      (∃ w : Word, i ∈ [Instr.streamInitDone, .lvtBaseWrite w]) ∨
      (∃ (a n tag : Nat) (ws : List Word), i ∈ [Instr.bulkPartialWrite a ws, .bulkBurstWrite a ws, .combineEntryTimeout a, .bulkRead a n tag,
        .bulkRefresh a, .flush, .flushDone, .bulkScrubRead, .bulkZeroFillDone]) ∨
      (∃ (d : Nat) (b : Bool), i ∈ [Instr.dramTemperatureReport d b, .bulkTrainingDone b]) ∨
      (∃ n : Nat, i ∈ [Instr.sourceRaise n, .set n, .clear n, .claim n, .holdoffExpiry n] ∨ ∃ w, i = .eoi n w) ∨
      (∃ w : Word, i ∈ [Instr.troubleNotice, .trbSwset w, .logEntryWrite, .gpioSet w, .gpioClr w, .ppsOutPulse]) ∨
      (∃ (e : Nat) (a b : Bool) (w : Word), i ∈ [Instr.gpioEdge e a, .captureEdge a, .captureSecondsRead a, .captureNsRead a,
        .encoderEdge e a b, .encCountWrite e w, .encOpenDetect e, .pmbusUnsupported e a]) ∨
      i ∈ [Instr.clearFaults, .capability, .statusByte, .statusWord, .statusInput, .statusTemperature, .readVin, .readIin,
        .readTemperature1, .readTemperature2, .readPin, .pmbusRevision, .mfrId, .mfrModel, .mfrRevision]) →
    Memory.wf t.cfg.part t.mem

/-- R247. PSTEP is one number below 2^72 in two words; a write of a word of it takes effect in CONFIGURE, leaving the other word and all else,
and is ignored in every other mode. -/
def Obligations.ProbeStepCountIsWrittenOnlyInConfigure : Prop :=
  ∀ (s : State) (hi : Bool) (w : Word), s.live iMWY →
    pstep s = rf s R.idnPSTEP_LO + 2 ^ 36 * rf s R.idnPSTEP_HI ∧ pstep s < 2 ^ 72 ∧
    (mode s = mCONFIGURE → ∃ t, exec (.pstepWrite hi w) s = .next t ∧
      pstep t = (if hi then pstep s % 2 ^ 36 + 2 ^ 36 * w.toNat else pstep s / 2 ^ 36 * 2 ^ 36 + w.toNat) ∧
      s.sameBut t [if hi then R.idnPSTEP_HI.addr else R.idnPSTEP_LO.addr]) ∧
    (mode s ≠ mCONFIGURE → exec (.pstepWrite hi w) s = .next s)

/-- R25. Inward F32 and F64 conversions keep the value: the device pattern is the host pattern shifted left by 4 or 8 bits, with no
exception; a signalling NaN comes in with its quiet bit set and reports invalid. -/
def Obligations.InwardFloatConversionsAreExact : Prop :=
  (∀ (h : HWord) (sg : Bool), let r := convIn 4 sg 1 [h]
    (fpIsSNaN fB32 h.toNat = false → r = ([mkW (h.toNat * 2 ^ 4)], 0)) ∧
    (fpIsSNaN fB32 h.toNat = true → r = ([mkW (h.toNat * 2 ^ 4 + 2 ^ 26)], 8)) ∧
    (∀ (sn : Bool) (m : Nat) (e : Int), fpVal fB32 h.toNat = .fin sn m e → fpVal fF36 (h.toNat * 2 ^ 4) = .fin sn (m * 2 ^ 4) (e - 4)) ∧
    (∀ sn : Bool, fpVal fB32 h.toNat = .inf sn → fpVal fF36 (h.toNat * 2 ^ 4) = .inf sn)) ∧
  (∀ (lo hi : HWord) (sg : Bool), let r := convIn 5 sg 2 [lo, hi]
    let v := lo.toNat + 2 ^ 32 * hi.toNat
    let pair := fun x : Nat => [mkW (x % 2 ^ 36), mkW (x / 2 ^ 36)]
    (fpIsSNaN fB64 v = false → r = (pair (v * 2 ^ 8), 0)) ∧
    (fpIsSNaN fB64 v = true → r = (pair (v * 2 ^ 8 + 2 ^ 59), 8)) ∧
    (∀ (sn : Bool) (m : Nat) (e : Int), fpVal fB64 v = .fin sn m e → fpVal fF72 (v * 2 ^ 8) = .fin sn (m * 2 ^ 8) (e - 8)) ∧
    (∀ sn : Bool, fpVal fB64 v = .inf sn → fpVal fF72 (v * 2 ^ 8) = .inf sn))

/-- R43. The floating-point lanes of VNEG, VABS and VCPYS change the sign bit alone, set no flag and leave a signalling NaN signalling. -/
def Obligations.SignOperationsAlterOnlyTheSignBit : Prop :=
  ∀ (v : VI) (rm : Rm) (i a b c : Nat), v.typ = 4 ∨ v.typ = 5 →
    let f := if v.typ = 4 then fF36 else fF72
    let top := f.fw + f.ew
    a < 2 ^ (top + 1) → v.op = 0x004 ∨ v.op = 0x005 ∨ v.op = 0x008 →
    let y := vLane v rm i a b c
    y.2 = 0#7 ∧ y.1 < 2 ^ (top + 1) ∧ (∀ k, k < top → bit y.1 k = bit a k) ∧
      bit y.1 top = (if v.op = 0x004 then !bit a top else if v.op = 0x005 then false else bit b top) ∧
      fpIsSNaN f y.1 = fpIsSNaN f a
end

