-- ==== Sys2Proof/Laws/State.lean ====
section
/-! SUPPORT. What each named operation leaves of State: one lemma a field, true by unfolding. -/

namespace Sys2Proof.Machine


/-! ### `wr` -/

@[simp] theorem wr_cfg (s : State) (a : Nat) (w : Word) : (wr s a w).cfg = s.cfg := rfl
@[simp] theorem wr_ecc (s : State) (a : Nat) (w : Word) : (wr s a w).ecc = s.ecc := rfl
@[simp] theorem wr_hostMem (s : State) (a : Nat) (w : Word) : (wr s a w).hostMem = s.hostMem := rfl
@[simp] theorem wr_free (s : State) (a : Nat) (w : Word) : (wr s a w).free = s.free := rfl
@[simp] theorem wr_now (s : State) (a : Nat) (w : Word) : (wr s a w).now = s.now := rfl
@[simp] theorem wr_devTime (s : State) (a : Nat) (w : Word) : (wr s a w).devTime = s.devTime := rfl
@[simp] theorem wr_slew (s : State) (a : Nat) (w : Word) : (wr s a w).slew = s.slew := rfl
@[simp] theorem wr_unitT (s : State) (a : Nat) (w : Word) : (wr s a w).unitT = s.unitT := rfl
@[simp] theorem wr_aonOn (s : State) (a : Nat) (w : Word) : (wr s a w).aonOn = s.aonOn := rfl
@[simp] theorem wr_up (s : State) (a : Nat) (w : Word) : (wr s a w).up = s.up := rfl
@[simp] theorem wr_forced (s : State) (a : Nat) (w : Word) : (wr s a w).forced = s.forced := rfl
@[simp] theorem wr_raiseQ (s : State) (a : Nat) (w : Word) : (wr s a w).raiseQ = s.raiseQ := rfl
@[simp] theorem wr_noticeQ (s : State) (a : Nat) (w : Word) : (wr s a w).noticeQ = s.noticeQ := rfl
@[simp] theorem wr_logQ (s : State) (a : Nat) (w : Word) : (wr s a w).logQ = s.logQ := rfl
@[simp] theorem wr_calIn (s : State) (a : Nat) (w : Word) : (wr s a w).calIn = s.calIn := rfl
@[simp] theorem wr_sm (s : State) (a : Nat) (w : Word) : (wr s a w).sm = s.sm := rfl
@[simp] theorem wr_bm (s : State) (a : Nat) (w : Word) : (wr s a w).bm = s.bm := rfl
@[simp] theorem wr_pipes (s : State) (a : Nat) (w : Word) : (wr s a w).pipes = s.pipes := rfl
@[simp] theorem wr_chains (s : State) (a : Nat) (w : Word) : (wr s a w).chains = s.chains := rfl
@[simp] theorem wr_vecId (s : State) (a : Nat) (w : Word) : (wr s a w).vecId = s.vecId := rfl
@[simp] theorem wr_clusters (s : State) (a : Nat) (w : Word) : (wr s a w).clusters = s.clusters := rfl
@[simp] theorem wr_cores (s : State) (a : Nat) (w : Word) : (wr s a w).cores = s.cores := rfl
@[simp] theorem wr_ic (s : State) (a : Nat) (w : Word) : (wr s a w).ic = s.ic := rfl
@[simp] theorem wr_probeOk (s : State) (a : Nat) (w : Word) : (wr s a w).probeOk = s.probeOk := rfl
@[simp] theorem wr_idn (s : State) (a : Nat) (w : Word) : (wr s a w).idn = s.idn := rfl
@[simp] theorem wr_fld (s : State) (a : Nat) (w : Word) : (wr s a w).fld = s.fld := rfl
@[simp] theorem wr_stepOfs (s : State) (a : Nat) (w : Word) : (wr s a w).stepOfs = s.stepOfs := rfl
@[simp] theorem wr_cas (s : State) (a : Nat) (w : Word) : (wr s a w).cas = s.cas := rfl
@[simp] theorem wr_hst (s : State) (a : Nat) (w : Word) : (wr s a w).hst = s.hst := rfl
@[simp] theorem wr_mw (s : State) (a : Nat) (w : Word) : (wr s a w).mw = s.mw := rfl
@[simp] theorem wr_dma (s : State) (a : Nat) (w : Word) : (wr s a w).dma = s.dma := rfl
@[simp] theorem wr_pwr (s : State) (a : Nat) (w : Word) : (wr s a w).pwr = s.pwr := rfl
@[simp] theorem wr_cal (s : State) (a : Nat) (w : Word) : (wr s a w).cal = s.cal := rfl
@[simp] theorem wr_gp (s : State) (a : Nat) (w : Word) : (wr s a w).gp = s.gp := rfl
@[simp] theorem wr_rstReq (s : State) (a : Nat) (w : Word) : (wr s a w).rstReq = s.rstReq := rfl
@[simp] theorem wr_pending (s : State) (a : Nat) (w : Word) : (wr s a w).pending = s.pending := rfl

/-! ### `wrN` -/

@[simp] theorem wrN_cfg (s : State) (a n : Nat) : (wrN s a n).cfg = s.cfg := rfl
@[simp] theorem wrN_ecc (s : State) (a n : Nat) : (wrN s a n).ecc = s.ecc := rfl
@[simp] theorem wrN_hostMem (s : State) (a n : Nat) : (wrN s a n).hostMem = s.hostMem := rfl
@[simp] theorem wrN_free (s : State) (a n : Nat) : (wrN s a n).free = s.free := rfl
@[simp] theorem wrN_now (s : State) (a n : Nat) : (wrN s a n).now = s.now := rfl
@[simp] theorem wrN_devTime (s : State) (a n : Nat) : (wrN s a n).devTime = s.devTime := rfl
@[simp] theorem wrN_slew (s : State) (a n : Nat) : (wrN s a n).slew = s.slew := rfl
@[simp] theorem wrN_unitT (s : State) (a n : Nat) : (wrN s a n).unitT = s.unitT := rfl
@[simp] theorem wrN_aonOn (s : State) (a n : Nat) : (wrN s a n).aonOn = s.aonOn := rfl
@[simp] theorem wrN_up (s : State) (a n : Nat) : (wrN s a n).up = s.up := rfl
@[simp] theorem wrN_forced (s : State) (a n : Nat) : (wrN s a n).forced = s.forced := rfl
@[simp] theorem wrN_raiseQ (s : State) (a n : Nat) : (wrN s a n).raiseQ = s.raiseQ := rfl
@[simp] theorem wrN_noticeQ (s : State) (a n : Nat) : (wrN s a n).noticeQ = s.noticeQ := rfl
@[simp] theorem wrN_logQ (s : State) (a n : Nat) : (wrN s a n).logQ = s.logQ := rfl
@[simp] theorem wrN_calIn (s : State) (a n : Nat) : (wrN s a n).calIn = s.calIn := rfl
@[simp] theorem wrN_sm (s : State) (a n : Nat) : (wrN s a n).sm = s.sm := rfl
@[simp] theorem wrN_bm (s : State) (a n : Nat) : (wrN s a n).bm = s.bm := rfl
@[simp] theorem wrN_pipes (s : State) (a n : Nat) : (wrN s a n).pipes = s.pipes := rfl
@[simp] theorem wrN_chains (s : State) (a n : Nat) : (wrN s a n).chains = s.chains := rfl
@[simp] theorem wrN_vecId (s : State) (a n : Nat) : (wrN s a n).vecId = s.vecId := rfl
@[simp] theorem wrN_clusters (s : State) (a n : Nat) : (wrN s a n).clusters = s.clusters := rfl
@[simp] theorem wrN_cores (s : State) (a n : Nat) : (wrN s a n).cores = s.cores := rfl
@[simp] theorem wrN_ic (s : State) (a n : Nat) : (wrN s a n).ic = s.ic := rfl
@[simp] theorem wrN_probeOk (s : State) (a n : Nat) : (wrN s a n).probeOk = s.probeOk := rfl
@[simp] theorem wrN_idn (s : State) (a n : Nat) : (wrN s a n).idn = s.idn := rfl
@[simp] theorem wrN_fld (s : State) (a n : Nat) : (wrN s a n).fld = s.fld := rfl
@[simp] theorem wrN_stepOfs (s : State) (a n : Nat) : (wrN s a n).stepOfs = s.stepOfs := rfl
@[simp] theorem wrN_cas (s : State) (a n : Nat) : (wrN s a n).cas = s.cas := rfl
@[simp] theorem wrN_hst (s : State) (a n : Nat) : (wrN s a n).hst = s.hst := rfl
@[simp] theorem wrN_mw (s : State) (a n : Nat) : (wrN s a n).mw = s.mw := rfl
@[simp] theorem wrN_dma (s : State) (a n : Nat) : (wrN s a n).dma = s.dma := rfl
@[simp] theorem wrN_pwr (s : State) (a n : Nat) : (wrN s a n).pwr = s.pwr := rfl
@[simp] theorem wrN_cal (s : State) (a n : Nat) : (wrN s a n).cal = s.cal := rfl
@[simp] theorem wrN_gp (s : State) (a n : Nat) : (wrN s a n).gp = s.gp := rfl
@[simp] theorem wrN_rstReq (s : State) (a n : Nat) : (wrN s a n).rstReq = s.rstReq := rfl
@[simp] theorem wrN_pending (s : State) (a n : Nat) : (wrN s a n).pending = s.pending := rfl

/-! ### `wf` -/

@[simp] theorem wf_cfg (s : State) (f : Field) (v : Nat) : (wf s f v).cfg = s.cfg := rfl
@[simp] theorem wf_ecc (s : State) (f : Field) (v : Nat) : (wf s f v).ecc = s.ecc := rfl
@[simp] theorem wf_hostMem (s : State) (f : Field) (v : Nat) : (wf s f v).hostMem = s.hostMem := rfl
@[simp] theorem wf_free (s : State) (f : Field) (v : Nat) : (wf s f v).free = s.free := rfl
@[simp] theorem wf_now (s : State) (f : Field) (v : Nat) : (wf s f v).now = s.now := rfl
@[simp] theorem wf_devTime (s : State) (f : Field) (v : Nat) : (wf s f v).devTime = s.devTime := rfl
@[simp] theorem wf_slew (s : State) (f : Field) (v : Nat) : (wf s f v).slew = s.slew := rfl
@[simp] theorem wf_unitT (s : State) (f : Field) (v : Nat) : (wf s f v).unitT = s.unitT := rfl
@[simp] theorem wf_aonOn (s : State) (f : Field) (v : Nat) : (wf s f v).aonOn = s.aonOn := rfl
@[simp] theorem wf_up (s : State) (f : Field) (v : Nat) : (wf s f v).up = s.up := rfl
@[simp] theorem wf_forced (s : State) (f : Field) (v : Nat) : (wf s f v).forced = s.forced := rfl
@[simp] theorem wf_raiseQ (s : State) (f : Field) (v : Nat) : (wf s f v).raiseQ = s.raiseQ := rfl
@[simp] theorem wf_noticeQ (s : State) (f : Field) (v : Nat) : (wf s f v).noticeQ = s.noticeQ := rfl
@[simp] theorem wf_logQ (s : State) (f : Field) (v : Nat) : (wf s f v).logQ = s.logQ := rfl
@[simp] theorem wf_calIn (s : State) (f : Field) (v : Nat) : (wf s f v).calIn = s.calIn := rfl
@[simp] theorem wf_sm (s : State) (f : Field) (v : Nat) : (wf s f v).sm = s.sm := rfl
@[simp] theorem wf_bm (s : State) (f : Field) (v : Nat) : (wf s f v).bm = s.bm := rfl
@[simp] theorem wf_pipes (s : State) (f : Field) (v : Nat) : (wf s f v).pipes = s.pipes := rfl
@[simp] theorem wf_chains (s : State) (f : Field) (v : Nat) : (wf s f v).chains = s.chains := rfl
@[simp] theorem wf_vecId (s : State) (f : Field) (v : Nat) : (wf s f v).vecId = s.vecId := rfl
@[simp] theorem wf_clusters (s : State) (f : Field) (v : Nat) : (wf s f v).clusters = s.clusters := rfl
@[simp] theorem wf_cores (s : State) (f : Field) (v : Nat) : (wf s f v).cores = s.cores := rfl
@[simp] theorem wf_ic (s : State) (f : Field) (v : Nat) : (wf s f v).ic = s.ic := rfl
@[simp] theorem wf_probeOk (s : State) (f : Field) (v : Nat) : (wf s f v).probeOk = s.probeOk := rfl
@[simp] theorem wf_idn (s : State) (f : Field) (v : Nat) : (wf s f v).idn = s.idn := rfl
@[simp] theorem wf_fld (s : State) (f : Field) (v : Nat) : (wf s f v).fld = s.fld := rfl
@[simp] theorem wf_stepOfs (s : State) (f : Field) (v : Nat) : (wf s f v).stepOfs = s.stepOfs := rfl
@[simp] theorem wf_cas (s : State) (f : Field) (v : Nat) : (wf s f v).cas = s.cas := rfl
@[simp] theorem wf_hst (s : State) (f : Field) (v : Nat) : (wf s f v).hst = s.hst := rfl
@[simp] theorem wf_mw (s : State) (f : Field) (v : Nat) : (wf s f v).mw = s.mw := rfl
@[simp] theorem wf_dma (s : State) (f : Field) (v : Nat) : (wf s f v).dma = s.dma := rfl
@[simp] theorem wf_pwr (s : State) (f : Field) (v : Nat) : (wf s f v).pwr = s.pwr := rfl
@[simp] theorem wf_cal (s : State) (f : Field) (v : Nat) : (wf s f v).cal = s.cal := rfl
@[simp] theorem wf_gp (s : State) (f : Field) (v : Nat) : (wf s f v).gp = s.gp := rfl
@[simp] theorem wf_rstReq (s : State) (f : Field) (v : Nat) : (wf s f v).rstReq = s.rstReq := rfl
@[simp] theorem wf_pending (s : State) (f : Field) (v : Nat) : (wf s f v).pending = s.pending := rfl

/-! ### `wb` -/

@[simp] theorem wb_cfg (s : State) (f : Field) (b : Bool) : (wb s f b).cfg = s.cfg := rfl
@[simp] theorem wb_ecc (s : State) (f : Field) (b : Bool) : (wb s f b).ecc = s.ecc := rfl
@[simp] theorem wb_hostMem (s : State) (f : Field) (b : Bool) : (wb s f b).hostMem = s.hostMem := rfl
@[simp] theorem wb_free (s : State) (f : Field) (b : Bool) : (wb s f b).free = s.free := rfl
@[simp] theorem wb_now (s : State) (f : Field) (b : Bool) : (wb s f b).now = s.now := rfl
@[simp] theorem wb_devTime (s : State) (f : Field) (b : Bool) : (wb s f b).devTime = s.devTime := rfl
@[simp] theorem wb_slew (s : State) (f : Field) (b : Bool) : (wb s f b).slew = s.slew := rfl
@[simp] theorem wb_unitT (s : State) (f : Field) (b : Bool) : (wb s f b).unitT = s.unitT := rfl
@[simp] theorem wb_aonOn (s : State) (f : Field) (b : Bool) : (wb s f b).aonOn = s.aonOn := rfl
@[simp] theorem wb_up (s : State) (f : Field) (b : Bool) : (wb s f b).up = s.up := rfl
@[simp] theorem wb_forced (s : State) (f : Field) (b : Bool) : (wb s f b).forced = s.forced := rfl
@[simp] theorem wb_raiseQ (s : State) (f : Field) (b : Bool) : (wb s f b).raiseQ = s.raiseQ := rfl
@[simp] theorem wb_noticeQ (s : State) (f : Field) (b : Bool) : (wb s f b).noticeQ = s.noticeQ := rfl
@[simp] theorem wb_logQ (s : State) (f : Field) (b : Bool) : (wb s f b).logQ = s.logQ := rfl
@[simp] theorem wb_calIn (s : State) (f : Field) (b : Bool) : (wb s f b).calIn = s.calIn := rfl
@[simp] theorem wb_sm (s : State) (f : Field) (b : Bool) : (wb s f b).sm = s.sm := rfl
@[simp] theorem wb_bm (s : State) (f : Field) (b : Bool) : (wb s f b).bm = s.bm := rfl
@[simp] theorem wb_pipes (s : State) (f : Field) (b : Bool) : (wb s f b).pipes = s.pipes := rfl
@[simp] theorem wb_chains (s : State) (f : Field) (b : Bool) : (wb s f b).chains = s.chains := rfl
@[simp] theorem wb_vecId (s : State) (f : Field) (b : Bool) : (wb s f b).vecId = s.vecId := rfl
@[simp] theorem wb_clusters (s : State) (f : Field) (b : Bool) : (wb s f b).clusters = s.clusters := rfl
@[simp] theorem wb_cores (s : State) (f : Field) (b : Bool) : (wb s f b).cores = s.cores := rfl
@[simp] theorem wb_ic (s : State) (f : Field) (b : Bool) : (wb s f b).ic = s.ic := rfl
@[simp] theorem wb_probeOk (s : State) (f : Field) (b : Bool) : (wb s f b).probeOk = s.probeOk := rfl
@[simp] theorem wb_idn (s : State) (f : Field) (b : Bool) : (wb s f b).idn = s.idn := rfl
@[simp] theorem wb_fld (s : State) (f : Field) (b : Bool) : (wb s f b).fld = s.fld := rfl
@[simp] theorem wb_stepOfs (s : State) (f : Field) (b : Bool) : (wb s f b).stepOfs = s.stepOfs := rfl
@[simp] theorem wb_cas (s : State) (f : Field) (b : Bool) : (wb s f b).cas = s.cas := rfl
@[simp] theorem wb_hst (s : State) (f : Field) (b : Bool) : (wb s f b).hst = s.hst := rfl
@[simp] theorem wb_mw (s : State) (f : Field) (b : Bool) : (wb s f b).mw = s.mw := rfl
@[simp] theorem wb_dma (s : State) (f : Field) (b : Bool) : (wb s f b).dma = s.dma := rfl
@[simp] theorem wb_pwr (s : State) (f : Field) (b : Bool) : (wb s f b).pwr = s.pwr := rfl
@[simp] theorem wb_cal (s : State) (f : Field) (b : Bool) : (wb s f b).cal = s.cal := rfl
@[simp] theorem wb_gp (s : State) (f : Field) (b : Bool) : (wb s f b).gp = s.gp := rfl
@[simp] theorem wb_rstReq (s : State) (f : Field) (b : Bool) : (wb s f b).rstReq = s.rstReq := rfl
@[simp] theorem wb_pending (s : State) (f : Field) (b : Bool) : (wb s f b).pending = s.pending := rfl

/-! ### `stick` -/

@[simp] theorem stick_cfg (s : State) (f : Field) (v : Nat) : (stick s f v).cfg = s.cfg := rfl
@[simp] theorem stick_ecc (s : State) (f : Field) (v : Nat) : (stick s f v).ecc = s.ecc := rfl
@[simp] theorem stick_hostMem (s : State) (f : Field) (v : Nat) : (stick s f v).hostMem = s.hostMem := rfl
@[simp] theorem stick_free (s : State) (f : Field) (v : Nat) : (stick s f v).free = s.free := rfl
@[simp] theorem stick_now (s : State) (f : Field) (v : Nat) : (stick s f v).now = s.now := rfl
@[simp] theorem stick_devTime (s : State) (f : Field) (v : Nat) : (stick s f v).devTime = s.devTime := rfl
@[simp] theorem stick_slew (s : State) (f : Field) (v : Nat) : (stick s f v).slew = s.slew := rfl
@[simp] theorem stick_unitT (s : State) (f : Field) (v : Nat) : (stick s f v).unitT = s.unitT := rfl
@[simp] theorem stick_aonOn (s : State) (f : Field) (v : Nat) : (stick s f v).aonOn = s.aonOn := rfl
@[simp] theorem stick_up (s : State) (f : Field) (v : Nat) : (stick s f v).up = s.up := rfl
@[simp] theorem stick_forced (s : State) (f : Field) (v : Nat) : (stick s f v).forced = s.forced := rfl
@[simp] theorem stick_raiseQ (s : State) (f : Field) (v : Nat) : (stick s f v).raiseQ = s.raiseQ := rfl
@[simp] theorem stick_noticeQ (s : State) (f : Field) (v : Nat) : (stick s f v).noticeQ = s.noticeQ := rfl
@[simp] theorem stick_logQ (s : State) (f : Field) (v : Nat) : (stick s f v).logQ = s.logQ := rfl
@[simp] theorem stick_calIn (s : State) (f : Field) (v : Nat) : (stick s f v).calIn = s.calIn := rfl
@[simp] theorem stick_sm (s : State) (f : Field) (v : Nat) : (stick s f v).sm = s.sm := rfl
@[simp] theorem stick_bm (s : State) (f : Field) (v : Nat) : (stick s f v).bm = s.bm := rfl
@[simp] theorem stick_pipes (s : State) (f : Field) (v : Nat) : (stick s f v).pipes = s.pipes := rfl
@[simp] theorem stick_chains (s : State) (f : Field) (v : Nat) : (stick s f v).chains = s.chains := rfl
@[simp] theorem stick_vecId (s : State) (f : Field) (v : Nat) : (stick s f v).vecId = s.vecId := rfl
@[simp] theorem stick_clusters (s : State) (f : Field) (v : Nat) : (stick s f v).clusters = s.clusters := rfl
@[simp] theorem stick_cores (s : State) (f : Field) (v : Nat) : (stick s f v).cores = s.cores := rfl
@[simp] theorem stick_ic (s : State) (f : Field) (v : Nat) : (stick s f v).ic = s.ic := rfl
@[simp] theorem stick_probeOk (s : State) (f : Field) (v : Nat) : (stick s f v).probeOk = s.probeOk := rfl
@[simp] theorem stick_idn (s : State) (f : Field) (v : Nat) : (stick s f v).idn = s.idn := rfl
@[simp] theorem stick_fld (s : State) (f : Field) (v : Nat) : (stick s f v).fld = s.fld := rfl
@[simp] theorem stick_stepOfs (s : State) (f : Field) (v : Nat) : (stick s f v).stepOfs = s.stepOfs := rfl
@[simp] theorem stick_cas (s : State) (f : Field) (v : Nat) : (stick s f v).cas = s.cas := rfl
@[simp] theorem stick_hst (s : State) (f : Field) (v : Nat) : (stick s f v).hst = s.hst := rfl
@[simp] theorem stick_mw (s : State) (f : Field) (v : Nat) : (stick s f v).mw = s.mw := rfl
@[simp] theorem stick_dma (s : State) (f : Field) (v : Nat) : (stick s f v).dma = s.dma := rfl
@[simp] theorem stick_pwr (s : State) (f : Field) (v : Nat) : (stick s f v).pwr = s.pwr := rfl
@[simp] theorem stick_cal (s : State) (f : Field) (v : Nat) : (stick s f v).cal = s.cal := rfl
@[simp] theorem stick_gp (s : State) (f : Field) (v : Nat) : (stick s f v).gp = s.gp := rfl
@[simp] theorem stick_rstReq (s : State) (f : Field) (v : Nat) : (stick s f v).rstReq = s.rstReq := rfl
@[simp] theorem stick_pending (s : State) (f : Field) (v : Nat) : (stick s f v).pending = s.pending := rfl

/-! ### `cntAdd` -/

@[simp] theorem cntAdd_cfg (s : State) (f : Field) (n : Nat) : (cntAdd s f n).cfg = s.cfg := rfl
@[simp] theorem cntAdd_ecc (s : State) (f : Field) (n : Nat) : (cntAdd s f n).ecc = s.ecc := rfl
@[simp] theorem cntAdd_hostMem (s : State) (f : Field) (n : Nat) : (cntAdd s f n).hostMem = s.hostMem := rfl
@[simp] theorem cntAdd_free (s : State) (f : Field) (n : Nat) : (cntAdd s f n).free = s.free := rfl
@[simp] theorem cntAdd_now (s : State) (f : Field) (n : Nat) : (cntAdd s f n).now = s.now := rfl
@[simp] theorem cntAdd_devTime (s : State) (f : Field) (n : Nat) : (cntAdd s f n).devTime = s.devTime := rfl
@[simp] theorem cntAdd_slew (s : State) (f : Field) (n : Nat) : (cntAdd s f n).slew = s.slew := rfl
@[simp] theorem cntAdd_unitT (s : State) (f : Field) (n : Nat) : (cntAdd s f n).unitT = s.unitT := rfl
@[simp] theorem cntAdd_aonOn (s : State) (f : Field) (n : Nat) : (cntAdd s f n).aonOn = s.aonOn := rfl
@[simp] theorem cntAdd_up (s : State) (f : Field) (n : Nat) : (cntAdd s f n).up = s.up := rfl
@[simp] theorem cntAdd_forced (s : State) (f : Field) (n : Nat) : (cntAdd s f n).forced = s.forced := rfl
@[simp] theorem cntAdd_raiseQ (s : State) (f : Field) (n : Nat) : (cntAdd s f n).raiseQ = s.raiseQ := rfl
@[simp] theorem cntAdd_noticeQ (s : State) (f : Field) (n : Nat) : (cntAdd s f n).noticeQ = s.noticeQ := rfl
@[simp] theorem cntAdd_logQ (s : State) (f : Field) (n : Nat) : (cntAdd s f n).logQ = s.logQ := rfl
@[simp] theorem cntAdd_calIn (s : State) (f : Field) (n : Nat) : (cntAdd s f n).calIn = s.calIn := rfl
@[simp] theorem cntAdd_sm (s : State) (f : Field) (n : Nat) : (cntAdd s f n).sm = s.sm := rfl
@[simp] theorem cntAdd_bm (s : State) (f : Field) (n : Nat) : (cntAdd s f n).bm = s.bm := rfl
@[simp] theorem cntAdd_pipes (s : State) (f : Field) (n : Nat) : (cntAdd s f n).pipes = s.pipes := rfl
@[simp] theorem cntAdd_chains (s : State) (f : Field) (n : Nat) : (cntAdd s f n).chains = s.chains := rfl
@[simp] theorem cntAdd_vecId (s : State) (f : Field) (n : Nat) : (cntAdd s f n).vecId = s.vecId := rfl
@[simp] theorem cntAdd_clusters (s : State) (f : Field) (n : Nat) : (cntAdd s f n).clusters = s.clusters := rfl
@[simp] theorem cntAdd_cores (s : State) (f : Field) (n : Nat) : (cntAdd s f n).cores = s.cores := rfl
@[simp] theorem cntAdd_ic (s : State) (f : Field) (n : Nat) : (cntAdd s f n).ic = s.ic := rfl
@[simp] theorem cntAdd_probeOk (s : State) (f : Field) (n : Nat) : (cntAdd s f n).probeOk = s.probeOk := rfl
@[simp] theorem cntAdd_idn (s : State) (f : Field) (n : Nat) : (cntAdd s f n).idn = s.idn := rfl
@[simp] theorem cntAdd_fld (s : State) (f : Field) (n : Nat) : (cntAdd s f n).fld = s.fld := rfl
@[simp] theorem cntAdd_stepOfs (s : State) (f : Field) (n : Nat) : (cntAdd s f n).stepOfs = s.stepOfs := rfl
@[simp] theorem cntAdd_cas (s : State) (f : Field) (n : Nat) : (cntAdd s f n).cas = s.cas := rfl
@[simp] theorem cntAdd_hst (s : State) (f : Field) (n : Nat) : (cntAdd s f n).hst = s.hst := rfl
@[simp] theorem cntAdd_mw (s : State) (f : Field) (n : Nat) : (cntAdd s f n).mw = s.mw := rfl
@[simp] theorem cntAdd_dma (s : State) (f : Field) (n : Nat) : (cntAdd s f n).dma = s.dma := rfl
@[simp] theorem cntAdd_pwr (s : State) (f : Field) (n : Nat) : (cntAdd s f n).pwr = s.pwr := rfl
@[simp] theorem cntAdd_cal (s : State) (f : Field) (n : Nat) : (cntAdd s f n).cal = s.cal := rfl
@[simp] theorem cntAdd_gp (s : State) (f : Field) (n : Nat) : (cntAdd s f n).gp = s.gp := rfl
@[simp] theorem cntAdd_rstReq (s : State) (f : Field) (n : Nat) : (cntAdd s f n).rstReq = s.rstReq := rfl
@[simp] theorem cntAdd_pending (s : State) (f : Field) (n : Nat) : (cntAdd s f n).pending = s.pending := rfl

/-! ### `cnt` -/

@[simp] theorem cnt_cfg (s : State) (f : Field) : (cnt s f).cfg = s.cfg := rfl
@[simp] theorem cnt_ecc (s : State) (f : Field) : (cnt s f).ecc = s.ecc := rfl
@[simp] theorem cnt_hostMem (s : State) (f : Field) : (cnt s f).hostMem = s.hostMem := rfl
@[simp] theorem cnt_free (s : State) (f : Field) : (cnt s f).free = s.free := rfl
@[simp] theorem cnt_now (s : State) (f : Field) : (cnt s f).now = s.now := rfl
@[simp] theorem cnt_devTime (s : State) (f : Field) : (cnt s f).devTime = s.devTime := rfl
@[simp] theorem cnt_slew (s : State) (f : Field) : (cnt s f).slew = s.slew := rfl
@[simp] theorem cnt_unitT (s : State) (f : Field) : (cnt s f).unitT = s.unitT := rfl
@[simp] theorem cnt_aonOn (s : State) (f : Field) : (cnt s f).aonOn = s.aonOn := rfl
@[simp] theorem cnt_up (s : State) (f : Field) : (cnt s f).up = s.up := rfl
@[simp] theorem cnt_forced (s : State) (f : Field) : (cnt s f).forced = s.forced := rfl
@[simp] theorem cnt_raiseQ (s : State) (f : Field) : (cnt s f).raiseQ = s.raiseQ := rfl
@[simp] theorem cnt_noticeQ (s : State) (f : Field) : (cnt s f).noticeQ = s.noticeQ := rfl
@[simp] theorem cnt_logQ (s : State) (f : Field) : (cnt s f).logQ = s.logQ := rfl
@[simp] theorem cnt_calIn (s : State) (f : Field) : (cnt s f).calIn = s.calIn := rfl
@[simp] theorem cnt_sm (s : State) (f : Field) : (cnt s f).sm = s.sm := rfl
@[simp] theorem cnt_bm (s : State) (f : Field) : (cnt s f).bm = s.bm := rfl
@[simp] theorem cnt_pipes (s : State) (f : Field) : (cnt s f).pipes = s.pipes := rfl
@[simp] theorem cnt_chains (s : State) (f : Field) : (cnt s f).chains = s.chains := rfl
@[simp] theorem cnt_vecId (s : State) (f : Field) : (cnt s f).vecId = s.vecId := rfl
@[simp] theorem cnt_clusters (s : State) (f : Field) : (cnt s f).clusters = s.clusters := rfl
@[simp] theorem cnt_cores (s : State) (f : Field) : (cnt s f).cores = s.cores := rfl
@[simp] theorem cnt_ic (s : State) (f : Field) : (cnt s f).ic = s.ic := rfl
@[simp] theorem cnt_probeOk (s : State) (f : Field) : (cnt s f).probeOk = s.probeOk := rfl
@[simp] theorem cnt_idn (s : State) (f : Field) : (cnt s f).idn = s.idn := rfl
@[simp] theorem cnt_fld (s : State) (f : Field) : (cnt s f).fld = s.fld := rfl
@[simp] theorem cnt_stepOfs (s : State) (f : Field) : (cnt s f).stepOfs = s.stepOfs := rfl
@[simp] theorem cnt_cas (s : State) (f : Field) : (cnt s f).cas = s.cas := rfl
@[simp] theorem cnt_hst (s : State) (f : Field) : (cnt s f).hst = s.hst := rfl
@[simp] theorem cnt_mw (s : State) (f : Field) : (cnt s f).mw = s.mw := rfl
@[simp] theorem cnt_dma (s : State) (f : Field) : (cnt s f).dma = s.dma := rfl
@[simp] theorem cnt_pwr (s : State) (f : Field) : (cnt s f).pwr = s.pwr := rfl
@[simp] theorem cnt_cal (s : State) (f : Field) : (cnt s f).cal = s.cal := rfl
@[simp] theorem cnt_gp (s : State) (f : Field) : (cnt s f).gp = s.gp := rfl
@[simp] theorem cnt_rstReq (s : State) (f : Field) : (cnt s f).rstReq = s.rstReq := rfl
@[simp] theorem cnt_pending (s : State) (f : Field) : (cnt s f).pending = s.pending := rfl

/-! ### `raise` -/

@[simp] theorem raise_cfg (s : State) (n : Nat) : (raise s n).cfg = s.cfg := rfl
@[simp] theorem raise_mem (s : State) (n : Nat) : (raise s n).mem = s.mem := rfl
@[simp] theorem raise_ecc (s : State) (n : Nat) : (raise s n).ecc = s.ecc := rfl
@[simp] theorem raise_hostMem (s : State) (n : Nat) : (raise s n).hostMem = s.hostMem := rfl
@[simp] theorem raise_free (s : State) (n : Nat) : (raise s n).free = s.free := rfl
@[simp] theorem raise_now (s : State) (n : Nat) : (raise s n).now = s.now := rfl
@[simp] theorem raise_devTime (s : State) (n : Nat) : (raise s n).devTime = s.devTime := rfl
@[simp] theorem raise_slew (s : State) (n : Nat) : (raise s n).slew = s.slew := rfl
@[simp] theorem raise_unitT (s : State) (n : Nat) : (raise s n).unitT = s.unitT := rfl
@[simp] theorem raise_aonOn (s : State) (n : Nat) : (raise s n).aonOn = s.aonOn := rfl
@[simp] theorem raise_up (s : State) (n : Nat) : (raise s n).up = s.up := rfl
@[simp] theorem raise_forced (s : State) (n : Nat) : (raise s n).forced = s.forced := rfl
@[simp] theorem raise_noticeQ (s : State) (n : Nat) : (raise s n).noticeQ = s.noticeQ := rfl
@[simp] theorem raise_logQ (s : State) (n : Nat) : (raise s n).logQ = s.logQ := rfl
@[simp] theorem raise_calIn (s : State) (n : Nat) : (raise s n).calIn = s.calIn := rfl
@[simp] theorem raise_sm (s : State) (n : Nat) : (raise s n).sm = s.sm := rfl
@[simp] theorem raise_bm (s : State) (n : Nat) : (raise s n).bm = s.bm := rfl
@[simp] theorem raise_pipes (s : State) (n : Nat) : (raise s n).pipes = s.pipes := rfl
@[simp] theorem raise_chains (s : State) (n : Nat) : (raise s n).chains = s.chains := rfl
@[simp] theorem raise_vecId (s : State) (n : Nat) : (raise s n).vecId = s.vecId := rfl
@[simp] theorem raise_clusters (s : State) (n : Nat) : (raise s n).clusters = s.clusters := rfl
@[simp] theorem raise_cores (s : State) (n : Nat) : (raise s n).cores = s.cores := rfl
@[simp] theorem raise_ic (s : State) (n : Nat) : (raise s n).ic = s.ic := rfl
@[simp] theorem raise_probeOk (s : State) (n : Nat) : (raise s n).probeOk = s.probeOk := rfl
@[simp] theorem raise_idn (s : State) (n : Nat) : (raise s n).idn = s.idn := rfl
@[simp] theorem raise_fld (s : State) (n : Nat) : (raise s n).fld = s.fld := rfl
@[simp] theorem raise_stepOfs (s : State) (n : Nat) : (raise s n).stepOfs = s.stepOfs := rfl
@[simp] theorem raise_cas (s : State) (n : Nat) : (raise s n).cas = s.cas := rfl
@[simp] theorem raise_hst (s : State) (n : Nat) : (raise s n).hst = s.hst := rfl
@[simp] theorem raise_mw (s : State) (n : Nat) : (raise s n).mw = s.mw := rfl
@[simp] theorem raise_dma (s : State) (n : Nat) : (raise s n).dma = s.dma := rfl
@[simp] theorem raise_pwr (s : State) (n : Nat) : (raise s n).pwr = s.pwr := rfl
@[simp] theorem raise_cal (s : State) (n : Nat) : (raise s n).cal = s.cal := rfl
@[simp] theorem raise_gp (s : State) (n : Nat) : (raise s n).gp = s.gp := rfl
@[simp] theorem raise_rstReq (s : State) (n : Nat) : (raise s n).rstReq = s.rstReq := rfl
@[simp] theorem raise_pending (s : State) (n : Nat) : (raise s n).pending = s.pending := rfl

/-! ### `notice` -/

@[simp] theorem notice_cfg (s : State) (r b u d : Nat) : (notice s r b u d).cfg = s.cfg := rfl
@[simp] theorem notice_mem (s : State) (r b u d : Nat) : (notice s r b u d).mem = s.mem := rfl
@[simp] theorem notice_ecc (s : State) (r b u d : Nat) : (notice s r b u d).ecc = s.ecc := rfl
@[simp] theorem notice_hostMem (s : State) (r b u d : Nat) : (notice s r b u d).hostMem = s.hostMem := rfl
@[simp] theorem notice_free (s : State) (r b u d : Nat) : (notice s r b u d).free = s.free := rfl
@[simp] theorem notice_now (s : State) (r b u d : Nat) : (notice s r b u d).now = s.now := rfl
@[simp] theorem notice_devTime (s : State) (r b u d : Nat) : (notice s r b u d).devTime = s.devTime := rfl
@[simp] theorem notice_slew (s : State) (r b u d : Nat) : (notice s r b u d).slew = s.slew := rfl
@[simp] theorem notice_unitT (s : State) (r b u d : Nat) : (notice s r b u d).unitT = s.unitT := rfl
@[simp] theorem notice_aonOn (s : State) (r b u d : Nat) : (notice s r b u d).aonOn = s.aonOn := rfl
@[simp] theorem notice_up (s : State) (r b u d : Nat) : (notice s r b u d).up = s.up := rfl
@[simp] theorem notice_forced (s : State) (r b u d : Nat) : (notice s r b u d).forced = s.forced := rfl
@[simp] theorem notice_raiseQ (s : State) (r b u d : Nat) : (notice s r b u d).raiseQ = s.raiseQ := rfl
@[simp] theorem notice_logQ (s : State) (r b u d : Nat) : (notice s r b u d).logQ = s.logQ := rfl
@[simp] theorem notice_calIn (s : State) (r b u d : Nat) : (notice s r b u d).calIn = s.calIn := rfl
@[simp] theorem notice_sm (s : State) (r b u d : Nat) : (notice s r b u d).sm = s.sm := rfl
@[simp] theorem notice_bm (s : State) (r b u d : Nat) : (notice s r b u d).bm = s.bm := rfl
@[simp] theorem notice_pipes (s : State) (r b u d : Nat) : (notice s r b u d).pipes = s.pipes := rfl
@[simp] theorem notice_chains (s : State) (r b u d : Nat) : (notice s r b u d).chains = s.chains := rfl
@[simp] theorem notice_vecId (s : State) (r b u d : Nat) : (notice s r b u d).vecId = s.vecId := rfl
@[simp] theorem notice_clusters (s : State) (r b u d : Nat) : (notice s r b u d).clusters = s.clusters := rfl
@[simp] theorem notice_cores (s : State) (r b u d : Nat) : (notice s r b u d).cores = s.cores := rfl
@[simp] theorem notice_ic (s : State) (r b u d : Nat) : (notice s r b u d).ic = s.ic := rfl
@[simp] theorem notice_probeOk (s : State) (r b u d : Nat) : (notice s r b u d).probeOk = s.probeOk := rfl
@[simp] theorem notice_idn (s : State) (r b u d : Nat) : (notice s r b u d).idn = s.idn := rfl
@[simp] theorem notice_fld (s : State) (r b u d : Nat) : (notice s r b u d).fld = s.fld := rfl
@[simp] theorem notice_stepOfs (s : State) (r b u d : Nat) : (notice s r b u d).stepOfs = s.stepOfs := rfl
@[simp] theorem notice_cas (s : State) (r b u d : Nat) : (notice s r b u d).cas = s.cas := rfl
@[simp] theorem notice_hst (s : State) (r b u d : Nat) : (notice s r b u d).hst = s.hst := rfl
@[simp] theorem notice_mw (s : State) (r b u d : Nat) : (notice s r b u d).mw = s.mw := rfl
@[simp] theorem notice_dma (s : State) (r b u d : Nat) : (notice s r b u d).dma = s.dma := rfl
@[simp] theorem notice_pwr (s : State) (r b u d : Nat) : (notice s r b u d).pwr = s.pwr := rfl
@[simp] theorem notice_cal (s : State) (r b u d : Nat) : (notice s r b u d).cal = s.cal := rfl
@[simp] theorem notice_gp (s : State) (r b u d : Nat) : (notice s r b u d).gp = s.gp := rfl
@[simp] theorem notice_rstReq (s : State) (r b u d : Nat) : (notice s r b u d).rstReq = s.rstReq := rfl
@[simp] theorem notice_pending (s : State) (r b u d : Nat) : (notice s r b u d).pending = s.pending := rfl

/-! ### `elapse` -/

@[simp] theorem elapse_cfg (s : State) (d : Nat) : (elapse s d).cfg = s.cfg := rfl
@[simp] theorem elapse_mem (s : State) (d : Nat) : (elapse s d).mem = s.mem := rfl
@[simp] theorem elapse_ecc (s : State) (d : Nat) : (elapse s d).ecc = s.ecc := rfl
@[simp] theorem elapse_hostMem (s : State) (d : Nat) : (elapse s d).hostMem = s.hostMem := rfl
@[simp] theorem elapse_free (s : State) (d : Nat) : (elapse s d).free = s.free := rfl
@[simp] theorem elapse_unitT (s : State) (d : Nat) : (elapse s d).unitT = s.unitT := rfl
@[simp] theorem elapse_aonOn (s : State) (d : Nat) : (elapse s d).aonOn = s.aonOn := rfl
@[simp] theorem elapse_up (s : State) (d : Nat) : (elapse s d).up = s.up := rfl
@[simp] theorem elapse_forced (s : State) (d : Nat) : (elapse s d).forced = s.forced := rfl
@[simp] theorem elapse_raiseQ (s : State) (d : Nat) : (elapse s d).raiseQ = s.raiseQ := rfl
@[simp] theorem elapse_noticeQ (s : State) (d : Nat) : (elapse s d).noticeQ = s.noticeQ := rfl
@[simp] theorem elapse_logQ (s : State) (d : Nat) : (elapse s d).logQ = s.logQ := rfl
@[simp] theorem elapse_calIn (s : State) (d : Nat) : (elapse s d).calIn = s.calIn := rfl
@[simp] theorem elapse_sm (s : State) (d : Nat) : (elapse s d).sm = s.sm := rfl
@[simp] theorem elapse_bm (s : State) (d : Nat) : (elapse s d).bm = s.bm := rfl
@[simp] theorem elapse_pipes (s : State) (d : Nat) : (elapse s d).pipes = s.pipes := rfl
@[simp] theorem elapse_chains (s : State) (d : Nat) : (elapse s d).chains = s.chains := rfl
@[simp] theorem elapse_vecId (s : State) (d : Nat) : (elapse s d).vecId = s.vecId := rfl
@[simp] theorem elapse_clusters (s : State) (d : Nat) : (elapse s d).clusters = s.clusters := rfl
@[simp] theorem elapse_cores (s : State) (d : Nat) : (elapse s d).cores = s.cores := rfl
@[simp] theorem elapse_ic (s : State) (d : Nat) : (elapse s d).ic = s.ic := rfl
@[simp] theorem elapse_probeOk (s : State) (d : Nat) : (elapse s d).probeOk = s.probeOk := rfl
@[simp] theorem elapse_idn (s : State) (d : Nat) : (elapse s d).idn = s.idn := rfl
@[simp] theorem elapse_fld (s : State) (d : Nat) : (elapse s d).fld = s.fld := rfl
@[simp] theorem elapse_stepOfs (s : State) (d : Nat) : (elapse s d).stepOfs = s.stepOfs := rfl
@[simp] theorem elapse_cas (s : State) (d : Nat) : (elapse s d).cas = s.cas := rfl
@[simp] theorem elapse_hst (s : State) (d : Nat) : (elapse s d).hst = s.hst := rfl
@[simp] theorem elapse_mw (s : State) (d : Nat) : (elapse s d).mw = s.mw := rfl
@[simp] theorem elapse_dma (s : State) (d : Nat) : (elapse s d).dma = s.dma := rfl
@[simp] theorem elapse_pwr (s : State) (d : Nat) : (elapse s d).pwr = s.pwr := rfl
@[simp] theorem elapse_cal (s : State) (d : Nat) : (elapse s d).cal = s.cal := rfl
@[simp] theorem elapse_gp (s : State) (d : Nat) : (elapse s d).gp = s.gp := rfl
@[simp] theorem elapse_rstReq (s : State) (d : Nat) : (elapse s d).rstReq = s.rstReq := rfl
@[simp] theorem elapse_pending (s : State) (d : Nat) : (elapse s d).pending = s.pending := rfl

/-! ### `atLeast` -/

@[simp] theorem atLeast_cfg (s : State) (d : Nat) : (atLeast s d).cfg = s.cfg := rfl
@[simp] theorem atLeast_mem (s : State) (d : Nat) : (atLeast s d).mem = s.mem := rfl
@[simp] theorem atLeast_ecc (s : State) (d : Nat) : (atLeast s d).ecc = s.ecc := rfl
@[simp] theorem atLeast_hostMem (s : State) (d : Nat) : (atLeast s d).hostMem = s.hostMem := rfl
@[simp] theorem atLeast_free (s : State) (d : Nat) : (atLeast s d).free = s.free := rfl
@[simp] theorem atLeast_unitT (s : State) (d : Nat) : (atLeast s d).unitT = s.unitT := rfl
@[simp] theorem atLeast_aonOn (s : State) (d : Nat) : (atLeast s d).aonOn = s.aonOn := rfl
@[simp] theorem atLeast_up (s : State) (d : Nat) : (atLeast s d).up = s.up := rfl
@[simp] theorem atLeast_forced (s : State) (d : Nat) : (atLeast s d).forced = s.forced := rfl
@[simp] theorem atLeast_raiseQ (s : State) (d : Nat) : (atLeast s d).raiseQ = s.raiseQ := rfl
@[simp] theorem atLeast_noticeQ (s : State) (d : Nat) : (atLeast s d).noticeQ = s.noticeQ := rfl
@[simp] theorem atLeast_logQ (s : State) (d : Nat) : (atLeast s d).logQ = s.logQ := rfl
@[simp] theorem atLeast_calIn (s : State) (d : Nat) : (atLeast s d).calIn = s.calIn := rfl
@[simp] theorem atLeast_sm (s : State) (d : Nat) : (atLeast s d).sm = s.sm := rfl
@[simp] theorem atLeast_bm (s : State) (d : Nat) : (atLeast s d).bm = s.bm := rfl
@[simp] theorem atLeast_pipes (s : State) (d : Nat) : (atLeast s d).pipes = s.pipes := rfl
@[simp] theorem atLeast_chains (s : State) (d : Nat) : (atLeast s d).chains = s.chains := rfl
@[simp] theorem atLeast_vecId (s : State) (d : Nat) : (atLeast s d).vecId = s.vecId := rfl
@[simp] theorem atLeast_clusters (s : State) (d : Nat) : (atLeast s d).clusters = s.clusters := rfl
@[simp] theorem atLeast_cores (s : State) (d : Nat) : (atLeast s d).cores = s.cores := rfl
@[simp] theorem atLeast_ic (s : State) (d : Nat) : (atLeast s d).ic = s.ic := rfl
@[simp] theorem atLeast_probeOk (s : State) (d : Nat) : (atLeast s d).probeOk = s.probeOk := rfl
@[simp] theorem atLeast_idn (s : State) (d : Nat) : (atLeast s d).idn = s.idn := rfl
@[simp] theorem atLeast_fld (s : State) (d : Nat) : (atLeast s d).fld = s.fld := rfl
@[simp] theorem atLeast_stepOfs (s : State) (d : Nat) : (atLeast s d).stepOfs = s.stepOfs := rfl
@[simp] theorem atLeast_cas (s : State) (d : Nat) : (atLeast s d).cas = s.cas := rfl
@[simp] theorem atLeast_hst (s : State) (d : Nat) : (atLeast s d).hst = s.hst := rfl
@[simp] theorem atLeast_mw (s : State) (d : Nat) : (atLeast s d).mw = s.mw := rfl
@[simp] theorem atLeast_dma (s : State) (d : Nat) : (atLeast s d).dma = s.dma := rfl
@[simp] theorem atLeast_pwr (s : State) (d : Nat) : (atLeast s d).pwr = s.pwr := rfl
@[simp] theorem atLeast_cal (s : State) (d : Nat) : (atLeast s d).cal = s.cal := rfl
@[simp] theorem atLeast_gp (s : State) (d : Nat) : (atLeast s d).gp = s.gp := rfl
@[simp] theorem atLeast_rstReq (s : State) (d : Nat) : (atLeast s d).rstReq = s.rstReq := rfl
@[simp] theorem atLeast_pending (s : State) (d : Nat) : (atLeast s d).pending = s.pending := rfl

/-! ### `keep` -/

@[simp] theorem keep_cfg (s t : State) : (keep s t).cfg = s.cfg := rfl
@[simp] theorem keep_mem (s t : State) : (keep s t).mem = t.mem := rfl
@[simp] theorem keep_ecc (s t : State) : (keep s t).ecc = t.ecc := rfl
@[simp] theorem keep_hostMem (s t : State) : (keep s t).hostMem = t.hostMem := rfl
@[simp] theorem keep_free (s t : State) : (keep s t).free = t.free := rfl
@[simp] theorem keep_now (s t : State) : (keep s t).now = t.now := rfl
@[simp] theorem keep_devTime (s t : State) : (keep s t).devTime = t.devTime := rfl
@[simp] theorem keep_slew (s t : State) : (keep s t).slew = t.slew := rfl
@[simp] theorem keep_unitT (s t : State) : (keep s t).unitT = t.unitT := rfl
@[simp] theorem keep_aonOn (s t : State) : (keep s t).aonOn = t.aonOn := rfl
@[simp] theorem keep_up (s t : State) : (keep s t).up = t.up := rfl
@[simp] theorem keep_forced (s t : State) : (keep s t).forced = t.forced := rfl
@[simp] theorem keep_raiseQ (s t : State) : (keep s t).raiseQ = t.raiseQ := rfl
@[simp] theorem keep_noticeQ (s t : State) : (keep s t).noticeQ = t.noticeQ := rfl
@[simp] theorem keep_logQ (s t : State) : (keep s t).logQ = t.logQ := rfl
@[simp] theorem keep_calIn (s t : State) : (keep s t).calIn = t.calIn := rfl
@[simp] theorem keep_sm (s t : State) : (keep s t).sm = t.sm := rfl
@[simp] theorem keep_bm (s t : State) : (keep s t).bm = t.bm := rfl
@[simp] theorem keep_pipes (s t : State) : (keep s t).pipes = t.pipes := rfl
@[simp] theorem keep_chains (s t : State) : (keep s t).chains = t.chains := rfl
@[simp] theorem keep_vecId (s t : State) : (keep s t).vecId = t.vecId := rfl
@[simp] theorem keep_clusters (s t : State) : (keep s t).clusters = t.clusters := rfl
@[simp] theorem keep_cores (s t : State) : (keep s t).cores = t.cores := rfl
@[simp] theorem keep_ic (s t : State) : (keep s t).ic = t.ic := rfl
@[simp] theorem keep_probeOk (s t : State) : (keep s t).probeOk = t.probeOk := rfl
@[simp] theorem keep_idn (s t : State) : (keep s t).idn = t.idn := rfl
@[simp] theorem keep_fld (s t : State) : (keep s t).fld = t.fld := rfl
@[simp] theorem keep_stepOfs (s t : State) : (keep s t).stepOfs = t.stepOfs := rfl
@[simp] theorem keep_cas (s t : State) : (keep s t).cas = t.cas := rfl
@[simp] theorem keep_hst (s t : State) : (keep s t).hst = t.hst := rfl
@[simp] theorem keep_mw (s t : State) : (keep s t).mw = t.mw := rfl
@[simp] theorem keep_dma (s t : State) : (keep s t).dma = t.dma := rfl
@[simp] theorem keep_pwr (s t : State) : (keep s t).pwr = t.pwr := rfl
@[simp] theorem keep_cal (s t : State) : (keep s t).cal = t.cal := rfl
@[simp] theorem keep_gp (s t : State) : (keep s t).gp = t.gp := rfl
@[simp] theorem keep_rstReq (s t : State) : (keep s t).rstReq = t.rstReq := rfl
@[simp] theorem keep_pending (s t : State) : (keep s t).pending = s.pending := rfl

theorem raise_raiseQ (s : State) (n : Nat) : (raise s n).raiseQ = s.raiseQ ++ [n] := rfl
theorem notice_noticeQ (s : State) (r b u d : Nat) :
    (notice s r b u d).noticeQ = s.noticeQ ++ [⟨64 * r + b, u, mkW d⟩] := rfl
theorem elapse_now (s : State) (d : Nat) : (elapse s d).now = s.now + d := rfl
theorem atLeast_now (s : State) (t : Nat) : (atLeast s t).now = max s.now t := by
  simp only [atLeast, elapse_now]; omega

end Sys2Proof.Machine
end

