-- ==== Sys2Proof/Laws/Store.lean ====
section
/-! SUPPORT. The word store: reading after writing, and the canonical form, which every memory operation keeps. -/

namespace Sys2Proof.Machine

/-! ### Sparse stores -/

section Sparse
variable {α : Type} [DecidableEq α]

omit [DecidableEq α] in
theorem kvGet_append (d : α) (m n : List (Nat × α)) (k : Nat) :
    kvGet d (m ++ n) k = if k ∈ m.map Prod.fst then kvGet d m k else kvGet d n k := by
  induction m with
  | nil => simp
  | cons e m ih =>
    by_cases h : e.1 = k
    · simp [kvGet, h]
    · have h' : ¬ k = e.1 := fun x => h x.symm
      simp only [List.cons_append, kvGet, h, if_false, ih, List.map_cons, List.mem_cons, h', false_or]

omit [DecidableEq α] in
theorem kvGet_filter (d : α) (m : List (Nat × α)) (k : Nat) (p : Nat × α → Bool) (h : ∀ v, p (k, v) = true) :
    kvGet d (m.filter p) k = kvGet d m k := by
  induction m with
  | nil => rfl
  | cons e m ih =>
    obtain ⟨i, v⟩ := e
    by_cases hk : i = k
    · subst hk; simp [kvGet, h v]
    · by_cases hp : p (i, v) = true <;> simp [kvGet, hk, hp, ih]

omit [DecidableEq α] in
theorem kvGet_absent (d : α) (m : List (Nat × α)) (k : Nat) (h : k ∉ m.map Prod.fst) : kvGet d m k = d := by
  induction m with
  | nil => rfl
  | cons e m ih =>
    simp only [List.map_cons, List.mem_cons, not_or] at h
    simp [kvGet, Ne.symm h.1, ih h.2]

/-- Reading the key just written gives the value written. -/
theorem kvGet_kvSet_same (d : α) (m : List (Nat × α)) (k : Nat) (v : α) : kvGet d (kvSet d m k v) k = v := by
  have h1 : k ∉ (m.filter (fun e => decide (e.1 < k))).map Prod.fst := by
    simp only [List.mem_map, List.mem_filter, decide_eq_true_eq]; rintro ⟨e, ⟨_, h⟩, rfl⟩; omega
  have h2 : k ∉ (m.filter (fun e => decide (k < e.1))).map Prod.fst := by
    simp only [List.mem_map, List.mem_filter, decide_eq_true_eq]; rintro ⟨e, ⟨_, h⟩, rfl⟩; omega
  rw [kvSet, kvGet_append, if_neg h1]
  by_cases hv : v = d
  · rw [if_pos hv, List.nil_append, kvGet_absent _ _ _ h2, hv]
  · simp [hv, kvGet]

/-- Writing one key leaves every other key as it was; the two keys may have different defaults. -/
theorem kvGet_kvSet_ne (d d' : α) (m : List (Nat × α)) {j k : Nat} (v : α) (h : j ≠ k) :
    kvGet d' (kvSet d m k v) j = kvGet d' m j := by
  rw [kvSet, kvGet_append, kvGet_append]
  have hm : j ∉ (if v = d then [] else [(k, v)]).map Prod.fst := by
    split <;> simp [h]
  rw [if_neg hm]
  by_cases hj : j < k
  · have hn : j ∉ (m.filter (fun e => decide (k < e.1))).map Prod.fst := by
      simp only [List.mem_map, List.mem_filter, decide_eq_true_eq]; rintro ⟨e, ⟨_, h⟩, rfl⟩; omega
    rw [kvGet_filter _ _ _ _ (fun v => by simpa using hj), kvGet_absent _ _ _ hn]
    split
    · rfl
    · rename_i hk
      rw [← kvGet_filter d' m j (fun e => decide (e.1 < k)) (fun v => by simpa using hj), kvGet_absent _ _ _ hk]
  · have hn : j ∉ (m.filter (fun e => decide (e.1 < k))).map Prod.fst := by
      simp only [List.mem_map, List.mem_filter, decide_eq_true_eq]; rintro ⟨e, ⟨_, h⟩, rfl⟩; omega
    rw [if_neg hn, kvGet_filter _ _ _ _ (fun v => by simp; omega)]

/-- Setting a key keeps the keys strictly rising. -/
theorem kvSet_sorted (d : α) (m : List (Nat × α)) (k : Nat) (v : α) (h : m.Pairwise (fun x y => x.1 < y.1)) :
    (kvSet d m k v).Pairwise (fun x y => x.1 < y.1) := by
  unfold kvSet
  refine List.pairwise_append.2 ⟨h.filter _, List.pairwise_append.2 ⟨?_, h.filter _, ?_⟩, ?_⟩
  · split <;> simp
  · intro a ha b hb
    simp only [List.mem_filter, decide_eq_true_eq] at hb
    split at ha
    · simp at ha
    · simp at ha; subst ha; exact hb.2
  · intro a ha b hb
    simp only [List.mem_filter, decide_eq_true_eq] at ha
    rcases List.mem_append.1 hb with hb | hb
    · split at hb
      · simp at hb
      · simp at hb; subst hb; exact ha.2
    · simp only [List.mem_filter, decide_eq_true_eq] at hb; omega

/-- An entry after setting a key is the new one or an old one. -/
theorem mem_kvSet {d : α} {m : List (Nat × α)} {k : Nat} {v : α} {e : Nat × α} (h : e ∈ kvSet d m k v) :
    (e = (k, v) ∧ v ≠ d) ∨ e ∈ m := by
  simp only [kvSet, List.mem_append, List.mem_filter] at h
  rcases h with h | h | h
  · exact .inr h.1
  · split at h
    · simp at h
    · rename_i hv; simp at h; exact .inl ⟨h, hv⟩
  · exact .inr h.1

end Sparse

/-! ### Words of the module -/

theorem rd_wr_same (s : State) (a : Nat) (w : Word) : rd (wr s a w) a = w := kvGet_kvSet_same _ _ _ _
theorem rd_wr_ne (s : State) {a b : Nat} (w : Word) (h : b ≠ a) : rd (wr s a w) b = rd s b := by
  exact kvGet_kvSet_ne _ _ _ w h
theorem rd_wf_ne (s : State) (f : Field) (v : Nat) {b : Nat} (h : b ≠ f.addr) : rd (wf s f v) b = rd s b := rd_wr_ne s _ h
theorem rf_wf_ne (s : State) (f g : Field) (v : Nat) (h : g.addr ≠ f.addr) : rf (wf s f v) g = rf s g := by
  simp only [rf, rdN, rd_wf_ne s f v h]

/-! ### The canonical form -/

/-- The store of `s` is in canonical form. -/
abbrev State.memOk (s : State) : Prop := Memory.wf s.cfg.part s.mem

theorem Memory.wf_kvSet (p : Part) (m : List (Nat × Word)) (a : Nat) (w : Word) (h : Memory.wf p m) :
    Memory.wf p (kvSet (coldWord p a) m a w) := by
  refine ⟨kvSet_sorted _ _ _ _ h.1, fun e he => ?_⟩
  rcases mem_kvSet he with ⟨rfl, hw⟩ | he
  · exact hw
  · exact h.2 e he

theorem Memory.wf_filter (p : Part) (m : List (Nat × Word)) (q : Nat × Word → Bool) (h : Memory.wf p m) :
    Memory.wf p (m.filter q) :=
  ⟨h.1.filter _, fun e he => h.2 e (List.mem_filter.1 he).1⟩

theorem wr_memOk {s : State} (a : Nat) (w : Word) (h : s.memOk) : (wr s a w).memOk := Memory.wf_kvSet _ _ _ _ h
theorem wrN_memOk {s : State} (a n : Nat) (h : s.memOk) : (wrN s a n).memOk := wr_memOk _ _ h
theorem wf_memOk {s : State} (f : Field) (v : Nat) (h : s.memOk) : (wf s f v).memOk := wr_memOk _ _ h
theorem wb_memOk {s : State} (f : Field) (b : Bool) (h : s.memOk) : (wb s f b).memOk := wr_memOk _ _ h
theorem stick_memOk {s : State} (f : Field) (v : Nat) (h : s.memOk) : (stick s f v).memOk := wr_memOk _ _ h
theorem cntAdd_memOk {s : State} (f : Field) (n : Nat) (h : s.memOk) : (cntAdd s f n).memOk := wr_memOk _ _ h
theorem wrBlock_memOk (ws : List Word) : ∀ {s : State} (a : Nat), s.memOk → (wrBlock s a ws).memOk := by
  induction ws with
  | nil => intro s a h; exact h
  | cons w ws ih => intro s a h; exact ih _ (wr_memOk _ _ h)
theorem keep_memOk {s t : State} (h : t.memOk) (hp : t.cfg = s.cfg) : (keep s t).memOk := by
  simpa [State.memOk, hp] using h

theorem reset_memOk : State.reset.memOk := by decide

theorem coldWord_resetWord (p : Part) : coldWord p 0x201E0002 = 0#36 := by cases p <;> rfl

/-- What a cold reset keeps is in canonical form. -/
theorem Memory.wf_coldKeeps (p : Part) (m : List (Nat × Word)) (h : Memory.wf p m) : Memory.wf p (m.filterMap coldKeeps) := by
  have key : ∀ e e' : Nat × Word, coldKeeps e = some e' → e'.1 = e.1 ∧ (e.2 ≠ coldWord p e.1 → e'.2 ≠ coldWord p e'.1) := by
    intro e e' he
    simp only [coldKeeps] at he
    split at he
    · cases he; exact ⟨rfl, id⟩
    · split at he
      · cases he; exact ⟨rfl, id⟩
      · split at he
        · rename_i h3
          try dsimp only at he
          split at he
          · cases he
          · rename_i hv
            cases he
            refine ⟨rfl, fun _ => ?_⟩
            have : e.1 = 0x201E0002 := h3
            simpa only [this, coldWord_resetWord] using hv
        · split at he
          · cases he; exact ⟨rfl, id⟩
          · cases he
  refine ⟨?_, ?_⟩
  · rw [List.pairwise_filterMap]
    exact h.1.imp fun {a b} hab x hx y hy => by rw [(key a x hx).1, (key b y hy).1]; exact hab
  · intro e' he'
    obtain ⟨e, hm, he⟩ := List.mem_filterMap.1 he'
    exact (key e e' he).2 (h.2 e hm)

theorem warmRegs_memOk {s : State} (q : Blk → Nat → Bool) (h : s.memOk) : (warmRegs s q).memOk := by
  unfold warmRegs
  generalize s.mem = l
  induction l generalizing s with
  | nil => exact h
  | cons e l ih =>
    simp only [List.foldl_cons]
    apply ih
    split
    · split
      · exact wr_memOk _ _ h
      · exact h
    · exact h

theorem coldRegs_memOk {s : State} (q : Blk → Nat → Bool) (r : Nat → Bool) (h : s.memOk) : (coldRegs s q r).memOk :=
  Memory.wf_filter _ _ _ h

end Sys2Proof.Machine
end

