-- ==== Sys2Proof/Laws/Fields.lean ====
section
/-! SUPPORT. Register fields: reading a field after writing it, and reading another field of the same word. -/

namespace Sys2Proof.Machine

/-- The value with one field replaced, taken apart: what lies above, the field, what lies below. -/
theorem putBits_split (n hi lo v : Nat) (h : lo ≤ hi) :
    putBits n hi lo v = n / 2 ^ (hi + 1) * 2 ^ (hi + 1) + v % 2 ^ (hi + 1 - lo) * 2 ^ lo + n % 2 ^ lo := by
  have hp : 2 ^ (hi + 1) = 2 ^ lo * 2 ^ (hi + 1 - lo) := by rw [← Nat.pow_add]; congr 1; omega
  have h1 := Nat.div_add_mod n (2 ^ lo)
  have h2 := Nat.div_add_mod (n / 2 ^ lo) (2 ^ (hi + 1 - lo))
  rw [Nat.div_div_eq_div_mul, ← hp] at h2
  unfold putBits bits
  generalize n / 2 ^ (hi + 1) = q at *
  generalize n / 2 ^ lo % 2 ^ (hi + 1 - lo) = b at *
  generalize v % 2 ^ (hi + 1 - lo) * 2 ^ lo = c
  have h3 : n = q * 2 ^ (hi + 1) + b * 2 ^ lo + n % 2 ^ lo := by
    rw [hp]
    calc n = 2 ^ lo * (n / 2 ^ lo) + n % 2 ^ lo := h1.symm
      _ = 2 ^ lo * (2 ^ (hi + 1 - lo) * q + b) + n % 2 ^ lo := by rw [h2]
      _ = q * (2 ^ lo * 2 ^ (hi + 1 - lo)) + b * 2 ^ lo + n % 2 ^ lo := by ring
  omega

/-- A field just replaced reads as the value, cut to its width. -/
theorem bits_putBits_same (n hi lo v : Nat) (h : lo ≤ hi) :
    bits (putBits n hi lo v) hi lo = v % 2 ^ (hi + 1 - lo) := by
  rw [putBits_split n hi lo v h]
  have hp : 2 ^ (hi + 1) = 2 ^ lo * 2 ^ (hi + 1 - lo) := by rw [← Nat.pow_add]; congr 1; omega
  have hl : n % 2 ^ lo < 2 ^ lo := Nat.mod_lt _ (Nat.two_pow_pos _)
  unfold bits
  have e : n / 2 ^ (hi + 1) * 2 ^ (hi + 1) + v % 2 ^ (hi + 1 - lo) * 2 ^ lo + n % 2 ^ lo =
      n % 2 ^ lo + 2 ^ lo * (n / 2 ^ (hi + 1) * 2 ^ (hi + 1 - lo) + v % 2 ^ (hi + 1 - lo)) := by rw [hp]; ring
  rw [e, Nat.add_mul_div_left _ _ (Nat.two_pow_pos _), Nat.div_eq_of_lt hl, Nat.zero_add, Nat.mul_add_mod_self_right, Nat.mod_mod]

theorem putBits_lt (n hi lo v : Nat) (h : lo ≤ hi) (hh : hi < 36) (hn : n < 2 ^ 36) : putBits n hi lo v < 2 ^ 36 := by
  rw [putBits_split n hi lo v h]
  have hp : 2 ^ (hi + 1) = 2 ^ lo * 2 ^ (hi + 1 - lo) := by rw [← Nat.pow_add]; congr 1; omega
  have hl : n % 2 ^ lo < 2 ^ lo := Nat.mod_lt _ (Nat.two_pow_pos _)
  have hv : v % 2 ^ (hi + 1 - lo) < 2 ^ (hi + 1 - lo) := Nat.mod_lt _ (Nat.two_pow_pos _)
  have h1 : v % 2 ^ (hi + 1 - lo) * 2 ^ lo + n % 2 ^ lo < 2 ^ (hi + 1) := by
    rw [hp]
    calc v % 2 ^ (hi + 1 - lo) * 2 ^ lo + n % 2 ^ lo < v % 2 ^ (hi + 1 - lo) * 2 ^ lo + 2 ^ lo := by omega
      _ = (v % 2 ^ (hi + 1 - lo) + 1) * 2 ^ lo := by ring
      _ ≤ 2 ^ (hi + 1 - lo) * 2 ^ lo := Nat.mul_le_mul_right _ hv
      _ = 2 ^ lo * 2 ^ (hi + 1 - lo) := by ring
  have hq : 2 ^ 36 = 2 ^ (hi + 1) * 2 ^ (35 - hi) := by rw [← Nat.pow_add]; congr 1; omega
  have h2 : n / 2 ^ (hi + 1) < 2 ^ (35 - hi) := by
    apply Nat.div_lt_of_lt_mul; rw [← hq]; exact hn
  calc n / 2 ^ (hi + 1) * 2 ^ (hi + 1) + v % 2 ^ (hi + 1 - lo) * 2 ^ lo + n % 2 ^ lo
      < n / 2 ^ (hi + 1) * 2 ^ (hi + 1) + 2 ^ (hi + 1) := by omega
    _ = (n / 2 ^ (hi + 1) + 1) * 2 ^ (hi + 1) := by ring
    _ ≤ 2 ^ (35 - hi) * 2 ^ (hi + 1) := Nat.mul_le_mul_right _ h2
    _ = 2 ^ 36 := by rw [hq]; ring

/-- A field reads as the value just written, cut to the field's width. -/
theorem rf_wf_same (s : State) (f : Field) (v : Nat) (h : f.lo ≤ f.hi) (hh : f.hi < 36) :
    rf (wf s f v) f = v % 2 ^ (f.hi + 1 - f.lo) := by
  have hlt := putBits_lt (rdN s f.addr) f.hi f.lo v h hh (rd s f.addr).isLt
  simp only [rf, wf, wrN, rdN, rd_wr_same, mkW, BitVec.toNat_ofNat] at *
  rw [Nat.mod_eq_of_lt hlt, bits_putBits_same _ _ _ _ h]

/-- Replacing one field of a value leaves a field above or below it. -/
theorem bits_putBits_ne (n hi lo v hi' lo' : Nat) (h : lo ≤ hi) (h' : lo' ≤ hi') (hd : hi < lo' ∨ hi' < lo) :
    bits (putBits n hi lo v) hi' lo' = bits n hi' lo' := by
  rw [putBits_split n hi lo v h]
  have hl : n % 2 ^ lo < 2 ^ lo := Nat.mod_lt _ (Nat.two_pow_pos _)
  have hv : v % 2 ^ (hi + 1 - lo) < 2 ^ (hi + 1 - lo) := Nat.mod_lt _ (Nat.two_pow_pos _)
  have hp : 2 ^ (hi + 1) = 2 ^ lo * 2 ^ (hi + 1 - lo) := by rw [← Nat.pow_add]; congr 1; omega
  have h1 : v % 2 ^ (hi + 1 - lo) * 2 ^ lo + n % 2 ^ lo < 2 ^ (hi + 1) := by
    rw [hp]
    calc v % 2 ^ (hi + 1 - lo) * 2 ^ lo + n % 2 ^ lo < v % 2 ^ (hi + 1 - lo) * 2 ^ lo + 2 ^ lo := by omega
      _ = (v % 2 ^ (hi + 1 - lo) + 1) * 2 ^ lo := by ring
      _ ≤ 2 ^ (hi + 1 - lo) * 2 ^ lo := Nat.mul_le_mul_right _ hv
      _ = 2 ^ lo * 2 ^ (hi + 1 - lo) := by ring
  unfold bits
  rcases hd with hd | hd
  · have e1 : ∀ x, x / 2 ^ lo' = x / 2 ^ (hi + 1) / 2 ^ (lo' - (hi + 1)) := fun x => by
      rw [Nat.div_div_eq_div_mul, ← Nat.pow_add]; congr 2; omega
    have e2 : (n / 2 ^ (hi + 1) * 2 ^ (hi + 1) + v % 2 ^ (hi + 1 - lo) * 2 ^ lo + n % 2 ^ lo) / 2 ^ (hi + 1) = n / 2 ^ (hi + 1) := by
      rw [Nat.add_assoc, Nat.mul_comm, Nat.mul_add_div (Nat.two_pow_pos _), Nat.div_eq_of_lt h1, Nat.add_zero]
    rw [e1, e2, ← e1]
  · have hpp : 2 ^ lo' * 2 ^ (hi' + 1 - lo') = 2 ^ (hi' + 1) := by rw [← Nat.pow_add]; congr 1; omega
    have hdv : 2 ^ (hi' + 1) ∣ 2 ^ lo := Nat.pow_dvd_pow 2 (by omega)
    have e1 : ∀ x y : Nat, x % 2 ^ lo = y % 2 ^ lo → x / 2 ^ lo' % 2 ^ (hi' + 1 - lo') = y / 2 ^ lo' % 2 ^ (hi' + 1 - lo') := by
      intro x y hxy
      rw [← Nat.mod_mul_right_div_self, ← Nat.mod_mul_right_div_self, hpp, ← Nat.mod_mod_of_dvd x hdv, hxy, Nat.mod_mod_of_dvd y hdv]
    apply e1
    have e2 : n / 2 ^ (hi + 1) * 2 ^ (hi + 1) + v % 2 ^ (hi + 1 - lo) * 2 ^ lo + n % 2 ^ lo =
        n % 2 ^ lo + 2 ^ lo * (n / 2 ^ (hi + 1) * 2 ^ (hi + 1 - lo) + v % 2 ^ (hi + 1 - lo)) := by rw [hp]; ring
    rw [e2, Nat.add_mul_mod_self_left, Nat.mod_mod]

/-- Writing one field of a word leaves the fields above and below it. -/
theorem rf_wf_ne_bits (s : State) (f g : Field) (v : Nat) (ha : g.addr = f.addr) (hf : f.lo ≤ f.hi) (hh : f.hi < 36)
    (hg : g.lo ≤ g.hi) (hd : f.hi < g.lo ∨ g.hi < f.lo) : rf (wf s f v) g = rf s g := by
  have hlt := putBits_lt (rdN s f.addr) f.hi f.lo v hf hh (rd s f.addr).isLt
  simp only [rf, wf, wrN, rdN, ha, rd_wr_same, mkW, BitVec.toNat_ofNat] at *
  rw [Nat.mod_eq_of_lt hlt, bits_putBits_ne _ _ _ _ _ _ hf hg hd]

end Sys2Proof.Machine
end

