-- ==== Sys2Proof/Laws/Gate.lean ====
section
/-! SUPPORT. The gates every command passes: when its effect happens, when nothing does, when it stops, and what every answer keeps; and
what the small operations beneath the meanings read back as. -/

namespace Sys2Proof.Machine

/-! ### What `keep` keeps -/

@[simp] theorem keep_self (s : State) : keep s s = s := rfl
theorem keep_eq {s t : State} (h : t.cfg = s.cfg) (hp : t.pending = s.pending) : keep s t = t := by
  cases t; simp only at h hp; subst h; subst hp; rfl
/-- A read depends on the part alone beside the store, and no command changes the part. -/
theorem rd_keep {s t : State} (h : t.cfg = s.cfg) (a : Nat) : rd (keep s t) a = rd t a := by simp [rd, keep, h]
theorem rf_keep {s t : State} (h : t.cfg = s.cfg) (f : Field) : rf (keep s t) f = rf t f := by simp [rf, rdN, rd_keep h]
theorem rb_keep {s t : State} (h : t.cfg = s.cfg) (f : Field) : rb (keep s t) f = rb t f := by simp [rb, rf_keep h]

/-! ### The gates -/

/-- In a live island a command has its effect. -/
theorem gate_live {s : State} {i : Nat} (h : s.live i) (k : State → State) : gate i s k = .next (keep s (k s)) := by
  simp [gate, h.1, h.2]
/-- In an island that is not released nothing happens. -/
theorem gate_down {s : State} {i : Nat} (h : isUp s i = false) (hf : s.forced.getLsbD i = false) (k : State → State) :
    gate i s k = .next s := by simp [gate, h, hf]
/-- In an island released by force the effect is undefined (R391). -/
theorem gate_forced {s : State} {i : Nat} (h : s.forced.getLsbD i = true) (k : State → State) :
    gate i s k = .next (keep s (islUndefined i s)) := by simp [gate, h]
theorem gateAon_on {s : State} (h : s.aonOn = true) (k : State → State) : gateAon s k = .next (keep s (k s)) := by
  simp [gateAon, h]
theorem gateAon_off {s : State} (h : s.aonOn = false) (k : State → State) : gateAon s k = .next s := by
  simp [gateAon, h]
theorem rstSettle_none {s : State} (h : s.rstReq = []) : rstSettle s = s := by simp [rstSettle, h]
theorem gateRst_live {s : State} {i : Nat} (h : s.live i) (k : State → State) :
    gateRst i s k = .next (keep s (rstSettle (k s))) := gate_live h _
theorem gateAonRst_on {s : State} (h : s.aonOn = true) (k : State → State) :
    gateAonRst s k = .next (keep s (rstSettle (k s))) := gateAon_on h _
theorem gateUnit_live {s : State} {u : UnitRef} (h : s.live (unitIsland u)) (hu : unitHas s u = true) (k : State → State) :
    gateUnit u s k = .next (keep s (unitSettle u (k s))) := by rw [gateUnit, gate_live h]; simp [hu]
theorem gateCl_live {s : State} {n : Nat} (h : s.live (iCLU n)) (hn : n < s.cfg.part.clusters) (k : State → State) :
    gateCl n s k = .next (keep s (k s)) := by rw [gateCl, gate_live h]; simp [hasCl, hn]
theorem gatePort_live {s : State} {p : Nat} (h : s.live iFLD) (hp : p < s.cfg.part.ports) (k : State → State) :
    gatePort p s k = .next (keep s (k s)) := by rw [gatePort, gate_live h]; simp [hp]
theorem gateRm_live {s : State} {n : Nat} (h : s.live iRMC) (hn : n < s.cfg.part.cores) (k : State → State) :
    gateRm n s k = .next (keep s (k s)) := by rw [gateRm, gate_live h]; simp [hn]
theorem gateCmd_live {s : State} (h : s.live iHST) (hr : monRuns s = true) (k : State → State) :
    gateCmd s k = .next (keep s (k s)) := by rw [gateCmd, gate_live h]; simp [hr]

/-- A gated command answers a next state, with the module and its queue as they were. -/
theorem gate_next (i : Nat) (s : State) (k : State → State) :
    ∃ t, gate i s k = .next t ∧ t.cfg = s.cfg ∧ t.pending = s.pending := ⟨_, rfl, rfl, rfl⟩

/-! ### Small operations -/

@[simp] theorem kvFind_kvDel_same {α : Type} (m : List (Nat × α)) (k : Nat) : kvFind (kvDel m k) k = none := by
  simp [kvFind, kvDel, List.find?_eq_none]
theorem rd_wb_ne (s : State) (f : Field) (b : Bool) {x : Nat} (h : x ≠ f.addr) : rd (wb s f b) x = rd s x := rd_wf_ne s f _ h
theorem rd_cnt_ne (s : State) (f : Field) {x : Nat} (h : x ≠ f.addr) : rd (cnt s f) x = rd s x := rd_wf_ne s f _ h
theorem rd_stick_ne (s : State) (f : Field) (v : Nat) {x : Nat} (h : x ≠ f.addr) : rd (stick s f v) x = rd s x := rd_wf_ne s f _ h
/-- A one-bit field reads as the value just written. -/
theorem rb_wb_same (s : State) (f : Field) (b : Bool) (h : f.lo = f.hi) (hh : f.hi < 36) : rb (wb s f b) f = b := by
  simp only [rb, wb]; rw [rf_wf_same s f _ (by omega) hh, h]; cases b <;> simp [b2n]
/-- A saturating counter of a whole word after one count (R71). -/
theorem rf_cnt_same (s : State) (f : Field) (h : f.lo ≤ f.hi) (hh : f.hi < 36) :
    rf (cnt s f) f = min (rf s f + 1) (2 ^ (f.hi + 1 - f.lo) - 1) := by
  simp only [cnt, cntAdd]; rw [rf_wf_same s f _ h hh]
  apply Nat.mod_eq_of_lt
  have := Nat.two_pow_pos (f.hi + 1 - f.lo)
  omega
@[simp] theorem rd_raise (s : State) (n a : Nat) : rd (raise s n) a = rd s a := rfl
@[simp] theorem rd_notice (s : State) (r b u d a : Nat) : rd (notice s r b u d) a = rd s a := rfl
@[simp] theorem rd_elapse (s : State) (d a : Nat) : rd (elapse s d) a = rd s a := rfl
@[simp] theorem rd_atLeast (s : State) (t a : Nat) : rd (atLeast s t) a = rd s a := rfl
/-- Time has reached the instant waited for. -/
theorem le_atLeast_now (s : State) (t : Nat) : t ≤ (atLeast s t).now := by simp only [atLeast, elapse]; omega

/-! ### Indexed units -/

theorem core_modCore_same {s : State} {n : Nat} (h : n < s.cores.length) (k : CoreSt → CoreSt) :
    core (modCore s n k) n = k (core s n) := by simp [core, modCore, h]
theorem core_modCore_ne {s : State} {n m : Nat} (h : m ≠ n) (k : CoreSt → CoreSt) : core (modCore s n k) m = core s m := by
  simp [core, modCore, List.getElem?_set_ne (Ne.symm h)]
theorem cl_modCl_same {s : State} {n : Nat} (h : n < s.clusters.length) (k : ClusterSt → ClusterSt) :
    cl (modCl s n k) n = k (cl s n) := by simp [cl, modCl, setCl, h]
theorem cl_modCl_ne {s : State} {n m : Nat} (h : m ≠ n) (k : ClusterSt → ClusterSt) : cl (modCl s n k) m = cl s m := by
  simp [cl, modCl, setCl, List.getElem?_set_ne (Ne.symm h)]
theorem port_modPort_same {s : State} {p : Nat} (h : p < s.fld.ports.length) (k : PortSt → PortSt) :
    port (modPort s p k) p = k (port s p) := by simp [port, modPort, h]
theorem port_modPort_ne {s : State} {p q : Nat} (h : q ≠ p) (k : PortSt → PortSt) : port (modPort s p k) q = port s q := by
  simp [port, modPort, List.getElem?_set_ne (Ne.symm h)]
theorem link_modLink_same {s : State} {l : Nat} (h : l < s.cas.links.length) (k : LinkSt → LinkSt) :
    link (modLink s l k) l = k (link s l) := by simp [link, modLink, h]
theorem link_modLink_ne {s : State} {l m : Nat} (h : m ≠ l) (k : LinkSt → LinkSt) : link (modLink s l k) m = link s m := by
  simp [link, modLink, List.getElem?_set_ne (Ne.symm h)]
theorem ring_modRing_same {s : State} {r : Nat} (h : r < s.hst.rings.length) (k : RingSt → RingSt) :
    ring (modRing s r k) r = k (ring s r) := by simp [ring, modRing, h]
theorem ring_modRing_ne {s : State} {r q : Nat} (h : q ≠ r) (k : RingSt → RingSt) : ring (modRing s r k) q = ring s q := by
  simp [ring, modRing, List.getElem?_set_ne (Ne.symm h)]
theorem pipe_modPipe_same {s : State} {p : Nat} (h : p < s.pipes.length) (k : PipeSt → PipeSt) :
    pipe (modPipe s p k) p = k (pipe s p) := by simp [pipe, modPipe, h]
theorem pipe_modPipe_ne {s : State} {p q : Nat} (h : q ≠ p) (k : PipeSt → PipeSt) : pipe (modPipe s p k) q = pipe s q := by
  simp [pipe, modPipe, List.getElem?_set_ne (Ne.symm h)]

end Sys2Proof.Machine
end

