-- ==== Sys2Proof/Tests/Slice0.lean ====
section
/-! SUPPORT. Tests: ill-formed commands, a state and operands that meet the hypotheses of each clause of each statement, and results worked out
by hand from the spec's tables. -/

namespace Sys2Proof.Tests

open Sys2Proof Sys2Proof.Machine

/-! ### The module the tests run on -/

/-- A module with every island released, some register fields written. -/
def lab (fs : List (Field × Nat)) : State := fs.foldl (fun s e => wf s e.1 e.2) { State.reset with up := 0x7FFFFF#23 }
theorem pipes_idle {s : State} (h : s.pipes = List.replicate 4 pipeZero) (q : Nat) : pipe s q = pipeZero := by
  simp only [pipe, h, List.getD_eq_getElem?_getD, List.getElem?_replicate]; split <;> rfl
theorem clusters_idle {s : State} (h : s.clusters = List.replicate 16 clZero) (n : Nat) : cl s n = clZero := by
  simp only [cl, h, List.getD_eq_getElem?_getD, List.getElem?_replicate]; split <;> rfl
theorem pipe_ready {s : State} (h : s.pipes = List.replicate 4 pipeZero) (hp : s.cfg.part = .z1604)
    (h0 : rf s (R.vpUNIT_STATE 0) = usON ∧ rf s (R.vpPOWER 0) = pIDLE ∧ rb s (R.vpCAL_HELD 0) = false ∧ rb s (R.vpRM_HELD 0) = false) :
    s.pipeReady 0 :=
  ⟨by rw [hp]; decide, by rw [h, hp]; rfl, fun q => by rw [pipes_idle h]; rfl, pipes_idle h 0, h0⟩

/-- `s` with core 0 in the boot ROM: Monitor does not run yet. -/
def booting (s : State) : State := { s with cores := [{ coreZero with hold := .rom }] }

/-! ### Ill-formed commands are refused, one theorem for each kind of check -/

theorem wf_memory_places : ∀ i ∈ [Instr.sharedAccessGrant 256, .rmwCompletion 256, .correctedWriteBack 256, .patrolScrub 256,
    .bulkPartialWrite (2 ^ 36) [], .bulkPartialWrite 15 [0#36, 0#36], .bulkBurstWrite 1 (List.replicate 16 0#36), .combineEntryTimeout 8,
    .combineEntryTimeout (2 ^ 36), .bulkRead 9 8 0, .bulkRead (2 ^ 36) 1 0, .bulkRefresh 2, .dramTemperatureReport 20 true], i.wf = false := by
  decide
theorem wf_bus_operands : ∀ i ∈ [Instr.registerWrite 21 0 0 0#36, .registerWrite 0 3 0 0#36, .registerWrite 0 0 (2 ^ 36) 0#36,
    .midwayTransaction ⟨21, 0, 0, 0, .read 1⟩, .midwayTransaction ⟨0, 32, 0, 0, .read 1⟩, .midwayTransaction ⟨0, 0, 16, 0, .read 1⟩,
    .turnstileGrant 28, .qosAging 21 0, .transactionResponse 0 64, .transactionTimeout 21 0, .lateResponse 0 64,
    .dmaChannelStart 64, .abort 64, .dmaIndexRead 64, .dmaSyncAck 64, .dmaReadBeat 4, .dmaWriteBeat 4], i.wf = false := by decide
theorem wf_units : ∀ i ∈ [Instr.unitWakeDone (.pipe 4), .unitWakeDone (.cluster 16), .unitWakeDone (.port 8), .unitWakeDone (.link 4),
    .unitWakeDone (.dma 64), .unitWakeDone (.probe 4096), .start 16, .nodeEntryWrite 4096 0#36, .channelValidWrite 4096 0#36, .pipeWakeDone 4,
    .longRegisterWrite 4 0 0#36, .longRegisterWrite 0 2048 0#36, .clusterWindowAccess 16 0 (.read 0), .clusterWindowAccess 0 0 (.read 0x10800),
    .linkChange 8 true, .keeperTimerExpiry 0 1024, .kprime 8 0, .eventWindowClose 16 0, .ack 0 2, .clockLock 23], i.wf = false := by
  decide
theorem wf_ringmaster : ∀ i ∈ [Instr.rmNop 4, .lit 4 0#27, .sourceRaise 256, .set 256, .clear 256, .claim 4, .eoi 4 0, .eoi 0 512,
    .holdoffExpiry 32, .restart 4], i.wf = false := by decide
theorem wf_packets : ∀ i ∈ [Instr.bribyLinkLoss 4, .gapBlock 4 0 0 0 0 0, .hello 4 ⟨14, 0, 0, 0, 0, []⟩, .hello 0 ⟨16, 0, 0, 0, 0, []⟩,
    .readPacket 0 ⟨1, 32, 0, 0, 0, []⟩, .readPacket 0 ⟨1, 0, 32, 0, 0, []⟩, .readPacket 0 ⟨1, 0, 0, 128, 0, []⟩,
    .writePacket 0 ⟨3, 0, 0, 0, 0, List.replicate 17 0#36⟩, .fwdTimeout 128], i.wf = false := by decide
theorem wf_host_operands : ∀ i ∈ [Instr.bar0Read 4 true, .bar0Read 2 false, .bar0Write 0x1000000 true 0#32 0#32, .bar0Timeout 2 false,
    .msixSend 32, .msixUnmask 32, .crProd 4 0, .rrCons 0 65536, .commandEntryFetch 4 [], .commandEntryFetch 0 (List.replicate 65 0#32),
    .replyWrite 4, .ringEn 4 true, .uartPacket [0#32], .uartPacket (List.replicate 65 0#32), .echo (.ring 4),
    .imageChunk .mail (List.replicate 73 0#32)], i.wf = false := by decide
theorem wf_power_and_pins : ∀ i ∈ [Instr.islandLockLoss 23, .lowSupplySet 65536, .inputLoss 65536, .powerWindowEnd 131072,
    .pmbusUnsupported 256 true, .gpioEdge 32 true, .encoderEdge 8 true true, .encCountWrite 8 0#36, .encOpenDetect 8, .resetPinRelease 3],
    i.wf = false := by decide
theorem wf_accepts : ∀ i ∈ [Instr.sharedAccessGrant 255, .bulkPartialWrite 15 [0#36], .registerWrite 20 2 (2 ^ 36 - 1) 0#36,
    .unitWakeDone (.probe 4095), .clusterWindowAccess 15 0 (.read 0x107FF), .eoi 3 511, .hello 3 ⟨15, 31, 31, 127, 0, List.replicate 16 0#36⟩,
    .bar0Read 0xFFFFF8 true, .echo (.ring 3), .pmbusUnsupported 255 true], i.wf = true := by decide

/-! ### Witnesses: the hypotheses of each clause of each statement hold together somewhere -/

theorem wit_stream_rmw : (lab []).live iVEC ∧
    kvFind ({ lab [] with sm := { smZero with rmw := [(255, (255, 7#36))] } }).sm.rmw 255 = some (255, 7#36) := by
  unfold State.live; decide
theorem wit_stream_wback :
    let s := { lab [] with sm := { smZero with wback := [256] }, ecc := [(256, .corr 3)] }
    s.live iVEC ∧ s.sm.wback.find? (fun x => decide (smBank s x = 0)) = some 256 := by unfold State.live; decide
theorem wit_stream_grant :
    let s := { lab [] with sm := { smZero with wait := [⟨3, 511, .read, 9, 0⟩] } }
    s.live iVEC ∧ kvFind s.sm.rmw 255 = none ∧ s.sm.wait = [⟨3, 511, .read, 9, 0⟩] ∧ smBank s 511 = 255 ∧ bankOff s 255 = false ∧
      eccAt s 511 = none := by unfold State.live; decide
theorem wit_stream_scrub :
    let s := lab [(R.smSCRUB_EN, 1)]
    s.live iVEC ∧ rb s R.smSCRUB_EN = true ∧ 255 < s.cfg.part.banks ∧ bankOff s 255 = false ∧ kvFind s.sm.rmw 255 = none ∧
      smWaiting s 255 = [] ∧ eccAt s (kvGet 0 s.sm.scrubRows 255 % 32768 * s.cfg.part.banks + 255) = none ∧
      rb s R.smINIT_DONE = false := by unfold State.live; decide
theorem wit_stream_lvt :
    mode (lab [(R.pwrMODE, 2)]) = mCONFIGURE ∧ mode (lab [(R.pwrMODE, 3)]) ≠ mCONFIGURE ∧
      bits (0#36).toNat 22 8 * 256 + 2 * (lab []).cfg.part.queues ≤ (lab []).cfg.part.streamWords ∧
      (lab []).cfg.part.streamWords < bits (0x7FFF00#36).toNat 22 8 * 256 + 2 * (lab []).cfg.part.queues := by decide

theorem wit_bulk_write :
    let s := lab []
    s.live iBLK ∧ isBulk s bulkBase = true ∧ combFind s (burstOf bulkBase) = none ∧ s.bm.comb.length < 32 ∧ bulkBase % 16 = 0 ∧
      (List.replicate 16 (1#36)).length = 16 := by unfold State.live; decide
theorem wit_bulk_entry :
    let s := { lab [(R.bmFLUSH, 1)] with bm := { bmZero with comb := [⟨bulkBase, [(bulkBase + 15, 5#36)], [], 0⟩] } }
    s.live iBLK ∧ rb s R.bmFLUSH = true ∧ combFind s bulkBase = some ⟨bulkBase, [(bulkBase + 15, 5#36)], [], 0⟩ ∧ eccAt s bulkBase = none := by
  unfold State.live; decide
theorem wit_bulk_read :
    let s := { lab [] with ecc := [(bulkBase + 16, .unc)] }
    s.live iBLK ∧ inBurst s bulkBase 16 = true ∧ eccAt s (burstOf bulkBase) = none ∧ inBurst s (bulkBase + 16) 1 = true ∧
      eccAt s (burstOf (bulkBase + 16)) = some .unc := by unfold State.live; decide
theorem wit_bulk_upkeep :
    let s := lab [(R.bmSCRUB_EN, 1)]
    s.live iBLK ∧ 1 < s.cfg.part.channels ∧ s.bm.hot = [] ∧ rb s R.bmHOT_REFRESH = false ∧ rb s R.bmSCRUB_EN = true ∧
      eccAt s (bulkBase + 16 * rf s R.bmSCRUB_POS) = none ∧ rf s R.bmSCRUB_POS + 1 < bulkBursts s ∧ s.bm.trained = false ∧
      ({ s with bm := { bmZero with trained := true } }).bm.trained = true ∧ rb s R.bmINIT_DONE = false := by
  unfold State.live; decide

/-- Pipe 0 ready, streams 0 to 3 of one word each at 0, 64, 128 and 192 (LEN 16). -/
def vlab : State := lab [(R.vpPOWER 0, pIDLE)]
theorem vlab_ready : vlab.pipeReady 0 := pipe_ready rfl rfl (by decide)
theorem vlab_live : vlab.live iVEC := by unfold State.live; decide
/-- Fields of a vector instruction. -/
def vf (typ n d a b c mod : Nat) : VFields :=
  ⟨BitVec.ofNat 3 typ, 0#3, false, false, false, 0#17, BitVec.ofNat 9 d, BitVec.ofNat 9 a, BitVec.ofNat 9 b, BitVec.ofNat 9 c,
    BitVec.ofNat 24 n, BitVec.ofNat 12 mod⟩
/-- Whether the instruction is legal on pipe 0 of `s`. -/
def vOk (s : State) (op : Nat) (f : VFields) : Bool := vLegal s 0 (viWords op f).1 (viWords op f).2.1 (viWords op f).2.2
/-- Its captured operands. -/
def vCp (s : State) (op : Nat) (f : VFields) : VCaps := vCaps s 0 (viDecode (viWords op f).1 (viWords op f).2.1 (viWords op f).2.2)
/-- Sources that are scalars or None. -/
def plain (c : VCap) : Bool := match c with | .none => true | .scal _ => true | _ => false
theorem plain_not {c : VCap} (h : plain c = true) : (∀ d x, c ≠ .str d x) ∧ ∀ m k d, c ≠ .long m k d := by
  constructor <;> (intros; rintro rfl; exact Bool.noConfusion h)
/-- Legal one-element forms of every element-wise operation. -/
def vElem : List (Nat × VFields) :=
  [0x001, 0x004, 0x005, 0x00C, 0x00D, 0x00E, 0x00F, 0x014, 0x024, 0x025].map (fun op => (op, vf 0 1 128 448 0 0 0)) ++
  [0x002, 0x003, 0x006, 0x007, 0x009, 0x00A, 0x00B, 0x010, 0x020, 0x021, 0x028, 0x029].map (fun op => (op, vf 0 1 128 448 449 0 0)) ++
  [(0x008, vf 4 1 128 448 449 0 0), (0x011, vf 0 1 128 448 449 450 0), (0x012, vf 0 1 128 448 449 450 0),
   (0x013, vf 1 1 128 448 449 450 0), (0x022, vf 4 1 128 448 449 450 0), (0x023, vf 0 1 128 448 449 450 0),
   (0x02A, vf 4 1 128 448 0 0 0)]
theorem wit_vector_element : ∀ e ∈ vElem, e.2.n = 1#24 ∧ vOpd e.2.d.toNat = .long 0 1 ∧ vOk vlab e.1 e.2 = true ∧
    plain (vCp vlab e.1 e.2).a = true ∧ plain (vCp vlab e.1 e.2).b = true ∧ plain (vCp vlab e.1 e.2).c = true ∧
    vChains (vCp vlab e.1 e.2) = [] := by decide
theorem wit_vector_reduction : ∀ e ∈ [(0x030, vf 0 1 128 448 0 0 0), (0x031, vf 0 1 128 448 449 0 0), (0x032, vf 0 1 128 448 0 0 0),
      (0x033, vf 0 1 128 448 0 0 0)],
    e.2.n = 1#24 ∧ vOpd e.2.d.toNat = .long 0 1 ∧ vOk vlab e.1 e.2 = true ∧ (∃ k, (vCp vlab e.1 e.2).a = .scal k) ∧
      ((vCp vlab e.1 e.2).b = .none ∨ ∃ k, (vCp vlab e.1 e.2).b = .scal k) ∧ (vCp vlab e.1 e.2).c = .none := by
  intro e he
  simp only [List.mem_cons, List.not_mem_nil, or_false] at he
  rcases he with rfl | rfl | rfl | rfl
  all_goals refine ⟨by decide, by decide, by decide, ⟨0, by decide⟩, ?_, by decide⟩
  · exact .inl (by decide)
  · exact .inr ⟨0, by decide⟩
  · exact .inl (by decide)
  · exact .inl (by decide)
theorem wit_vector_band :
    let f := vf 0 1 128 129 129 448 1
    vOk vlab 0x041 f = true ∧ (viDecode (viWords 0x041 f).1 (viWords 0x041 f).2.1 (viWords 0x041 f).2.2).mod = 1 ∧
      (vCp vlab 0x041 f).a = .long 1 1 false ∧ (vCp vlab 0x041 f).b = .long 1 1 false ∧
      0 ≤ bandE (capScal (vCp vlab 0x041 f).c) 0 0 ∧
      bandE (capScal (vCp vlab 0x041 f).c) 0 0 < (bandCap (vCp vlab 0x041 f).b : Int) := by decide
/-- Stream 0 of pipe 0 of mode `m`, 16 elements, stride 1; K2 is 1 and probe channel 0 is valid. -/
def slab (m : Nat) : State :=
  lab [(R.vpPOWER 0, pIDLE), (R.vpS 0 1, 1), (R.vpS 0 2, m * 2 ^ 24 + 16), (R.vpK 0 2, 1), (R.idnVALID 0, 1)]
theorem slab_ready (m : Nat) (h : m < 8) : (slab m).pipeReady 0 := by
  refine pipe_ready rfl rfl ?_
  have : m = 0 ∨ m = 1 ∨ m = 2 ∨ m = 3 ∨ m = 4 ∨ m = 5 ∨ m = 6 ∨ m = 7 := by omega
  rcases this with rfl | rfl | rfl | rfl | rfl | rfl | rfl | rfl <;> decide
theorem wit_vector_chips :
    let f := vf 1 1 128 129 64 450 0
    vOk (slab 4) 0x042 f = true ∧ (viDecode (viWords 0x042 f).1 (viWords 0x042 f).2.1 (viWords 0x042 f).2.2).mod % 128 = 0 ∧
      (vCp (slab 4) 0x042 f).a = .long 1 1 false ∧ (vCp (slab 4) 0x042 f).b = .str ⟨0, 1, 16, 4, false, 0, false, 0, 0⟩
        ⟨0, 1, 16, 4, false, 0, false, 0, 0⟩ ∧ capScal (vCp (slab 4) 0x042 f).c % 2 ^ 24 = 1 := by decide
theorem wit_vector_qget :
    let f := vf 0 1 128 64 0 0 0
    let s := slab 3
    let d : SDesc := ⟨0, 1, 16, 3, false, 0, false, 0, 0⟩
    s.live iVEC ∧ vOk s 0x040 f = true ∧ (vCp s 0x040 f).a = .str d d ∧ (vCp s 0x040 f).b = .none ∧ d.idxq = false ∧ d.len ≠ 0 ∧
      d.base < s.cfg.part.queues ∧ s.sm.rmw = [] ∧ s.sm.wait = [] ∧ vCheckAll s (.cal 0 0) false 1 [lvtBase s + 2 * d.base, lvtBase s + 2 * d.base + 1] = none ∧
      eccAt s (lvtBase s + 2 * d.base) = none ∧ eccAt s (lvtBase s + 2 * d.base + 1) = none := by unfold State.live; decide
/-- The slot that `wit_vector_qget` reads is not checked for age: its value comes whatever the free delay is. -/
theorem wit_vector_qget_value (n : Nat) (never : Bool) :
    vqget 0 (0 % 2 ^ 35) n (rdN (slab 3) (lvtBase (slab 3))) (rdN (slab 3) (lvtBase (slab 3) + 1)) 0 never =
      some (rdN (slab 3) (lvtBase (slab 3))) := by simp [vqget]
theorem wit_vector_empty : ∀ e ∈ [(0x002, vf 0 0 128 448 449 0 0), (0x030, vf 0 0 128 448 0 0 0), (0x041, vf 0 0 128 129 129 448 1)],
    e.2.n = 0#24 ∧ vOk vlab e.1 e.2 = true ∧ vChains (vCp vlab e.1 e.2) = [] := by decide
theorem wit_vector_fence :
    viWords 0 (vf 0 0 0 0 0 0 0) = (0#36, 0#36, 0#36) ∧ vOk vlab 0x3F0 (vf 0 0 0 0 0 0 1) = true ∧
      ∀ q, (pipe vlab q).calQ = [] ∧ (pipe vlab q).rmQ = [] ∧ (pipe vlab q).blocks = [] :=
  ⟨by decide, by decide, fun q => by rw [pipes_idle rfl]; exact ⟨rfl, rfl, rfl⟩⟩
/-- Streams 0, 1 and 2 of doubles at 0, 64 and 128. -/
def flab : State :=
  lab [(R.vpPOWER 0, pIDLE), (R.vpS 0 1, 2), (R.vpS 0 2, 2 ^ 27 + 16), (R.vpS 0 8, 64), (R.vpS 0 9, 2), (R.vpS 0 10, 2 ^ 27 + 16),
    (R.vpS 0 16, 128), (R.vpS 0 17, 2), (R.vpS 0 18, 2 ^ 27 + 16)]
theorem wit_vector_butterfly :
    let f := vf 1 1 64 65 66 128 0
    let d (b : Nat) : SDesc := ⟨b, 2, 16, 0, true, 0, false, 0, 0⟩
    flab.live iVEC ∧ vOk flab 0x043 f = true ∧ (vCp flab 0x043 f).d = .str (d 0) (d 0) ∧ (vCp flab 0x043 f).a = .str (d 64) (d 0) ∧
      (vCp flab 0x043 f).b = .str (d 128) (d 0) ∧ (vCp flab 0x043 f).c = .long 0 1 true ∧ (d 0).mode = 0 ∧ (d 0).len ≠ 0 ∧
      flab.sm.rmw = [] ∧ flab.sm.wait = [] ∧ flab.ecc = [] ∧
      vCheckAll flab (.cal 0 0) false 1 (elWords true 64) = none ∧ vCheckAll flab (.cal 0 0) false 2 (elWords true 128) = none ∧
      vCheckAll flab (.cal 0 0) true 0 (elWords true 0 ++ elWords true 2) = none ∧ (elWords true 0 ++ elWords true 2).Nodup := by
  unfold State.live; decide
theorem wit_vector_illegal : vOk vlab 0x002 (vf 0 1 128 448 449 0 0) = true ∧ vOk vlab 0x002 (vf 0 1 128 456 449 0 0) = false ∧
    vOk vlab 0x002 (vf 6 1 128 448 449 0 0) = false := by decide
/-- A pipe of state `q` in place 3 of the part's four. -/
def plab (fs : List (Field × Nat)) (q : PipeSt) : State := { lab fs with pipes := [pipeZero, pipeZero, pipeZero, q] }
theorem wit_pipe_block :
    let b : VBlock := ⟨0, 96, 2, 1, 0⟩
    let s := plab [] { pipeZero with blocks := [b] }
    s.live iVEC ∧ 3 < s.cfg.part.pipes ∧ s.pipes.length = s.cfg.part.pipes ∧ (pipe s 3).blocks = [b] ∧ b.fetched < b.len ∧
      (pipe s 3).calQ = [] ∧ s.sm.rmw = [] ∧ s.sm.wait = [] ∧ s.ecc = [] ∧
      vCheckAll s (.cal b.act (b.addr + 3)) false 6 [b.addr + 3, b.addr + 4, b.addr + 5] = none := by unfold State.live; decide
/-- Pipe 3 runs the instruction `op` with fields `f`, at its first element. -/
def running (op : Nat) (f : VFields) (w : Option Nat) : VRun :=
  { ent := ⟨1, (viWords op f).1, (viWords op f).2.1, (viWords op f).2.2, .cal 0 0, none, none⟩,
    caps := vCaps (lab []) 3 (viDecode (viWords op f).1 (viWords op f).2.1 (viWords op f).2.2), refTag := 0, pstep := 0, drm := 0, k0 := 0,
    bound := true, cyc := 0, gi := 0, ixg := 0, wg := 0, ixA := [], ixB := [], outs := [], part := none, partB := none, acc := 0, accFl := 0#7,
    accFlB := 0#7, todo := none, got := [], olds := [], cut := none, flt := none, waitSince := w, waitTo := 0 }
theorem wit_pipe_advance :
    let r := { running 0x002 (vf 0 1 128 448 449 0 0) none with todo := some [] }
    let q : VReq := ⟨false, 255, 0, none⟩
    let u := { running 0x002 (vf 0 1 128 448 449 0 0) none with todo := some [q] }
    let s := plab [] { pipeZero with run := some u }
    (pipe (plab [] { pipeZero with run := some r }) 3).run = some r ∧ r.todo = some [] ∧ (pipe s 3).run = some u ∧ u.todo = some [q] ∧
      q.own = false ∧ kvFind s.sm.rmw (smBank s q.addr) = none ∧ smWaiting s (smBank s q.addr) = [] ∧
      (kvFind ({ s with sm := { smZero with rmw := [(255, (511, 7#36))] } }).sm.rmw (smBank s q.addr)).isSome = true := by decide
theorem wit_pipe_chain_timeout :
    let r := running 0x002 (vf 0 1 128 384 448 0 0) (some 0)
    let s := plab [] { pipeZero with run := some r }
    ((pipe s 3).run.bind fun r => r.waitSince) = some 0 ∧ ∃ u, (pipe (vPrep s 3) 3).run = some u ∧ u.waitSince.isSome = true ∧ u.outs = [] ∧
      ∃ a x, u.ent.org = .cal a x := by
  refine ⟨by decide, ((pipe (vPrep (plab [] { pipeZero with run := some (running 0x002 (vf 0 1 128 384 448 0 0) (some 0)) }) 3) 3).run).getD
    (running 0 (vf 0 0 0 0 0 0 0) none), by decide, by decide, by decide, 0, 0, by decide⟩
theorem wit_pipe_power :
    let s := plab [(R.vpPOWER 3, pIDLE), (R.vpIDLE_TIME 3, 1)] pipeZero
    let e := plab [(R.vpPOWER 3, pIDLE)] { pipeZero with pow := .entering true true }
    let w := plab [(R.vpPOWER 3, pGATED)] { pipeZero with pow := .waking }
    s.live iVEC ∧ (pipe s 3).pow = .steady ∧ rf s (R.vpPOWER 3) = pIDLE ∧ rf s (R.vpIDLE_TIME 3) ≠ 0 ∧
      (pipe e 3).pow = .entering true true ∧ pipe w 3 = { pipeZero with pow := .waking, idleSince := (pipe w 3).idleSince } ∧
      rf s (R.vpPOWER 3) < pRETAINED ∧ (pipe s 3).run = none := by unfold State.live; decide

/-- Cluster 15 running, with some register fields written. -/
def clab (fs : List (Field × Nat)) : State := lab ((R.scRUN_STATE 15, rsRUNNING) :: fs)
/-- Cluster 15 in state `c`. -/
def cwith (fs : List (Field × Nat)) (c : ClusterSt) : State :=
  { lab fs with clusters := List.replicate 15 clZero ++ [c] }
/-- An operation alone in its bundle, always executed. -/
def h0 : OpHead := ⟨true, 0#4, false⟩
/-- The operands of BODY `b` in slot `u` of cluster 15. -/
def cin (s : State) (u : Nat) (b : BitVec 22) : ClIn := ⟨s, 15, (cl s 15).cyc, u, b.toNat⟩
theorem clab_ready : (clab []).clReady 15 := by unfold State.clReady State.live; decide
theorem wit_cluster_issue : (clab []).live (iCLU 15) ∧ 15 < (clab []).cfg.part.clusters ∧
    (clab []).clusters.length = (clab []).cfg.part.clusters ∧ runState (clab []) 15 = rsRUNNING ∧ (cl (clab []) 15).bun = [] ∧
    runState (lab []) 15 ≠ rsRUNNING := by unfold State.live; decide
/-- What is gathered before a word of unit `u`: nothing, seven words, a word of a higher or equal unit, one of a lower unit. -/
theorem wit_cluster_bundles :
    let o := fun (last : Bool) (u : Nat) => opWord ⟨last, 0#4, false⟩ u 0
    let s := fun b => cwith [(R.scRUN_STATE 15, rsRUNNING)] { clZero with bun := b }
    opEnd (o true 6) = true ∧ opEnd (o false 6) = false ∧ (cl (s (List.replicate 7 0#36)) 15).bun.length = 7 ∧
      (cl (s [o false 6]) 15).bun.getLast? = some (o false 6) ∧ opUnit (o false 6) ≤ opUnit (o false 6) ∧
      ¬(opEnd (o false 6) = true ∨ (cl (s [o false 5]) 15).bun.length = 7 ∨
        ∃ v, (cl (s [o false 5]) 15).bun.getLast? = some v ∧ opUnit (o false 6) ≤ opUnit v) := by
  refine ⟨by decide, by decide, by decide, by decide, by decide, ?_⟩
  rintro (h | h | ⟨v, h, h'⟩)
  · revert h; decide
  · revert h; decide
  · have : v = opWord ⟨false, 0#4, false⟩ 5 0 := by
      have e : (cl (cwith [(R.scRUN_STATE 15, rsRUNNING)] { clZero with bun := [opWord ⟨false, 0#4, false⟩ 5 0] }) 15).bun.getLast? =
        some (opWord ⟨false, 0#4, false⟩ 5 0) := by decide
      exact (Option.some.inj (e.symm.trans h)).symm
    subst this; revert h'; decide
theorem wit_cluster_immediate :
    let s := cwith [(R.scRUN_STATE 15, rsRUNNING)] { clZero with ltgt := 1 }
    s.clReady 15 ∧ clCond s 15 h0.cond.toNat = true ∧ rf s (R.scPC 15) < (cl s 15).ltgt ∧ 0 < (1#24).toNat ∧
      clCond s 15 (8#4).toNat = false := by unfold State.clReady State.live; decide
theorem wit_cluster_multiply :
    let s := clab []
    (cin s (slotM h0) 0x70000#22).dst < 8 ∧ (cin s (slotM h0) 0x70001#22).opt 0 = true ∧ (cin s (slotM h0) 0#22).srca % 2 = 0 ∧
      (cin s (slotM h0) 0x1C00#22).srca < 8 ∧ (cin s (slotM h0) 0x3E0000#22).dst % 2 = 0 ∧
      (cin s (slotM h0) 0#22).rm ((cin s (slotM h0) 0#22).f 2 0) = some .near ∧
      (cin s (slotM h0) 7#22).rm ((cin s (slotM h0) 7#22).f 2 0) = some .near := by decide
theorem wit_cluster_arithmetic :
    let s := clab []
    (cin s (slotA h0) 0x3FFC0F#22).srcb = 0 ∧ (cin s (slotA h0) 0x3FFFBF#22).opt 6 = false ∧ (cin s (slotA h0) 0x3FFC00#22).f 9 0 = 0 := by
  decide
theorem wit_cluster_compares :
    let s := clab []
    let x := cin s (slotA h0) 0x3DFFF0#22
    x.f 21 19 ≠ 0 ∧ x.f 18 16 < 6 ∧ x.f 3 0 = 0 ∧ (cin s (slotA h0) 0x3EFFF0#22).f 18 16 < 7 ∧
      (cin s (slotA h0) 0x3FF800#22).f 10 0 = 0 := by decide
theorem wit_cluster_memory :
    let s := clab [(R.scP 15 0, 0x7FFE)]
    let x := cin s (slotXY h0) 0#22
    s.clReady 15 ∧ rf s (R.scOWN_X 15) = 0 ∧ rf s (R.scOWN_Y 15) = 0 ∧ x.ea = 0x7FFE ∧ memF x true = true ∧
      (localRange x.isY x.ea).isSome = true ∧ localRange x.isY (x.ea + 1) = localRange x.isY x.ea ∧ x.dreg = 0 := by
  unfold State.clReady State.live; decide
theorem wit_cluster_branch :
    let s := clab [(R.scD 15 1, 2 ^ 24), (R.scPC 15, 4)]
    let x := cin s 6 0x10005#22
    s.clReady 15 ∧ (cin s 6 0xFFFF#22).f 21 16 = 0 ∧ (cin s 6 0xFC00#22).dst = 0 ∧ (cin s 6 0xFC00#22).f 9 0 = 0 ∧
      rf s (R.scPC 15) < x.f 15 0 ∧ x.d (x.f 21 16) % 2 ^ 25 = 2 ^ 24 ∧ (cin s 6 5#22).d ((cin s 6 5#22).f 21 16) % 2 ^ 25 = 0 := by
  unfold State.clReady State.live; decide
theorem wit_cluster_special :
    let s := clab [(R.scD 15 1, 1)]
    let x := cin s 7 0x410#22
    let q := cin s 7 0#22
    x.a = 1 ∧ x.b = 1 ∧ (idiv36 (sext 36 x.a) (sext 36 x.b)).2.2 &&& fDZ = 0#7 ∧ rb s (R.scDZ_TRAP 15) = false ∧ q.b = 0 ∧
      (idiv36 (sext 36 q.a) (sext 36 q.b)).2.2 &&& fDZ = fDZ ∧ x.rm (x.f 2 0) = some .near ∧ q.srcb = 0 ∧
      rmOf ((cin s 7 0x2D0#22).f 2 0) (rf s (R.scDRM 15)) = some .near ∧ (cin s 7 0x2D0#22).f 9 7 = 5 ∧
      (cin s 7 0x2D0#22).f 6 4 < 6 ∧ q.srca % 2 = 0 ∧ q.dst % 2 = 0 := by decide
theorem wit_cluster_start_stop :
    let s := lab [(R.scRUN_STATE 15, rsHALTED), (R.scPOWER 15, pwIDLE)]
    s.live (iCLU 15) ∧ rb s (R.scTT_OWNED 15) = false ∧ rf s (R.scUNIT_STATE 15) = usON ∧ runState s 15 = rsHALTED ∧
      rf s (R.scPOWER 15) = pwIDLE ∧ rb (lab [(R.scTT_OWNED 15, 1)]) (R.scTT_OWNED 15) = true ∧
      runState (clab []) 15 = rsRUNNING ∧ rb (clab []) (R.scTT_OWNED 15) = false ∧ (cl (clab []) 15).due = none ∧
      runState (lab [(R.scRUN_STATE 15, rsFAULTED)]) 15 = rsFAULTED := by unfold State.live; decide
theorem wit_cluster_landings :
    let l := cwith [] { clZero with due := some 9, levels := [⟨2, 5, 9, true⟩] }
    let f := cwith [(R.scRUN_STATE 15, rsRUNNING)] { clZero with cyc := 4, fly := [⟨.d 63, 2 ^ 36 - 1, fOF, 4, 0, 0, none⟩] }
    let g := cwith [(R.scRUN_STATE 15, rsRUNNING)] { clZero with cyc := 4, stores := [⟨0x10F00000, .word 1#36, 4⟩] }
    let e := fun c => cwith [(R.scRUN_STATE 15, rsFINISHING)] { clZero with ending := some c }
    (cl l 15).due = some 9 ∧ (cl l 15).levels = [⟨2, 5, 9, true⟩] ∧ runState f 15 = rsRUNNING ∧
      (cl f 15).fly = [⟨.d 63, 2 ^ 36 - 1, fOF, (cl f 15).cyc, 0, 0, none⟩] ∧ runState g 15 = rsRUNNING ∧
      (cl g 15).stores = [⟨0x10F00000, .word 1#36, (cl g 15).cyc⟩] ∧
      ∀ c ∈ [ClEnd.halt, .fault, .stop], runState (e c) 15 = rsFINISHING ∧ (cl (e c) 15).ending = some c ∧ (cl (e c) 15).fly = [] ∧
        (cl (e c) 15).stores = [] ∧ (cl (e c) 15).retry = [] ∧ (cl (e c) 15).sleep = false := by decide
theorem wit_cluster_windows :
    let s := lab [(R.scINIT_DONE 15, 1), (R.scOWN_X 15, 0x80)]
    let b := clab [(R.scINIT_DONE 15, 1)]
    0x7FFF < 0x8000 ∧ rf s (R.scINIT_DONE 15) = 1 ∧ rf s (R.scPOWER 15) < 2 ∧ bit (rf s (R.scOWN_X 15)) (0x7FFF / 4096) = true ∧
      (cl s 15).touch = [] ∧ s.ecc = [] ∧ rf s (R.scUNIT_STATE 15) ≠ usISOLATING ∧ rf b (R.scUNIT_STATE 15) ≠ usISOLATING ∧ rf b (R.scINIT_DONE 15) = 1 ∧ rf b (R.scPOWER 15) < 2 ∧
      bit (rf b (R.scOWN_X 15)) (0 / 4096) = false ∧ clBusy b 15 = true := by decide
theorem wit_cluster_power :
    let s := lab [(R.scPOWER 15, pwIDLE), (R.scIDLE_TIME 15, 1)]
    let w := cwith [] { clZero with waking := some 7 }
    rf s (R.scIDLE_TIME 15) ≠ 0 ∧ rf s (R.scPOWER 15) = pwIDLE ∧ clBusy s 15 = false ∧ (cl w 15).waking = some 7 ∧
      (cl w 15).startWait = none ∧ rb w (R.scINIT_DONE 15) = false ∧ (cl w 15).retry = [] ∧ w.mw.txns = [] := by decide

/-- The largest unit of each kind. -/
def unitsAll : List UnitRef := [.pipe 3, .cluster 15, .port 7, .link 3, .dma 63, .probe 4095]
theorem wit_units : ∀ u ∈ unitsAll,
    let off := lab [(unitSt u, usOFF), (unitEn u, 0)]
    let dr := lab [(unitSt u, usDRAINING), (unitEn u, 0)]
    let iso := lab [(unitSt u, usISOLATING), (unitEn u, 0)]
    let wk := lab [(unitSt u, usWAKING), (unitEn u, 1)]
    off.live (unitIsland u) ∧ unitHas off u = true ∧ rb off (unitEn u) = false ∧ rf off (unitSt u) = usOFF ∧
      rf dr (unitSt u) = usDRAINING ∧ rf iso (unitSt u) = usISOLATING ∧ (∀ c ∈ List.range 64, dmaOut iso c = false) ∧
      rb (unitTell (unitOff (unitGo (atLeast iso (isolateNs u)) u usOFF) u) u) (unitEn u) = false ∧ rf wk (unitSt u) = usWAKING ∧
      rb (unitTell (unitOn (unitGo (atLeast wk (wakeNs wk u)) u usON) u) u) (unitEn u) = true := by unfold State.live; decide
theorem wit_units_drained : ∀ u ∈ unitsAll, unitDrained (lab [(unitSt u, usDRAINING)]) u = true := by decide
theorem wit_units_draining :
    let s := { plab [(R.vpUNIT_STATE 3, usDRAINING)] { pipeZero with blocks := [⟨0, 0, 1, 0, 0⟩] } with probeOk := true }
    rf s (R.vpUNIT_STATE 3) = usDRAINING ∧ unitDrained s (.pipe 3) = false ∧ drainNs s (.pipe 3) = some (rf s (R.vpDRAIN_LIMIT 3) * 1000) := by
  decide
theorem wit_port_link :
    let s := lab [(R.fpLINK_DOWN_MS 7, 1)]
    let d := { s with fld := { fldZero .z1604 with ports := List.replicate 7 portZero ++ [{ portZero with downAt := some 5 }] } }
    s.live iFLD ∧ 7 < s.cfg.part.ports ∧ s.fld.ports.length = s.cfg.part.ports ∧ rb s (R.fpLINK 7) = false ∧
      rf s (R.fpUNIT_STATE 7) ≠ usOFF ∧ rf (lab [(R.fpUNIT_STATE 7, usOFF)]) (R.fpUNIT_STATE 7) = usOFF ∧
      (port d 7).downAt = some 5 ∧ 0 < rf d (R.fpLINK_DOWN_MS 7) := by unfold State.live; decide

/-- A timetable of one action, at tick 0 of two. -/
def tt1 (ty arg0 w1 w2 : Nat) : TT :=
  ⟨0, 0, [0#36, mkW (1 + 2 * 2 ^ 16), 0#36, mkW (1 + 2 ^ 16)], [mkW (ty * 2 ^ 32 + arg0), mkW w1, mkW w2, 0#36]⟩
/-- Calliope playing it, with tick 0 of frame 0 arrived. -/
def cal1 (ty arg0 w1 w2 : Nat) : CalSt := { calZero with act := some (tt1 ty arg0 w1 w2), arr := some (0, 0) }
def tlab (fs : List (Field × Nat)) (c : CalSt) : State := { lab ((R.calSTATE, csPLAYING) :: fs) with cal := c }
theorem wit_action : ∀ ty ∈ [0x0, 0x1, 0x2, 0x3, 0x4, 0x5, 0x6, 0x7, 0x8, 0x9, 0xA, 0xB, 0xC, 0xD, 0xE, 0xF],
    (tlab [] (cal1 ty 0 0 0)).actReady (tt1 ty 0 0 0) 0 0 ty := by unfold State.actReady State.live; decide
theorem wit_cluster_start :
    let s := tlab [] (cal1 0x1 0x8000 0 0)
    maskCl s (actArg0 (tt1 0x1 0x8000 0 0) 0) = [15] ∧ rf s (R.scUNIT_STATE 15) = usON ∧ clBusy s 15 = false ∧
      rf (tlab [(R.scUNIT_STATE 15, usOFF)] calZero) (R.scUNIT_STATE 15) ≠ usON := by decide
theorem wit_cluster_deadline :
    let t := tt1 0x2 0x8000 0 0
    let s := tlab [] (cal1 0x2 0x8000 0 0)
    runState (tlab [(R.scRUN_STATE 15, rsHALTED)] calZero) 15 = rsHALTED ∧
      (maskCl s (actArg0 t 0)).filter (fun n => decide (runState s n ≠ rsHALTED)) = [15] ∧ hdrDlStop t.hdr = false ∧
      hdrPolicy t.hdr 2 % 4 = 0 := by decide
theorem wit_vector_block :
    let s := tlab [] (cal1 0x3 3 96 2)
    isUp s iVEC = true ∧ actArg0 (tt1 0x3 3 96 2) 0 % 4 = 3 ∧ 3 < s.cfg.part.pipes ∧ s.pipes.length = s.cfg.part.pipes ∧
      rf s (R.vpUNIT_STATE 3) = usON ∧ rf (tlab [(R.vpUNIT_STATE 3, usOFF)] calZero) (R.vpUNIT_STATE 3) ≠ usON := by decide
/-- A linear descriptor of one word from Stream Memory to Stream Memory in channel 63. -/
def dd1 : List (Field × Nat) :=
  let w (k : Nat) : Field := ⟨(R.dcMODE 63).addr + k, 35, 0⟩
  [(w 2, 1), (w 3, 1), (w 4, 1), (w 5, 100), (w 6, 1), (w 7, 1), (w 8, 1)]
theorem wit_dma_start :
    let s := tlab dd1 (cal1 0x4 0 0 0)
    let t : TT := ⟨0, 0, [], [mkW (0x4 * 2 ^ 32), 0#36, 0#36, mkW (2 ^ 27)]⟩
    bit (actDma t 0) 63 = true ∧ bit (actDma t 0) 0 = false ∧ rf s (R.dcSTATE 63) = 0 ∧ rf s (R.dcUNIT_STATE 63) = usON ∧
      ddOk s ((List.range 13).map (fun k => rdN s ((R.dcMODE 63).addr + k))) = true ∧
      ddOk (lab []) ((List.range 13).map (fun k => rdN (lab []) ((R.dcMODE 63).addr + k))) = false ∧
      rf (tlab [(R.dcSTATE 63, 1)] calZero) (R.dcSTATE 63) ≠ 0 := by decide
theorem wit_queue_freeze :
    rb (tlab [(R.qeTHAWING, 1)] calZero) R.qeTHAWING = true ∧ rb (tlab [(R.qeFROZEN, 1)] calZero) R.qeTHAWING = false ∧
      rb (tlab [(R.qeFROZEN, 1)] calZero) R.qeFROZEN = true ∧ rf (tlab [(R.qeFREEZE_TICKS, 3)] calZero) R.qeFREEZE_TICKS ≠ 0 ∧
      rf (tlab [] calZero) R.qeFREEZE_TICKS = 0 ∧ rb (tlab [] calZero) R.qeFROZEN = false := by decide
theorem wit_data_actions :
    isUp (tlab [] calZero) iFLD = true ∧ actArg0 (tt1 0x6 7 0 0) 0 % 8 < (lab []).cfg.part.ports ∧
      (∀ k, k < 16 → bit (actArg0 (tt1 0x9 0xFFFF 0 0) 0) k = true → ((lab []).hst.psets.getD k psetZero).st ≠ 2) ∧
      actArg0 (tt1 0x9 0x8000 0 0) 0 = 2 ^ 15 ∧
      (({ lab [] with hst := { hstZero with psets := List.replicate 15 psetZero ++ [{ psetZero with st := 2 }] } }).hst.psets.getD 15 psetZero).st
        = 2 ∧ ({ lab [] with probeOk := true }).probeOk = true ∧ (lab []).probeOk = false ∧ (lab []).sm.rmw = [] ∧ (lab []).sm.wait = [] := by decide
/-- A pipe with nothing outstanding lets the barrier through; before its deadline tick it waits; after it the barrier is missed. -/
theorem wit_barrier_dispatch :
    let s := tlab [] (cal1 0xD 0 0x1F 0)
    let w := tlab [(R.scRUN_STATE 15, rsRUNNING)] { cal1 0xD 0 0xF0000 0 with blks := [(3, 9)], arr := some (0, 0) }
    let b : CalBar := ⟨0, 8, 0, 0, 0, 1, false⟩
    s.cal.arr = some (0, 0) ∧ barOk (tlab [] (cal1 0xD 0 8 0)) b = true ∧ barOk w b = false ∧ posLt (0, 0) (b.dlF, b.dlT) = true ∧
      posLt (0, 1) (b.dlF, b.dlT) = false := by decide
theorem wit_barrier :
    let b : CalBar := ⟨0, 15, 0, 0, 0, 1, false⟩
    let s := tlab [] { calZero with bar := some b }
    let r := { tlab [] { calZero with bar := some b, blks := [(3, 9)] } with calIn := [.blockDone 9] }
    let m := tlab [] { cal1 0xD 0 0 0 with bar := some { b with missed := true }, arr := some (0, 1) }
    s.live iMWY ∧ s.cal.bar = some b ∧ b.missed = false ∧ s.calIn = [] ∧ barOk s b = true ∧ r.cal.bar = some b ∧
      b.clus = 0 ∧ b.dmas = 0 ∧ r.calIn = [.blockDone 9] ∧ r.cal.blks = [(3, 9)] ∧ m.cal.bar = some { b with missed := true } ∧
      m.cal.arr = some (0, 1) ∧ (1 : Nat) ≠ 0 ∧ m.cal.act = some (tt1 0xD 0 0 0) ∧ hdrPolicy (tt1 0xD 0 0 0).hdr 1 % 4 = 0 := by
  unfold State.live; decide
theorem wit_switch_point :
    calTarget (tlab [] (cal1 0xF 0 0 0)) = none ∧
      calTarget (tlab [] { cal1 0xF 0 0 0 with target := some (2, 0, 0), nxt := some (tt1 0 0 0 0) }) = some (tt1 0 0 0 0, 2) := by decide
theorem wit_tick_time :
    let c : TickSrc := ⟨0, 0, 1000, 0, 0, 0, 1, 0, 0, 0⟩
    let s := tlab [] { calZero with src := some c }
    let m := tlab [(R.casMARK_EN, 1), (R.casIS_MASTER, 1)] { calZero with src := some c }
    s.live iMWY ∧ s.cal.src = some c ∧ c.kind = 0 ∧ calState s ≠ csIDLE ∧ s.cal.was = none ∧ isMaster s = false ∧ rb m R.casMARK_EN = true ∧
      isUp m iCAS = true ∧ isMaster m = true := by unfold State.live; decide
/-- The grid of a frame of 20 ticks kept over a warm reset, of a master that marks and of one that does not. -/
theorem wit_tick_kept :
    let k : CalSt := { calZero with src := some ⟨0, 0, 1000, 0, 0, 0, 1, 0, 0, 0⟩, was := some (0, 0, 2, 20) }
    let s := { lab [(R.pwrRESTARTING, 1)] with cal := k }
    let m := { lab [(R.pwrRESTARTING, 1), (R.casMARK_EN, 1), (R.casIS_MASTER, 1)] with cal := k }
    s.aonOn = true ∧ keptTicks s = some 20 ∧ s.cal.act = none ∧ s.cal.src = m.cal.src ∧ isMaster s = false ∧ m.aonOn = true ∧
      keptTicks m = some 20 ∧ isMaster m = true ∧ rb m R.casMARK_EN = true ∧ isUp m iCAS = true := by decide
theorem wit_tick_distance :
    let c : TickSrc := ⟨1, 0, 0, 0, 0, 4, 0, 1000, 9000, 3⟩
    let k : CalSt := { cal1 0 0 0 0 with src := some c, crossQ := 1, deliv := some 0 }
    let s := tlab [] k
    let l := { s with now := 1000 }
    let w := tlab [] { k with spacing := true }
    s.cal.src = some c ∧ 0 < s.cal.crossQ ∧ calState s ≠ csIDLE ∧ calState w ≠ csIDLE ∧ s.cal.was = none ∧ s.cal.spacing = false ∧ (∀ d, l.cal.deliv = some d → d + c.min ≤ l.now) ∧
      s.cal.deliv = some 0 ∧ s.now < 0 + c.min ∧ w.cal.spacing = true ∧ w.cal.deliv = some 0 ∧ w.cal.fast + 1 ≠ c.fast ∧
      isMaster s = false := by
  refine ⟨rfl, by decide, by decide, by decide, rfl, rfl, ?_, by decide⟩
  intro d h; have : d = 0 := (Option.some.inj (h.symm.trans (rfl : _ = some 0))); subst this; decide
theorem wit_tick_loss :
    let s := tlab [] { cal1 0 0 0 0 with src := some ⟨1, 0, 0, 0, 0, 4, 0, 0, 1000, 0⟩ }
    s.cal.src = some ⟨1, 0, 0, 0, 0, 4, 0, 0, 1000, 0⟩ ∧ s.cal.lossOut = false ∧ calRuns s = true ∧ hdrPolicy (tt1 0 0 0 0).hdr 5 % 4 = 0 := by decide
theorem wit_tick_arrival :
    let c : CalSt := { cal1 0 0 0 0 with flying := [none], ticked := true }
    let i := { lab [] with cal := c }
    let s := tlab [] { c with nextM := 1, ix := 1 }
    let l := tlab [] { c with nextM := 1 }
    let o := tlab [] { c with nextF := 1 }
    i.live iMWY ∧ calState i = csIDLE ∧ i.cal.flying = [none] ∧ i.cal.bar = none ∧ i.cal.target = none ∧ calState s = csPLAYING ∧
      s.cal.ticked = true ∧ s.cal.entry = false ∧ s.cal.newSrc = false ∧ s.fld.viewLeft = none ∧ s.cal.nextM ≠ 0 ∧
      posLt ((calPos s (tt1 0 0 0 0)).1, actTick (tt1 0 0 0 0) (calPos s (tt1 0 0 0 0)).2) (0, 1) = false ∧
      posLt ((calPos l (tt1 0 0 0 0)).1, actTick (tt1 0 0 0 0) (calPos l (tt1 0 0 0 0)).2) (0, 1) = true ∧ o.cal.nextM = 0 ∧
      o.cal.df < o.cal.nextF ∧ o.cal.ix < actCount (tt1 0 0 0 0) ∧ rf o R.casSH_ROLE = 0 ∧ hdrPolicy (tt1 0 0 0 0).hdr 0 % 4 = 0 := by
  unfold State.live; decide
theorem wit_unit_fault :
    let s := { tlab [(R.scTT_OWNED 15, 1)] (cal1 0 0 0 0) with calIn := [.clusterFault 15] }
    s.calIn = [.clusterFault 15] ∧ rb s (R.scTT_OWNED 15) = true ∧ s.cal.act = some (tt1 0 0 0 0) ∧ hdrClAck (tt1 0 0 0 0).hdr = false ∧
      hdrPolicy (tt1 0 0 0 0).hdr 3 % 4 = 0 ∧ ({ s with calIn := [.pipeFault 3] }).calIn = [.pipeFault 3] := by decide
/-- Slot 0 holds an image of one timetable section, of a header of zeros. -/
def ilab (c : CalSt) : State :=
  let s := tlab [(⟨bulkBase, 35, 0⟩, 2 * 2 ^ 28 + 32), (R.calIMG_BASE, bulkBase)] c
  { s with hst := { hstZero with imgLen := [40, 0] } }
theorem wit_timetable_load :
    let s := ilab { calZero with loads := [⟨0, 0, 0⟩] }
    s.ecc = [] ∧ s.cal.loads = [⟨0, 0, 0⟩] ∧ (ilab { calZero with loads := [⟨1, 0, 0⟩, ⟨2, 0, 0⟩] }).cal.arm = none ∧ (ttLoad s 0 0).isSome = true := by decide
theorem wit_rearm :
    let s := { lab [(R.calAUTO_REARM, 1), (R.pwrRESTARTING, 0)] with cal := { calZero with was := some (0, 0, 2, 20) } }
    let g := { s with hst := { hstZero with imgLen := [7, 0] } }
    let r := storeRead g (imgBase g 0) (imgLen g 0)
    s.cal.was = some (0, 0, 2, 20) ∧ rb s R.pwrRESTARTING = false ∧ rb s R.calAUTO_REARM = true ∧ calState s = csIDLE ∧
      imgLen s 0 = 0 ∧ imgLen r.2 0 ≠ 0 ∧ r.1 = true ∧ crcsOk r.2 0 = true ∧ (applyRegs r.2 (imgRegs r.2 0)).1 = true := by decide

theorem wit_register_write :
    let s := lab []
    s.aonOn = true ∧ isUp s iMWY = true ∧ mwMaster s 20 = true ∧ mwMaster s 3 = true ∧ s.rstReq = [] ∧ s.forced.getLsbD iMWY = false := by
  decide
theorem wit_register_absent :
    let s := { lab [] with cfg := { Cfg.default with part := .z0401 } }
    blkOf 0x20070000 = some (.vp, 1, 0) ∧ blkPresent s .vp 1 = false := by decide
theorem wit_register_reached :
    let s := lab []
    let a := R.idnGUARD_LIMIT.addr
    (match blkOf (mwAddr s a), mwPort s (mwAddr s a) with
      | some (b, i, o), some p => targetUp s p (mwAddr s a) && !memHolds s p && !blkRefuses s b i o 20 0 true
      | _, _ => false) = true := by decide
theorem wit_register_refused :
    let s := lab []
    let a := (trbF 2).addr
    (match blkOf (mwAddr s a), mwPort s (mwAddr s a) with
      | some (b, i, o), some p => targetUp s p (mwAddr s a) && !memHolds s p && blkRefuses s b i o 3 3 true
      | _, _ => false) = true := by decide
/-- A transaction of master 8, Calliope, with ID 31. -/
def txn (a : Nat) (k : TKind) (p : Nat) (ph : TPhase) : Txn := ⟨0, ⟨8, 31, 15, a, k⟩, p, 0, ph, 0, 0, 0, none, 0, 0, stOK, []⟩
def mlab (fs : List (Field × Nat)) (l : List Txn) : State := { lab ((R.smINIT_DONE, 1) :: fs) with mw := { mwZero with txns := l } }
theorem wit_transaction :
    let s := mlab [] []
    let q := (txn 28 (.read 1) 0 (.waiting 0)).req
    s.live iMWY ∧ s.rstReq = [] ∧ s.mw.txns = [] ∧ mwMaster s 8 = true ∧ q.id < 32 ∧ tOk q = true ∧ memHolds s 3 = false ∧
      islandUp s (portIsland s 3 q.addr) = true ∧ portShut s 3 q.addr = false ∧ mwPort s q.addr = some 3 ∧ 0x90000F % 16 + 1 ≤ 16 ∧ mwPort s 0x90000F = none := by
  unfold State.live; decide
theorem wit_transaction_host :
    let s := mlab [] []
    let q := (txn 0xFFFFFFFFF (.hread 1 1 false) 26 (.waiting 0)).req
    tOk q = true ∧ memHolds s 26 = false ∧ islandUp s (portIsland s 26 q.addr) = true := by decide
/-- The island of a transaction's target is down. -/
theorem wit_transaction_down :
    let s := { mlab [] [] with up := 0x7FFFFF#23 &&& ~~~(1#23 <<< iVEC) }
    isUp s iMWY = true ∧ islandUp s (portIsland s 3 28) = false ∧ memHolds s 3 = false := by decide
theorem wit_grant :
    let r := mlab [(R.smLVT_PROT, 0)] [txn 0 (.read 1) 0 (.waiting 0)]
    let w := mlab [] [txn 24 (.write [(5#36, true, true)]) 3 (.waiting 0)]
    let x := txn 0 (.read 1) 0 (.waiting 0)
    r.mw.txns = [x] ∧ x.port < 4 ∧ x.port = x.req.addr / 8 % 4 ∧ x.req.master < 21 ∧ x.off = 0 ∧ x.left = 0 ∧ isUp r iVEC = true ∧
      rb r R.smLVT_PROT = false ∧ 0 % 8 + 1 ≤ 8 ∧ w.mw.txns = [txn 24 (.write [(5#36, true, true)]) 3 (.waiting 0)] ∧ 3 = 24 / 8 % 4 := by
  decide
/-- A granted transaction of one word, its read or its write at the bank of its word. -/
theorem wit_port_grant :
    let x := { txn 0 (.read 1) 0 (.granted 0) with left := 1, off := 1 }
    let r := { mlab [] [x] with sm := { smZero with wait := [⟨x.port, 5, .read, x.tid, 0⟩] } }
    let w := { mlab [] [x] with sm := { smZero with wait := [⟨x.port, 5, .write 1#36, x.tid, 0⟩] } }
    r.mw.txns = [x] ∧ x.st = stOK ∧ x.got = [] ∧ (isUp r iVEC = true ∧ r.forced.getLsbD iVEC = false) ∧ r.sm.rmw = [] ∧ r.ecc = [] ∧
      r.sm.wait = [⟨x.port, 5, .read, x.tid, 0⟩] ∧ w.sm.wait = [⟨x.port, 5, .write 1#36, x.tid, 0⟩] := by decide
theorem wit_bulk_grant :
    let x := txn (bulkBase + 9) (.read 1) 4 (.waiting 0)
    let s := mlab [] [x]
    s.mw.txns = [x] ∧ 4 ≤ x.port ∧ x.port < 8 ∧ x.req.master < 21 ∧ x.off = 0 ∧ targetUp s x.port x.req.addr = true ∧ s.ecc = [] := by
  decide
/-- No bank is off while the eight words of BANK_OFF are zero. -/
theorem banks_on {s : State} (hp : s.cfg.part = .z1604) (h : ∀ k ∈ List.range 8, rf s (R.smBANK_OFF k) = 0) :
    ∀ b, b < s.cfg.part.banks → bankOff s b = false := by
  intro b hb
  rw [hp] at hb
  simp only [bankOff, h (b / 32) (List.mem_range.2 (by simp only [Part.banks] at hb; omega)), bit, Nat.zero_div, Nat.zero_mod]
  rfl
theorem wit_grant_banks : ∀ b, b < (mlab [] []).cfg.part.banks → bankOff (mlab [] []) b = false := banks_on rfl (by decide)
theorem wit_answer :
    let s := mlab [] [txn 0 (.read 1) 0 (.answered 0 stOK [1#36] 0)]
    let g := mlab [] [txn 0x100000000 (.read 1) 26 (.granted 0)]
    s.mw.txns = [txn 0 (.read 1) 0 (.answered 0 stOK [1#36] 0)] ∧ g.mw.txns = [txn 0x100000000 (.read 1) 26 (.granted 0)] ∧
      [(1#32 : HWord)].length = 1 ∧ ({ s with mw := { mwZero with late := [(8, 31)] } }).mw.late = [(8, 31)] := by decide

/-- Channel 63 with descriptor `dd1`, of one word; `ch` is its capture. -/
def ch (got : List Word) (wrK : Nat) : DmaCh :=
  ⟨63, 1, (List.range 13).map (fun k => rdN (lab dd1) ((R.dcMODE 63).addr + k)), true, 1, got.length, got, [], 0, wrK, 0, 0, [], 0, [], [],
    [], 0⟩
def dlab (fs : List (Field × Nat)) (k : DmaCh) : State := { lab (fs ++ dd1) with dma := { dmaZero with chans := [k] } }
theorem wit_dma_channel :
    rf (lab dd1) (R.dcSTATE 63) = 0 ∧ rf (lab dd1) (R.dcUNIT_STATE 63) = usON ∧ rf (dlab [(R.dcSTATE 63, 1)] (ch [] 0)) (R.dcSTATE 63) ≠ 0 := by
  decide
theorem wit_dma_beats :
    let r := dlab [(R.dcSTATE 63, 1)] (ch [] 0)
    let w := dlab [(R.dcSTATE 63, 1)] (ch [7#36] 0)
    let l := dlab [(R.dcSTATE 63, 1)] { ch [7#36] 0 with t := 2 }
    let y := dlab [(R.dcSTATE 63, 2)] (ch [] 1)
    r.live iMWY ∧ r.mw.txns = [] ∧ rf r (R.dcSTATE 63) = 1 ∧ dmaBeat (ch [] 0) 0 0 = some (0, 1) ∧
      (ch [] 0).got.length + (ch [] 0).early.length + (ch [] 0).fly + 1 ≤ 16 ∧ rf w (R.dcSTATE 63) = 1 ∧ (ch [7#36] 0).toSync = [] ∧
      dmaBeat (ch [7#36] 0) 1 0 = some (100, 1) ∧ 1 ≤ (ch [7#36] 0).got.length ∧ ddHost (ch [7#36] 0).desc 1 = false ∧
      (ch [7#36] 0).wrK + 1 = (ch [7#36] 0).t ∧ dd (ch [7#36] 0).desc 0 8 8 = 0 ∧
      ({ ch [7#36] 0 with t := 2 } : DmaCh).wrK + 1 ≠ ({ ch [7#36] 0 with t := 2 } : DmaCh).t ∧ l.dma.chans = [{ ch [7#36] 0 with t := 2 }] ∧
      rf y (R.dcSTATE 63) = 2 ∧ (ch [] 1).toSync = [] ∧ (ch [] 1).syncOut = 0 := by unfold State.live; decide
/-- An index transfer of one run. -/
def ixch : DmaCh := { ch [] 0 with desc := [1, 0, 1, 1, 1, 0, 1, 1, 1, 8, 1, 1, 0] }
theorem wit_dma_index :
    let s := dlab [(R.dcSTATE 63, 1)] ixch
    let a := (dd ixch.desc 9 35 0 + ixch.ixAsk) % 2 ^ 36
    rf s (R.dcSTATE 63) = 1 ∧ ddIndex ixch.desc = true ∧
      0 < min (8 - a % 8) (min (8 - ixch.ix.length - ixch.ixEarly.length - ixch.ixFly) (dd ixch.desc 10 23 0 - ixch.ixAsk)) := by decide

/-- Port 7 in state `k`. -/
def flab7 (fs : List (Field × Nat)) (k : PortSt) : State :=
  { lab fs with fld := { fldZero .z1604 with ports := List.replicate 7 portZero ++ [k] } }
theorem ports_idle (fs : List (Field × Nat)) (k : PortSt) (j : Nat) (h : j ≠ 7) : port (flab7 fs k) j = portZero := by
  have e : (flab7 fs k).fld.ports = (List.replicate 8 portZero).set 7 k := rfl
  simp only [port, e, List.getD_eq_getElem?_getD, List.getElem?_set_ne (Ne.symm h), List.getElem?_replicate]
  split <;> rfl
/-- A signal frame's octets for a list of words (PACK9). -/
def octs (ws : List Word) : List (BitVec 8) := (pack9Bytes ws).map (BitVec.ofNat 8)
/-- A sample frame of node 0 with one record: channel 65,535, one value. -/
def sampleFrame : RxFrame :=
  ⟨true, 1, 0, 0x88B5, octs [mkW (2 ^ 32 + 2 ^ 28 + 5), 6#36, mkW (65535 * 2 ^ 18 + 2 ^ 6), 7#36, 9#36, 0#36]⟩
theorem wit_receive :
    let s := flab7 [(R.fpLINK 7, 1), (R.ndVALID 0, 1), (R.ndPORT 0, 7), (R.fcETYPE, 0x88B5)] portZero
    let full := flab7 [] { portZero with bufUsed := 65536 }
    let ws := payWords sampleFrame.body
    let w0 := (ws.getD 0 0#36).toNat
    let w1 := (ws.getD 1 0#36).toNat
    s.live iFLD ∧ 7 < s.cfg.part.ports ∧ s.fld.ports.length = s.cfg.part.ports ∧ rf s (R.fpUNIT_STATE 7) = usON ∧
      rb s (R.fpLINK 7) = true ∧ ({ sampleFrame with fcsOk := false } : RxFrame).fcsOk = false ∧
      65536 < (port full 7).bufUsed + (sampleFrame.body.length + 18 + 4 * sampleFrame.tags) ∧ sampleFrame.etype = rf s R.fcETYPE ∧
      2 ≤ ws.length ∧ bits w0 35 32 = 1 ∧ bits w0 31 28 = 1 ∧ bits w1 13 0 = 6 ∧ 6 ≤ ws.length ∧
      6 ≤ payLimit (rb s (R.fpJUMBO 7)) false ∧ bits w1 15 14 = 0 ∧ bits w1 35 20 = 0 ∧ bits w1 19 16 = 0 ∧
      nodeRejects s 7 (bits w0 27 16) false 0 = false ∧ rb s (R.ndSEQ_CHECK (bits w0 27 16)) = false := by unfold State.live; decide
theorem wit_receive_record :
    parseRecs 0 6 ((payWords sampleFrame.body).take 6 |>.drop 2) = some [⟨0, false, 65535, 7, 0, [9#36], 0⟩] := by decide
theorem wit_lookup :
    let r : RxRec := ⟨1, false, 3, 9, 0, [5#36], 80⟩
    let s := flab7 [] { portZero with recs := [r] }
    let i := 4 * clsSet s (clsKey false 7 1 3) + 3
    let e : Word × Word := (mkW (1 + 7 * 4 + 1 * 2 ^ 5 + 3 * 2 ^ 17), 17#36)
    let g := { s with fld := { s.fld with cls := [(i, e)] } }
    (port s 7).recs = [r] ∧ clsLookup s 7 1 3 = none ∧ clsLookup g 7 1 3 = some i ∧ (port g 7).fifo.length < 4096 := by decide +kernel
theorem wit_classifier :
    let e : Word × Word := (mkW (7 * 4 + 1 * 2 ^ 5 + 3 * 2 ^ 17), 17#36)
    let s := lab [(R.fcCLS_W0, e.1.toNat), (R.fcCLS_W1, e.2.toNat)]
    let bad := lab [(R.fcCLS_W1, 2 ^ 18)]
    let i := 4 * clsHome s e
    let g := { s with fld := { fldZero .z1604 with cls := [(i, (mkW (e.1.toNat + 1), e.2))] } }
    clsHeld s = e ∧ clsRangeOk s (clsHeld s) = true ∧ clsFind s (clsHome s (clsHeld s)) (clsClash (clsHeld s)) = none ∧
      [0, 1, 2, 3].find? (fun w => !clValid (clsAt s (4 * clsHome s (clsHeld s) + w))) = some 0 ∧
      clsRangeOk bad (clsHeld bad) = false ∧ clsLocate g (clsHeld g) = some i ∧ clsLocate s (clsHeld s) = none := by decide +kernel
theorem wit_descriptor :
    let s := lab [(R.qeQD_INDEX, 262143), (R.qeQD_W0, 20 * 2 ^ 29), (R.qeQD_W1, 2)]
    let b := { lab [(R.qeQD_INDEX, 262143)] with cfg := { Cfg.default with part := .z0401 } }
    s.live iMWY ∧ rf s R.qeQD_INDEX < s.cfg.part.queues ∧ qdOk s (rd s R.qeQD_W0.addr, rd s R.qeQD_W1.addr) = true ∧
      qdOk b (rd b R.qeQD_W0.addr, rd b R.qeQD_W1.addr) = false ∧ b.cfg.part.queues ≤ rf b R.qeQD_INDEX := by unfold State.live; decide
theorem wit_commit :
    let s := flab7 [] { portZero with fifo := [(17, 5#36, 9#36)] }
    let g := { s with fld := { s.fld with qd := [(17, mkW (2 ^ 34 + 4 * 2 ^ 29), 14#36)] } }
    (port s 7).fifo = [(17, 5#36, 9#36)] ∧ s.bm.comb = [] ∧ bit (qdAt s 17).1.toNat 34 = false ∧ bit (qdAt g 17).1.toNat 34 = true ∧
      bit (qdAt g 17).1.toNat 35 = false := by decide
theorem wit_commit_others : ∀ j, j ≠ 7 → (port (flab7 [] { portZero with fifo := [(17, 5#36, 9#36)] }) j).fifo = [] :=
  fun j h => by rw [ports_idle _ _ _ h]; rfl
theorem wit_thaw :
    let s := { lab [(R.qeFROZEN, 1)] with fld := { fldZero .z1604 with thawDue := true } }
    let e := { lab [(R.qeTHAWING, 1)] with fld := { fldZero .z1604 with hold := [(262143, 5#36, 9#36)] } }
    s.fld.thawDue = true ∧ rb s R.qeFROZEN = true ∧ e.fld.thawDue = false ∧ rb e R.qeTHAWING = true ∧
      e.fld.hold = [(262143, 5#36, 9#36)] ∧ e.fld.freezePend = none ∧ e.sm.rmw = [] ∧ e.sm.wait = [] ∧ isUp e iVEC = true ∧ e.forced.getLsbD iVEC = false ∧
      lvtBase e + 2 * 262143 + 1 < e.cfg.part.streamWords := by decide
theorem wit_thaw_banks : ∀ b, b < (lab [(R.qeTHAWING, 1)]).cfg.part.banks → bankOff (lab [(R.qeTHAWING, 1)]) b = false :=
  banks_on rfl (by decide)
theorem wit_frame_emit :
    let e : Emit := ⟨1023, 1, 0, true⟩
    let s := { lab [(R.fpVALID 7 1023, 1)] with fld := { fldZero .z1604 with emitFly := [(7, e)] } }
    s.fld.emitFly = [(7, e)] ∧ e.next ≤ 1023 ∧ 1023 < e.next + e.left ∧ rb s (R.fpVALID 7 1023) = true := by decide
/-- Stream 1023 of port 7: one word from the last of Stream Memory, to node 0. -/
def sfs : List (Field × Nat) :=
  [(R.fpLINK 7, 1), (R.fpVALID 7 1023, 1), (R.fpN 7 1023, 1), (R.fpSRC 7 1023, 0x7FFFFF), (R.fpTX_INHIBIT 7, 0), (R.fpKEEP_PERIOD 7 1023, 1)]
theorem wit_assembly :
    let s := flab7 sfs { portZero with emits := [⟨1023, 1, 0, false⟩] }
    let n := rf s (R.fpN 7 1023)
    (port s 7).emits = [⟨1023, 1, 0, false⟩] ∧ rb (flab7 [] portZero) (R.fpVALID 7 1023) = false ∧ rb s (R.fpVALID 7 1023) = true ∧
      n + 5 ≤ payLimit (rb s (R.fpJUMBO 7)) (rb s (R.ndENCAP (rf s (R.fpNODE 7 1023)))) ∧
      rf s (R.fpSRC 7 1023) + n ≤ s.cfg.part.streamWords ∧ s.sm.rmw = [] ∧ s.sm.wait = [] ∧ isUp s iMWY = true ∧ isUp s iVEC = true ∧ s.ecc = [] ∧ rb s (R.fpPROBE_EN 7 1023) = false ∧
      rb s (R.fpTX_INHIBIT 7) = false ∧ portSends s 7 = true := by decide
theorem wit_assembly_banks : ∀ b, b < (flab7 sfs portZero).cfg.part.banks → bankOff (flab7 sfs portZero) b = false :=
  banks_on rfl (by decide)
theorem wit_frame_transmit : ∀ c ∈ [TxCls.ptp, .sched, .keep, .other],
    let f : TxFrame := ⟨c, 1023, 0, [], 0, 0, 0, []⟩
    let s := flab7 sfs { portZero with tx := [f] }
    let i := flab7 (sfs ++ [(R.fpTX_INHIBIT 7, 1)]) { portZero with tx := [f] }
    rb s (R.fpLINK 7) = true ∧ portSends s 7 = true ∧ (port s 7).tx = [f] ∧ rb s (R.fpTX_INHIBIT 7) = false ∧
      rb i (R.fpTX_INHIBIT 7) = true ∧ rf (flab7 [(R.fpPTP_ROLE 7, 1)] portZero) (R.fpPTP_ROLE 7) = 1 ∧
      portSends (flab7 [(R.fpLINK 7, 1), (R.fpPTP_ROLE 7, 1)] portZero) 7 = true ∧
      (let r := flab7 [(R.fpLINK 7, 1), (R.fpPTP_ROLE 7, 2), (R.fcTIME_SRC, 7)] portZero
       rf r (R.fpPTP_ROLE 7) = 2 ∧ rf r R.fcTIME_SRC = 7 ∧ portSends r 7 = true) ∧
      (let r := flab7 [(R.fpPTP_ROLE 7, 2), (R.fcTIME_SRC, 6)] portZero
       rf r (R.fpPTP_ROLE 7) = 2 ∧ rf r R.fcTIME_SRC ≠ 7) ∧ rf (flab7 [] portZero) (R.fpPTP_ROLE 7) = 0 := by decide
theorem wit_keeper :
    let k := { portZero with timer := [(1023, 0)], refT := [(1023, 0)] }
    let s := flab7 (sfs ++ [(R.fpKSTATE 7 1023, 1), (R.fpHOLD_MAX 7 1023, 1)]) k
    let t := { s with now := 10000000 }
    kvFind (port s 7).timer 1023 = some 0 ∧ rb s (R.fpVALID 7 1023) = true ∧ rf s (R.fpKEEP_PERIOD 7 1023) ≠ 0 ∧ (port s 7).emits = [] ∧
      rf s (R.fpKSTATE 7 1023) = 1 ∧ rb s (R.fpKOWN 7 1023) = true ∧
      rb (flab7 [(R.fpKOWN 7 1023, 0)] k) (R.fpKOWN 7 1023) = false ∧ kvFind (port s 7).refT 1023 = some 0 ∧ rf s (R.fpHOLD_MAX 7 1023) ≠ 0 ∧
      0 + rf t (R.fpHOLD_MAX 7 1023) * 10000000 ≤ t.now ∧ rf (flab7 sfs k) (R.fpKSTATE 7 1023) = 0 ∧
      rf (flab7 sfs k) (R.fpHOLD_MAX 7 1023) = 0 := by decide
theorem wit_event_window :
    let s := { lab [(R.fcBUF_STATE 15, 4)] with fld := { fldZero .z1604 with winOpen := [(31, 5)] } }
    bufState s 15 1 = 1 ∧ kvFind s.fld.winOpen (2 * 15 + 1) = some 5 ∧ bufState (lab [(R.fcBUF_STATE 15, 8)]) 15 1 = 2 := by decide
theorem wit_sync_holdover :
    let s := { lab [(R.fcSYNC_STATE, 2), (R.fcTIME_SRC, 0)] with fld := { fldZero .z1604 with lastSync := some 0 } }
    s.fld.lastSync = some 0 ∧ rf s R.fcTIME_SRC < 9 ∧ rf s R.fcSYNC_STATE = 2 ∧ rb s R.fcSYNC_LOST = false ∧ rf (lab [(R.fcSYNC_STATE, 1)]) R.fcSYNC_STATE = 1 := by decide
theorem wit_channel :
    let s := lab []
    let g := lab [(R.idnK 4095, 23)]
    bit (1#36).toNat 0 = true ∧ rb s (R.idnVALID 4095) = false ∧ idnEntryOk s 4095 (1#36) = false ∧ rb g (R.idnVALID 4095) = false ∧
      idnEntryOk g 4095 (0xE1#36) = true ∧ bit (0xE1#36).toNat 0 = true ∧ bit (0xE1#36).toNat 1 = rb g (R.idnENABLE 4095) ∧
      idnLive g 4095 = false := by decide
/-- Channel 4095, ON without an entry, would take the target that channel 0 names. -/
theorem wit_channel_conflict :
    let s := lab [(R.idnK 4095, 23), (R.idnUNIT_STATE 4095, usON), (R.idnVALID 0, 1), (R.idnK 0, 23), (R.idnUNIT_STATE 0, usON),
      (R.idnPORT 0, 7)]
    rb s (R.idnVALID 4095) = false ∧ idnEntryOk s 4095 (0xE1#36) = true ∧ idnLive s 4095 = true ∧
      idnTaken (idnTarget s 4095 (0xE1#36)) 4095 = true ∧ idnTaken (idnTarget s 4095 (0x2E1#36)) 4095 = false := by decide +kernel
theorem wit_guard :
    let s := lab []
    rf s R.idnGUARD_STATE = 0 ∧ s.idn.lastStat = none ∧ calPlays (tlab [] calZero) = true ∧ calPlays s = false ∧ s.sm.rmw = [] ∧ s.sm.wait = [] ∧
      mode (lab [(R.pwrMODE, mCONFIGURE)]) = mCONFIGURE ∧ mode s ≠ mCONFIGURE := by decide

/-! Witnesses: Ringmaster's cores and the interrupt controller. -/

/-- Core 3, running at MONITOR, as `c`, with the word of its next operation and the one after fetched. -/
def rlab (fs : List (Field × Nat)) (c : CoreSt) : State :=
  { lab ((R.rmSTOPPED 3, 0) :: fs) with
      cores := List.replicate 3 coreZero ++ [{ c with words := [(c.pc, 0#36), ((c.pc + 1) % 2 ^ 36, 0#36)] }] }
/-- Core 3 has fetched the word of its next operation. -/
def fetched (s : State) : Bool := (kvFind (Machine.core s 3).words (Machine.core s 3).pc).isSome
def held (ds rs : List Word) : CoreSt := { coreZero with ds := ds, rs := rs }
theorem wit_rm_ready : ∀ c ∈ [coreZero, held [1#36] [], held (List.replicate 16 7#36) [2#36], held [0#36, 1#36, 2#36] []],
    let s := rlab [] c
    s.live iRMC ∧ rmRuns s 3 = true ∧ fetched s = true ∧ rmLvl s 3 ≤ 1 ∧ s.rstReq = [] ∧ s.cores.length = s.cfg.part.cores ∧
      rb s (R.rmEMERG 3) = false ∧ s.ecc = [] := by unfold State.live; decide
theorem wit_rm_stacks :
    let s := rlab [] (held (List.replicate 16 7#36) [])
    let p := rf s (R.rmSPD 3 0)
    let e := rlab [(R.rmSPD 3 0, 0x3003D000)] coreZero
    let u := rlab [] coreZero
    (Machine.core s 3).ds.length = 16 ∧ rf s (R.rmDLO 3 0) + 17 ≤ p ∧ rmMay s 3 0 2 (p - 1) = true ∧ (Machine.core s 3).sb.length < 8 ∧
      rf e (R.rmSPD 3 0) ≠ rf e (R.rmDHI 3 0) ∧ rmMay e 3 0 1 (rf e (R.rmSPD 3 0)) = true ∧ mwPort e (rf e (R.rmSPD 3 0)) = some 25 ∧
      (Machine.core u 3).ds = [] ∧ rf u (R.rmSPD 3 0) = rf u (R.rmDHI 3 0) := by decide
/-- Core 3 at TASK, whose region 0 has permissions `p`. -/
def task (p : Nat) (c : CoreSt) (fs : List (Field × Nat)) : State :=
  rlab ([(R.rmLEVEL 3, 2), (R.rmPERM 3 2 0, p), (R.rmRLIM 3 2 0, 0xFFFFFFFF)] ++ fs) c
theorem wit_rm_memory :
    let s := rlab [(R.smINIT_DONE, 1), (R.smLVT_PROT, 0)] (held [0x7FFFFF#36, 5#36, 6#36] [])
    let x := task 9 (held [0x30030000#36, 5#36, 6#36] []) []
    mwPort s 0x3003FFFE = some 25 ∧ rmMay s 3 0 1 0x3003FFFE = true ∧ mwPort s (0x3003FFFE + 1) = some 25 ∧
      rmMay s 3 0 1 (0x3003FFFE + 1) = true ∧ rmMay s 3 0 2 0x3003FFFF = true ∧ rmMay s 3 0 2 ((0x3003FFFE + 1) % 2 ^ 36) = true ∧
      x.live iRMC ∧ rmRuns x 3 = true ∧ fetched x = true ∧ rmLvl x 3 ≤ 3 ∧ x.cores.length = x.cfg.part.cores ∧
      rmMay x 3 2 1 0x30030000 = false ∧ rmMay x 3 2 2 0x30030000 = false ∧
      rmMay s 3 0 2 0x7FFFFF = true ∧ 0x7FFFFF < s.cfg.part.streamWords ∧ s.live iVEC ∧ rb s R.smINIT_DONE = true ∧ s.sm.rmw = [] ∧
      bankOff s (smBank s 0x7FFFFF) = false ∧ rb s R.smLVT_PROT = false := by unfold State.live; decide
theorem wit_rm_slots :
    let s := rlab [] { held [1#36] [] with slot := 2 }
    (Machine.core s 3).slot < 3 ∧ fetched s = true ∧ (0#27).toNat % 2 ^ (9 * (3 - (Machine.core s 3).slot)) = 0 ∧
      (Machine.core (rlab [] { coreZero with slot := 3 }) 3).slot = 3 ∧ fetched (rlab [] { coreZero with slot := 3 }) = true ∧
      rmField s 3 0#27 = (0 : Nat) ∧ rf s (R.rmGT_COUNT 3) ≤ 0 := by decide
/-- Gate 0 of core 3: from MONITOR into MONITOR at address 9, one argument. -/
def gated : State :=
  rlab [(R.rmGT_COUNT 3, 1), (R.rmGT_BASE 3, 0x30030000), (⟨0x30030000, 35, 0⟩, 9), (⟨0x30030001, 35, 0⟩, 2 ^ 35 + 2 ^ 4)]
    (held [5#36] [])
theorem wit_rm_gate :
    let s := gated
    let w := rdN s (mwAddr s 0x30030001)
    fetched s = true ∧ rmField s 3 0#27 = (0 : Nat) ∧ 0 < rf s (R.rmGT_COUNT 3) ∧ rf s (R.rmGT_BASE 3) = 0x30030000 ∧
      mwPort s 0x30030000 = some 25 ∧ mwPort s 0x30030001 = some 25 ∧ bit w 35 = true ∧ bits w 7 4 = 1 ∧ bits w 3 2 = 0 ∧ w % 4 = 0 ∧
      bits w 15 8 = 0 ∧ rf s (R.rmDLO 3 0) + 1 ≤ rf s (R.rmSPD 3 0) ∧ rf s (R.rmSPD 3 0) ≤ rf s (R.rmDHI 3 0) ∧
      rf s (R.rmQLO 3 0) + 3 ≤ rf s (R.rmSPQ 3 0) ∧ rf s (R.rmSPQ 3 0) ≤ rf s (R.rmQHI 3 0) := by decide
theorem wit_rm_retg :
    let s := rlab [] (held [8#36, 1#36, 2#36, 3#36, 4#36, 5#36, 6#36, 7#36, 8#36] [2#36, 0x3003E000#36, 9#36])
    fetched s = true ∧ ((Machine.core s 3).ds.headD 0#36).toNat ≤ 8 ∧ ((Machine.core s 3).ds.headD 0#36).toNat < (Machine.core s 3).ds.length ∧
      rmLvl s 3 ≤ (2#36).toNat % 4 ∧ (2#36).toNat % 4 ≠ 3 := by decide
/-- Core 3 with its TSB and its vectors in its local memory, two blocks long. -/
def excs (fs : List (Field × Nat)) (c : CoreSt) : State :=
  rlab ([(R.rmTSBP 3, 0x30030000 / 32), (R.rmVT_BASE 3, 0x30034000 / 32), (R.rmTSB_LIM 3, 0x30030040)] ++ fs) c
theorem wit_rm_trap :
    let s := excs [] coreZero
    let t0 := rf s (R.rmTSBP 3) * 32
    let va := rf s (R.rmVT_BASE 3) * 32 + 2 * 0xC
    fetched s = true ∧ rmLvl s 3 < 3 ∧ coreLocal 3 ≤ t0 ∧ t0 + 64 ≤ coreLocal 3 + 0x10000 ∧ coreLocal 3 ≤ va ∧
      va + 2 ≤ coreLocal 3 + 0x10000 ∧ t0 + 11 ≤ va ∧ t0 + 64 ≤ rf s (R.rmTSB_LIM 3) ∧ rdN s (va + 1) % 4 = 0 ∧
      rf s (R.rmDLO 3 0) ≤ rf s (R.rmSPD 3 0) ∧ rf s (R.rmSPD 3 0) ≤ rf s (R.rmDHI 3 0) ∧ rf s (R.rmQLO 3 0) ≤ rf s (R.rmSPQ 3 0) ∧
      rf s (R.rmSPQ 3 0) ≤ rf s (R.rmQHI 3 0) := by decide
theorem wit_rm_retx :
    let s := excs [(R.rmTSBP 3, 0x30030020 / 32), (⟨0x30030004, 35, 0⟩, 0x3003E000), (⟨0x30030005, 35, 0⟩, 0x3003F000)] coreZero
    let t0 := rf s (R.rmTSBP 3) * 32 - 32
    let w := fun i => rdN s (t0 + i)
    fetched s = true ∧ 0 < rf s (R.rmTSBP 3) ∧ t0 = coreLocal 3 ∧ w 1 % 4 = 0 ∧ w 11 % 2 = 0 ∧ (∀ k, k < 3 →
      rf s (R.rmDLO 3 k) ≤ w (4 + 2 * k) ∧ w (4 + 2 * k) ≤ rf s (R.rmDHI 3 k) ∧ rf s (R.rmQLO 3 k) ≤ w (5 + 2 * k) ∧
        w (5 + 2 * k) ≤ rf s (R.rmQHI 3 k)) := by decide
theorem wit_rm_privileged :
    let s := task 15 coreZero []
    s.live iRMC ∧ rmRuns s 3 = true ∧ fetched s = true ∧ 1 < rmLvl s 3 ∧ s.cores.length = s.cfg.part.cores := by
  unfold State.live; decide
/-- Source 255, of the highest priority, is pending for core 3. -/
def irq (fs : List (Field × Nat)) (c : CoreSt) : State :=
  rlab ([(R.icENABLE 255, 1), (R.icPENDING 255, 1), (R.icTARGET 255, 8), (R.icPRIO 255, 15), (R.icHOLDOFF 31, 1)] ++ fs) c
theorem wit_rm_request :
    icBest (irq [(R.rmIE 3, 1)] coreZero) 3 = some 255 ∧ rb (irq [(R.rmIE 3, 1)] coreZero) (R.rmIE 3) = true ∧
      (Machine.core (rlab [] { coreZero with perr := [9] }) 3).perr = [9] := by decide
theorem wit_rm_special :
    srNamed 0x9F = true ∧ srMayRead 0x9F 0 = true ∧ srNamed 0xE = false ∧ srMayRead 0x40 2 = false ∧
      srMayWrite 1 2 = false ∧ fetched (task 15 (held [0x40#36] []) []) = true ∧ fetched (task 15 (held [1#36, 2#36] []) []) = true ∧
      fetched (rlab [] (held [4#36, 2#36] [])) = true := by decide
theorem wit_rm_waits :
    let s := rlab [(R.pwrCORE_OFF, 4)] coreZero
    let o := rlab [] coreZero
    let w := irq [] { coreZero with hold := .wait, rose := true }
    bit (rf o R.pwrCORE_OFF) 2 = false ∧ bit (rf s R.pwrCORE_OFF) 2 = true ∧ rb w (R.rmSTOPPED 3) = false ∧ w.live iRMC ∧
      w.cores.length = w.cfg.part.cores ∧ (Machine.core w 3).rose = true ∧
      (Machine.core (rlab [] { coreZero with pw := .waking 5 }) 3).pw = .waking 5 := by unfold State.live; decide
theorem wit_rm_watchdog :
    let r := rlab [(R.rmWD_EN 3, 1), (R.rmWD_PERIOD 3, 8), (R.rmWD_WARN 3, 2)] coreZero
    let s := { r with pwr := { r.pwr with ph := .run, startWarm := true } }
    let k := rlab [(R.rmWD_EN 3, 1), (R.rmWD_STRIKE 3, 1)] coreZero
    let z := { lab [] with cores := List.replicate 4 coreZero }
    s.live iRMC ∧ s.cores.length = s.cfg.part.cores ∧ rb s (R.rmWD_EN 3) = true ∧ rf s (R.rmWD_WARN 3) ≠ 0 ∧ (Machine.core s 3).pw = .on ∧
      s.rstReq = [] ∧ s.aonOn = true ∧ s.pwr.ph = .run ∧ s.pwr.holdAt = none ∧ rb s (R.rmWD_STRIKE 3) = false ∧ coldReleasing s = false ∧
      rb k (R.rmWD_EN 3) = true ∧ rb k (R.rmWD_STRIKE 3) = true ∧ rb z (R.rmSTOPPED 3) = true := by unfold State.live; decide
theorem wit_rm_vector :
    let s := rlab [] (held [4#36, 1#36, 2#36, 3#36] [])
    let v := rlab [] { held [3#36, 1#36, 2#36, 3#36] [] with hold := .vec 0x58 [] }
    let r := rlab [] (held [0#36, 0x30030000#36] [])
    4 ≤ (Machine.core s 3).ds.length ∧ s.cfg.part.pipes ≤ 4 ∧ fetched s = true ∧ 3 < v.cfg.part.pipes ∧ isUp v iVEC = true ∧ v.live iRMC ∧
      fetched r = true ∧ (∀ k, k < 12 → mwPort r ((0x30030000 + 20 + k) % 2 ^ 36) = some 25 ∧
        rmMay r 3 0 1 ((0x30030000 + 20 + k) % 2 ^ 36) = true) ∧ r.ecc = [] := by unfold State.live; decide
theorem wit_rm_vector_ready : (rlab [(R.vpPOWER 0, pIDLE)] { held [0#36, 1#36, 2#36, 3#36] [] with hold := .vec 0x58 [] }).pipeReady 0 :=
  pipe_ready rfl rfl (by decide)
theorem wit_rm_remote :
    let s := { rlab [] { held [1#36] [] with hold := .remote (.op 0x30) [(1, 127)] [] } with
                cas := { casZero .z1604 with rem := [⟨127, .core, 7, 3, some (0, [5#36])⟩] } }
    s.live iRMC ∧ s.cores.length = s.cfg.part.cores ∧ s.rstReq = [] ∧ s.cas.rem = [⟨127, .core, 7, 3, some (0, [5#36])⟩] ∧
      rmMay s 3 0 1 1 = true := by unfold State.live; decide
theorem wit_interrupts :
    let s := { irq [] coreZero with raiseQ := [255] }
    let c := rlab [(R.icRDEPTH 3, 1), (R.icSTK_SRC 3 0, 255)] coreZero
    let o := rlab [] coreZero
    s.live iRMC ∧ 255 ∈ s.raiseQ ∧ icBest s 3 = some 255 ∧ rf s (R.icHOLDOFF (255 / 8)) ≠ 0 ∧ icBest c 3 = none ∧
      rf c (R.icRDEPTH 3) = 1 ∧ rf c (R.icSTK_SRC 3 0) = 255 ∧ rf o (R.icRDEPTH 3) = 0 ∧
      kvFind ({ o with ic := { o.ic with hoDue := [(31, 7)] } } : State).ic.hoDue 31 = some 7 := by unfold State.live; decide
/-- Core 3 with nothing fetched. -/
def unfetched (s : State) : State := modCore s 3 fun c => { c with words := [] }
theorem wit_rm_fetch :
    let c := { coreZero with pc := 0x3003FFFF }
    let s := unfetched (rlab [] c)
    let x := unfetched (task 1 c [])
    s.live iRMC ∧ rmRuns s 3 = true ∧ s.cores.length = s.cfg.part.cores ∧ s.rstReq = [] ∧
      kvFind (Machine.core s 3).words (Machine.core s 3).pc = none ∧ rmMay s 3 (rmLvl s 3) 3 (Machine.core s 3).pc = true ∧
      mwPort s (Machine.core s 3).pc = some 25 ∧ s.ecc = [] ∧ x.live iRMC ∧ rmRuns x 3 = true ∧
      kvFind (Machine.core x 3).words (Machine.core x 3).pc = none ∧ rmMay x 3 (rmLvl x 3) 3 (Machine.core x 3).pc = false := by
  unfold State.live; decide
theorem wit_rm_pick_and_literal :
    let s := rlab [] (held [1#36, 2#36] [])
    (1#36).toNat < (Machine.core s 3).ds.length ∧ fetched s = true ∧
      (kvFind (Machine.core s 3).words (((Machine.core s 3).pc + 1) % 2 ^ 36)).isSome = true := by decide
theorem wit_rm_record_positions :
    let s := task 3 (held [0#36, 0x30030000#36] []) [(⟨0x3003001B, 35, 0⟩, 5)]
    let ws := (List.range 12).map fun k => rd s (mwAddr s ((0x30030000 + 20 + k) % 2 ^ 36))
    (∀ k, k < 12 → mwPort s ((0x30030000 + 20 + k) % 2 ^ 36) = some 25 ∧ rmMay s 3 2 1 ((0x30030000 + 20 + k) % 2 ^ 36) = true) ∧
      resPosOk s 3 2 ws = false ∧ resPosOk s 3 2 (List.replicate 12 0#36) = true := by decide
/-- A request and an end-of-interrupt the controller ignores, and ends in its rules. -/
theorem wit_interrupts_ignored :
    let s := { irq [] coreZero with raiseQ := [255, 254] }
    let c := rlab [(R.icRDEPTH 3, 1), (R.icSTK_SRC 3 0, 255)] coreZero
    s.raiseQ.find? (fun k => decide (srcIsland k = srcIsland 255)) = some 255 ∧
      s.raiseQ.find? (fun k => decide (srcIsland k = srcIsland 254)) ≠ some 254 ∧ 256 ≤ 511 ∧
      ({ lab [] with cfg := { Cfg.default with part := .z0401 } } : State).cfg.part.cores ≤ 3 ∧ 0 < rf c (R.icRDEPTH 3) ∧
      rf c (R.icSTK_SRC 3 (rf c (R.icRDEPTH 3) - 1)) = 767 % 512 ∧ 767 % 512 ≠ 511 := by decide

/-! Witnesses: the cascade. -/

/-- Module 31 with link 3 as `k`, in state UP. -/
def klab (fs : List (Field × Nat)) (k : LinkSt) : State :=
  { lab ([(R.casCASC_ID, 31), (R.casLSTATE 3, 2)] ++ fs) with
      cas := { casZero .z1604 with links := List.replicate 3 linkZero ++ [k] } }
def bp (pt dest addr : Nat) (ws : List Word) : BPkt := ⟨pt, dest, 7, 127, addr, ws⟩
theorem wit_links :
    let s := klab [] linkZero
    let t := klab [(R.casLSTATE 3, 1)] { linkZero with leftAt := some 5 }
    let r := klab [] { linkZero with rtts := [40], wait := [(bp 1 0 0 [], some 2)] }
    s.live iCAS ∧ 3 < s.cfg.part.links ∧ s.cas.links.length = s.cfg.part.links ∧ rf s (R.casLSTATE 3) = 2 ∧ rf t (R.casLSTATE 3) = 1 ∧
      (link s 3).wait = [] ∧ (link t 3).leftAt = some 5 ∧ (link r 3).rtts ≠ [] ∧ (link r 3).wait = [(bp 1 0 0 [], some 2)] ∧ (2 < s.cfg.part.links ∧ rf (klab [(R.casLSTATE 2, 2)] linkZero) (R.casLSTATE 2) = 2) ∧
      bpClass (bp 1 0 0 []).ptype = 3 ∧ (link r 3).dup = false ∧ rf r (R.casUNIT_STATE 3) = usON ∧ 0 < (link r 3).cred3 + 0 := by
  unfold State.live; decide
theorem wit_hello :
    let s := klab [] linkZero
    let m := klab [(R.casIS_MASTER, 1)] linkZero
    let a : Word × Word := (mkW (1 + 32), 0#36)
    rf s R.casSH_ROLE ≠ 1 ∧ helPeer a ≠ cascId s ∧ helClaim a = true ∧ isMaster m = true ∧ isMaster s = false ∧ helPeer (mkW 31, 0#36) = cascId s ∧
      (∀ k, k < 4 → helUsable s k = none) ∧ linkUp s 3 = true ∧ rb s R.casID_DUP = false ∧ (bp 14 0 0 []).words.length ≠ 2 := by decide
theorem wit_hello_links (k : Nat) : helUsable (klab [] linkZero) k = none := by
  by_cases h : k < 4
  · exact wit_hello.2.2.2.2.2.2.1 k h
  · have : linkUp (klab [] linkZero) k = false := by
      have e : (klab [] linkZero).cfg.part.links = 4 := rfl
      simp [linkUp, e, h]
    simp [helUsable, this]
/-- The module with a route to module 7 over link 3. -/
def kroute : State := klab [(R.casROUTE 7, 3), (R.casREMOTE_EN, 3), (R.smINIT_DONE, 1), (R.smLVT_PROT, 0)] linkZero
theorem wit_remote :
    let s := kroute
    s.live iCAS ∧ s.live iVEC ∧ (bp 1 31 0x7FFFFF []).dest = cascId s ∧ s.reaches 7 3 ∧ isUp s iMWY = true ∧ s.rstReq = [] ∧
      rf s R.casREMOTE_EN &&& 3 = 3 ∧ 0x7FFFFF + 1 ≤ s.cfg.part.streamWords ∧ rb s R.smINIT_DONE = true ∧ s.sm.rmw = [] ∧ s.ecc = [] ∧
      s.sm.wait = [] ∧ rb s R.smLVT_PROT = false ∧ bits (3#36).toNat 1 0 = 3 ∧ bits (2#36).toNat 1 0 ≠ 3 ∧ busHeld s (remAddr (bp 7 31 0x7FFFFF [])) = false ∧
      ¬ rf (klab [(R.casREMOTE_EN, 0)] linkZero) R.casREMOTE_EN &&& 1 = 1 ∧ s.mw.txns = [] ∧ (bp 1 7 0 []).dest ≠ cascId s ∧ route s 0 = none := by
  unfold State.live State.reaches; decide
theorem wit_remote_banks : ∀ b, b < kroute.cfg.part.banks → bankOff kroute b = false := banks_on rfl (by decide)
/-- A response's outstanding access: a core's, a transaction's, a posted write's of a core and of a pipe. -/
theorem wit_remote_response : ∀ w ∈ [RemWho.core, .txn, .post 3 9, .post 15 9],
    let r : RemReq := ⟨127, w, 7, 3, none⟩
    let s := { kroute with cas := { kroute.cas with rem := [r] } }
    let x := { txn 0x40000000 (.read 1) 27 (.granted 0) with rem := some 127 }
    s.cas.rem = [r] ∧ r.tag = (bp 2 31 0 [1#36]).tag ∧ r.dest = (bp 2 31 0 [1#36]).src ∧ r.resp = none ∧ s.mw.txns = [] ∧
      remParts x.req.kind = 1 ∧ x.rem = some r.tag ∧ 3 < s.cores.length ∧ (bp 5 31 2 []).addr % 8 ≠ stOK := by decide
theorem wit_remote_high :
    2 ^ 30 < remAddr (bp 3 31 (2 ^ 30 - 1) [1#36, 2#36]) + (bp 3 31 (2 ^ 30 - 1) [1#36, 2#36]).words.length := by decide
theorem wit_remote_bus_off :
    let s := { kroute with up := 0x7FFFFF#23 &&& ~~~(1#23 <<< iMWY) }
    s.live iCAS ∧ s.reaches 7 3 ∧ isUp s iMWY = false := by unfold State.live State.reaches; decide
theorem wit_time :
    let s := klab [(R.casIS_UP_LINK 3, 1), (R.fcTIME_SRC, 8), (R.fcSTEP_LIMIT, 1)] linkZero
    let n := klab [(R.casIS_UP_LINK 3, 1)] linkZero
    isMaster s = false ∧ rb s (R.casIS_UP_LINK 3) = true ∧ rf s R.fcTIME_SRC = 8 ∧ rf n R.fcTIME_SRC ≠ 8 ∧ s.cas.lostAt = none ∧
      s.cas.ownLast = none ∧ s.devTime ≤ 1 * 1000000000 ∧ s.slew = 0 ∧ s.aonOn = true ∧ s.cal.src = none := by decide
/-- The cascade as `k` gives it. -/
def kst (fs : List (Field × Nat)) (k : CasSt → CasSt) : State := let s := klab fs linkZero; { s with cas := k s.cas }
theorem wit_marks :
    let m : Mark := ⟨9, 0, 4⟩
    let s := kst [] fun c => { c with marks := [m] }
    let l := { kst [] fun c => { c with lastTime := some 0, lastMark := some (m, 5) } with now := 50000000 }
    let g := kst [] fun c => { c with grid := some m, lastMark := some (m, 5) }
    let h := kst [] fun c => { c with lostAt := some 0 }
    s.cas.marks = [m] ∧ s.aonOn = true ∧ l.cas.lastTime = some 0 ∧ isMaster l = false ∧ l.cas.lostAt = none ∧ l.cas.marks = [] ∧
      0 + rf l R.casMASTER_TIMEOUT * 1000 ≤ l.now ∧ l.devTime < 9 + 5 ∧ l.cas.grid = none ∧ g.cas.grid = some m ∧ g.cas.lastMark = some (m, 5) ∧
      rb g R.casMARK_EN = true ∧ h.cas.lostAt = some 0 ∧ h.cas.hoDone = false ∧ h.cas.gridFree = false ∧
      (9 : Nat) < ({ s with devTime := 10 }).devTime ∧
      (kst [] fun c => { c with ownLast := some 9 }).cas.ownLast = some 9 ∧ m.at_ ≤ 9 ∧ h.cas.lostAt ≠ none ∧
      rb (kst [(R.casMARK_EN, 0)] fun c => { c with grid := some m }) R.casMARK_EN = false := by decide
theorem wit_shadow :
    let s := kst [(R.casSH_ROLE, 2), (R.casSH_PEER, 7), (R.pwrMODE, mSHADOW)] fun c => { c with digs := [(5, 6)], digDue := some (5, 0) }
    let p := kst [(R.casSH_ROLE, 1), (R.casSH_PEER, 7)] id
    s.live iCAS ∧ rf s R.casSH_ROLE = 2 ∧ (bp 13 31 0 []).src = rf s R.casSH_PEER ∧ kvFind s.cas.digs (5#36).toNat = some (bits (6#36).toNat 31 0) ∧
      kvFind s.cas.digs (5#36).toNat ≠ some (bits (8#36).toNat 31 0) ∧ kvFind p.cas.digs 5 = none ∧ s.cas.digDue = some (5, 0) ∧
      tookNow p = false ∧
      mode s = mSHADOW ∧ derateCause s = false ∧ isMaster s = false ∧ rf p R.casSH_ROLE = 1 ∧ rf p R.casSH_PEER = 7 ∧
      helPeer (7#36, 0#36) = rf p R.casSH_PEER ∧ mode (kst [(R.pwrMODE, mRUN)] id) = mRUN ∧
      rf (kst [(R.casMASTER_ID, 7), (R.casSH_PEER, 7)] id) R.casMASTER_ID = 7 := by unfold State.live; decide
/-- Both modules of a pair took over in one cycle, and this one has the lower number. -/
theorem wit_both_took_over :
    let s := kst [(R.casSH_ROLE, 1), (R.casSH_PEER, 7), (R.casCASC_ID, 2)] fun c => { c with tookAt := some 0 }
    tookNow s = true ∧ cascId s < rf s R.casSH_PEER ∧ rf s R.casSH_ROLE = 1 := by decide
theorem wit_master : isMaster (klab [(R.casIS_MASTER, 1)] linkZero) = true := by decide
/-- A PING for module 31, and the forward of one to module 7 under tag 127. -/
def ping : List HWord := [hw (0x91 + 2 ^ 24), 5#32, 31#32, 0#32]
def fwdTo (d : Option Nat) (p : CmdPath) : Fwd := ⟨p, ping, 127, d, 9, []⟩
theorem wit_commands :
    let s := klab [(R.hstFWD_MASK, 15)] linkZero
    let p := bp 9 31 0 (ping.map fun w => mkW w.toNat)
    let ws := p.words.map fun w => hw (bits w.toNat 31 0)
    let r := let s := s; { s with hst := { s.hst with fwds := [fwdTo (some 7) (.ring 3)] } }
    p.addr = 0 ∧ 1 ≤ p.words.length ∧ p.words.length ≤ 16 ∧ p.dest = cascId s ∧ p.src ≠ cascId s ∧ pkLen ws ≤ 12 ∧ s.live iHST ∧
      pkVer (ws.take (4 + pkLen ws)) = 1 ∧ pkMod (ws.take (4 + pkLen ws)) = cascId s ∧ (opRow (pkOp (ws.take (4 + pkLen ws)))).isSome = true ∧
      (∀ r ∈ opRow (pkOp (ws.take (4 + pkLen ws))), bit (rf s R.hstFWD_MASK) r.cls = true) ∧
      12 < pkLen [0#32, 0#32, 0#32, 16#32] ∧ monRuns s = true ∧ mode s ≠ mRECOVERY ∧ monRuns (booting s) = false ∧
      bit (rf (klab [(R.hstFWD_MASK, 0)] linkZero) R.hstFWD_MASK) 0 = false ∧ r.hst.fwds = [fwdTo (some 7) (.ring 3)] ∧ (fwdTo (some 7) (.ring 3)).replied = [] ∧
      3 < r.hst.rings.length ∧ pkMod (fwdTo (some 7) .uart).hdr ≠ 63 ∧ (fwdTo none .uart).dest = none := by unfold State.live; decide

/-! Witnesses: the host interface. -/

/-- A command packet for this module's Monitor: opcode, FLAGS, payload. -/
def pkt (op flags : Nat) (p : List Nat) : List HWord :=
  [hw (op + flags * 2 ^ 16 + 2 ^ 24), 5#32, 62#32, hw p.length] ++ p.map hw
/-- The packet `ws` has come on the UART; the module is in mode `m`, its start over, host slots, rings and sets as a reset leaves them. -/
def hlab (m : Nat) (fs : List (Field × Nat)) (ws : List HWord) : State :=
  let s := lab ([(R.pwrMODE, m), (R.smINIT_DONE, 1), (R.smLVT_PROT, 0)] ++ fs)
  { s with hst := { s.hst with mail := [⟨.uart, ws⟩] }, pwr := { s.pwr with ph := .run, startWarm := true } }
/-- The packet `ws` is ring 3's. -/
def rglab (fs : List (Field × Nat)) (ws : List HWord) : State :=
  let s := lab ([(R.smINIT_DONE, 1), (R.smLVT_PROT, 0)] ++ fs)
  { s with hst := { s.hst with rings := List.replicate 3 ringZero ++ [⟨some ws, false, []⟩] } }
theorem cmd_ready {s : State} {c : CmdSrc} {code : Nat} {ws : List HWord} (h : s.cmdHere c ws)
    (g : pkOp ws = code ∧ pkFlags ws ≤ 3 ∧ pw ws 3 ≤ 60)
    (o : (opRow code).any (fun r => decide (r.lo ≤ pkLen ws ∧ pkLen ws ≤ r.hi ∧ (r.only = 8 ∨ r.only = mode s) ∧
      (mode s = mRECOVERY → r.rcv = 1))) = true) : s.cmdReady c code ws := by
  cases e : opRow code with
  | none => rw [e] at o; cases o
  | some r => rw [e] at o; exact ⟨h, g.1, g.2.1, g.2.2, r, e, of_decide_eq_true o⟩
theorem sm_open {s : State} {a : Nat} (hp : s.cfg.part = .z1604) (hb : ∀ k ∈ List.range 8, rf s (R.smBANK_OFF k) = 0)
    (h : s.live iVEC ∧ a < s.cfg.part.streamWords ∧ rb s R.smINIT_DONE = true ∧ s.sm.rmw = [] ∧ s.ecc = [] ∧ s.sm.wait = [] ∧
      rb s R.smLVT_PROT = false) :
    s.smOpen a := ⟨h.1, h.2.1, h.2.2.1, banks_on hp hb, h.2.2.2⟩
/-- Commands with their mode and payload, one for each row and each case the statements tell apart. -/
def cmdCases : List (Nat × Nat × Nat × List Nat) :=
  [(0x01, 0, 0, []), (0x02, 0, 0, []), (0x03, 0, 0, List.replicate 59 7), (0x04, 0, 0, [0, 15, 999999999]), (0x10, 2, 0, [7]),
   (0x10, 2, 0, [2]), (0x10, 2, 0, [6]), (0x10, 5, 0, [7]), (0x24, 0, 0, [1]), (0x80, 0, 0, []), (0x81, 2, 0, [126]), (0x82, 6, 0, []),
   (0x90, 0, 0, [200]), (0x90, 0, 0, [950]), (0x90, 0, 0, [0]), (0x90, 0, 0, [199]), (0x91, 0, 0, []), (0xA0, 0, 0, [0, 0, 0]),
   (0xA0, 0, 0, [1, 4, 63]), (0xA1, 0, 0, [13, 5, 15]), (0xB0, 0, 0, [0]), (0xB0, 0, 0, [1]), (0xB1, 0, 0, []), (0xB2, 7, 0, [15]),
   (0xB3, 0, 0, []), (0xC0, 2, 1, [1, 1, 2, 3, 4, 5, 6, 7, 8]), (0xC0, 2, 0, [1, 1, 2, 3, 4, 5, 6, 7, 8]),
   (0x20, 2, 0, [3, 5]), (0x20, 2, 0, [1, 0]), (0x20, 2, 0, [9, 2 ^ 22]), (0x20, 2, 0, [4, 2 ^ 24 - 1]), (0x22, 2, 0, [3]),
   (0x23, 2, 0, [3])] ++
  [(0x30, 2, 0, [1, 0, 15, 999999999]), (0x31, 0, 0, [31]), (0x32, 0, 0, [2 ^ 32 - 1]), (0x32, 0, 0, [0x80080000]), (0x50, 0, 0, [15]),
   (0x52, 0, 0, [15]), (0x52, 0, 2, [15]), (0x53, 0, 0, [15]), (0x54, 0, 0, []), (0x60, 0, 0, [2 ^ 18, 0, 0, 0, 0]), (0x60, 0, 0, [0, 0, 0, 0, 0]), (0x60, 0, 0, [0, 2 ^ 31, 2, 2, 0]),
   (0x61, 0, 0, [2 ^ 18]), (0x61, 0, 0, [0]), (0x62, 0, 0, [0, 0, 0, 0, 0]), (0x62, 0, 0, [1, 0, 0, 2 ^ 18, 0]),
   (0x63, 0, 0, [4096, 0, 0, 0, 0, 0, 0, 0, 0]), (0x63, 0, 0, [0, 0, 0, 0, 0, 0, 0, 0, 0]), (0x70, 2, 0, [4096, 0, 0, 0, 0, 0, 0, 0, 0, 0]),
   (0x70, 2, 0, [0, 0, 0, 0, 0, 0, 0, 0, 0, 0]), (0x71, 0, 0, [0]), (0x71, 0, 0, [3]), (0x72, 0, 0, [0]), (0x72, 0, 0, [1]), (0x72, 0, 0, [2])]
theorem wit_commands_ready : ∀ e ∈ cmdCases, let ws := pkt e.1 e.2.2.1 e.2.2.2
    (hlab e.2.1 [] ws).cmdReady .mail e.1 ws := by
  intro e he
  have h : ∀ e ∈ cmdCases, let ws := pkt e.1 e.2.2.1 e.2.2.2
      let s := hlab e.2.1 [] ws
      ((s.live iHST ∧ monRuns s = true ∧ s.rstReq = [] ∧ s.hst.fwds = [] ∧ pw ws 2 < 63 ∧ s.hst.mail = [⟨.uart, ws⟩]) ∧
        (pkOp ws = e.1 ∧ pkFlags ws ≤ 3 ∧ pw ws 3 ≤ 60) ∧
        (opRow e.1).any (fun r => decide (r.lo ≤ pkLen ws ∧ pkLen ws ≤ r.hi ∧ (r.only = 8 ∨ r.only = mode s) ∧
          (mode s = mRECOVERY → r.rcv = 1))) = true) := by unfold State.live; decide +kernel
  exact cmd_ready (h e he).1 (h e he).2.1 (h e he).2.2
theorem wit_bar :
    let s := hlab 0 [] []
    let q := fun slot => busRead s 20 2 (0x20000000 + slot)
    let o := { s with up := 0x7FFFFF#23 &&& ~~~(1#23 <<< iMWY) }
    s.live iHST ∧ isUp s iMWY = true ∧ (q 0).1 = stOK ∧ (q 0x1FFFFF).1 ≠ stOK ∧ s.rstReq = [] ∧ o.live iHST ∧ isUp o iMWY = false ∧
      ({ s with hst := { s.hst with lastRd := some 0x1FFFFF } }).hst.lastRd = some 0x1FFFFF := by unfold State.live; decide
theorem wit_rings :
    let s := { rglab [(R.hstRING_EN 3, 1), (R.hstCR_PROD 3, 1), (R.hstBME, 1)] [] with hst := hstZero }
    let f := { rglab [(R.casROUTE 7, 3)] [] with hst := s.hst }
    let ws := pkt 1 0 [] ++ List.replicate 60 0#32
    let v := [hw 1] ++ List.replicate 63 0#32
    let m := [hw (1 + 2 ^ 24), 0#32, 7#32] ++ List.replicate 61 0#32
    monRuns s = true ∧ monRuns (booting s) = false ∧ (pkt 1 0 []).length = 4 + pkLen (pkt 1 0 []) ∧
      s.hst.rings.length = 4 ∧ rb s (R.hstRING_EN 3) = true ∧ (ring s 3).pkt = none ∧ rf s (R.hstCR_FETCH 3) ≠ rf s (R.hstCR_PROD 3) ∧
      rb s R.hstBME = true ∧ rb f R.hstBME = false ∧ rb f (R.hstRING_EN 3) = false ∧ ws.length = 64 ∧ v.length = 64 ∧ m.length = 64 ∧
      pkVer ws = 1 ∧ (opRow (pkOp ws)).isSome = true ∧ pkMod ws = 62 ∧ s.hst.fwds = [] ∧ pkVer v ≠ 1 ∧ pkVer m = 1 ∧
      (opRow (pkOp m)).isSome = true ∧ pkMod m < 32 ∧ pkMod m ≠ cascId s ∧ route f (pkMod m) = some 3 ∧ route s (pkMod m) = none := by
  decide
theorem wit_reply_write :
    let e (fs : List (Field × Nat)) := let s := rglab fs []
      { s with hst := { s.hst with rings := List.replicate 3 ringZero ++ [⟨some [], true, [([], true)]⟩] } }
    let s := e [(R.hstRR_LOG2 3, 8), (R.hstBME, 1), (R.hstIRQ_EN 3, 1), (R.hstVECTOR 3, 31)]
    let f := e [(R.hstRR_LOG2 3, 8), (R.hstRPROD 3, 256)]
    (ring s 3).replies = [([], true)] ∧ rf s (R.hstRPROD 3) = 0 ∧ rf s (R.hstRR_CONS 3) = 0 ∧ rf s (R.hstRR_LOG2 3) = 8 ∧
      (256 + 2 ^ 16 - rf f (R.hstRR_CONS 3)) % 2 ^ 16 = 2 ^ rf f (R.hstRR_LOG2 3) ∧ rf f (R.hstRPROD 3) = 256 ∧ rb f R.hstBME = false ∧
      rb s (R.hstIRQ_EN 3) = true ∧ ({ s with hst := { s.hst with msixMask := 0#32 } }).hst.msixMask.getLsbD (rf s (R.hstVECTOR 3)) = false ∧
      (pkt 1 0 []).length = 4 + pkLen (pkt 1 0 []) := by decide
theorem wit_checks :
    let len := pkt 1 0 [1]
    let big := pkt 3 0 (List.replicate 61 7)
    let flg := pkt 1 4 []
    let rcv := pkt 4 0 [0, 0, 0]
    let app := pkt 0x21 0 [4, 0, 8, 0]
    (∀ ws ∈ [len, big, flg, rcv, app], storeHeld (hlab 0 [] ws) .mail = false) ∧ cmdHeld (hlab 0 [] len) .mail = false ∧ cmdHeld (hlab mRECOVERY [] rcv) .mail = false ∧ cmdHeld (hlab 0 [] app) .mail = false ∧
      pkOp len = 1 ∧ (opRow 1).map (·.hi) = some 0 ∧ 60 < pkLen big ∧ 3 < pkFlags flg ∧ pkLen flg = 0 ∧
      mode (hlab mRECOVERY [] rcv) = mRECOVERY ∧ (opRow 4).map (·.rcv) = some 0 ∧ pkOp app = 0x21 ∧ bit (pl app 0) 2 = true ∧
      pkLen app < 5 ∧ pkOp app ≠ 1 := by decide
theorem wit_reports :
    let s := hlab 2 [(R.fcTIME_SRC, 15), (R.trbLOG_NEXT, 5)] []
    rf s R.fcTIME_SRC = 15 ∧ rf (lab [(R.fcTIME_SRC, 1)]) R.fcTIME_SRC ≠ 15 ∧ calState s = csIDLE ∧ s.cas.links.length = s.cfg.part.links ∧
      derateCause s = false ∧ rf s R.trbLOG_NEXT = 4 + 1 ∧ s.aonOn = true ∧ s.pwr.ph = .run ∧ s.pwr.holdAt = none ∧ coldReleasing s = false ∧
      s.hst.keys.length = 2 ∧ key s 1 = .blank ∧ isUp s iCAS = true := by decide
/-- RFC 8032's second test key and the signature of its message, each with its first octet lowest. -/
def edPub : List Nat := octets 32 5609657767448528674903586191599477543993232845525898641911799861560072421437
theorem test_ed25519_rfc8032 :
    let g := 0x92a009a9f0d4cab8720e820b5f642540a2b27b5416503f8fb3762223ebdb69da085ac1e43e15996e458f3613d0f11d8c387b2eaeb4302aeeb00d291612bb0c00
    edVerify edPub [0x72] (octets 64 g).reverse = true ∧ edVerify edPub [0x73] (octets 64 g).reverse = false := by decide +kernel
/-- A revocation of slot 1 signed with the key of slot 0, by an implementation of Ed25519 outside the model. -/
theorem wit_key_revoke :
    let h := 71953004591131715827602995282851300228901963697272606046942979040436517336889
    let g := octets 64 23634025748462457156404704766279559387514408308710413187983457039727338730958960786230377873089124489483064839190510268257055358346694073424512704796584
    let w (l : List Nat) (n : Nat) := (List.range n).map fun i => fromOctets ((l.drop (4 * i)).take 4)
    let ws := pkt 0xC1 0 ([1] ++ w edPub 8 ++ w g 16)
    let s := let s := hlab 2 [] ws; { s with hst := { s.hst with keys := [.programmed h, .blank] } }
    pkLen ws = 25 ∧ pl ws 0 < 2 ∧ s.hst.keys.length = 2 ∧ key s (1 - pl ws 0) = .programmed (fromOctets (sha256 (plBytes ws 1 8))) ∧
      edVerify (plBytes ws 1 8) (octets 8 s.cfg.serial ++ octets 4 (pl ws 0) ++ [0x52, 0x45, 0x56, 0x4B]) (plBytes ws 9 16) = true ∧
      key s 0 ≠ .blank := by decide +kernel
/-- A Monitor firmware image of the least size, in flash slot 1, signed outside the model. -/
def firmImage : List Word :=
  let body := [0x5A36C0F1A, 1, 0x3604, 0xABC, 63, 0, 56] ++ List.replicate 9 0
  let g := octets 64 343806262201946411514059072730595156031439622814252136368928631170529797374760208593343523016484485320556354883364478489604066071605185287434632543606100
  ([2 ^ 28 + 16, 0, 4257047226, 0, 0, 0, 0, 0] ++ body ++ [15 * 2 ^ 28 + 24, 1, 863111663, 0, 0, 0, 0, 0]).map mkW ++
    unpackWords 24 (fromOctets (edPub ++ g))
theorem wit_image_good :
    let x : Session := ⟨true, 1, 1, 56, 56⟩
    let s := let s := hlab 2 [] (pkt 0x22 0 [3])
      { s with hst := { s.hst with sess := [x], flash := (List.range 56).map (fun i => (2 ^ 22 + i, firmImage.getD i 0#36)),
                                   keys := [.blank, .programmed 71953004591131715827602995282851300228901963697272606046942979040436517336889] } }
    sessOf s (pkt 0x22 0 [3]) = some x ∧ x.kind = 1 ∧ s.hst.imgLen.length = 2 ∧ s.hst.flashOk.length = 2 ∧
      imgCheck s x.kind x.got x.total (imgGet s x) = 0 ∧ storeHeld s .mail = false ∧ s.ecc = [] ∧
      targetUp s 4 (imgBase s x.slot) = true := by decide +kernel
theorem wit_images :
    let x : Session := ⟨true, 1, 1, 16, 8⟩
    let put (fs : List (Field × Nat)) (l : List Session) := let s := hlab 2 fs []; { s with hst := { s.hst with sess := l } }
    let s := put [] [x]
    let c := pkt 0x21 0 ([6, 8, 8] ++ List.replicate 9 1)
    pl c 0 < 8 ∧ bit (pl c 0) 2 = true ∧ pl c 2 = 8 ∧ pkLen c = 12 ∧ x.slot = pl c 0 / 2 % 2 ∧ pl c 1 = x.got ∧ x.got + 8 ≤ x.total ∧
      sessOf s (pkt 0x22 0 [3]) = some x ∧ imgCheck s 1 8 16 (imgGet s x) ≠ 0 ∧ imgBusy s true 0 = true ∧ imgBusy s true 1 = false ∧
      imgBusy s false 1 = false ∧ imgLen s 1 = 0 ∧ (put [] []).hst.flashLen.length = 2 ∧
      (let y : Session := ⟨false, 1, 0, 16, 8⟩
       let d := { put [] [y] with up := 0x7FFFFF#23 &&& ~~~(1#23 <<< iBLK) }
       sessOf d (pkt 0x22 0 [1]) = some y ∧ storeHeld d .mail = false ∧ targetUp d 4 (imgBase d y.slot) = false ∧ pl (pkt 0x22 0 [1]) 0 < 4) := by
  decide
/-- Image slot 1 holds a Schedule Image whose one timetable, of INDEX 0, stands at its start. -/
def imlab (fs : List (Field × Nat)) : State :=
  let b := imgBase (hlab 2 [] []) 1
  let s := hlab 2 ([(R.bmINIT_DONE, 1), (⟨b, 35, 0⟩, 2 * 2 ^ 28 + 32), (⟨b + 9, 35, 0⟩, 2 ^ 16)] ++ fs) []
  { s with hst := { s.hst with imgLen := [0, 40] } }
theorem wit_calliope_commands :
    let s := imlab []
    let b := { imlab [(R.calSTATE, csPLAYING)] with cal := cal1 0 0 0 0 }
    imgLen s 1 ≠ 0 ∧ calState s = csIDLE ∧ sectsOf s 1 3 = [] ∧ imgRegs s 1 = [] ∧ s.ecc = [] ∧ calState b ≠ csIDLE ∧ imgLen (hlab 2 [] []) 1 = 0 ∧
      (imgTTs s 1).find? (fun e => decide (hdrIndex e.2 = 15)) = none ∧ unitsAbsent s 0xFFFFFFFF = false ∧ isUp s iMWY = true ∧
      s.cal.act = none ∧ (hostSwitch b 1 0).isSome = true ∧ hostSwitch s 1 0 = none ∧
      (imgTTs s 1).find? (fun e => decide (hdrIndex e.2 = 0)) ≠ none ∧ unitsAbsent { s with cfg := { s.cfg with part := .z0401 } } 0x20000 = true := by decide
theorem wit_words :
    let r := pkt 0x40 0 [0x7FFFFF, 0, 1 + 256]
    let z := pkt 0x40 0 [0, 0, 60 + 256]
    let w := pkt 0x41 0 [0x7FFFFE, 0, 1 + 5 * 256, 8, 9]
    let l := pkt 0x41 0 [0x7FFFFE, 0, 1 + 5 * 256, 8]
    let a := pkt 0x44 0 [0x7FFFFF, 0, 1, 2 ^ 32 - 1]
    let s := hlab 0 [] w
    cmdHeld (hlab 0 [] r) .mail = false ∧ cmdHeld s .mail = false ∧ pl r 1 < 16 ∧ pl r 2 < 2 ^ 13 ∧ cwConv (pl r 2) = 1 ∧
      pl2 r 0 + cwWords 1 (pl r 2 % 256) ≤ s.cfg.part.streamWords ∧ cwMax 1 59 29 52 < pl z 2 % 256 ∧ cwConv (pl w 2) = 5 ∧
      1 ≤ cwMax 5 57 28 50 ∧ pkLen w = 3 + cwHost 5 1 ∧ w.length = 4 + pkLen w ∧ pl2 w 0 + cwWords 5 1 ≤ s.cfg.part.streamWords ∧
      pkLen l ≠ 3 + cwHost 5 1 ∧ cmdHeld (hlab 0 [] l) .mail = false ∧ pl a 2 < 2 ∧ pl2 a 0 = 0x7FFFFF := by decide
theorem wit_words_open : ∀ ws, (hlab 0 [] ws).smOpen 0x7FFFFF := fun ws =>
  sm_open rfl (show ∀ k ∈ List.range 8, rf (hlab 0 [] []) (R.smBANK_OFF k) = 0 by decide)
    (show State.live (hlab 0 [] []) iVEC ∧ 0x7FFFFF < (hlab 0 [] []).cfg.part.streamWords ∧ rb (hlab 0 [] []) R.smINIT_DONE = true ∧
      (hlab 0 [] []).sm.rmw = [] ∧ (hlab 0 [] []).ecc = [] ∧ (hlab 0 [] []).sm.wait = [] ∧
      rb (hlab 0 [] []) R.smLVT_PROT = false by unfold State.live; decide)
/-- A transfer of the last word of Stream Memory for ring 3, and the module in it. -/
def xf (out : Bool) : BlockXfer := ⟨.ring 3, (pkt 0x42 0 []).take 4, out, 0x7FFFFF, 1, 1, false, false, 0x1000⟩
def xlab (fs : List (Field × Nat)) (out : Bool) : State :=
  let s := rglab fs []
  { s with hst := { s.hst with xfers := [xf out] } }
theorem wit_blocks :
    let g := pkt 0x42 0 [0, 0, 1, 256, 0, 0]
    let b := pkt 0x43 0 [0, 0, 1, 6 * 256, 0, 0]
    pkLen g = 6 ∧ pl g 1 < 16 ∧ pl g 2 < 2 ^ 24 ∧ pl g 3 % 256 = 0 ∧ cwConv (pl g 3) = 1 ∧ pl g 4 % 4 = 0 ∧ 5 < cwConv (pl b 3) ∧
      ∀ out : Bool, let s := xlab [(R.hstBME, 1)] out
        s.live iHST ∧ monRuns s = true ∧ s.rstReq = [] ∧ s.hst.fwds = [] ∧ s.hst.xfers = [xf out] ∧ 3 < s.hst.rings.length ∧
          pkMod (xf out).hdr ≠ 63 ∧ (xf out).addr + (xf out).count ≤ s.cfg.part.streamWords ∧ rb s R.hstBME = true ∧
          rb (xlab [] out) R.hstBME = false ∧ [(1#32 : HWord)].length = hostLen (xf out).conv (xf out).count := by unfold State.live; decide
theorem wit_blocks_ready :
    (rglab [] (pkt 0x42 0 [0, 0, 1, 256, 0, 0])).cmdReady (.ring 3) 0x42 (pkt 0x42 0 [0, 0, 1, 256, 0, 0]) :=
  cmd_ready (show State.live _ iHST ∧ _ from by unfold State.live; decide) (by decide) (by decide)
theorem wit_psets :
    let p (st : Nat) (runs : List PRun) (fs : List (Field × Nat)) :=
      let s := hlab 0 fs []
      { s with hst := { s.hst with psets := List.replicate 15 psetZero ++ [⟨st, runs, none, 0⟩] } }
    let a := pkt 0x51 0 [15, 0, 0, 1 + 256, 7]
    let s := p 1 [] []
    s.hst.psets.length = 16 ∧ (pset s 15).defer = none ∧ (pset s 15).st = 1 ∧ (pset (p 4 [] []) 15).st = 4 ∧ (pset (p 3 [] []) 15).st = 3 ∧
      (pset (p 0 [] []) 15).st = 0 ∧ pl a 0 < 16 ∧ pl a 2 < 16 ∧ pl a 3 < 2 ^ 13 ∧ cwConv (pl a 3) = 1 ∧ pkLen a = 4 + cwHost 1 1 ∧
      psWords s + 1 ≤ 65536 ∧ psRuns s < 4096 ∧ calState s = csIDLE ∧ calState (p 1 [] [(R.calSTATE, csPLAYING)]) ≠ csIDLE ∧
      (∀ j ∈ s.hst.psets, j.st < 8) ∧
      paramWaits s = false ∧ paramWaits { s with cas := { s.cas with rem := [⟨0, .post 20 9, 7, 3, none⟩] } } = true := by decide
theorem wit_unit_commands :
    let s := hlab 0 [(R.idnENABLE 0, 0)] []
    let m := { s with up := 0x7FFFFF#23 &&& ~~~(1#23 <<< iMWY) &&& ~~~(1#23 <<< iFLD) }
    let e : Word × Word := (mkW (7 * 4 + 1 * 2 ^ 5 + 3 * 2 ^ 17), 17#36)
    let i := 4 * clsHome s e
    let g := { s with fld := { fldZero .z1604 with cls := [(i, (mkW (e.1.toNat + 1), e.2))] } }
    isUp s iMWY = true ∧ isUp s iFLD = true ∧ isUp m iMWY = false ∧ isUp m iFLD = false ∧ qdOk s (mkW (20 * 2 ^ 29), 2#36) = true ∧ qdOk s (0#36, 0#36) = false ∧
      lvtBase s + 1 < s.cfg.part.streamWords ∧ clsLocate g e = some i ∧
      clsRangeOk s (0#36, mkW (2 ^ 18)) = false ∧ s.live iFLD ∧ rb s (R.idnVALID 0) = false ∧ rb s (R.idnENABLE 0) = false ∧
      rb (hlab 2 [(R.idnVALID 0, 1)] []) (R.idnVALID 0) = true ∧ rf s R.idnGUARD_STATE = 0 ∧
      rf (hlab 0 [(R.idnGUARD_STATE, 1)] []) R.idnGUARD_STATE = 1 ∧ calPlays (hlab 0 [(R.calSTATE, csPLAYING)] []) = true := by unfold State.live; decide +kernel
/-- Payload words after the first that are below 4. -/
theorem small_payload {ws : List HWord} (h : ∀ w ∈ ws.drop 5, w.toNat < 4) (i : Nat) (hi : 1 ≤ i) : pl ws i < 4 := by
  simp only [pl, pw, List.getD_eq_getElem?_getD]
  cases e : ws[4 + i]? with
  | none => simp
  | some w =>
    refine h w (List.mem_iff_getElem?.2 ⟨i - 1, ?_⟩)
    rw [List.getElem?_drop, ← e]; congr 1; omega
theorem wit_small_payloads : ∀ e ∈ [(0x60, [2 ^ 18, 0, 0, 0, 0]), (0x61, [2 ^ 18]), (0x63, [4096, 0, 0, 0, 0, 0, 0, 0, 0]),
    (0x70, [4096, 0, 0, 0, 0, 0, 0, 0, 0, 0]), (0x71, [0]), (0x72, [1]), (0x62, [1, 0, 0, 2, 0])],
    ∀ w ∈ (pkt e.1 0 e.2).drop 5, w.toNat < 4 := by simp [pkt, hw]

/-! Witnesses: power, resets and starts. -/

/-- The module with these power state fields, its start over. -/
def pwlab (fs : List (Field × Nat)) (p : PwrSt → PwrSt) : State :=
  let s := lab fs
  { s with pwr := p { s.pwr with ph := .run, startWarm := true } }
theorem quiet_lab {s : State} (hp : s.pipes = List.replicate 4 pipeZero) (hc : s.clusters = List.replicate 16 clZero)
    (h : s.sm.rmw = [] ∧ s.fld.hold = [] ∧ s.bm.comb = [])
    (g : s.pwr.code < 16 ∧ ∀ c ∈ s.pwr.merged, c < 16) : s.quiet :=
  ⟨h.1, h.2.1, h.2.2, fun p => by rw [pipes_idle hp]; rfl, fun n => by rw [clusters_idle hc]; exact ⟨rfl, rfl⟩, g⟩
theorem wit_power_on : ({ State.reset with aonOn := false }).aonOn = false ∧ State.reset.aonOn = true := by decide
theorem wit_release :
    let s := State.reset
    s.pwr.ph = .release ∧ rstHeld s = false ∧ rf s R.pwrSTART_FAILS < 3 ∧ mode s ≠ mRECOVERY ∧
      3 ≤ rf (wf s R.pwrSTART_FAILS 7) R.pwrSTART_FAILS := by decide
theorem wit_release_cascade :
    isUp State.reset iCAS = false ∧ isUp (lab []) iCAS = true ∧
      2 < bankFaults { State.reset with hst := { State.reset.hst with fieldRec := some [(255, 0), (255, 1), (255, 2)] } } 255 ∧
      0 < bankFaults { State.reset with hst := { State.reset.hst with fieldRec := some [(255, 0)] } } 255 := by decide
theorem wit_release_quiet : State.reset.quiet := quiet_lab rfl rfl ⟨rfl, rfl, rfl⟩ ⟨by decide, by decide⟩
theorem wit_starts :
    let s := pwlab [(R.pwrRESTARTING, 1)] fun p => { p with lockPend := 0x7FFFFF#23, rel208 := true }
    let c := pwlab [(R.pwrRESTARTING, 1), (R.pwrMODE, mRUN)] fun p => { p with startWarm := false }
    let n := pwlab [(R.pwrRESTARTING, 0), (R.pwrMODE, mTEST)] id
    s.aonOn = true ∧ s.pwr.ph = .run ∧ s.pwr.lockPend.getLsbD iRMC = true ∧ s.pwr.lockPend.getLsbD iCAS = true ∧ s.pwr.rel208 = true ∧
      s.cas.links.length = s.cfg.part.links ∧ rf s (R.casUNIT_STATE 3) = usON ∧ rb s R.pwrRESTARTING = true ∧ mode s = mBOOT ∧
      s.pwr.holdAt = none ∧ s.rstReq = [] ∧ s.pwr.startWarm = true ∧ isUp s iMWY = true ∧ mode c = mRUN ∧ c.cal.was = none ∧
      c.pwr.startWarm = false ∧ rb n R.pwrRESTARTING = false ∧ mode n = mTEST ∧ s.cores.length = s.cfg.part.cores ∧
      mode (pwlab [(R.pwrMODE, mRECOVERY)] id) = mRECOVERY ∧ s.hst.early = [] ∧ s.now ≤ s.pwr.startAt + 2000000000 ∧
      s.pwr.startAt + 2000000000 < ({ s with now := s.pwr.startAt + 2000000001 } : State).now ∧
      coldReleasing n = false ∧ coldReleasing (pwlab [(R.pwrRESTARTING, 1)] id) = false := by decide
theorem wit_monitor :
    let s := pwlab [] fun p => { p with bootDue := true }
    let k := pwlab [] fun p => { p with bootDue := true, mon := some (0, monCrc s [], []) }
    s.live iRMC ∧ s.pwr.bootDue = true ∧ s.pwr.mon = none ∧ bootLoads s 0 = none ∧ bootLoads s 1 = none ∧ s.hst.bootSel % 2 = 0 ∧
      k.pwr.mon = some (k.hst.bootSel, monCrc k [], []) := by unfold State.live; decide
theorem wit_resets :
    let s := pwlab [(R.hstPERST_MODE, 2)] id
    let w := pwlab [(R.hstPERST_MODE, 1)] id
    let q := pwlab [] fun p => { p with ph := .quiesce, coldPend := some 15, code := 15 }
    let r := { w with rstReq := [(15, false)] }
    s.aonOn = true ∧ s.pwr.ph = .run ∧ s.pwr.holdAt = none ∧ s.rstReq = [] ∧ rf s R.hstPERST_MODE = 2 ∧ s.pwr.refHold = false ∧
      coldReleasing s = false ∧ rf w R.hstPERST_MODE = 1 ∧ rf (pwlab [(R.hstPERST_MODE, 3)] id) R.hstPERST_MODE = 3 ∧
      (∀ i ∈ [iMWY, iRMC, iHST], isUp s i = true ∧ s.pwr.lockOnce.getLsbD i = false) ∧ q.pwr.ph = .quiesce ∧ q.pwr.holdAt = none ∧
      q.rstReq = [] ∧ q.pwr.coldPend = some 15 ∧ q.pwr.code < 16 ∧ r.rstReq = [(15, false)] ∧ r.bm.comb = [] ∧ isUp r iMWY = true ∧
      isUp s 22 = true ∧ s.pwr.lockOnce.getLsbD 22 = false ∧
      (pwlab [] fun p => { p with lockOnce := 0x7FFFFF#23 }).pwr.lockOnce.getLsbD 22 = true := by decide
theorem wit_warm_reset :
    let q := pwlab [] fun p => { p with ph := .quiesce }
    let h := pwlab [] fun p => { p with ph := .quiesce, pinW := true }
    let l := pwlab [] fun p => { p with ph := .warmHeld, pinW := true }
    q.pwr.coldPend = none ∧ rstHeld q = false ∧ mode q ≠ mRECOVERY ∧ rf q R.pwrSTART_FAILS < 3 ∧ h.pwr.pinW = true ∧ h.pwr.coldPend = none ∧
      l.pwr.ph = .warmHeld ∧ rstHeld { l with pwr := { l.pwr with pinW := false } } = false := by decide
theorem wit_warm_reset_quiet : (pwlab [] fun p => { p with ph := .quiesce }).quiet ∧
    (pwlab [] fun p => { p with ph := .warmHeld, pinW := true }).quiet ∧ (pwlab [] id).quiet :=
  ⟨quiet_lab rfl rfl ⟨rfl, rfl, rfl⟩ ⟨by decide, by decide⟩, quiet_lab rfl rfl ⟨rfl, rfl, rfl⟩ ⟨by decide, by decide⟩,
    quiet_lab rfl rfl ⟨rfl, rfl, rfl⟩ ⟨by decide, by decide⟩⟩
theorem wit_supply :
    let s := pwlab [(R.pwrMODE, mRUN), (R.pwrCAP_EFF, 950)] fun p => { p with overN := 9 }
    let l := pwlab [(R.pwrMODE, mDERATED), (R.pwrLOW_SUPPLY, 1)] id
    let d := pwlab [(R.pwrMODE, mDERATED), (R.pwrCAP_EFF, 950)] fun p => { p with overN := 99, underN := 999 }
    rb s R.pwrLOW_SUPPLY = false ∧ mode s = mRUN ∧ rf s R.pwrCAP_EFF * 100 < 2 ^ 17 - 1 ∧ s.pwr.overN = 9 ∧ rb l R.pwrLOW_SUPPLY = true ∧
      mode l = mDERATED ∧ rb l R.pwrTHERM_HOT = false ∧ rb l R.pwrCAP_CAUSE = false ∧ rf d R.pwrCAP_EFF * 100 < 2 ^ 17 - 1 ∧
      d.pwr.overN = 99 ∧ calState d = csIDLE ∧ 85500 ≤ rf d R.pwrCAP_EFF * 90 ∧ d.pwr.underN = 999 ∧ rb d R.pwrTHERM_HOT = false ∧
      rb d R.pwrLOW_SUPPLY = false ∧ mode (pwlab [(R.pwrMODE, mTEST)] id) = mTEST := by decide
theorem wit_heat :
    let c := { pwlab [] (fun p => { p with cool := some 0 }) with now := 1000000000 }
    800 ≤ sext 12 (879#12).toNat ∧ sext 12 (879#12).toNat < 880 ∧ 880 ≤ sext 12 (0x7FF#12).toNat ∧ sext 12 (0x800#12).toNat < 760 ∧
      c.pwr.cool = some 0 ∧ 0 + 1000000000 ≤ c.now ∧ c.pwr.thHold = false ∧
      (pwlab [] fun p => { p with thHold := true }).pwr.thHold = true ∧ c.pwr.boHold = false := by decide
theorem wit_input :
    let s := pwlab [(R.pwrHOLDUP_MS, 1)] id
    let n := pwlab [(R.pwrHOLDUP_MS, 0)] id
    let o := pwlab [] fun p => { p with noIn := true }
    let h := pwlab [(R.pwrHOLDUP_MS, 1)] fun p => { p with noIn := true, holdAt := some 0 }
    let c := pwlab [] fun p => { p with noIn := true, holdAt := some 0, held := [(15, true)] }
    rf s R.pwrHOLDUP_MS ≠ 0 ∧ rf n R.pwrHOLDUP_MS = 0 ∧ s.pwr.noIn = false ∧ s.pwr.holdAt = none ∧ o.pwr.noIn = true ∧
      o.pwr.holdAt = none ∧ o.pwr.endAt = none ∧ h.pwr.holdAt = some 0 ∧ h.pwr.held = [] ∧ c.pwr.held = [(15, true)] ∧
      (pwlab [] fun p => { p with endAt := some 0 }).pwr.endAt = some 0 := by decide
/-- No stream, or one, is ACTIVE, and no port sends. -/
theorem wit_streams : activeStreams (lab []) = [] ∧
    activeStreams (lab [(R.fpVALID 7 1023, 1), (R.fpKSTATE 7 1023, 1)]) = [(7, 1023)] ∧ ∀ p, (port (lab []) p).tx = [] := by
  refine ⟨by decide, by decide, fun p => ?_⟩
  · have e : (lab []).fld.ports = List.replicate 8 portZero := rfl
    simp only [port, e, List.getD_eq_getElem?_getD, List.getElem?_replicate]
    split <;> rfl

/-! Witnesses: trouble, GPIO, and the general statements. -/

theorem wit_trouble :
    let n : Notice := ⟨64 * 13 + 35, 63, 7#36⟩
    let s := { lab [] with noticeQ := [n] }
    let f := { s with logQ := List.replicate 32 (n, 0, 0) }
    let o := lab [(trbF 13, 2 ^ 35), (R.trbTRB_IRQ, 2 ^ 13)]
    s.aonOn = true ∧ s.noticeQ = [n] ∧ n.cause / 64 < 14 ∧ n.cause % 64 < 36 ∧ bit (rf s (trbF (n.cause / 64))) (n.cause % 64) = false ∧
      s.logQ.length < 32 ∧ 32 ≤ f.logQ.length ∧ bit (rf o (trbF (n.cause / 64))) (n.cause % 64) = true ∧ bit (rf o R.trbTRB_IRQ) 13 = true ∧
      bit (rf s (trbF 15)) 35 = false ∧ s.logQ = [] := by decide
theorem wit_log :
    let n : Notice := ⟨64 * 13 + 35, 63, 7#36⟩
    let s := { lab [(R.trbLOG_NEXT, 256)] with logQ := [(n, 5, 7)] }
    s.logQ = [(n, 5, 7)] ∧ 256 ≤ (rf s R.trbLOG_NEXT + 2 ^ 36 - rf s R.trbLOG_READ) % 2 ^ 36 := by decide
theorem wit_gpio :
    let s := lab [(R.gpPPS_OUT_EN, 1), (R.gpENC_DIFF 7, 1)]
    let m := lab [(R.gpENC_MODE 7, 1), (fbit R.gpGPIO_RISE 31, 1)]
    rb s (fbit R.gpGPIO_IN 31) = false ∧ rb s (fbit R.gpGPIO_DIR 31) = false ∧ s.gp.encAB.length = 8 ∧ s.gp.encAB.getD 7 (false, false) = (false, false) ∧
      s.cal.src = none ∧ rf s (R.gpENC_MODE 7) = 0 ∧ rf m (R.gpENC_MODE 7) = 1 ∧ rb m (fbit R.gpGPIO_RISE 31) = true ∧
      rb (lab [(fbit R.gpGPIO_IN 31, 1)]) (fbit R.gpGPIO_IN 31) = true ∧ rb s (R.gpENC_DIFF 7) = true ∧ rb s R.gpPPS_OUT_EN = true ∧ s.slew = 0 := by
  decide
theorem wit_captures :
    let s := lab []
    let f := { s with gp := { s.gp with frz := [false, true], pend := [none, some 9] } }
    s.gp.frz.length = 2 ∧ s.gp.pend.length = 2 ∧ s.gp.frz.getD 1 false = false ∧ f.gp.frz.getD 1 false = true ∧ f.gp.pend.getD 1 none = some 9 := by
  decide
theorem wit_pmbus : (true = true ∧ (255 : Nat) ≠ 3) ∧ (3 : Nat) ∉ [0x19, 0x78, 0x79, 0x7C, 0x7D, 0x88, 0x89, 0x8D, 0x8E, 0x97, 0x98, 0x99, 0x9A, 0x9B] := by
  decide
theorem wit_forced :
    let s := { lab [] with forced := 1#23 }
    s.defined = s.defined ∧ State.reset.pending = [] ∧ State.reset.forced = 0#23 ∧ s.forced.getLsbD 0 = true := by
  exact ⟨rfl, by decide⟩
theorem wit_idle : State.reset.pending = [] ∧ isUp State.reset iRMC = false ∧ ∀ n, n < 16 → isUp State.reset (iCLU n) = false := by decide
theorem wit_forced_island : ({ lab [] with forced := 1#23 <<< iVEC } : State).forced.getLsbD iVEC = true ∧ addrIsl R.pwrMODE.addr ≠ iVEC := by
  decide
theorem wit_canonical : Memory.wf State.reset.cfg.part State.reset.mem := by decide
theorem wit_probe_steps : mode (lab [(R.pwrMODE, mCONFIGURE)]) = mCONFIGURE ∧ mode (lab []) ≠ mCONFIGURE := by decide
theorem wit_conversions : fpIsSNaN fB32 (0x7F800001#32).toNat = true ∧ fpIsSNaN fB32 (0x3F800000#32).toNat = false ∧
    fpVal fB32 (0x3F800000#32).toNat = .fin false 8388608 (-23) ∧ fpVal fB32 (0xFF800000#32).toNat = .inf true ∧
    fpIsSNaN fB64 (0x7FF0000000000001) = true ∧ fpVal fB64 0xFFF0000000000000 = .inf true ∧ fpVal fB64 1 = .fin false 1 (-1074) := by
  decide
theorem wit_sign_operations :
    let f := vf 5 1 128 448 449 0 0
    let v := viDecode (viWords 8 f).1 (viWords 8 f).2.1 (viWords 8 f).2.2
    v.typ = 5 ∧ v.op = 8 ∧ 0 < 2 ^ (fF72.fw + fF72.ew + 1) := by decide

/-! ### Results worked out in the spec, one step each -/

/-- The state after a command that goes on. -/
def after (i : Instr) (s : State) : State := match exec i s with | .next t => t | _ => State.reset
/-- The dividend and divisor of Table ARI-9 with quotient, remainder and the flags DZ (bit 3) or OF (bit 2). -/
theorem test_table_ari9 : ∀ e ∈ [(7, 2, 3, 1, 0), (-7, 2, -3, -1, 0), (7, -2, -3, 1, 0), (-7, -2, 3, -1, 0), (-3, 7, 0, -3, 0),
    (-(2 ^ 35), 1, -(2 ^ 35), 0, 0), (-(2 ^ 35), -1, -(2 ^ 35), 0, 4), (5, 0, 0x7FFFFFFFF, 5, 8), (0, 0, 0x7FFFFFFFF, 0, 8),
    (-5, 0, -(2 ^ 35), -5, 8)],
    let t := after (.rmDivr 3) (rlab [] (held [BitVec.ofInt 36 e.2.1, BitVec.ofInt 36 e.1] []))
    (Machine.core t 3).ds = [BitVec.ofInt 36 e.2.2.2.1, BitVec.ofInt 36 e.2.2.1] ∧ rf t (R.rmARF 3) = e.2.2.2.2 := by decide +kernel
/-- R47: 0.5 ÷ −0.5 is −1 with no flag; −1 ÷ −1 is the most positive word with SAT. -/
theorem test_q35_quotients : qdiv35 (2 ^ 34) (-(2 ^ 34)) = (-(2 ^ 35), 0#7) ∧ qdiv35 (-(2 ^ 35)) (-(2 ^ 35)) = (2 ^ 35 - 1, 32#7) := by decide
/-- Table ARI-7: quotients of +0, the least and the largest magnitude, and infinity; flags NX 1, UF 2, OF 4, DZ 8, NV 16. -/
theorem test_table_ari7 : ∀ e ∈ [(0, 1, 0, 0), (1, 0, 0x7F8000000, 8), (1, 1, 0x3F8000000, 0), (1, 0x7F7FFFFFF, 0, 3), (0x7F7FFFFFF, 1, 0x7F8000000, 5),
    (0x7F7FFFFFF, 0x7F8000000, 0, 0), (0x7F8000000, 0, 0x7F8000000, 0)],
    fpDiv fF36 .near e.1 e.2.1 = (e.2.2.1, BitVec.ofNat 7 e.2.2.2) := by decide +kernel
/-- Table WRD-7: F36 words as binary32 with their exceptions (NX 1, UF 2, OF 4, NV 8). -/
theorem test_table_wrd7 : ∀ e ∈ [(0x3F8000000, 0x3F800000, 0), (0x3F8000008, 0x3F800000, 1), (0x3F8000018, 0x3F800002, 1), (1, 0, 3),
    (0x7F7FFFFFF, 0x7F800000, 5), (0x7FA000030, 0x7FE00003, 8)],
    convOut 4 true true [mkW e.1] = ([hw e.2.1], e.2.2) := by decide +kernel
/-- The tag of the sample of R21's example. -/
theorem test_time_tag : tagOf (1715000000 * 1000000000 + 250000000) = 109760000016000000 % 2 ^ 36 := by decide
/-- R148: the circular example, and the eight places of the bit-reversed one. -/
theorem test_pointer_updates : ptrNext 1 0x40E 3 0x400 16 = 0x401 ∧ ptrNext 1 0x401 3 0x400 16 = 0x404 ∧ ptrNext 1 0x401 (-5) 0x400 16 = 0x40C ∧
    ∀ e ∈ [(0x100, 0x104), (0x104, 0x102), (0x102, 0x106), (0x106, 0x101), (0x101, 0x105), (0x105, 0x103), (0x103, 0x107), (0x107, 0x100)],
      ptrNext 2 e.1 4 0 0 = e.2 := by decide +kernel
/-- R246: the first twelve chips with K = 11 and its default taps. -/
theorem test_chips : (List.range 12).map (fun i => chipPlus (lab [(R.idnK 0, 11)]) 0 i) = [false] ++ List.replicate 10 true ++ [false] := by
  decide +kernel
/-- R212: the first payload bytes of the example frame. -/
theorem test_payload_bytes : (pack9Bytes [0x110250102#36, 12#36]).take 5 = [0x02, 0x01, 0x25, 0x10, 0xC1] := by decide
/-- Table HCI-8: the reply to READ_WORDS of three words in PACK9. -/
theorem test_table_hci8 :
    let ws := [0x01000040#32, 0x17#32, 0x3E#32, 3#32, 0x1A000#32, 0#32, 0x303#32]
    let s := rglab [(⟨0x1A000, 35, 0⟩, 0x123456789), (⟨0x1A001, 35, 0⟩, 0xABCDEF012), (⟨0x1A002, 35, 0⟩, 0x700000000)] ws
    (ring (after (.readWords (.ring 3)) s) 3).replies =
      [([0x01000040#32, 0x17#32, 0#32, 5#32, 0#32, 0x23456789#32, 0xCDEF0121#32, 0xAB#32, 0x700#32], true)] := by decide +kernel
/-- The log entry of the trouble chapter's example: words 2 and 3, their slot, LOG_NEXT. -/
theorem test_log_entry :
    let s := { lab [(R.trbLOG_NEXT, 0x2A7)] with logQ := [(⟨64 * 4 + 5, 5, 0x003120002#36⟩, 0, 3)] }
    let t := after .logEntryWrite s
    rd t (blkBase .trb 0 + 0x129E) = 0x2A7031505#36 ∧ rd t (blkBase .trb 0 + 0x129F) = 0x003120002#36 ∧ rf t R.trbLOG_NEXT = 0x2A8 := by
  decide +kernel
/-- Table INT-4: RM1's claim takes source 155 above its running 19; RM2's, served after it, finds nothing. -/
theorem test_table_int4 :
    let s := lab [(R.rmSTOPPED 1, 0), (R.rmSTOPPED 2, 0), (R.icENABLE 155, 1), (R.icPENDING 155, 1), (R.icTARGET 155, 6), (R.icPRIO 155, 12),
      (R.icACTIVE 19, 1), (R.icRDEPTH 1, 1), (R.icSTK_SRC 1 0, 19), (R.icSTK_PRI 1 0, 4), (R.icRUNPRI 1, 4)]
    let t := after (.claim 1) s
    let u := after (.claim 2) t
    icBest s 1 = some 155 ∧ icBest s 2 = some 155 ∧ kvFind t.ic.claimed 1 = some 155 ∧ rf t (R.icRUNPRI 1) = 12 ∧ rf t (R.icSTK_SRC 1 1) = 155 ∧
      rf t (R.icSTK_PRI 1 1) = 12 ∧ kvFind u.ic.claimed 2 = some 511 ∧ rf u (R.icSPUR_CNT 2) = 1 := by decide +kernel
/-- The words of the counter example: LITW pushes the literal and goes on after it; LIT 1, in slot 2 of its word, pushes 1. -/
theorem test_literals :
    let t := after (.litw 3 0#27 0x030010100#36) (rlab [] coreZero)
    let u := after (.lit 3 1#27) (rlab [] { held [7#36] [] with pc := 2, slot := 2 })
    (Machine.core t 3).ds = [0x030010100#36] ∧ (Machine.core t 3).pc = 2 ∧ (Machine.core u 3).ds = [1#36, 7#36] ∧ (Machine.core u 3).pc = 3 := by
  decide +kernel

end Sys2Proof.Tests
end

/-! SUPPORT. What every answer of the module keeps (R2): each command passes a gate, and a gate answers a next state that keeps what the
module is and the commands still waiting. Steps and runs follow, the queue losing the command in front at each step. -/

namespace Sys2Proof.Machine

/-- The outcome `o` is a next state: the module that `s` is, with the commands `q` waiting. -/
def GoesOn (s : State) (q : List Instr) (o : Host.Outcome State Fault Refusal) : Prop :=
  ∃ t, o = .next t ∧ t.cfg = s.cfg ∧ t.pending = q

theorem GoesOn.of_next {s t : State} {q : List Instr} {o : Host.Outcome State Fault Refusal} (h : GoesOn s q o) (ht : o = .next t) :
    t.cfg = s.cfg ∧ t.pending = q := by
  obtain ⟨u, rfl, hu⟩ := h
  cases ht
  exact hu

/-! ### Gates that choose between two gates -/

theorem gateAon_goesOn (s : State) (k : State → State) : GoesOn s s.pending (gateAon s k) := ⟨_, rfl, rfl, rfl⟩

theorem goesOn_ite {s : State} {q : List Instr} {a b : Host.Outcome State Fault Refusal} (c : Prop) [Decidable c]
    (ha : GoesOn s q a) (hb : GoesOn s q b) : GoesOn s q (if c then a else b) := by
  split
  · exact ha
  · exact hb

theorem gateTick_goesOn (s : State) (k : State → State) : GoesOn s s.pending (gateTick s k) :=
  goesOn_ite _ (gateAon_goesOn _ _) (gate_next _ _ _)
theorem gatePcie_goesOn (s : State) (k : State → State) : GoesOn s s.pending (gatePcie s k) :=
  goesOn_ite _ (gateAon_goesOn _ _) (gate_next _ _ _)

/-! ### Commands, steps and runs -/

/-- A tick and a PCIe change pass one of two gates, and so does a host command whose words the bus may still hold. Every other command passes
the gate of its island or of AON power (POWER_ON, which turns that on, keeps the same): its answer is `keep s` of its effect, by definition. -/
theorem exec_goesOn (i : Instr) (s : State) : GoesOn s s.pending (exec i s) := by
  cases i with
  | timeTick | distanceTick | minSpacingEnd => exact gateTick_goesOn _ _
  | pcieLinkChange | busMasterEnableChange => exact gatePcie_goesOn _ _
  | imageChunk | imageCommit | readWords | writeWords | atomic => exact goesOn_ite _ (gate_next _ _ _) (gate_next _ _ _)
  | _ => exact ⟨_, rfl, rfl, rfl⟩

theorem idleCycle_goesOn (s : State) : GoesOn s s.pending (.next (idleCycle s)) := ⟨_, rfl, rfl, rfl⟩

/-- A step takes the command in front of the queue, where one waits (log entry 4). -/
theorem step_goesOn (s : State) : GoesOn s s.pending.tail (step s) := by
  unfold step
  split
  next c rest hq => rw [hq]; exact exec_goesOn c { s with pending := rest }
  next hq => simpa only [hq, List.tail_nil] using idleCycle_goesOn s

theorem run_succ_of_next {M : Host.Core} {s t : M.State} (h : M.step s = .next t) (k : Nat) : M.run (k + 1) s = M.run k t := by
  rw [Host.Core.run, h]

/-- A run of `k` steps takes the first `k` commands of the queue. -/
theorem run_goesOn (k : Nat) (s : State) : GoesOn s (s.pending.drop k) (Host.Core.run Sys2Proof.core k s) := by
  induction k generalizing s with
  | zero => exact ⟨s, rfl, rfl, rfl⟩
  | succ k ih =>
    obtain ⟨t, ht, hcfg, hq⟩ := step_goesOn s
    obtain ⟨u, hu, hcfg', hq'⟩ := ih t
    exact ⟨u, (run_succ_of_next ht k).trans hu, hcfg'.trans hcfg, by rw [hq', hq, List.drop_tail]⟩

/-- Settles O55: commands, steps and runs each go on, from one to the next by the queue they leave. -/
theorem runsServeTheQueueInOrder : Obligations.RunsServeTheQueueInOrder := by
  unfold Obligations.RunsServeTheQueueInOrder
  exact ⟨fun i s _ => (exec_goesOn i s).of_next, fun s _ => (step_goesOn s).of_next, fun k s _ => (run_goesOn k s).of_next⟩

end Sys2Proof.Machine

/-! SUPPORT. Widening a binary format (R25): a format with the same exponent field and `k` more fraction bits holds every value of the first,
at the pattern shifted left by `k` bits. Binary32 and F36, binary64 and F72 are two such pairs. -/

namespace Sys2Proof.Machine

/-- The format with `k` more fraction bits. -/
def Fmt.widen (f : Fmt) (k : Nat) : Fmt := ⟨f.ew, f.fw + k⟩
/-- The same value, in a format with `k` more fraction bits. -/
def FV.widen (k : Nat) : FV → FV
  | .nan s q m => .nan s q (m * 2 ^ k)
  | .inf s => .inf s
  | .fin s m e => .fin s (m * 2 ^ k) (e - k)

@[simp] theorem Fmt.widen_ew (f : Fmt) (k : Nat) : (f.widen k).ew = f.ew := rfl
@[simp] theorem Fmt.widen_fw (f : Fmt) (k : Nat) : (f.widen k).fw = f.fw + k := rfl
@[simp] theorem fmtTop_widen (f : Fmt) (k : Nat) : fmtTop (f.widen k) = fmtTop f := rfl
@[simp] theorem fmtBias_widen (f : Fmt) (k : Nat) : fmtBias (f.widen k) = fmtBias f := rfl
theorem fF36_eq_widen : fF36 = fB32.widen 4 := rfl
theorem fF72_eq_widen : fF72 = fB64.widen 8 := rfl

/-! ### Patterns and their fields -/

theorem bit_eq_testBit (n i : Nat) : bit n i = n.testBit i := by
  rw [Nat.testBit_eq_decide_div_mod_eq]; rfl

theorem bit_mul_two_pow (n k i : Nat) : bit (n * 2 ^ k) (i + k) = bit n i := by
  simp only [bit, pow_add, Nat.mul_div_mul_right _ _ (Nat.two_pow_pos k)]

/-- A bit inside the fraction field. -/
theorem bit_fpPack_of_lt {f : Fmt} {s : Bool} {e m i : Nat} (hi : i < f.fw) : bit (fpPack f s e m) i = bit m i := by
  have h := Nat.testBit_mod_two_pow (fpPack f s e m) f.fw i
  rw [fpPack, Nat.mul_add_mod_self_right, Nat.testBit_mod_two_pow] at h
  simpa [hi, bit_eq_testBit, fpPack] using h.symm

section Pack
variable {f : Fmt} {s : Bool} {e m : Nat}

theorem fpPack_mod (hm : m < 2 ^ f.fw) : fpPack f s e m % 2 ^ f.fw = m := by
  rw [fpPack, Nat.mul_add_mod_self_right, Nat.mod_eq_of_lt hm]

theorem fpPack_div (hm : m < 2 ^ f.fw) : fpPack f s e m / 2 ^ f.fw = b2n s * 2 ^ f.ew + e := by
  rw [fpPack, Nat.mul_comm, Nat.mul_add_div (Nat.two_pow_pos _), Nat.div_eq_of_lt hm, Nat.add_zero]

/-- The bit above both fields is the sign. -/
theorem bit_fpPack_sign (he : e < 2 ^ f.ew) (hm : m < 2 ^ f.fw) : bit (fpPack f s e m) (f.fw + f.ew) = s := by
  have hs : fpPack f s e m / 2 ^ (f.fw + f.ew) = b2n s := by
    rw [pow_add, ← Nat.div_div_eq_div_mul, fpPack_div hm, Nat.mul_comm, Nat.mul_add_div (Nat.two_pow_pos _),
      Nat.div_eq_of_lt he, Nat.add_zero]
  rw [bit, hs]
  cases s <;> rfl

/-- The value of a pattern, by its fields (R18). -/
theorem fpVal_fpPack (he : e < 2 ^ f.ew) (hm : m < 2 ^ f.fw) : fpVal f (fpPack f s e m) =
    if e = fmtTop f then if m = 0 then .inf s else .nan s (bit m (f.fw - 1)) m
    else if e = 0 then .fin s m (1 - (fmtBias f : Int) - f.fw)
    else .fin s (m + 2 ^ f.fw) ((e : Int) - fmtBias f - f.fw) := by
  simp only [fpVal, fpPack_mod hm, fpPack_div hm, bit_fpPack_sign he hm, Nat.mul_add_mod_self_right, Nat.mod_eq_of_lt he]

theorem fpPack_widen (k : Nat) : fpPack (f.widen k) s e (m * 2 ^ k) = fpPack f s e m * 2 ^ k := by
  simp only [fpPack, Fmt.widen_ew, Fmt.widen_fw, pow_add]; ring

end Pack

/-- A pattern of the format's width is made of its three fields. -/
theorem exists_eq_fpPack {f : Fmt} {w : Nat} (hw : w < 2 ^ (f.fw + f.ew + 1)) :
    ∃ s e m, e < 2 ^ f.ew ∧ m < 2 ^ f.fw ∧ w = fpPack f s e m := by
  refine ⟨decide (w / 2 ^ f.fw / 2 ^ f.ew = 1), w / 2 ^ f.fw % 2 ^ f.ew, w % 2 ^ f.fw, Nat.mod_lt _ (Nat.two_pow_pos _),
    Nat.mod_lt _ (Nat.two_pow_pos _), ?_⟩
  have hs : w / 2 ^ f.fw / 2 ^ f.ew < 2 := by
    rw [Nat.div_div_eq_div_mul, ← pow_add]
    exact Nat.div_lt_of_lt_mul hw
  have hb : b2n (decide (w / 2 ^ f.fw / 2 ^ f.ew = 1)) = w / 2 ^ f.fw / 2 ^ f.ew := by
    rcases Nat.le_one_iff_eq_zero_or_eq_one.1 (Nat.lt_succ_iff.1 hs) with h | h <;> rw [h] <;> rfl
  rw [fpPack, hb, Nat.div_add_mod', Nat.div_add_mod']

/-- The shifted pattern has the same value in the wider format. -/
theorem fpVal_widen {f : Fmt} {w k : Nat} (hf : 0 < f.fw) (hw : w < 2 ^ (f.fw + f.ew + 1)) :
    fpVal (f.widen k) (w * 2 ^ k) = (fpVal f w).widen k := by
  obtain ⟨s, e, m, he, hm, rfl⟩ := exists_eq_fpPack hw
  have hmk : m * 2 ^ k < 2 ^ (f.fw + k) := by
    rw [pow_add]; exact Nat.mul_lt_mul_of_pos_right hm (Nat.two_pow_pos k)
  have hq : bit (m * 2 ^ k) (f.fw + k - 1) = bit m (f.fw - 1) := by
    rw [Nat.sub_add_comm hf, bit_mul_two_pow]
  rw [← fpPack_widen, fpVal_fpPack (f := f.widen k) he hmk, fpVal_fpPack he hm]
  simp only [fmtTop_widen, fmtBias_widen, Fmt.widen_fw, hq, Nat.mul_eq_zero, (Nat.two_pow_pos k).ne', or_false]
  split_ifs
  · rfl
  · rfl
  · simp only [FV.widen, Nat.cast_add, sub_sub, add_assoc]
  · simp only [FV.widen, Nat.cast_add, sub_sub, add_assoc, pow_add, add_mul]

/-! ### Values and their patterns -/

/-- The exponent of a format's least significant bit at the least exponent (R18). -/
def fmtExpMin (f : Fmt) : Int := 1 - fmtBias f - f.fw

/-- The format has the finite value `m × 2^(d + fmtExpMin f)`, `m` taken with its leading bit; only at the least exponent may that bit be 0. -/
structure Fmt.Holds (f : Fmt) (d m : Nat) : Prop where
  lt : m < 2 ^ (f.fw + 1)
  normal : 2 ^ f.fw ≤ m ∨ d = 0
  fits : d * 2 ^ f.fw + m < fmtTop f * 2 ^ f.fw

section Value
variable {f : Fmt} {w : Nat} {s : Bool}

/-- An infinity has one pattern. -/
theorem eq_of_fpVal_inf (hw : w < 2 ^ (f.fw + f.ew + 1)) (h : fpVal f w = .inf s) : w = fpInf f s := by
  obtain ⟨s', e, m, he, hm, rfl⟩ := exists_eq_fpPack hw
  rw [fpVal_fpPack he hm] at h
  split_ifs at h with h1 h2
  cases h
  rw [h1, h2, fpInf]

/-- A NaN's pattern has the all-ones exponent field; its quiet bit is the top fraction bit. -/
theorem eq_of_fpVal_nan {q : Bool} {m : Nat} (hw : w < 2 ^ (f.fw + f.ew + 1)) (h : fpVal f w = .nan s q m) :
    w = fpPack f s (fmtTop f) m ∧ q = bit m (f.fw - 1) := by
  obtain ⟨s', e, m', he, hm, rfl⟩ := exists_eq_fpPack hw
  rw [fpVal_fpPack he hm] at h
  split_ifs at h with h1 h2
  cases h
  exact ⟨by rw [h1], rfl⟩

/-- A finite value and its pattern: the leading bit of a normal significand carries into the exponent field. -/
theorem eq_of_fpVal_fin {m : Nat} {E : Int} (hw : w < 2 ^ (f.fw + f.ew + 1)) (h : fpVal f w = .fin s m E) :
    ∃ d, f.Holds d m ∧ E = d + fmtExpMin f ∧ w = b2n s * 2 ^ (f.fw + f.ew) + (d * 2 ^ f.fw + m) := by
  obtain ⟨s', e, m', he, hm, rfl⟩ := exists_eq_fpPack hw
  have hfits (ht : e ≠ fmtTop f) : e * 2 ^ f.fw + m' < fmtTop f * 2 ^ f.fw := by
    have hlt : e + 1 ≤ fmtTop f := by unfold fmtTop at *; omega
    calc e * 2 ^ f.fw + m' < e * 2 ^ f.fw + 2 ^ f.fw := Nat.add_lt_add_left hm _
      _ = (e + 1) * 2 ^ f.fw := (Nat.succ_mul _ _).symm
      _ ≤ _ := Nat.mul_le_mul_right _ hlt
  have hpack : fpPack f s' e m' = b2n s' * 2 ^ (f.fw + f.ew) + (e * 2 ^ f.fw + m') := by
    rw [fpPack, pow_add]; ring
  rw [fpVal_fpPack he hm] at h
  split_ifs at h with h1 h2 h3
  · cases h
    subst h3
    exact ⟨0, ⟨by omega, .inr rfl, hfits h1⟩, by simp [fmtExpMin], hpack⟩
  · cases h
    obtain ⟨d, rfl⟩ := Nat.exists_eq_succ_of_ne_zero h3
    have hcarry : (d + 1) * 2 ^ f.fw + m' = d * 2 ^ f.fw + (m' + 2 ^ f.fw) := by ring
    rw [hcarry] at hfits hpack
    exact ⟨d, ⟨by omega, .inl (by omega), hfits h1⟩, by simp only [fmtExpMin]; omega, hpack⟩

end Value

/-! ### Conversion to the wider format -/

/-- The exponent at which `fpRound` places the leading bit: that of the value, or of the least normal value where that is higher. -/
theorem Fmt.Holds.leading_exponent {f : Fmt} {d m : Nat} (h : f.Holds d m) (h0 : m ≠ 0) :
    (if (d : Int) + fmtExpMin f + Nat.log2 m < 1 - fmtBias f then (1 - fmtBias f : Int) else d + fmtExpMin f + Nat.log2 m) =
      d + (1 - fmtBias f) := by
  have hlt : Nat.log2 m < f.fw + 1 := (Nat.log2_lt h0).2 h.lt
  have hle : f.fw ≤ Nat.log2 m ∨ d = 0 := h.normal.imp_left (Nat.le_log2 h0).2
  unfold fmtExpMin
  split_ifs <;> omega

/-- Rounding a value of a format to the wider one keeps it and sets no flag. -/
theorem fpRound_widen {f : Fmt} {d m : Nat} (h : f.Holds d m) (k : Nat) (rm : Rm) (s : Bool) :
    fpRound (f.widen k) rm s m (d + fmtExpMin f) = ((b2n s * 2 ^ (f.fw + f.ew) + (d * 2 ^ f.fw + m)) * 2 ^ k, 0#7) := by
  by_cases h0 : m = 0
  · have hd : d = 0 := h.normal.resolve_left (by have := Nat.two_pow_pos f.fw; omega)
    subst h0 hd
    simp only [fpRound, if_true, fpZero, fpPack, Fmt.widen_ew, Fmt.widen_fw, pow_add, Prod.mk.injEq, and_true]
    ring
  · have hsh : (d : Int) + (1 - fmtBias f) - (f.fw + k : Nat) - (d + fmtExpMin f) = -(k : Int) := by
      unfold fmtExpMin; push_cast; ring
    have hk : -(k : Int) ≤ 0 := by omega
    have hbody : d * 2 ^ (f.fw + k) + m * 2 ^ k = (d * 2 ^ f.fw + m) * 2 ^ k := by ring
    have hfits : ¬ fmtTop f * 2 ^ (f.fw + k) ≤ (d * 2 ^ f.fw + m) * 2 ^ k := by
      rw [pow_add, ← Nat.mul_assoc, Nat.not_le]
      exact Nat.mul_lt_mul_of_pos_right h.fits (Nat.two_pow_pos k)
    unfold fpRound
    rw [if_neg h0, fmtBias_widen, fmtTop_widen]
    simp only [h.leading_exponent h0, Fmt.widen_ew, Fmt.widen_fw, hsh, if_pos hk, neg_neg, Int.toNat_natCast, add_sub_cancel_right,
      hbody, if_neg hfits, Bool.and_false, Prod.mk.injEq]
    exact ⟨by ring, rfl⟩

/-- A NaN of the wider format is quieted by setting its top fraction bit. -/
theorem fpQuiet_widen {f : Fmt} {s : Bool} {e m : Nat} (k : Nat) (hf : 0 < f.fw) :
    fpQuiet (f.widen k) (fpPack f s e m * 2 ^ k) =
      if bit m (f.fw - 1) then fpPack f s e m * 2 ^ k else fpPack f s e m * 2 ^ k + 2 ^ (f.fw - 1 + k) := by
  rw [fpQuiet, Fmt.widen_fw, Nat.sub_add_comm hf, bit_mul_two_pow, bit_fpPack_of_lt (Nat.sub_one_lt hf.ne')]

/-- Conversion to the wider format shifts the pattern, and sets the quiet bit of a signalling NaN (R25, R39). -/
theorem fpConv_widen {f : Fmt} {w : Nat} (k : Nat) (rm : Rm) (hf : 0 < f.fw) (hw : w < 2 ^ (f.fw + f.ew + 1)) :
    fpConv f (f.widen k) rm w = if fpIsSNaN f w then (w * 2 ^ k + 2 ^ (f.fw - 1 + k), fNV) else (w * 2 ^ k, 0#7) := by
  cases h : fpVal f w with
  | nan s q m =>
    obtain ⟨rfl, rfl⟩ := eq_of_fpVal_nan hw h
    simp only [fpConv, fpIsSNaN, h, Fmt.widen_fw, Nat.le_add_right, if_true, Nat.add_sub_cancel_left, fmtTop_widen, fpPack_widen,
      fpQuiet_widen k hf]
    cases bit m (f.fw - 1) <;> rfl
  | inf s =>
    have hi : fpInf (f.widen k) s = w * 2 ^ k := by
      rw [eq_of_fpVal_inf hw h, fpInf, fpInf, ← fpPack_widen, Nat.zero_mul, fmtTop_widen]
    simp only [fpConv, fpIsSNaN, h, hi]
    rfl
  | fin s m E =>
    obtain ⟨d, hd, rfl, rfl⟩ := eq_of_fpVal_fin hw h
    simp only [fpConv, fpIsSNaN, h, fpRound_widen hd]
    rfl

/-! ### Inward conversions (R25) -/

theorem cvxOf_fNV : cvxOf fNV = 8 := by decide
theorem cvxOf_zero : cvxOf 0#7 = 0 := by decide

theorem convIn_f32_singleton (sg : Bool) (h : HWord) : convIn 4 sg 1 [h] =
    ([mkW (fpConv fB32 fF36 .near h.toNat).1], cvxOf (fpConv fB32 fF36 .near h.toNat).2) := by
  simp [convIn, joinCv, mkW]

theorem convIn_f64_pair (sg : Bool) (lo hi : HWord) : convIn 5 sg 2 [lo, hi] =
    (unpackWords 2 (fpConv fB64 fF72 .near (lo.toNat + 2 ^ 32 * hi.toNat)).1,
      cvxOf (fpConv fB64 fF72 .near (lo.toNat + 2 ^ 32 * hi.toNat)).2) := by
  simp [convIn, f64In]

theorem unpackWords_two (x : Nat) : unpackWords 2 x = [mkW (x % 2 ^ 36), mkW (x / 2 ^ 36)] := by
  have hlo : BitVec.ofNat 36 (x % 2 ^ 36) = BitVec.ofNat 36 x := BitVec.eq_of_toNat_eq (by simp)
  simp only [unpackWords, mkW, hlo]

/-- Settles O59: F36 and F72 are the host's two formats widened by 4 and 8 fraction bits. -/
theorem inwardFloatConversionsAreExact : Obligations.InwardFloatConversionsAreExact := by
  unfold Obligations.InwardFloatConversionsAreExact
  refine ⟨fun h sg => ?_, fun lo hi sg => ?_⟩
  · have hw : h.toNat < 2 ^ (fB32.fw + fB32.ew + 1) := h.isLt
    rw [convIn_f32_singleton, fF36_eq_widen, fpConv_widen 4 .near (by decide) hw, fpVal_widen (by decide) hw]
    refine ⟨fun hs => ?_, fun hs => ?_, fun sn m e hv => by rw [hv]; rfl, fun sn hv => by rw [hv]; rfl⟩
    · rw [hs, if_neg Bool.false_ne_true, cvxOf_zero]
    · rw [if_pos hs, cvxOf_fNV]
      rfl
  · have hw : lo.toNat + 2 ^ 32 * hi.toNat < 2 ^ (fB64.fw + fB64.ew + 1) := by
      have hlo := lo.isLt
      have hhi := hi.isLt
      simp only [fB64]
      omega
    dsimp only
    rw [convIn_f64_pair, unpackWords_two, fF72_eq_widen, fpConv_widen 8 .near (by decide) hw, fpVal_widen (by decide) hw]
    refine ⟨fun hs => ?_, fun hs => ?_, fun sn m e hv => by rw [hv]; rfl, fun sn hv => by rw [hv]; rfl⟩
    · rw [hs, if_neg Bool.false_ne_true, cvxOf_zero]
    · rw [if_pos hs, cvxOf_fNV]
      rfl

end Sys2Proof.Machine

/-! SUPPORT. Setting the sign bit (R43): it exchanges the sign field of a pattern and leaves the others. -/

namespace Sys2Proof.Machine

/-! ### Setting the sign of a pattern -/

theorem fpWithSign_lt (f : Fmt) (s : Bool) (w : Nat) : fpWithSign f s w < 2 ^ (f.fw + f.ew + 1) := by
  have hw : w % 2 ^ (f.fw + f.ew) < 2 ^ (f.fw + f.ew) := Nat.mod_lt _ (Nat.two_pow_pos _)
  have hs : b2n s ≤ 1 := by cases s <;> decide
  calc fpWithSign f s w < 1 * 2 ^ (f.fw + f.ew) + 2 ^ (f.fw + f.ew) :=
        Nat.add_lt_add_of_le_of_lt (Nat.mul_le_mul_right _ hs) hw
    _ = 2 ^ (f.fw + f.ew + 1) := by rw [pow_succ]; ring

theorem bit_fpWithSign_of_lt (f : Fmt) (s : Bool) (w : Nat) {k : Nat} (hk : k < f.fw + f.ew) :
    bit (fpWithSign f s w) k = bit w k := by
  have h : fpWithSign f s w % 2 ^ (f.fw + f.ew) = w % 2 ^ (f.fw + f.ew) := by
    rw [fpWithSign, Nat.mul_add_mod_self_right, Nat.mod_mod]
  have ht := congrArg (Nat.testBit · k) h
  simpa [bit_eq_testBit, Nat.testBit_mod_two_pow, hk] using ht

theorem bit_fpWithSign_sign (f : Fmt) (s : Bool) (w : Nat) : bit (fpWithSign f s w) (f.fw + f.ew) = s := by
  have hs : fpWithSign f s w / 2 ^ (f.fw + f.ew) = b2n s := by
    rw [fpWithSign, Nat.mul_comm, Nat.mul_add_div (Nat.two_pow_pos _), Nat.div_eq_of_lt (Nat.mod_lt _ (Nat.two_pow_pos _)), Nat.add_zero]
  rw [bit, hs]
  cases s <;> rfl

theorem fpWithSign_fpPack {f : Fmt} {e m : Nat} (s t : Bool) (he : e < 2 ^ f.ew) (hm : m < 2 ^ f.fw) :
    fpWithSign f s (fpPack f t e m) = fpPack f s e m := by
  have hlt : e * 2 ^ f.fw + m < 2 ^ (f.fw + f.ew) :=
    calc e * 2 ^ f.fw + m < (e + 1) * 2 ^ f.fw := by rw [Nat.succ_mul]; exact Nat.add_lt_add_left hm _
      _ ≤ 2 ^ f.ew * 2 ^ f.fw := Nat.mul_le_mul_right _ he
      _ = 2 ^ (f.fw + f.ew) := by rw [pow_add, Nat.mul_comm]
  have hp (b : Bool) : fpPack f b e m = b2n b * 2 ^ (f.fw + f.ew) + (e * 2 ^ f.fw + m) := by rw [fpPack, pow_add]; ring
  rw [hp t, fpWithSign, Nat.mul_add_mod_self_right, Nat.mod_eq_of_lt hlt, hp]

/-- Whether a NaN signals does not depend on its sign. -/
theorem fpIsSNaN_fpPack {f : Fmt} {e m : Nat} (s : Bool) (he : e < 2 ^ f.ew) (hm : m < 2 ^ f.fw) :
    fpIsSNaN f (fpPack f s e m) = (decide (e = fmtTop f) && decide (m ≠ 0) && !bit m (f.fw - 1)) := by
  rw [fpIsSNaN, fpVal_fpPack he hm]
  by_cases h1 : e = fmtTop f
  · by_cases h2 : m = 0 <;> simp [h1, h2]
  · rw [if_neg h1, decide_eq_false h1]
    by_cases h2 : e = 0
    · rw [if_pos h2]; rfl
    · rw [if_neg h2]; rfl

theorem fpIsSNaN_fpWithSign {f : Fmt} {w : Nat} (s : Bool) (hw : w < 2 ^ (f.fw + f.ew + 1)) :
    fpIsSNaN f (fpWithSign f s w) = fpIsSNaN f w := by
  obtain ⟨t, e, m, he, hm, rfl⟩ := exists_eq_fpPack hw
  rw [fpWithSign_fpPack s t he hm, fpIsSNaN_fpPack s he hm, fpIsSNaN_fpPack t he hm]

/-! ### The lanes of VNEG, VABS and VCPYS -/

theorem byType_float {t : Nat} (h : t = 4 ∨ t = 5) (fx : Nat → Nat → Nat → Nat → Nat × Arf) (fp : Fmt → Nat → Nat → Nat → Nat × Arf)
    (a b c : Nat) : byType t fx fp a b c = fp (if t = 4 then fF36 else fF72) a b c := by
  rcases h with rfl | rfl <;> rfl

/-- The sign a sign operation gives its result (Table VIN-3). -/
def signOpSign (op : Nat) (f : Fmt) (a b : Nat) : Bool :=
  if op = 0x004 then !fpSign f a else if op = 0x005 then false else fpSign f b

/-- A sign operation sets the sign of its first operand. -/
theorem vLane_signOp {v : VI} (ht : v.typ = 4 ∨ v.typ = 5) (ho : v.op = 0x004 ∨ v.op = 0x005 ∨ v.op = 0x008) (rm : Rm) (i a b c : Nat) :
    vLane v rm i a b c = noFl (fpWithSign (if v.typ = 4 then fF36 else fF72)
      (signOpSign v.op (if v.typ = 4 then fF36 else fF72) a b) a) := by
  rcases ho with h | h | h <;> simp only [vLane, h, byType_float ht] <;> rfl

/-- Settles O60: each sign operation exchanges the sign field alone. -/
theorem signOperationsAlterOnlyTheSignBit : Obligations.SignOperationsAlterOnlyTheSignBit := by
  unfold Obligations.SignOperationsAlterOnlyTheSignBit
  intro v rm i a b c ht f top ha ho y
  have hy : y = noFl (fpWithSign f (signOpSign v.op f a b) a) := vLane_signOp ht ho rm i a b c
  rw [hy]
  exact ⟨rfl, fpWithSign_lt f _ a, fun k hk => bit_fpWithSign_of_lt f _ a hk, bit_fpWithSign_sign f _ a, fpIsSNaN_fpWithSign _ ha⟩

end Sys2Proof.Machine

/-! SUPPORT. A Ringmaster operation in line (R263, R264): its effect on the held entries, the step to the next operation, and the counts that
follow the held entries. -/

namespace Sys2Proof.Machine

/-! ### The step to the next operation -/

@[simp] theorem modCore_mem (s : State) (n : Nat) (k : CoreSt → CoreSt) : (modCore s n k).mem = s.mem := rfl
@[simp] theorem modCore_cfg (s : State) (n : Nat) (k : CoreSt → CoreSt) : (modCore s n k).cfg = s.cfg := rfl
@[simp] theorem modCore_rstReq (s : State) (n : Nat) (k : CoreSt → CoreSt) : (modCore s n k).rstReq = s.rstReq := rfl
@[simp] theorem length_modCore_cores (s : State) (n : Nat) (k : CoreSt → CoreSt) : (modCore s n k).cores.length = s.cores.length := by
  simp [modCore]

/-- A core's own state with its place moved to the next operation in line. -/
def CoreSt.adv (c : CoreSt) : CoreSt :=
  if c.slot < 3 then { c with slot := c.slot + 1 } else { c with pc := (c.pc + 1) % 2 ^ 36 % 2 ^ 36, slot := 0, words := [] }

theorem CoreSt.adv_ds (c : CoreSt) : c.adv.ds = c.ds := by unfold adv; split <;> rfl
theorem CoreSt.adv_rs (c : CoreSt) : c.adv.rs = c.rs := by unfold adv; split <;> rfl
theorem CoreSt.adv_sb (c : CoreSt) : c.adv.sb = c.sb := by unfold adv; split <;> rfl
theorem CoreSt.adv_slot (c : CoreSt) : c.adv.slot = if c.slot < 3 then c.slot + 1 else 0 := by unfold adv; split <;> rfl
theorem CoreSt.adv_pc (c : CoreSt) : c.adv.pc = if c.slot < 3 then c.pc else (c.pc + 1) % 2 ^ 36 := by
  unfold adv; split
  · rfl
  · exact Nat.mod_mod _ _

theorem rmAdv_eq (s : State) (n : Nat) : rmAdv s n = modCore s n CoreSt.adv := by
  unfold rmAdv
  split
  next h => simp only [modCore, CoreSt.adv, if_pos h]
  next h => simp only [rmJump, rmNextWord, modCore, CoreSt.adv, if_neg h]

/-! ### The counts of held entries (R280) -/

theorem rmSync_rstReq (s : State) (n : Nat) : (rmSync s n).rstReq = s.rstReq := rfl
theorem rmSync_cfg (s : State) (n : Nat) : (rmSync s n).cfg = s.cfg := rfl
theorem rd_rmSync_ne (s : State) (n : Nat) {a : Nat} (h : a ≠ (R.rmDCNT n).addr) : rd (rmSync s n) a = rd s a :=
  (rd_wf_ne (wf s (R.rmDCNT n) _) (R.rmRCNT n) _ h).trans (rd_wf_ne s (R.rmDCNT n) _ h)
theorem core_rmSync {s : State} {n : Nat} (h : n < s.cores.length) : ∃ e, core (rmSync s n) n = { core s n with ent := e } :=
  ⟨_, core_modCore_same (s := wf (wf s _ _) _ _) h _⟩

/-! ### An operation in line -/

/-- `t` is `s` after the effect of an operation of core `n` that holds data entries `ds` and return entries `rs` then, and has changed no
word beyond those at `as`: the core has not yet gone on. -/
structure RmEffect (s t : State) (n : Nat) (ds rs : List Word) (as : List Nat) : Prop where
  core_eq : core t n = { core s n with ds := ds, rs := rs }
  cores : t.cores.length = s.cores.length
  rstReq : t.rstReq = s.rstReq
  cfg : t.cfg = s.cfg
  mem : s.sameBut t as

section Held
variable {s t : State} {n : Nat} {ds rs : List Word} {as : List Nat} (e : RmEffect s t n ds rs as)
include e

theorem RmEffect.ds_eq : (core t n).ds = ds := by rw [e.core_eq]
theorem RmEffect.rs_eq : (core t n).rs = rs := by rw [e.core_eq]

end Held

theorem State.rmReady.lt_cores {s : State} {n lim : Nat} (h : s.rmReady n lim) : n < s.cores.length := by
  obtain ⟨_, hruns, _, _, _, hlen⟩ := h
  simp only [rmRuns, Bool.and_eq_true, decide_eq_true_eq] at hruns
  obtain ⟨⟨⟨hn, _⟩, _⟩, _⟩ := hruns
  rwa [hlen]

theorem State.rmReady.rstReq_eq {s : State} {n lim : Nat} (h : s.rmReady n lim) : s.rstReq = [] := by
  obtain ⟨_, _, _, _, hrst, _⟩ := h
  exact hrst

/-- A ready core executes: the word has been fetched and the level permits the operation. -/
theorem rmSeq_ready {s t : State} {n op : Nat} {k : State → RmR State} (h : s.rmReady n 3) (hk : k s = .ok t) (ht : t.rstReq = []) :
    rmSeq n op 3 k s = .next (keep s (rmSync (rmAdv t n) n)) := by
  obtain ⟨hlive, hruns, hword, hlvl, -, -⟩ := h
  have hfetch : rmFetch s n = .ok s := if_pos hword
  rw [rmSeq, rmOp, gateRst_live hlive]
  simp only [hruns, hfetch, if_neg (Nat.not_lt.2 hlvl), hk, Bool.true_eq_false, if_false]
  rw [rstSettle_none]
  · rfl
  · exact (congrArg State.rstReq (rmAdv_eq t n)).trans ht

/-- After its effect the core goes on in line. -/
theorem RmEffect.rmNext {s t : State} {n : Nat} {ds rs : List Word} {as : List Nat} (e : RmEffect s t n ds rs as) (hn : n < s.cores.length) :
    s.rmNext (keep s (rmSync (rmAdv t n) n)) n ds rs (core s n).sb as := by
  have hn' : n < t.cores.length := e.cores ▸ hn
  obtain ⟨x, hx⟩ := core_rmSync (s := modCore t n CoreSt.adv) (n := n) (by simpa using hn')
  rw [core_modCore_same hn', e.core_eq] at hx
  have hc : core (keep s (rmSync (rmAdv t n) n)) n = _ := (congrArg (fun u => core (rmSync u n) n) (rmAdv_eq t n)).trans hx
  unfold State.rmNext
  rw [hc]
  refine ⟨CoreSt.adv_ds _, CoreSt.adv_rs _, CoreSt.adv_sb _, CoreSt.adv_slot _, CoreSt.adv_pc _, fun a ha => ?_⟩
  rw [List.mem_cons, not_or] at ha
  have hcfg : (rmSync (modCore t n CoreSt.adv) n).cfg = s.cfg := e.cfg
  rw [rmAdv_eq, rd_keep hcfg, rd_rmSync_ne _ _ ha.1]
  exact e.mem a ha.2

/-- An operation in line of a ready core, by its effect. -/
theorem rmSeq_next {s t : State} {n op : Nat} {k : State → RmR State} {ds rs : List Word} {as : List Nat} (h : s.rmReady n 3)
    (hk : k s = .ok t) (e : RmEffect s t n ds rs as) :
    ∃ u, rmSeq n op 3 k s = .next u ∧ s.rmNext u n ds rs (core s n).sb as ∧
      ∀ f : Field, f.addr ≠ (R.rmDCNT n).addr → rf u f = rf t f := by
  refine ⟨_, rmSeq_ready h hk (e.rstReq.trans h.rstReq_eq), e.rmNext h.lt_cores, fun f hf => ?_⟩
  have hrd : rd (rmSync (rmAdv t n) n) f.addr = rd t f.addr := by
    rw [rd_rmSync_ne _ _ hf, rmAdv_eq]; rfl
  rw [rf_keep (by rw [rmAdv_eq]; exact e.cfg), rf, rf, rdN, rdN, hrd]

/-! ### Held entries (R266) -/

/-- Nothing is filled where enough entries are held. -/
theorem rmNeed_held {s : State} {n k : Nat} {q : Bool} (h : k ≤ (rmHeld s n q).length) : rmNeed s n q k = .ok s := by
  cases k with
  | zero => rfl
  | succ k => exact if_pos h
/-- Nothing is spilled where an entry is free. -/
theorem rmPush_room {s : State} {n : Nat} {q : Bool} {w : Word} (h : (rmHeld s n q).length < rmCap q) :
    rmPush s n q w = .ok (rmSetHeld s n q (w :: rmHeld s n q)) := by
  rw [rmPush, if_neg (Nat.not_le.2 h)]
  rfl

section Effects
variable {s : State} {n : Nat}

theorem rmEffect_self (n : Nat) (s : State) : RmEffect s s n (core s n).ds (core s n).rs [] := ⟨rfl, rfl, rfl, rfl, fun _ _ => rfl⟩

variable (hn : n < s.cores.length)
include hn

theorem rmEffect_setHeld_data (l : List Word) : RmEffect s (rmSetHeld s n false l) n l (core s n).rs [] :=
  ⟨core_modCore_same hn _, by simp [rmSetHeld], rfl, rfl, fun _ _ => rfl⟩
theorem rmEffect_setHeld_return (l : List Word) : RmEffect s (rmSetHeld s n true l) n (core s n).ds l [] :=
  ⟨core_modCore_same hn _, by simp [rmSetHeld], rfl, rfl, fun _ _ => rfl⟩

end Effects

/-- One effect after another. -/
theorem RmEffect.trans {s t u : State} {n : Nat} {d d' q q' : List Word} {as bs : List Nat} (h : RmEffect s t n d q as)
    (h' : RmEffect t u n d' q' bs) : RmEffect s u n d' q' (as ++ bs) where
  core_eq := by rw [h'.core_eq, h.core_eq]
  cores := h'.cores.trans h.cores
  rstReq := h'.rstReq.trans h.rstReq
  cfg := h'.cfg.trans h.cfg
  mem a ha := by
    rw [List.mem_append, not_or] at ha
    exact (h'.mem a ha.2).trans (h.mem a ha.1)

theorem rmEffect_stick (s : State) (n : Nat) (f : Field) (v : Nat) :
    RmEffect s (stick s f v) n (core s n).ds (core s n).rs [f.addr] :=
  ⟨rfl, rfl, rfl, rfl, fun _ ha => rd_stick_ne s f v (by simpa using ha)⟩

theorem rf_lt (s : State) (f : Field) : rf s f < 2 ^ (f.hi + 1 - f.lo) := Nat.mod_lt _ (Nat.two_pow_pos _)
theorem rf_stick_same (s : State) (f : Field) {v : Nat} (h : f.lo ≤ f.hi) (hh : f.hi < 36) (hv : v < 2 ^ (f.hi + 1 - f.lo)) :
    rf (stick s f v) f = rf s f ||| v := by
  rw [stick, rf_wf_same s f _ h hh, Nat.mod_eq_of_lt (Nat.or_lt_two_pow (rf_lt s f) hv)]

/-- What DIV and DIVR push: the quotient, DIVR its remainder on top (Table RMC-1). -/
def rmQuotient (rem : Bool) (a b : Word) : List Word :=
  let q := idiv36 a.toInt b.toInt
  if rem then [BitVec.ofInt 36 q.2.1, BitVec.ofInt 36 q.1] else [BitVec.ofInt 36 q.1]

/-! ### Forms of operations -/

section Forms
variable {s : State} {n op : Nat} (h : s.rmReady n 3)
include h

/-- An operation in line that changes no word. -/
theorem rmSeq_held {k : State → RmR State} {t : State} {ds rs : List Word} (hk : k s = .ok t) (e : RmEffect s t n ds rs []) :
    ∃ u, rmSeq n op 3 k s = .next u ∧ s.rmNext u n ds rs (core s n).sb [] := by
  obtain ⟨u, hu, hnext, -⟩ := rmSeq_next (op := op) h hk e
  exact ⟨u, hu, hnext⟩

theorem rmStack_next {k : Nat} {f : List Word → List Word} {top ds : List Word} (hk : k ≤ (core s n).ds.length)
    (hf : f (core s n).ds = top) (hd : (core s n).ds.drop k = ds) :
    ∃ u, rmStack n op k f s = .next u ∧ s.rmNext u n (top ++ ds) (core s n).rs (core s n).sb [] := by
  subst hf hd
  refine rmSeq_held h ?_ (rmEffect_setHeld_data h.lt_cores _)
  rw [rmNeed_held hk]
  rfl

theorem rmBin_next {f : Word → Word → Word} {a b : Word} {r : List Word} (hd : (core s n).ds = b :: a :: r) :
    ∃ u, rmBin n op f s = .next u ∧ s.rmNext u n (f a b :: r) (core s n).rs (core s n).sb [] :=
  rmStack_next h (top := [f a b]) (by simp [hd]) (by rw [hd]) (by rw [hd]; rfl)

theorem rmUn_next {f : Word → Word} {a : Word} {r : List Word} (hd : (core s n).ds = a :: r) :
    ∃ u, rmUn n op f s = .next u ∧ s.rmNext u n ([f a] ++ r) (core s n).rs (core s n).sb [] :=
  rmStack_next h (by simp [hd]) (by rw [hd]) (by rw [hd]; rfl)

/-- An operation that pushes onto the data stack a word it finds below the top `k` entries of a stack. -/
theorem rmPushed_next {k : Nat} {q : Bool} {w : State → Word} (hk : k ≤ (rmHeld s n q).length) (hroom : (core s n).ds.length < 16) :
    ∃ u, rmSeq n op 3 (fun s => (rmNeed s n q k).bind fun s => rmPush s n false (w s)) s = .next u ∧
      s.rmNext u n (w s :: (core s n).ds) (core s n).rs (core s n).sb [] := by
  refine rmSeq_held h ?_ (rmEffect_setHeld_data h.lt_cores _)
  rw [rmNeed_held hk]
  exact rmPush_room (q := false) hroom

/-- DIV and DIVR: the two top entries are replaced, the flags join ARF (R46). -/
theorem rmDivide_next {rem : Bool} {a b : Word} {r : List Word} (hd : (core s n).ds = b :: a :: r) :
    ∃ u, rmDivide n op rem s = .next u ∧ s.rmNext u n (rmQuotient rem a b ++ r) (core s n).rs (core s n).sb [(R.rmARF n).addr] ∧
      rf u (R.rmARF n) = rf s (R.rmARF n) ||| (idiv36 a.toInt b.toInt).2.2.toNat := by
  have ha : rmTop s n 1 = a := by rw [rmTop, hd]; rfl
  have hb : rmTop s n 0 = b := by rw [rmTop, hd]; rfl
  have e : RmEffect s (stick (rmPut s n 2 (rmQuotient rem a b)) (R.rmARF n) (idiv36 a.toInt b.toInt).2.2.toNat) n
      (rmQuotient rem a b ++ r) (core s n).rs [(R.rmARF n).addr] := by
    have hput := rmEffect_setHeld_data h.lt_cores (rmQuotient rem a b ++ r)
    have hstick := rmEffect_stick (rmSetHeld s n false (rmQuotient rem a b ++ r)) n (R.rmARF n) (idiv36 a.toInt b.toInt).2.2.toNat
    rw [hput.core_eq] at hstick
    rw [rmPut, hd]
    exact hput.trans hstick
  refine (rmSeq_next h ?_ e).imp fun u ⟨hu, hnext, hrf⟩ => ⟨hu, hnext, (hrf _ (by simp [R.rmARF, R.rmDCNT])).trans ?_⟩
  · rw [rmNeed_held (by simp [rmHeld, hd])]
    simp only [Except.map, ha, hb]
    rfl
  · exact rf_stick_same _ (R.rmARF n) (Nat.zero_le _) (by decide : 6 < 36) (BitVec.isLt _)

end Forms

/-! ### Products and truth values -/

theorem rmProd_eq_ofInt (a b : Word) : rmProd a b = BitVec.ofInt 72 (a.toInt * b.toInt) := by
  rw [rmProd, BitVec.signExtend, BitVec.signExtend, BitVec.ofInt_mul]
theorem rmProd_low (a b : Word) : (rmProd a b).setWidth 36 = BitVec.ofInt 36 (a.toInt * b.toInt) := by
  rw [rmProd_eq_ofInt]
  refine BitVec.eq_of_toNat_eq ?_
  simp only [BitVec.toNat_setWidth, BitVec.toNat_ofInt]
  omega
theorem rmProd_high (a b : Word) : ((rmProd a b) >>> 36).setWidth 36 = BitVec.ofInt 36 (a.toInt * b.toInt / 2 ^ 36) := by
  rw [rmProd_eq_ofInt]
  refine BitVec.eq_of_toNat_eq ?_
  simp only [BitVec.toNat_setWidth, BitVec.toNat_ushiftRight, BitVec.toNat_ofInt, Nat.shiftRight_eq_div_pow]
  omega

theorem rmBool_decide (p : Prop) [Decidable p] : rmBool (decide p) = if p then BitVec.allOnes 36 else 0#36 := by
  simp [rmBool]

/-! ### The operations -/

section Arms
variable (n : Nat) (s : State)

theorem exec_dup : exec (.dup n) s = execDup n s := rfl
theorem exec_drop : exec (.drop n) s = execDrop n s := rfl
theorem exec_swap : exec (.swap n) s = execSwap n s := rfl
theorem exec_rmOver : exec (.rmOver n) s = execOver n s := rfl
theorem exec_rot : exec (.rot n) s = execRot n s := rfl
theorem exec_nip : exec (.nip n) s = execNip n s := rfl
theorem exec_pick : exec (.pick n) s = execPick n s := rfl
theorem exec_tor : exec (.tor n) s = execTor n s := rfl
theorem exec_fromr : exec (.fromr n) s = execFromr n s := rfl
theorem exec_rfetch : exec (.rfetch n) s = execRfetch n s := rfl
theorem exec_rmMuld : exec (.rmMuld n) s = execRmMuld n s := rfl

end Arms

section Operations
variable {s : State} {n : Nat} (h : s.rmReady n 3)
include h

/-- The operations of two operands and one result (Table RMC-1). -/
theorem rmBinary_results {a b : Word} {r : List Word} (hd : (core s n).ds = b :: a :: r) :
    ∀ e ∈ [(Instr.rmAdd n, a + b), (.rmSub n, a - b), (.rmAnd n, a &&& b), (.rmOr n, a ||| b), (.rmXor n, a ^^^ b),
          (.rmShl n, a <<< min 36 (b.toNat % 64)), (.rmShra n, a.sshiftRight (min 36 (b.toNat % 64))),
          (.rmShrl n, a >>> min 36 (b.toNat % 64)), (.eq n, if a = b then BitVec.allOnes 36 else 0#36),
          (.lt n, if a.toInt < b.toInt then BitVec.allOnes 36 else 0#36),
          (.ltu n, if a.toNat < b.toNat then BitVec.allOnes 36 else 0#36), (.rmMul n, BitVec.ofInt 36 (a.toInt * b.toInt)), (.nip n, b)],
        ∃ t, exec e.1 s = .next t ∧ s.rmNext t n (e.2 :: r) (core s n).rs (core s n).sb [] := by
  simp only [← rmBool_decide, ← rmProd_low, List.forall_mem_cons, exec_nip]
  exact ⟨rmBin_next h hd, rmBin_next h hd, rmBin_next h hd, rmBin_next h hd, rmBin_next h hd, rmBin_next h hd, rmBin_next h hd,
    rmBin_next h hd, rmBin_next h hd, rmBin_next h hd, rmBin_next h hd, rmBin_next h hd,
    rmStack_next h (top := [b]) (by simp [hd]) (by rw [hd]) (by rw [hd]; rfl), List.forall_mem_nil _⟩

/-- The operations of one operand, and DROP, which leaves none. -/
theorem rmUnary_results {a : Word} {r : List Word} (hd : (core s n).ds = a :: r) :
    ∀ e ∈ [(Instr.rmNot n, [~~~a]), (.rmNeg n, [-a]), (.eqz n, [if a = 0#36 then BitVec.allOnes 36 else 0#36]), (.drop n, [])],
        ∃ t, exec e.1 s = .next t ∧ s.rmNext t n (e.2 ++ r) (core s n).rs (core s n).sb [] := by
  simp only [← rmBool_decide, List.forall_mem_cons, exec_drop]
  exact ⟨rmUn_next h hd, rmUn_next h hd, rmUn_next h hd, rmStack_next h (top := []) (by simp [hd]) rfl (by rw [hd]; rfl),
    List.forall_mem_nil _⟩

/-- PICK replaces the top by the entry it counts to. -/
theorem rmPick_next {a : Word} {r : List Word} (hd : (core s n).ds = a :: r) (hcount : a.toNat < 16) (hheld : a.toNat < (core s n).ds.length) :
    ∃ t, exec (.pick n) s = .next t ∧ s.rmNext t n ((core s n).ds.getD a.toNat 0#36 :: r) (core s n).rs (core s n).sb [] := by
  rw [exec_pick]
  refine rmSeq_held h ?_ (rmEffect_setHeld_data h.lt_cores _)
  have htop : rmTop s n 0 = a := by rw [rmTop, hd]; rfl
  have hput : rmPut s n 1 [rmTop s n a.toNat] = rmSetHeld s n false ((core s n).ds.getD a.toNat 0#36 :: r) := by
    simp only [rmPut, rmTop, hd, List.drop_succ_cons, List.drop_zero, List.singleton_append]
  rw [rmNeed_held (k := 1) (by simp [rmHeld, hd])]
  simp only [htop, bind, Except.bind, pure, Except.pure, if_neg (Nat.not_lt.2 (Nat.le_of_lt_succ hcount)),
    rmNeed_held (q := false) (Nat.succ_le_of_lt hheld), hput]

/-- TOR moves the top data entry onto the return stack. -/
theorem rmTor_next {a : Word} {r : List Word} (hd : (core s n).ds = a :: r) (hroom : (core s n).rs.length < 8) :
    ∃ t, exec (.tor n) s = .next t ∧ s.rmNext t n r (a :: (core s n).rs) (core s n).sb [] := by
  rw [exec_tor]
  have hput : RmEffect s (rmPut s n 1 []) n r (core s n).rs [] := by
    rw [rmPut, hd]; exact rmEffect_setHeld_data h.lt_cores r
  have hrs : rmHeld (rmPut s n 1 []) n true = (core s n).rs := hput.rs_eq
  have hpush := rmEffect_setHeld_return (hput.cores ▸ h.lt_cores) (a :: (core s n).rs)
  rw [hput.core_eq] at hpush
  refine rmSeq_held h ?_ (hput.trans hpush)
  rw [rmNeed_held (k := 1) (by simp [rmHeld, hd]), Except.bind, rmPush_room (by rw [hrs]; exact hroom), hrs, rmTop, hd]
  rfl

/-- FROMR moves the top return entry onto the data stack. -/
theorem rmFromr_next {a : Word} {r : List Word} (hd : (core s n).rs = a :: r) (hroom : (core s n).ds.length < 16) :
    ∃ t, exec (.fromr n) s = .next t ∧ s.rmNext t n (a :: (core s n).ds) r (core s n).sb [] := by
  rw [exec_fromr]
  have hpop := rmEffect_setHeld_return h.lt_cores r
  have hds : rmHeld (rmSetHeld s n true r) n false = (core s n).ds := hpop.ds_eq
  have hpush := rmEffect_setHeld_data (hpop.cores ▸ h.lt_cores) (a :: (core s n).ds)
  rw [hpop.core_eq] at hpush
  refine rmSeq_held h ?_ (hpop.trans hpush)
  rw [rmNeed_held (k := 1) (by simp [rmHeld, hd]), Except.bind, hd, List.drop_succ_cons, List.drop_zero,
    rmPush_room (by rw [hds]; exact hroom), hds]
  rfl

end Operations

/-- Settles O31: each operation is one of the forms above. -/
theorem rmStackAndArithmetic : Obligations.RmStackAndArithmetic := by
  unfold Obligations.RmStackAndArithmetic
  intro s n h
  dsimp only
  refine ⟨rmSeq_held h rfl (rmEffect_self n s), fun a b r hd => ⟨rmBinary_results h hd, ?_, ?_, ⟨rmDivide_next h hd, rmDivide_next h hd⟩, ?_, ?_⟩,
    fun a r hd => ⟨rmUnary_results h hd, ?_, rmPick_next h hd, rmTor_next h hd⟩, fun a r hd hroom => ⟨rmFromr_next h hd hroom, ?_⟩⟩
  · rw [exec_rmMuld, ← rmProd_low, ← rmProd_high]
    exact rmStack_next h (k := 2) (top := [_, _]) (by simp [hd]) (by rw [hd]) (by rw [hd]; rfl)
  · rw [exec_swap]
    exact rmStack_next h (k := 2) (top := [a, b]) (by simp [hd]) (by rw [hd]) (by rw [hd]; rfl)
  · intro hroom
    have hover : rmTop s n 1 = a := by rw [rmTop, hd]; rfl
    rw [exec_rmOver, ← hd, ← hover]
    exact rmPushed_next h (k := 2) (q := false) (by simp [rmHeld, hd]) hroom
  · intro z q hr
    rw [exec_rot]
    exact rmStack_next h (k := 3) (top := [z, b, a]) (by simp [hd, hr]) (by rw [hd, hr]) (by rw [hd, hr]; rfl)
  · intro hroom
    have htop : rmTop s n 0 = a := by rw [rmTop, hd]; rfl
    rw [exec_dup, ← hd, ← htop]
    exact rmPushed_next h (k := 1) (q := false) (by simp [rmHeld, hd]) hroom
  · have hhead : (core s n).rs.headD 0#36 = a := by rw [hd]; rfl
    rw [exec_rfetch, ← hhead]
    exact rmPushed_next h (k := 1) (q := true) (by simp [rmHeld, hd]) hroom

end Sys2Proof.Machine

/-! SUPPORT. A bundle of one operation, issued by a ready cluster (R134 to R143): nothing lands in its cycle, the operation's results and stores
are put in flight, and the next word's bundle follows in the next cycle. -/

namespace Sys2Proof.Machine

/-! ### A cluster's own state -/

@[simp] theorem rf_modCl (s : State) (n : Nat) (k : ClusterSt → ClusterSt) (f : Field) : rf (modCl s n k) f = rf s f := rfl
@[simp] theorem modCl_ecc (s : State) (n : Nat) (k : ClusterSt → ClusterSt) : (modCl s n k).ecc = s.ecc := rfl
@[simp] theorem runState_modCl (s : State) (n m : Nat) (k : ClusterSt → ClusterSt) : runState (modCl s n k) m = runState s m := rfl
@[simp] theorem length_modCl_clusters (s : State) (n : Nat) (k : ClusterSt → ClusterSt) :
    (modCl s n k).clusters.length = s.clusters.length := by simp [modCl, setCl]

theorem modCl_congr {s : State} {n : Nat} {k k' : ClusterSt → ClusterSt} (hk : k (cl s n) = k' (cl s n)) : modCl s n k = modCl s n k' := by
  rw [modCl, modCl, hk]

section Clusters
variable {s : State} {n : Nat} (hn : n < s.clusters.length)
include hn

theorem modCl_modCl (k k' : ClusterSt → ClusterSt) : modCl (modCl s n k) n k' = modCl s n (k' ∘ k) := by
  have hcl : cl (modCl s n k) n = k (cl s n) := cl_modCl_same hn k
  rw [modCl, hcl]
  simp [modCl, setCl]

theorem modCl_self {k : ClusterSt → ClusterSt} (hk : k (cl s n) = cl s n) : modCl s n k = s := by
  rw [modCl, hk, setCl, cl, List.getD_eq_getElem _ _ hn, List.set_getElem_self]

/-- Nothing in flight: nothing lands. -/
theorem clLand_nothing {upTo : Nat} (hf : (cl s n).fly = []) (hs : (cl s n).stores = []) :
    clLand s n upTo = modCl s n fun c => { c with shOld := [] } := by
  have hres : clLandResults s n upTo = s := by
    have hk : modCl s n (fun c => { c with fly := c.fly.filter (fun f => decide (upTo < f.land)) }) = s :=
      modCl_self hn (by simp only [hf, List.filter_nil]; rw [← hf])
    simp only [clLandResults, hf, hk, List.filter_nil]
    rfl
  rw [clLand, hres, clLandStores]
  simp only [hs, List.filter_nil, List.map_nil, List.foldl_nil]
  simp only [modCl, hs, List.filter_nil]

theorem winRetry_nothing (h : (cl s n).retry = []) : winRetry s n = s := by
  have hk : modCl s n (fun c => { c with retry := [] }) = s := modCl_self hn (by simp only [← h])
  rw [winRetry, h, hk]
  rfl

end Clusters

/-! ### One operation -/

/-- Cluster `c` after the bundle of one operation of a slot, with effect `o`, has been issued in its cycle. -/
def ClusterSt.issued (slot : Nat) (o : ClOut) (c : ClusterSt) : ClusterSt :=
  { c with
    bun := [], touch := [], shOld := [], iss := c.cyc, cyc := c.cyc + 1
    fly := o.res.map (fun r => ⟨r.dst, r.val, r.fl, c.cyc + r.lat, c.cyc, slot, none⟩)
    stores := o.st.map (fun q => ⟨q.1, q.2, c.cyc + 3⟩)
    divFree := if o.div = 0 then c.divFree else c.cyc + o.div }

/-- The state in which the operation of a bundle of one reads its sources: what was begun is forgotten. -/
def clAlone (s : State) (n : Nat) : State := modCl s n fun c => { c with bun := [], touch := [], shOld := [] }

/-- An effect without sequencing, memory access or memory error. -/
structure ClOut.Plain (o : ClOut) : Prop where
  ctl : o.ctl = .none
  touch : o.touch = []
  ce : o.ce = []
  ue : ∀ r ∈ o.res, r.ue = false

/-- No operation sees what its cluster has begun. -/
theorem clOp_modCl (l : Nat) (s : State) (m : Nat) (k : ClusterSt → ClusterSt) (n c u body : Nat) :
    clOp l ⟨modCl s m k, n, c, u, body⟩ = clOp l ⟨s, n, c, u, body⟩ := rfl

/-- An operation that is legal, whose condition holds and whose divider is free has its effect. -/
theorem bundleEff_one {s : State} {n : Nat} {w : Word} {o : ClOut}
    (hop : clOp (cl s n).ltgt ⟨s, n, (cl s n).cyc, opUnit w, opBody w⟩ = some (true, .ok o)) (hcond : clCond s n (opCond w) = true)
    (hdiv : (cl s n).divFree ≤ (cl s n).cyc) : bundleEff s n [w] = .inr [(opUnit w, o)] := by
  have hfree : ¬(usesDivider (opUnit w) (ClIn.f ⟨s, n, (cl s n).cyc, opUnit w, opBody w⟩ 27 22) = true ∧ (cl s n).cyc < (cl s n).divFree) :=
    fun h => Nat.not_lt.2 hdiv h.2
  simp only [bundleEff, hop, hcond, Bool.not_true, Bool.false_eq_true, if_false, if_neg hfree]

theorem bundleCtl_one {slot : Nat} {o : ClOut} (h : o.ctl = .none) : bundleCtl [(slot, o)] = .none := by
  by_cases hs : slot = 6 <;> simp [bundleCtl, hs, h]

/-- Cluster `c` with an operation's results and stores put in flight. -/
def ClusterSt.launched (slot : Nat) (o : ClOut) (c : ClusterSt) : ClusterSt :=
  { c with
    fly := c.fly ++ o.res.map (fun r => ⟨r.dst, r.val, r.fl, c.cyc + r.lat, c.cyc, slot, none⟩)
    stores := c.stores ++ o.st.map (fun q => ⟨q.1, q.2, c.cyc + 3⟩)
    divFree := if o.div = 0 then c.divFree else c.cyc + o.div }

theorem clLaunch_plain {s : State} {n pc slot : Nat} {o : ClOut} (h : o.Plain) :
    clLaunch n pc s (slot, o) = modCl s n (ClusterSt.launched slot o) := by
  have hmap (c : ClusterSt) : o.res.map (fun r => (⟨r.dst, r.val, r.fl, c.cyc + r.lat, c.cyc, slot, if r.ue then some pc else none⟩ : ClFly)) =
      o.res.map (fun r => ⟨r.dst, r.val, r.fl, c.cyc + r.lat, c.cyc, slot, none⟩) :=
    List.map_congr_left fun r hr => by rw [h.ue r hr]; rfl
  simp only [clLaunch, h.ce, h.touch, clOwnCheck, List.foldl_nil, List.any_nil, Bool.false_eq_true, if_false, List.append_nil, hmap]
  rfl

/-- Outside loops the next bundle is the next in line. -/
theorem clSequence_none {s : State} {n pc len : Nat} (h : (cl s n).levels = []) : clSequence s n pc len .none =
    wf (modCl s n fun c => { c with cyc := c.cyc + 1 }) (R.scPC n) ((pc + len) % 2 ^ 16) := by
  simp only [clSequence, h]
  rfl

section Issue
variable {s : State} {n : Nat} {w : Word} {o : ClOut} (hr : s.clReady n) (hend : opEnd w = true)
  (hop : clOp (cl s n).ltgt ⟨s, n, (cl s n).cyc, opUnit w, opBody w⟩ = some (true, .ok o))
  (hcond : clCond s n (opCond w) = true) (hp : o.Plain)
include hr hend hop hcond hp

/-- The cycle of the bundle. -/
theorem clCycle_one : clCycle s n [w] =
    wf (modCl s n (ClusterSt.issued (opUnit w) o)) (R.scPC n) ((rf s (R.scPC n) + 1) % 2 ^ 16) := by
  obtain ⟨-, hn, hlen, hrun, hecc, hfly, hst, hlev, hdue, -, -, hdiv⟩ := hr
  rw [← hlen] at hn
  have hbegun := cl_modCl_same hn fun c => { c with bun := [], touch := [] }
  have hland : clLand (modCl s n fun c => { c with bun := [], touch := [] }) n (cl s n).cyc = clAlone s n := by
    rw [clLand_nothing (by simpa using hn) (by rw [hbegun]; exact hfly) (by rw [hbegun]; exact hst), modCl_modCl hn]
    rfl
  have halone : cl (clAlone s n) n = _ := cl_modCl_same hn _
  have heff : bundleEff (clAlone s n) n [w] = .inr [(opUnit w, o)] :=
    bundleEff_one (by rw [halone]; exact hop) hcond (by rw [halone]; exact hdiv)
  have hshape : ¬((!bundleShape [w]) = true ∨ 2 ^ 16 < rf (clAlone s n) (R.scPC n) + [w].length ∨ 8 < [w].length) := by
    have hpc : rf s (R.scPC n) < 2 ^ 16 := Nat.mod_lt _ (Nat.two_pow_pos 16)
    have hpc' : rf (clAlone s n) (R.scPC n) = rf s (R.scPC n) := rfl
    simp [bundleShape, hend]
    omega
  have hecc' : (clAlone s n).ecc = [] := hecc
  have hrun' : runState (clAlone s n) n = rsRUNNING := hrun
  have hloop : clLoopEnd s n = s := by simp only [clLoopEnd, hdue]
  have hgood (a : Nat) : kvFind ([] : List (Nat × EccErr)) a = none := rfl
  have hlev' : (cl (modCl (modCl (clAlone s n) n fun c => { c with iss := c.cyc }) n (ClusterSt.launched (opUnit w) o)) n).levels = [] := by
    rw [clAlone, modCl_modCl hn, modCl_modCl hn, cl_modCl_same hn]
    exact hlev
  unfold clCycle
  simp only [hloop, hland, hrun', if_neg hshape, hecc', hgood, heff, bundleCtl_one hp.ctl, loopFault, clLaunch_plain hp, ne_eq,
    not_true_eq_false, if_false, reduceCtorEq, decide_false, List.any_eq_true, and_false, exists_false, Bool.false_eq_true, Option.isSome_none, List.filter_false,
    List.foldl_nil, List.foldl_cons, clSequence_none hlev']
  rw [clAlone, modCl_modCl hn, modCl_modCl hn, modCl_modCl hn,
    modCl_congr (k' := ClusterSt.issued (opUnit w) o) (by simp [ClusterSt.issued, ClusterSt.launched, hfly, hst])]
  rfl

/-- The bundle issues with its only word, and no window access is to be retried. -/
theorem clIssue_one : clIssue n w s = wf (modCl s n (ClusterSt.issued (opUnit w) o)) (R.scPC n) ((rf s (R.scPC n) + 1) % 2 ^ 16) := by
  have hcycle := clCycle_one hr hend hop hcond hp
  obtain ⟨-, hn, hlen, hrun, -, -, -, -, -, hbun, hretry, -⟩ := hr
  rw [← hlen] at hn
  have hb : clIssue n w s = clBundle s n [w] := by simp [clIssue, hrun, hbun, hend]
  have hretry' : (cl (clCycle s n [w]) n).retry = [] := by
    rw [hcycle]
    exact (congrArg ClusterSt.retry (cl_modCl_same hn _)).trans hretry
  have hlen' : n < (clCycle s n [w]).clusters.length := by rw [hcycle]; simpa using hn
  rw [hb, clBundle, winRetry_nothing hlen' hretry', hcycle]

/-- What a bundle of one operation leaves. -/
theorem oneOp_clIssue : s.oneOp (clIssue n w s) n ((cl s n).issued (opUnit w) o).fly ((cl s n).issued (opUnit w) o).stores ∧
    (cl (clIssue n w s) n).divFree = if o.div = 0 then (cl s n).divFree else (cl s n).cyc + o.div := by
  have hissue := clIssue_one hr hend hop hcond hp
  obtain ⟨-, hn, hlen, hrun, -⟩ := hr
  rw [← hlen] at hn
  have hcl : cl (clIssue n w s) n = (cl s n).issued (opUnit w) o := by rw [hissue]; exact cl_modCl_same hn _
  unfold State.oneOp
  rw [hcl]
  refine ⟨⟨rfl, rfl, rfl, ?_, ?_, fun a ha => ?_⟩, rfl⟩
  · rw [hissue, rf_wf_same _ (R.scPC n) _ (Nat.zero_le _) (by decide : 15 < 36)]
    exact Nat.mod_mod _ _
  · rw [hissue, runState, rf_wf_ne _ _ _ _ (by simp [R.scRUN_STATE, R.scPC])]
    exact hrun
  · rw [hissue, rd_wf_ne _ _ _ ha]
    rfl

end Issue

end Sys2Proof.Machine

/-! SUPPORT. The special unit of a signal cluster (Table COP-6): its operation codes and the results its operations put in flight. -/

namespace Sys2Proof.Machine

/-! ### Operation words (Table CLU-2) -/

section OpWord
variable (h : OpHead) {u body : Nat}

theorem toNat_opWord : (opWord h u body).toNat = b2n h.last * 2 ^ 35 + u % 8 * 2 ^ 32 + h.cond.toNat * 2 ^ 28 + body % 2 ^ 28 := by
  have hl : b2n h.last ≤ 1 := by cases h.last <;> decide
  have hc := h.cond.isLt
  rw [opWord, mkW, BitVec.toNat_ofNat]
  omega

theorem opEnd_opWord : opEnd (opWord h u body) = h.last := by
  have hc := h.cond.isLt
  rw [opEnd, bit, toNat_opWord]
  cases h.last
  · rw [beq_eq_false_iff_ne, b2n, if_neg Bool.false_ne_true]
    omega
  · rw [beq_iff_eq, b2n, if_pos rfl]
    omega
theorem opUnit_opWord (hu : u < 8) : opUnit (opWord h u body) = u := by
  have hc := h.cond.isLt
  rw [opUnit, bits, toNat_opWord]
  omega
theorem opCond_opWord : opCond (opWord h u body) = h.cond.toNat := by
  have hc := h.cond.isLt
  rw [opCond, bits, toNat_opWord]
  omega
theorem opBody_opWord (hb : body < 2 ^ 28) : opBody (opWord h u body) = body := by
  have hc := h.cond.isLt
  rw [opBody, bits, toNat_opWord]
  omega

end OpWord

theorem oneOp_keep {s t : State} {n : Nat} {fly : List ClFly} {st : List ClStore} (hcfg : t.cfg = s.cfg) (h : s.oneOp t n fly st) :
    s.oneOp (keep s t) n fly st := by
  obtain ⟨hfly, hst, hcyc, hpc, hrun, hmem⟩ := h
  exact ⟨hfly, hst, hcyc, (rf_keep hcfg _).trans hpc, (rf_keep hcfg _).trans hrun, fun a ha => (rd_keep hcfg a).trans (hmem a ha)⟩

/-- A ready cluster issues an operation word alone. -/
theorem gateCl_clIssue_opWord {s : State} {n u body : Nat} {h : OpHead} {o : ClOut} (hr : s.clReady n) (hl : h.last = true)
    (hc : clCond s n h.cond.toNat = true) (hu : u < 8) (hb : body < 2 ^ 28)
    (hop : clOp (cl s n).ltgt ⟨s, n, (cl s n).cyc, u, body⟩ = some (true, .ok o)) (hp : o.Plain) :
    ∃ t, gateCl n s (clIssue n (opWord h u body)) = .next t ∧
      s.oneOp t n (o.res.map fun r => ⟨r.dst, r.val, r.fl, (cl s n).cyc + r.lat, (cl s n).cyc, u, none⟩)
        (o.st.map fun q => ⟨q.1, q.2, (cl s n).cyc + 3⟩) ∧
      (cl t n).divFree = if o.div = 0 then (cl s n).divFree else (cl s n).cyc + o.div := by
  have hend : opEnd (opWord h u body) = true := (opEnd_opWord h).trans hl
  have hop' : clOp (cl s n).ltgt ⟨s, n, (cl s n).cyc, opUnit (opWord h u body), opBody (opWord h u body)⟩ = some (true, .ok o) := by
    rw [opUnit_opWord h hu, opBody_opWord h hb]
    exact hop
  have hc' : clCond s n (opCond (opWord h u body)) = true := by rw [opCond_opWord]; exact hc
  have hone := oneOp_clIssue hr hend hop' hc' hp
  have hcfg : (clIssue n (opWord h u body) s).cfg = s.cfg := by rw [clIssue_one hr hend hop' hc' hp]; rfl
  rw [opUnit_opWord h hu] at hone
  obtain ⟨hlive, hn, -⟩ := hr
  exact ⟨_, gateCl_live hlive hn _, oneOp_keep hcfg hone.1, hone.2⟩

/-! ### The operands under an operation code -/

/-- The operation with OPC put above its 22 operand bits. -/
def ClIn.withOpc (x : ClIn) (opc : Nat) : ClIn := { x with body := opc * 2 ^ 22 + x.body }

section WithOpc
variable (x : ClIn) (opc : Nat)

theorem ClIn.f_withOpc {hi lo : Nat} (hh : hi ≤ 21) (hl : lo ≤ hi) : (x.withOpc opc).f hi lo = x.f hi lo := by
  obtain ⟨k, hk⟩ : ∃ k, 22 = lo + (hi + 1 - lo) + k := ⟨21 - hi, by omega⟩
  have he : opc * 2 ^ 22 + x.body = x.body + 2 ^ lo * (2 ^ (hi + 1 - lo) * (opc * 2 ^ k)) := by rw [hk, pow_add, pow_add]; ring
  simp only [ClIn.f, ClIn.withOpc, bits, he, Nat.add_mul_div_left _ _ (Nat.two_pow_pos lo), Nat.add_mul_mod_self_left]
theorem ClIn.opt_withOpc {i : Nat} (hi : i ≤ 21) : (x.withOpc opc).opt i = x.opt i := by
  have hf := x.f_withOpc opc hi (Nat.le_refl i)
  simp only [ClIn.f, bits, Nat.add_sub_cancel_left, pow_one] at hf
  simp only [ClIn.opt, bit, hf]

@[simp] theorem ClIn.dst_withOpc : (x.withOpc opc).dst = x.dst := x.f_withOpc opc (by decide) (by decide)
@[simp] theorem ClIn.srca_withOpc : (x.withOpc opc).srca = x.srca := x.f_withOpc opc (by decide) (by decide)
@[simp] theorem ClIn.srcb_withOpc : (x.withOpc opc).srcb = x.srcb := x.f_withOpc opc (by decide) (by decide)
@[simp] theorem ClIn.s_withOpc : (x.withOpc opc).s = x.s := (rfl)
@[simp] theorem ClIn.n_withOpc : (x.withOpc opc).n = x.n := (rfl)
@[simp] theorem ClIn.phys_withOpc (r : Nat) : (x.withOpc opc).phys r = x.phys r := (rfl)
@[simp] theorem ClIn.d_withOpc (r : Nat) : (x.withOpc opc).d r = x.d r := (rfl)
@[simp] theorem ClIn.dd_withOpc (r : Nat) : (x.withOpc opc).dd r = x.dd r := (rfl)
@[simp] theorem ClIn.rm_withOpc (r : Nat) : (x.withOpc opc).rm r = x.rm r := (rfl)
@[simp] theorem ClIn.a_withOpc : (x.withOpc opc).a = x.a := by simp [ClIn.a]
@[simp] theorem ClIn.b_withOpc : (x.withOpc opc).b = x.b := by simp [ClIn.b]
@[simp] theorem ClIn.fieldPW_withOpc : (x.withOpc opc).fieldPW = x.fieldPW := by simp [ClIn.fieldPW]
@[simp] theorem ClIn.toD_withOpc : (x.withOpc opc).toD = x.toD := by funext v l; simp [ClIn.toD]
@[simp] theorem ClIn.toDD_withOpc : (x.withOpc opc).toDD = x.toDD := by funext v l; simp [ClIn.toDD]
@[simp] theorem ClIn.divide_withOpc (l : Nat) : (x.withOpc opc).divide l = x.divide l := (rfl)

theorem ClIn.opc_withOpc {x : ClIn} {opc : Nat} (hb : x.body < 2 ^ 22) (ho : opc < 64) : (x.withOpc opc).f 27 22 = opc := by
  simp only [ClIn.f, ClIn.withOpc, bits]
  omega

end WithOpc

/-! ### Operation codes (Table COP-6) -/

/-- The operations of the special unit with their codes. -/
def specialOps : List (Nat × (ClIn → Bool × ClEff)) :=
  [(0x01, clSmax), (0x02, clSmin), (0x08, clDiv), (0x09, clDivr), (0x0A, clQdiv), (0x0B, clFdiv), (0x0C, clFsqrt), (0x10, clCvt),
    (0x11, clRsat), (0x18, clCls), (0x19, clPopc), (0x1A, clExtu), (0x1B, clExts), (0x1C, clIns), (0x1D, clBrev)]

theorem specialOps_opc_lt : ∀ e ∈ specialOps, e.1 < 64 := by simp [specialOps]

theorem clOp_special : ∀ e ∈ specialOps, ∀ (l : Nat) (x : ClIn), x.slot = 7 → x.f 27 22 = e.1 → clOp l x = some (e.2 x) := by
  simp only [specialOps, List.forall_mem_cons]
  refine ⟨?_, ?_, ?_, ?_, ?_, ?_, ?_, ?_, ?_, ?_, ?_, ?_, ?_, ?_, ?_, List.forall_mem_nil _⟩ <;>
    (intro l x hs ho; unfold clOp; rw [ho, hs]; rfl)

theorem ClIn.rnd_withOpc (x : ClIn) (opc : Nat) : (x.withOpc opc).rm ((x.withOpc opc).f 2 0) = x.rm (x.f 2 0) := by
  rw [x.rm_withOpc, x.f_withOpc opc (by decide) (by decide)]

theorem clFdiv_some {x : ClIn} {rm : Rm} (h : x.rm (x.f 2 0) = some rm) : clFdiv x = (true, x.divide 10 x.toD (fpDiv fF36 rm x.a x.b)) := by
  rw [clFdiv, h]
theorem clFdiv_none {x : ClIn} (h : x.rm (x.f 2 0) = none) : clFdiv x = (false, ill) := by rw [clFdiv, h]
theorem clFsqrt_some {x : ClIn} {rm : Rm} (h : x.rm (x.f 2 0) = some rm) :
    clFsqrt x = (decide (x.srcb = 0), x.divide 10 x.toD (fpSqrt fF36 rm x.a)) := by
  rw [clFsqrt, h]
theorem clFsqrt_none {x : ClIn} (h : x.rm (x.f 2 0) = none) : clFsqrt x = (false, ill) := by rw [clFsqrt, h]

theorem clFdiv_withOpc (x : ClIn) (opc : Nat) : clFdiv (x.withOpc opc) = clFdiv x := by
  cases h : x.rm (x.f 2 0) with
  | none => rw [clFdiv_none h, clFdiv_none ((x.rnd_withOpc opc).trans h)]
  | some rm =>
    rw [clFdiv_some h, clFdiv_some ((x.rnd_withOpc opc).trans h), x.toD_withOpc, x.divide_withOpc, x.a_withOpc, x.b_withOpc]
theorem clFsqrt_withOpc (x : ClIn) (opc : Nat) : clFsqrt (x.withOpc opc) = clFsqrt x := by
  cases h : x.rm (x.f 2 0) with
  | none => rw [clFsqrt_none h, clFsqrt_none ((x.rnd_withOpc opc).trans h)]
  | some rm =>
    rw [clFsqrt_some h, clFsqrt_some ((x.rnd_withOpc opc).trans h), x.toD_withOpc, x.divide_withOpc, x.a_withOpc, x.srcb_withOpc]

/-- No operation of the unit depends on BODY beyond its 22 operand bits. -/
theorem special_withOpc : ∀ e ∈ specialOps, ∀ (x : ClIn) (opc : Nat), e.2 (x.withOpc opc) = e.2 x := by
  simp only [specialOps, List.forall_mem_cons]
  refine ⟨?_, ?_, ?_, ?_, ?_, clFdiv_withOpc, clFsqrt_withOpc, ?_, ?_, ?_, ?_, ?_, ?_, ?_, ?_, List.forall_mem_nil _⟩ <;>
    (intro x opc; simp [clSmax, clSmin, clSearch, clDiv, clDivr, clQdiv, clCvt, clRsat, clCls, clPopc, clExtu, clExts, clIns,
      clBrev, ClIn.f_withOpc, ClIn.opt_withOpc])

/-! ### Results in flight -/

/-- What an operation of the special unit of cluster `n` sees of its own word. -/
def specialIn (s : State) (n : Nat) (b : BitVec 22) : ClIn := ⟨s, n, (cl s n).cyc, 7, b.toNat⟩
/-- A result the special unit puts in flight in this cycle, with its latency. -/
def specialFly (s : State) (n : Nat) (d : ClDst) (v : Nat × Arf) (lat : Nat) : ClFly :=
  ⟨d, v.1, v.2, (cl s n).cyc + lat, (cl s n).cyc, 7, none⟩

/-- The two words of a double the special unit puts in flight: the low one carries the flags. -/
def specialFlies (s : State) (n : Nat) (b : BitVec 22) (v : Nat × Arf) (lat : Nat) : List ClFly :=
  [specialFly s n (.d ((specialIn s n b).phys (specialIn s n b).dst)) (v.1 % 2 ^ 36, v.2) lat,
    specialFly s n (.d ((specialIn s n b).phys ((specialIn s n b).dst + 1))) (v.1 / 2 ^ 36 % 2 ^ 36, 0#7) lat]

section Special
variable {s : State} {n : Nat} {h : OpHead} {b : BitVec 22} (hr : s.clReady n) (hl : h.last = true)
  (hc : clCond s n h.cond.toNat = true) {opc : Nat} {k : ClIn → Bool × ClEff} (hk : (opc, k) ∈ specialOps)
include hr hl hc hk

/-- An operation of the special unit, alone in its bundle, by its effect. -/
theorem special_next {o : ClOut} (ho : k (specialIn s n b) = (true, .ok o)) (hp : o.Plain) :
    ∃ t, gateCl n s (clIssue n (opWord22 h 7 opc b)) = .next t ∧
      s.oneOp t n (o.res.map fun r => specialFly s n r.dst (r.val, r.fl) r.lat) (o.st.map fun q => ⟨q.1, q.2, (cl s n).cyc + 3⟩) ∧
      (cl t n).divFree = if o.div = 0 then (cl s n).divFree else (cl s n).cyc + o.div := by
  have hopc : opc < 64 := specialOps_opc_lt _ hk
  have hb := b.isLt
  have hop : clOp (cl s n).ltgt ((specialIn s n b).withOpc opc) = some (true, .ok o) := by
    rw [clOp_special _ hk _ _ rfl (ClIn.opc_withOpc hb hopc), special_withOpc _ hk, show (opc, k).2 (specialIn s n b) = _ from ho]
  exact gateCl_clIssue_opWord hr hl hc (by decide) (by omega) hop hp

theorem special_toD {v : Nat × Arf} {lat : Nat} (ho : k (specialIn s n b) = (true, (specialIn s n b).toD v lat)) :
    ∃ t, gateCl n s (clIssue n (opWord22 h 7 opc b)) = .next t ∧
      s.oneOp t n [specialFly s n (.d ((specialIn s n b).phys (specialIn s n b).dst)) v lat] [] := by
  obtain ⟨t, ht, hone, -⟩ := special_next hr hl hc hk ho ⟨rfl, rfl, rfl, by simp⟩
  exact ⟨t, ht, hone⟩

theorem special_noFl {val lat : Nat} (ho : k (specialIn s n b) = (true, (specialIn s n b).toD (noFl val) lat)) :
    ∃ t, gateCl n s (clIssue n (opWord22 h 7 opc b)) = .next t ∧
      s.oneOp t n [specialFly s n (.d ((specialIn s n b).phys (specialIn s n b).dst)) (val, 0#7) lat] [] :=
  special_toD hr hl hc hk ho

theorem special_toDD {v : Nat × Arf} {lat : Nat} (ho : k (specialIn s n b) = (true, (specialIn s n b).toDD v lat)) :
    ∃ t, gateCl n s (clIssue n (opWord22 h 7 opc b)) = .next t ∧ s.oneOp t n (specialFlies s n b v lat) [] := by
  obtain ⟨t, ht, hone, -⟩ := special_next hr hl hc hk ho ⟨rfl, rfl, rfl, by simp⟩
  exact ⟨t, ht, hone⟩

theorem special_flags {v : Nat × Arf} {lat : Nat} (ho : k (specialIn s n b) = (true, .one .flags v lat)) :
    ∃ t, gateCl n s (clIssue n (opWord22 h 7 opc b)) = .next t ∧ s.oneOp t n [specialFly s n .flags v lat] [] := by
  obtain ⟨t, ht, hone, -⟩ := special_next hr hl hc hk ho ⟨rfl, rfl, rfl, by simp⟩
  exact ⟨t, ht, hone⟩

/-- A divider operation that faults with no DZ occupies the divider for its latency (R50, R177). -/
theorem special_divide {e : Nat × Arf → Nat → ClEff} {v : Nat × Arf} {lat : Nat} {o : ClOut} (hlat : lat ≠ 0)
    (hv : (v.2 &&& fDZ) = 0#7 ∨ rb s (R.scDZ_TRAP n) = false) (hk' : k (specialIn s n b) = (true, (specialIn s n b).divide lat e v))
    (he : e v lat = .ok o) (hp : o.Plain) :
    ∃ t, gateCl n s (clIssue n (opWord22 h 7 opc b)) = .next t ∧
      s.oneOp t n (o.res.map fun r => specialFly s n r.dst (r.val, r.fl) r.lat) (o.st.map fun q => ⟨q.1, q.2, (cl s n).cyc + 3⟩) ∧
      (cl t n).divFree = (cl s n).cyc + lat := by
  have hnot : ¬((v.2 &&& fDZ) ≠ 0#7 ∧ rb (specialIn s n b).s (R.scDZ_TRAP (specialIn s n b).n) = true) := by
    rcases hv with hv | hv
    · exact fun h => h.1 hv
    · exact fun h => Bool.false_ne_true (hv.symm.trans h.2)
  obtain ⟨t, ht, hone, hdiv⟩ := special_next hr hl hc hk (o := { o with div := lat })
    (by rw [hk', ClIn.divide, if_neg hnot, he]) ⟨hp.ctl, hp.touch, hp.ce, hp.ue⟩
  exact ⟨t, ht, hone, hdiv.trans (if_neg hlat)⟩

theorem special_divide_toD {v : Nat × Arf} {lat : Nat} (hlat : lat ≠ 0)
    (hv : (v.2 &&& fDZ) = 0#7 ∨ rb s (R.scDZ_TRAP n) = false)
    (ho : k (specialIn s n b) = (true, (specialIn s n b).divide lat (specialIn s n b).toD v)) :
    ∃ t, gateCl n s (clIssue n (opWord22 h 7 opc b)) = .next t ∧
      s.oneOp t n [specialFly s n (.d ((specialIn s n b).phys (specialIn s n b).dst)) v lat] [] ∧ (cl t n).divFree = (cl s n).cyc + lat :=
  special_divide hr hl hc hk hlat hv ho rfl ⟨rfl, rfl, rfl, by simp⟩

theorem special_divide_toDD {v : Nat × Arf} {lat : Nat} (hlat : lat ≠ 0)
    (hv : (v.2 &&& fDZ) = 0#7 ∨ rb s (R.scDZ_TRAP n) = false)
    (ho : k (specialIn s n b) = (true, (specialIn s n b).divide lat (specialIn s n b).toDD v)) :
    ∃ t, gateCl n s (clIssue n (opWord22 h 7 opc b)) = .next t ∧ s.oneOp t n (specialFlies s n b v lat) [] ∧
      (cl t n).divFree = (cl s n).cyc + lat :=
  special_divide hr hl hc hk hlat hv ho rfl ⟨rfl, rfl, rfl, by simp⟩

end Special

/-- A search step: the candidate and its index, or the flags alone (R176). -/
theorem special_search {s : State} {n : Nat} {h : OpHead} {b : BitVec 22} (hr : s.clReady n) (hl : h.last = true)
    (hc : clCond s n h.cond.toNat = true) {opc : Nat} {max : Bool} {k : ClIn → Bool × ClEff} (hk : (opc, k) ∈ specialOps)
    (hk' : k = fun x => clSearch x max) (hd : (specialIn s n b).dst % 2 = 0) :
    let x := specialIn s n b
    let nv := flagIf (x.opt 1 && (fpIsSNaN fF36 (x.d x.dst) || fpIsSNaN fF36 x.a)) fNV
    ∃ t, gateCl n s (clIssue n (opWord22 h 7 opc b)) = .next t ∧
      s.oneOp t n (if redBetter max (x.opt 0) (if x.opt 1 then 4 else 0) (x.d x.dst) x.a
        then specialFlies s n b (x.a + x.b * 2 ^ 36, nv) 2 else [specialFly s n .flags (0, nv) 2]) [] := by
  intro x nv
  subst hk'
  have heven : evenR x.dst = true := beq_iff_eq.2 hd
  by_cases hwin : redBetter max (x.opt 0) (if x.opt 1 then 4 else 0) (x.d x.dst) x.a = true
  · rw [if_pos hwin]
    exact special_toDD hr hl hc hk (Prod.ext heven (if_pos hwin))
  · rw [if_neg hwin]
    exact special_flags hr hl hc hk (Prod.ext heven (if_neg hwin))

/-- CVT where a side is floating: any rounding may be named (R178). -/
theorem clCvt_float {x : ClIn} {rm : Rm} (hrm : rmOf (x.f 2 0) (rf x.s (R.scDRM x.n)) = some rm) (hst : x.f 9 7 < 6) (hdt : x.f 6 4 < 6)
    (hflt : 4 ≤ x.f 9 7 ∨ 4 ≤ x.f 6 4) : clCvt x = (true, x.toD (cvtElem (if x.f 9 7 = 5 then 4 else x.f 9 7)
      (if x.f 6 4 = 5 then 4 else x.f 6 4) (decide (x.f 9 7 = 5)) (decide (x.f 6 4 = 5)) (x.opt 3) (decide (rm = .near)) rm x.a) 2) := by
  have hfixed : (decide (x.f 9 7 < 4) && decide (x.f 6 4 < 4)) = false := by
    rcases hflt with h | h
    · simp [Nat.not_lt.2 h]
    · simp [Nat.not_lt.2 h]
  simp [clCvt, hrm, hst, hdt, hfixed]

theorem clRsat_even {x : ClIn} (hd : x.srca % 2 = 0) : clRsat x = (true, x.toD
    (if x.opt 0 then satOrWrap 36 true (sext 72 (x.dd x.srca)) else roundSat (x.opt 3) 36 35 (sext 72 (x.dd x.srca))) 2) := by
  rw [clRsat, evenR, beq_iff_eq.2 hd]

/-- Settles O16: each operation's code, legality and effect give what it puts in flight. -/
theorem clusterSpecialUnit : Obligations.ClusterSpecialUnit := by
  unfold Obligations.ClusterSpecialUnit
  intro s n h b hr hl hc x
  have hx : x = specialIn s n b := rfl
  clear_value x
  subst hx
  dsimp only
  refine ⟨fun hd => ?_, fun hv => ⟨?_, fun hd => ?_⟩, fun hv => ?_, fun rm hrm => ⟨fun hv => ?_, fun hb hv => ?_⟩, fun rm hrm hst hdt hflt => ?_,
    fun hd => ?_, ?_⟩
  · simp only [List.forall_mem_cons]
    exact ⟨special_search hr hl hc (k := clSmax) (by simp [specialOps]) rfl hd,
      special_search hr hl hc (k := clSmin) (by simp [specialOps]) rfl hd, List.forall_mem_nil _⟩
  · exact special_divide_toD hr hl hc (k := clDiv) (by simp [specialOps]) (by decide) hv rfl
  · exact special_divide_toDD hr hl hc (k := clDivr) (by simp [specialOps]) (by decide) hv (Prod.ext (beq_iff_eq.2 hd) rfl)
  · exact special_divide_toD hr hl hc (k := clQdiv) (by simp [specialOps]) (by decide) hv rfl
  · exact special_divide_toD hr hl hc (k := clFdiv) (by simp [specialOps]) (by decide) hv (clFdiv_some hrm)
  · exact special_divide_toD hr hl hc (k := clFsqrt) (by simp [specialOps]) (by decide) hv
      ((clFsqrt_some hrm).trans (Prod.ext (decide_eq_true hb) rfl))
  · exact special_toD hr hl hc (k := clCvt) (by simp [specialOps]) (clCvt_float hrm hst hdt hflt)
  · exact special_toD hr hl hc (k := clRsat) (by simp [specialOps]) (clRsat_even hd)
  · simp only [List.forall_mem_cons]
    exact ⟨special_noFl hr hl hc (k := clCls) (by simp [specialOps]) rfl, special_noFl hr hl hc (k := clPopc) (by simp [specialOps]) rfl,
      special_noFl hr hl hc (k := clExtu) (by simp [specialOps]) rfl, special_noFl hr hl hc (k := clExts) (by simp [specialOps]) rfl,
      special_noFl hr hl hc (k := clIns) (by simp [specialOps]) rfl, special_noFl hr hl hc (k := clBrev) (by simp [specialOps]) rfl,
      List.forall_mem_nil _⟩

end Sys2Proof.Machine

/-! SUPPORT. A vector pipe at work while the rest of the module is as it was: the pipe's own state, the word of its unit state, power and queue
counts, and nothing else (R92, R104). -/

namespace Sys2Proof.Machine

/-! ### The state of one pipe -/

/-- The word of a pipe's UNIT_STATE, POWER, holds and queue counts (Table VEC-9). -/
def vpStateAddr (p : Nat) : Nat := blkBase .vp p + 0x0004

/-- `u` is the module `b` but for pipe `p`, whose state is `q`, and for that pipe's POWER, below RETAINED, and queue counts; of what no
register, memory or pipe holds nothing is said. -/
structure PipeOnly (b u : State) (p : Nat) (q : PipeSt) : Prop where
  cfg : u.cfg = b.cfg
  length : u.pipes.length = b.pipes.length
  pipe_eq : pipe u p = q
  others : ∀ k, k ≠ p → pipe u k = pipe b k
  mem : ∀ x, x ≠ vpStateAddr p → rd u x = rd b x
  unit : rf u (R.vpUNIT_STATE p) = rf b (R.vpUNIT_STATE p)
  calHeld : rf u (R.vpCAL_HELD p) = rf b (R.vpCAL_HELD p)
  rmHeld : rf u (R.vpRM_HELD p) = rf b (R.vpRM_HELD p)
  power : rf u (R.vpPOWER p) < pRETAINED

theorem rf_wf_power (u : State) (p v : Nat) {g : Field} (ha : g.addr = vpStateAddr p) (hg : g.lo ≤ g.hi) (hd : 5 < g.lo ∨ g.hi < 4) :
    rf (wf u (R.vpPOWER p) v) g = rf u g :=
  rf_wf_ne_bits u (R.vpPOWER p) g v ha (by decide : 4 ≤ 5) (by decide : 5 < 36) hg hd

section Moves
variable {b u : State} {p : Nat} {q : PipeSt} (h : PipeOnly b u p q)
include h

/-- A change of nothing that `PipeOnly` speaks of. -/
theorem PipeOnly.of_eq {t : State} (hcfg : t.cfg = u.cfg) (hmem : t.mem = u.mem) (hpipes : t.pipes = u.pipes) : PipeOnly b t p q := by
  have hrd (x : Nat) : rd t x = rd u x := by rw [rd, rd, hcfg, hmem]
  have hrf (f : Field) : rf t f = rf u f := by rw [rf, rf, rdN, rdN, hrd]
  have hpipe (k : Nat) : pipe t k = pipe u k := by rw [pipe, pipe, hpipes]
  exact ⟨hcfg.trans h.cfg, (congrArg List.length hpipes).trans h.length, (hpipe p).trans h.pipe_eq, fun k hk => (hpipe k).trans (h.others k hk),
    fun x hx => (hrd x).trans (h.mem x hx), (hrf _).trans h.unit, (hrf _).trans h.calHeld, (hrf _).trans h.rmHeld, (hrf _).symm ▸ h.power⟩

theorem PipeOnly.elapse (d : Nat) : PipeOnly b (Machine.elapse u d) p q := h.of_eq rfl rfl rfl

theorem PipeOnly.wf_queue {f : Field} (v : Nat) (ha : f.addr = vpStateAddr p) (hf : f.lo ≤ f.hi) (hh : f.hi < 36) (hlo : 8 ≤ f.lo) :
    PipeOnly b (wf u f v) p q where
  cfg := h.cfg
  length := h.length
  pipe_eq := h.pipe_eq
  others := h.others
  mem x hx := (rd_wf_ne u f v (ha ▸ hx)).trans (h.mem x hx)
  unit := (rf_wf_ne_bits u f _ v ha.symm hf hh (by decide : 0 ≤ 2) (.inr (show 2 < f.lo by omega))).trans h.unit
  calHeld := (rf_wf_ne_bits u f _ v ha.symm hf hh (Nat.le_refl 7) (.inr (show 7 < f.lo by omega))).trans h.calHeld
  rmHeld := (rf_wf_ne_bits u f _ v ha.symm hf hh (Nat.le_refl 6) (.inr (show 6 < f.lo by omega))).trans h.rmHeld
  power := by
    rw [rf_wf_ne_bits u f (R.vpPOWER p) v ha.symm hf hh (by decide : 4 ≤ 5) (.inr (show 5 < f.lo by omega))]
    exact h.power

theorem PipeOnly.wf_power {v : Nat} (hv : v < pRETAINED) : PipeOnly b (wf u (R.vpPOWER p) v) p q where
  cfg := h.cfg
  length := h.length
  pipe_eq := h.pipe_eq
  others := h.others
  mem x hx := (rd_wf_ne u _ v hx).trans (h.mem x hx)
  unit := (rf_wf_power u p v (g := R.vpUNIT_STATE p) rfl (Nat.zero_le _) (.inr (by decide : 2 < 4))).trans h.unit
  calHeld := (rf_wf_power u p v (g := R.vpCAL_HELD p) rfl (Nat.le_refl 7) (.inl (by decide : 5 < 7))).trans h.calHeld
  rmHeld := (rf_wf_power u p v (g := R.vpRM_HELD p) rfl (Nat.le_refl 6) (.inl (by decide : 5 < 6))).trans h.rmHeld
  power := by
    rw [rf_wf_same u (R.vpPOWER p) v (by decide : 4 ≤ 5) (by decide : 5 < 36)]
    exact Nat.lt_of_le_of_lt (Nat.mod_le _ _) hv

variable (hp : p < u.pipes.length)
include hp

theorem PipeOnly.set_pipe (q' : PipeSt) : PipeOnly b { u with pipes := u.pipes.set p q' } p q' where
  cfg := h.cfg
  length := List.length_set.trans h.length
  pipe_eq := by simp [pipe, hp]
  others k hk := (by simp [pipe, List.getElem?_set_ne (Ne.symm hk)] : pipe _ k = pipe u k).trans (h.others k hk)
  mem := h.mem
  unit := h.unit
  calHeld := h.calHeld
  rmHeld := h.rmHeld
  power := h.power

theorem PipeOnly.setRun (r : Option VRun) : PipeOnly b (Machine.setRun u p r) p { q with run := r } := by
  rw [Machine.setRun, h.pipe_eq]
  exact h.set_pipe hp _

/-- CAL_Q and RM_Q follow the queues. -/
theorem PipeOnly.modPipe (k : PipeSt → PipeSt) : PipeOnly b (Machine.modPipe u p k) p (k q) := by
  rw [Machine.modPipe, h.pipe_eq]
  exact ((h.set_pipe hp _).wf_queue (f := R.vpCAL_Q p) _ rfl (by decide : 8 ≤ 12) (by decide : 12 < 36) (Nat.le_refl 8)).wf_queue
    (f := R.vpRM_Q p) _ rfl (by decide : 13 ≤ 16) (by decide : 16 < 36) (by decide : 8 ≤ 13)

end Moves

section Registers
variable {b u : State} {p : Nat} {q : PipeSt} (h : PipeOnly b u p q)
include h

theorem PipeOnly.rf_eq {f : Field} (hf : f.addr ≠ vpStateAddr p) : rf u f = rf b f := by rw [rf, rf, rdN, rdN, h.mem _ hf]

/-- A write of another word, made in both. -/
theorem PipeOnly.wr_both {a : Nat} (w : Word) (ha : a ≠ vpStateAddr p) : PipeOnly (wr b a w) (wr u a w) p q := by
  have hst (s : State) (f : Field) (hf : f.addr = vpStateAddr p) : rf (wr s a w) f = rf s f := by
    rw [rf, rf, rdN, rdN, rd_wr_ne s w (hf ▸ ha.symm)]
  refine ⟨h.cfg, h.length, h.pipe_eq, h.others, fun x hx => ?_, ?_, ?_, ?_, ?_⟩
  · by_cases hxa : x = a
    · rw [hxa, rd_wr_same, rd_wr_same]
    · rw [rd_wr_ne u w hxa, rd_wr_ne b w hxa, h.mem x hx]
  · rw [hst u _ rfl, hst b _ rfl, h.unit]
  · rw [hst u _ rfl, hst b _ rfl, h.calHeld]
  · rw [hst u _ rfl, hst b _ rfl, h.rmHeld]
  · rw [hst u _ rfl]
    exact h.power

theorem PipeOnly.wf_both {f : Field} (v : Nat) (hf : f.addr ≠ vpStateAddr p) : PipeOnly (wf b f v) (wf u f v) p q := by
  rw [wf, wf, rdN, rdN, h.mem _ hf]
  exact h.wr_both _ hf
theorem PipeOnly.stick_both {f : Field} (v : Nat) (hf : f.addr ≠ vpStateAddr p) : PipeOnly (stick b f v) (stick u f v) p q := by
  rw [stick, stick, h.rf_eq hf]
  exact h.wf_both _ hf
theorem PipeOnly.cnt_both {f : Field} (hf : f.addr ≠ vpStateAddr p) : PipeOnly (cnt b f) (cnt u f) p q := by
  rw [cnt, cnt, cntAdd, cntAdd, h.rf_eq hf]
  exact h.wf_both _ hf
theorem PipeOnly.wrs_both {ws : List (Nat × Word)} (hws : ∀ e ∈ ws, e.1 ≠ vpStateAddr p) :
    PipeOnly (ws.foldl (fun s e => wr s e.1 e.2) b) (ws.foldl (fun s e => wr s e.1 e.2) u) p q := by
  induction ws generalizing b u with
  | nil => exact h
  | cons e ws ih =>
    rw [List.forall_mem_cons] at hws
    exact ih (h.wr_both e.2 hws.1) hws.2

end Registers

end Sys2Proof.Machine

/-! SUPPORT. An element-wise instruction of one element whose sources are scalars or None and whose destination is a long register, cycle by cycle
(R57, R95): it presents no access, reads its element in its first cycle and writes it in the last one of its start-up and rate. -/

namespace Sys2Proof.Machine

/-! ### Operands that wait for nothing -/

/-- An operand with a value of its own: a scalar or None. -/
def VCap.Still : VCap → Prop
  | .none => True
  | .scal _ => True
  | _ => False

section Still
variable {c : VCap} (hc : c.Still)
include hc

theorem capChain_still : capChain c = none := by
  cases c with
  | none | scal v => rfl
  | _ => exact hc.elim
theorem srcEl_still (s : State) (p : Nat) (r : VRun) (oper : Nat) (x : Option VIx) (j i e : Nat) :
    srcEl s p r oper c x j i e = .ok (capScal c) := by
  cases c with
  | none | scal v => rfl
  | _ => exact hc.elim
theorem srcWords_still (s : State) (r : VRun) (oper : Nat) (x : Option VIx) (e : Nat) : srcWords s r oper c x e = .ok (false, []) := by
  cases c with
  | none | scal v => rfl
  | _ => exact hc.elim

end Still

/-- Every operation takes at least one cycle a group, at most 18 (Table ARI-10). -/
theorem vRate_bounds (op typ mod : Nat) : 1 ≤ vRate op typ mod ∧ vRate op typ mod ≤ 18 := by
  unfold vRate
  split_ifs <;> omega

/-! ### The run of one element -/

/-- A run of one element of an element-wise operation from still operands into the long registers from number `f` on; nothing holds it up. -/
structure VRun.Single (r : VRun) (f : Nat) (dbl : Bool) : Prop where
  kind : vKind (veI r.ent).op = .elem
  one : (veI r.ent).n = 1
  dest : ∃ n, r.caps.d = .long f n dbl
  a : r.caps.a.Still
  b : r.caps.b.Still
  c : r.caps.c.Still
  k0 : r.k0 = 0
  ixg : r.ixg = 0
  wg : r.wg = 0
  bound : r.bound = true
  cut : r.cut = none
  flt : r.flt = none
  waitSince : r.waitSince = none

/-- The value and flags of the run's element (Table VIN-3). -/
def VRun.val (r : VRun) : Nat × Arf :=
  vLane (veI r.ent) (viRm (veI r.ent) r.drm) 0 (capScal r.caps.a) (capScal r.caps.b) (capScal r.caps.c)
/-- The output of the run's element. -/
def VRun.out (r : VRun) (p f : Nat) (dbl : Bool) : VOut := ⟨0, wrList (longEl p f dbl 0) r.val.1, none, r.val.2⟩

/-- Every write of the output is to a long register of pipe `p`: it needs no bank (R54). -/
def VOut.IntoLongs (o : VOut) (p : Nat) : Prop := ∀ e ∈ o.wr, ∃ j, e.1 = longAt p j

theorem streamWords_le_longAt (part : Part) (p j : Nat) : part.streamWords ≤ longAt p j := by
  have hs : part.streamWords ≤ 0x20000000 := by cases part <;> decide
  simp only [longAt, blkBase]
  omega

theorem longAt_ne_vpStateAddr (p j : Nat) : longAt p j ≠ vpStateAddr p := by simp only [longAt, vpStateAddr]; omega

theorem exists_longAt_of_mem_longEl {p f i : Nat} {dbl : Bool} {a : Nat} (ha : a ∈ longEl p f dbl i) : ∃ j, a = longAt p j := by
  cases dbl
  · exact ⟨_, List.mem_singleton.1 ha⟩
  · rcases List.mem_pair.1 ha with rfl | rfl
    · exact ⟨_, rfl⟩
    · exact ⟨_, rfl⟩

theorem fst_mem_of_mem_wrList {as : List Nat} {v : Nat} {e : Nat × Word} (h : e ∈ wrList as v) : e.1 ∈ as := by
  induction as generalizing v with
  | nil => cases h
  | cons a as ih =>
    rcases List.mem_cons.1 h with rfl | h
    · exact List.mem_cons_self
    · exact List.mem_cons_of_mem _ (ih h)

section SetRun
variable {u : State} {p : Nat}

theorem setRun_same {x : Option VRun} (h : (pipe u p).run = x) : setRun u p x = u := by
  have hrun : { pipe u p with run := x } = pipe u p := by rw [← h]
  rw [setRun, hrun]
  by_cases hp : p < u.pipes.length
  · rw [pipe, List.getD_eq_getElem _ _ hp, List.set_getElem_self]
  · rw [List.set_eq_of_length_le (Nat.not_lt.1 hp)]
theorem pipe_setRun (hp : p < u.pipes.length) (x : Option VRun) : pipe (setRun u p x) p = { pipe u p with run := x } := by
  simp [pipe, setRun, hp]

end SetRun

theorem VRun.out_intoLongs (r : VRun) (p f : Nat) (dbl : Bool) : (r.out p f dbl).IntoLongs p :=
  fun _ he => exists_longAt_of_mem_longEl (fst_mem_of_mem_wrList he)

section Single
variable {r : VRun} {f : Nat} {dbl : Bool} (h : r.Single f dbl)
include h

theorem VRun.Single.vIdleOp_eq : vIdleOp r = false := by
  have hn := h.one
  have hnop : veNop r.ent = false := by
    by_contra hne
    simp only [veNop, Bool.not_eq_false, Bool.and_eq_true, decide_eq_true_eq] at hne
    simp [veI, viDecode, bits, hne.2] at hn
  simp [vIdleOp, hnop, hn]

theorem VRun.Single.capChain_dest : capChain r.caps.d = none := by
  obtain ⟨n, hn⟩ := h.dest
  rw [hn]; rfl
theorem VRun.Single.capIx_dest : capIx r.caps.d = none := by
  obtain ⟨n, hn⟩ := h.dest
  rw [hn]; rfl
theorem VRun.Single.srcChains_eq : srcChains r.caps = [] := by
  simp [srcChains, capChain_still h.a, capChain_still h.b, capChain_still h.c]

theorem VRun.Single.vrS_eq : vrS r.caps = 4 := by
  have hstill : ∀ x ∈ [r.caps.a, r.caps.b, r.caps.c], x.Still := by simp [h.a, h.b, h.c]
  refine if_neg fun hany => ?_
  obtain ⟨x, hx, hstr⟩ := List.any_eq_true.1 hany
  have hx' := hstill x hx
  cases x with
  | str => exact hx'.elim
  | _ => cases hstr

theorem VRun.Single.redDue_eq : redDue r = false := by simp [redDue, h.kind]
theorem VRun.Single.ixDue_eq : ixDue r = false := by
  simp [ixDue, h.vrS_eq, h.ixg]
theorem VRun.Single.srcDue_eq : srcDue r = decide (r.gi = 0 ∧ r.cyc = 0) := by
  have hend : grpEnd (veI r.ent) = 1 := by rw [grpEnd, h.one]
  by_cases hg : r.gi = 0
  · simp [srcDue, h.flt, hend, h.vrS_eq, h.k0, hg]
  · simp [srcDue, hend, hg]
theorem VRun.Single.outDue_eq : outDue r = (!r.outs.isEmpty && decide (r.cyc + 1 = 4 + vrRate (veI r.ent))) := by
  simp [outDue, h.kind, h.vrS_eq, h.wg, h.k0]

theorem VRun.Single.elSrcs_eq (j i : Nat) :
    elSrcs r j i = [(1, r.caps.a, r.ixA[j]?, i), (2, r.caps.b, r.ixB[j]?, i), (3, r.caps.c, none, i)] := by
  simp [elSrcs, h.kind]
theorem VRun.Single.srcReqs_eq (s : State) (j : Nat) (els : List Nat) : srcReqs s r j els = [] := by
  induction els generalizing j with
  | nil => rfl
  | cons i is ih =>
    simp [srcReqs, h.elSrcs_eq, elReqs, srcWords_still h.a, srcWords_still h.b, srcWords_still h.c, ih]

/-- The run presents no access. -/
theorem VRun.Single.vReqs_eq (s : State) (p : Nat) (ho : ∀ os ∈ r.outs, ∀ o ∈ os, o.IntoLongs p) : vReqs s p r = [] := by
  have hos : ∀ o ∈ vWriting s p r, o.IntoLongs p := by
    intro o hmem
    rw [vWriting, h.redDue_eq, if_neg Bool.false_ne_true] at hmem
    split at hmem
    · cases hr : r.outs with
      | nil => rw [hr] at hmem; cases hmem
      | cons os l =>
        rw [hr] at hmem
        exact ho os (hr ▸ List.mem_cons_self) o hmem
    · cases hmem
  have hout : outReqs s r (vWriting s p r) = [] := by
    refine List.flatMap_eq_nil_iff.2 fun o hmem => ?_
    rw [List.map_eq_nil_iff, List.filter_eq_nil_iff]
    intro e he
    obtain ⟨j, hj⟩ := hos o hmem e he
    simpa [hj] using streamWords_le_longAt s.cfg.part p j
  simp [vReqs, h.srcReqs_eq, h.ixDue_eq, hout, ixReqs, h.capIx_dest]

/-! ### Its cycles -/

variable {u : State} {p : Nat} (hrun : (pipe u p).run = some r)
include hrun

/-- A cycle of the run begins. -/
theorem VRun.Single.vPrep_eq (htodo : r.todo = none) (ho : ∀ os ∈ r.outs, ∀ o ∈ os, o.IntoLongs p) :
    vPrep u p = Machine.setRun u p (some { r with todo := some [] }) := by
  have hcut : (if outDue r then prodCut u r else r) = r := by
    have hcut : prodCut u r = r := by rw [prodCut, h.capChain_dest]
    rw [hcut, ite_self]
  have habort : prodAbort u r = none := by rw [prodAbort, h.capChain_dest]; rfl
  have hroom : prodWaits u r = false := by rw [prodWaits, h.capChain_dest]
  have hsay : (if srcDue r then srcSay u r else (ChSay.ready, 0)) = (.ready, 0) := by
    have : srcSay u r = (.ready, 0) := by rw [srcSay, h.srcChains_eq]; rfl
    rw [this, ite_self]
  have hwaited : vWaited u p r = u := by rw [vWaited, h.waitSince]; rfl
  unfold vPrep
  simp only [hrun, htodo, h.vIdleOp_eq, hwaited, h.bound, habort, Option.map_some, Option.getD_some, hcut, h.flt, setRun_same hrun, hroom, hsay,
    h.vReqs_eq u p ho, h.waitSince, Option.isSome_none, Bool.false_eq_true, if_false, if_true, and_false]

theorem VRun.Single.vFront_eq (hp : p < u.pipes.length) (htodo : r.todo = none) (ho : ∀ os ∈ r.outs, ∀ o ∈ os, o.IntoLongs p) :
    vFront (false, u) p = (true, Machine.setRun u p (some { r with todo := some [] })) := by
  have hprep := h.vPrep_eq hrun htodo ho
  simp only [vFront, hrun, Option.isNone_some, Bool.false_eq_true, if_false, hprep, pipe_setRun hp]
  rfl

end Single

/-- A cycle in which the only pipe presents no access grants none (R57). -/
theorem vGrants_of_no_access {u : State} {p : Nat} {r : VRun} (hrun : (pipe u p).run = some r) (htodo : r.todo = some []) :
    vGrants u [p] = elapse (vDo u p) 1 := by
  have ht : vTodo u p = [] := by simp [vTodo, hrun, htodo]
  have hback : vBack u p = vDo u p := by simp [vBack, hrun, htodo]
  simp [vGrants, ht, phaseMiss, hback]

/-! ### The ends of its cycles -/

/-- The run has read its element and holds its output `o` in its cycle `k`. -/
structure VRun.Holds (r : VRun) (f : Nat) (dbl : Bool) (e : VEntry) (c : VCaps) (o : VOut) (k : Nat) : Prop where
  single : r.Single f dbl
  ent : r.ent = e
  caps : r.caps = c
  gi : r.gi = 1
  cyc : r.cyc = k
  outs : r.outs = [[o]]

/-- The element's output (R116). -/
theorem elemOut_single {r : VRun} {f : Nat} {dbl : Bool} (h : r.Single f dbl) (s : State) (p : Nat) : elemOut s p r 0 0 = .ok (r.out p f dbl) := by
  have hfly : (veI r.ent).op ≠ 0x043 := fun hop => by have := h.kind; rw [hop] at this; cases this
  obtain ⟨n, hn⟩ := h.dest
  unfold elemOut
  simp only [h.kind, hfly, srcEl_still h.a, srcEl_still h.b, srcEl_still h.c, dstEl, hn, if_false, reduceCtorEq]
  cases dbl <;> simp [VRun.out, VRun.val, longEl, wrList, capChain]

section Do
variable {u : State} {p : Nat} {r : VRun} {f : Nat} {dbl : Bool}

/-- The group read is the one element. -/
theorem VRun.Single.vCompute_eq (h : r.Single f dbl) (s : State) (p : Nat) (hgi : r.gi = 0) (hout : r.outs = []) :
    vCompute s p r = { r with
      gi := 1, ixA := r.ixA.drop (grpHi 1 0 - grpLo 0 0), ixB := r.ixB.drop (grpHi 1 0 - grpLo 0 0), outs := [[r.out p f dbl]] } := by
  have hels : vEls r = [0] := by
    simp only [vEls, h.cut, grpEls, h.k0, h.one, hgi]
    rfl
  unfold vCompute
  simp only [h.kind, hels, elemGroup, elemOut_single h, hout, hgi, h.cut, h.one, h.k0, h.flt]
  rfl

/-- In its first cycle the run reads its element. -/
theorem VRun.Single.vDo_reads (h : r.Single f dbl) (hrun : (pipe u p).run = some r) (hgi : r.gi = 0) (hcyc : r.cyc = 0) (hout : r.outs = []) :
    ∃ r', vDo u p = setRun u p (some r') ∧ r'.Holds f dbl r.ent r.caps (r.out p f dbl) 1 ∧ r'.todo = none := by
  have hsrc : srcDue r = true := by rw [h.srcDue_eq, hgi, hcyc]; rfl
  have hdue : outDue r = false := by rw [h.outDue_eq, hout]; rfl
  have hw : vWriting u p r = [] := by rw [vWriting, h.redDue_eq, hdue]; rfl
  have hpop : chPop u r = u := by rw [chPop, h.srcChains_eq]; rfl
  unfold vDo
  simp only [hrun, h.vIdleOp_eq, hsrc, hdue, hw, h.redDue_eq, h.ixDue_eq, Bool.false_eq_true, if_false, if_true, hpop, h.vCompute_eq u p hgi hout]
  exact ⟨_, rfl, ⟨⟨h.kind, h.one, h.dest, h.a, h.b, h.c, h.k0, h.ixg, h.wg, h.bound, rfl, h.flt, h.waitSince⟩, rfl, rfl, rfl,
    congrArg (· + 1) hcyc, rfl⟩, rfl⟩

/-- While its result is not yet due the run goes on. -/
theorem VRun.Holds.vDo_goes_on {e : VEntry} {c : VCaps} {o : VOut} {k : Nat} (h : r.Holds f dbl e c o k) (hrun : (pipe u p).run = some r)
    (hk : k + 1 ≠ 4 + vrRate (veI e)) :
    ∃ r', vDo u p = setRun u p (some r') ∧ r'.Holds f dbl e c o (k + 1) ∧ r'.todo = none := by
  have hsrc : srcDue r = false := by rw [h.single.srcDue_eq, h.gi]; rfl
  have hdue : outDue r = false := by rw [h.single.outDue_eq, h.cyc, h.ent, decide_eq_false hk, Bool.and_false]
  have hw : vWriting u p r = [] := by rw [vWriting, h.single.redDue_eq, hdue]; rfl
  unfold vDo
  simp only [hrun, h.single.vIdleOp_eq, hsrc, hdue, hw, h.single.redDue_eq, h.single.ixDue_eq, Bool.false_eq_true, if_false, h.outs]
  have hs := h.single
  exact ⟨_, rfl, ⟨⟨hs.kind, hs.one, hs.dest, hs.a, hs.b, hs.c, hs.k0, hs.ixg, hs.wg, hs.bound, rfl, hs.flt, hs.waitSince⟩,
    h.ent, h.caps, h.gi, congrArg (· + 1) h.cyc, rfl⟩, rfl⟩

/-- In the cycle its result is due it is written, and the run is over. -/
theorem VRun.Holds.vDo_writes {e : VEntry} {c : VCaps} {o : VOut} {k : Nat} (h : r.Holds f dbl e c o k) (hrun : (pipe u p).run = some r)
    (hk : k + 1 = 4 + vrRate (veI e)) :
    ∃ r', vDo u p = vDone (setRun (wrOuts u p r [o]) p (some r')) p r' ∧ r'.ent = e ∧ r'.caps = c := by
  have hsrc : srcDue r = false := by rw [h.single.srcDue_eq, h.gi]; rfl
  have hdue : outDue r = true := by rw [h.single.outDue_eq, h.cyc, h.ent, decide_eq_true hk, h.outs]; rfl
  have hw : vWriting u p r = [o] := by rw [vWriting, h.single.redDue_eq, hdue, h.outs]; rfl
  unfold vDo
  simp only [hrun, h.single.vIdleOp_eq, hsrc, hdue, hw, h.single.redDue_eq, h.single.ixDue_eq, Bool.false_eq_true, if_false, if_true, h.outs]
  have hend : grpEnd (veI r.ent) = 1 := by rw [grpEnd, h.single.one]
  have hlate : 4 ≤ r.cyc + 1 := by rw [h.cyc]; omega
  simp only [List.drop_succ_cons, List.drop_zero, List.isEmpty_nil, Bool.true_eq_false, if_false, h.single.flt, h.single.kind,
    h.single.vrS_eq, hend, h.gi, ne_eq, reduceCtorEq, not_false_eq_true, Nat.le_refl, hlate, and_self, if_true]
  exact ⟨_, rfl, h.ent, h.caps⟩

end Do
end Sys2Proof.Machine

/-! SUPPORT. The run of one element carried to its end: the cycles it waits for its result, the write, the instruction's completion, and the idle
pipe it leaves (R34, R92, R95, R104). -/

namespace Sys2Proof.Machine

/-! ### A pipe with nothing in line -/

/-- Nothing is queued at a pipe, no block is active on it, and no SLEEP or long-register write waits. -/
structure PipeSt.Bare (q : PipeSt) : Prop where
  calQ : q.calQ = []
  rmQ : q.rmQ = []
  blocks : q.blocks = []
  longW : q.longW = []
  sleep : q.sleep = false

section Bare
variable {b u : State} {p : Nat} {q : PipeSt}

theorem vStart_bare (hq : (pipe u p).Bare) : vStart u p = (.none, u) := by
  unfold vStart
  by_cases hmay : vMayStart u p = false
  · simp only [hmay, if_true]
  · simp [hmay, hq.calQ, hq.rmQ, hq.blocks]

/-- An idle pipe with nothing in line does nothing in a cycle. -/
theorem vFront_bare (hq : (pipe u p).Bare) (hrun : (pipe u p).run = none) : vFront (false, u) p = (false, u) := by
  have hprep : vPrep u p = u := by unfold vPrep; simp only [hrun]
  simp [vFront, hrun, vStart_bare hq, hprep]

/-- Pipe `p` is alone in its cycles: no other runs anything. -/
theorem vMates_alone (hothers : ∀ k, k ≠ p → (pipe u k).run = none) : vMates p u = [p] := by
  have hnone : (List.range u.cfg.part.pipes).filter
      (fun q => decide (q ≠ p) && (pipe u q).run.any (fun r => !(vChains r.caps).isEmpty)) = [] := by
    refine List.filter_eq_nil_iff.2 fun k _ => ?_
    by_cases hk : k = p
    · simp [hk]
    · simp [hothers k hk]
  rw [vMates, hnone]

section Completion
variable (h : PipeOnly b u p q) (hp : p < u.pipes.length) (hq : q.Bare)
include h hp hq

theorem PipeOnly.vHoldCnt (r : VRun) : ∃ q', PipeOnly b (Machine.vHoldCnt u p r) p q' ∧ q'.Bare := by
  have hnext : pipeNext (pipe u p) = none := by rw [h.pipe_eq, pipeNext, hq.calQ, hq.blocks, hq.rmQ]; rfl
  rw [Machine.vHoldCnt, hnext]
  exact ⟨_, h.modPipe hp _, ⟨hq.calQ, hq.rmQ, hq.blocks, hq.longW, hq.sleep⟩⟩

theorem PipeOnly.pipeLongs (hrun : q.run = none) : ∃ q', PipeOnly b (Machine.pipeLongs u p) p q' ∧ q'.Bare ∧ q'.run = none := by
  have hlong : (pipe u p).longW = [] := h.pipe_eq ▸ hq.longW
  rw [Machine.pipeLongs, hlong]
  exact ⟨_, h.modPipe hp _, ⟨hq.calQ, hq.rmQ, hq.blocks, rfl, hq.sleep⟩, hrun⟩

omit hp in
theorem PipeOnly.blockEnd (org : VOrg) : PipeOnly b (Machine.blockEnd u p org) p q := by
  have hblocks : (pipe u p).blocks = [] := h.pipe_eq ▸ hq.blocks
  cases org with
  | rm => exact h
  | cal act addr =>
    have hnone : (pipe { u with cal := { u.cal with resumed := u.cal.resumed &&& (15 - 2 ^ (p % 4)) } } p).blocks = [] := hblocks
    simp only [Machine.blockEnd, hnone, List.find?_nil]
    exact h.of_eq rfl rfl rfl

theorem PipeOnly.pipeIdle (hrun : q.run = none) : ∃ q', PipeOnly b (Machine.pipeIdle u p) p q' ∧ q'.Bare ∧ q'.run = none := by
  rw [Machine.pipeIdle, h.pipe_eq]
  split_ifs with hidle hsleep
  · exact absurd hsleep (by rw [hq.sleep]; decide)
  · exact ⟨_, (h.wf_power (by decide : pIDLE < pRETAINED)).modPipe hp _, ⟨hq.calQ, hq.rmQ, hq.blocks, hq.longW, hq.sleep⟩, hrun⟩
  · exact ⟨q, h, hq, hrun⟩

/-- The instruction's completion counts in DONE_CNT and leaves an idle pipe. -/
theorem PipeOnly.vDone {r : VRun} (hd : capChain r.caps.d = none) (hs : srcChains r.caps = []) :
    ∃ q', PipeOnly (cnt b (R.vpDONE_CNT p)) (Machine.vDone u p r) p q' ∧ q'.Bare ∧ q'.run = none := by
  have hrel (s : State) : chainRelease s p r.caps = s := by rw [chainRelease, hd, hs]; rfl
  have hlen {t : State} {x : PipeSt} (ht : PipeOnly b t p x) : p < t.pipes.length := ht.length.trans h.length.symm ▸ hp
  obtain ⟨q1, h1, hq1⟩ := h.vHoldCnt hp hq r
  have h2 := h1.setRun (hlen h1) none
  have hq2 : ({ q1 with run := none } : PipeSt).Bare := ⟨hq1.calQ, hq1.rmQ, hq1.blocks, hq1.longW, hq1.sleep⟩
  obtain ⟨q3, h3, hq3, hrun3⟩ := h2.pipeLongs (hlen h2) hq2 rfl
  have h4 := (h3.cnt_both (f := R.vpDONE_CNT p) (by simp [vpStateAddr, R.vpDONE_CNT])).blockEnd hq3 r.ent.org
  rw [Machine.vDone, hrel]
  exact h4.pipeIdle (h4.length.trans (h3.length.symm) ▸ hlen h3) hq3 hrun3

end Completion

end Bare

end Sys2Proof.Machine

/-! SUPPORT. The cycles of the run of one element, from its first to the idle pipe (R57, R95). -/

namespace Sys2Proof.Machine

/-- The module `b` after the run's output: its words, its flags, and one more instruction done (R34). -/
def runDone (b : State) (p : Nat) (o : VOut) : State :=
  cnt (stick (o.wr.foldl (fun s e => wr s e.1 e.2) b) (R.vpARF p) o.fl.toNat) (R.vpDONE_CNT p)

theorem foldl_wr_pipes (ws : List (Nat × Word)) (s : State) : (ws.foldl (fun s e => wr s e.1 e.2) s).pipes = s.pipes := by
  induction ws generalizing s with
  | nil => rfl
  | cons e ws ih => exact ih _
theorem pipe_runDone (b : State) (p : Nat) (o : VOut) (k : Nat) : pipe (runDone b p o) k = pipe b k := by
  simp [pipe, runDone, foldl_wr_pipes]

/-- Within `n` cycles pipe `p` runs out, and `w` is then the module but for the pipe. -/
def RunsOut (u : State) (p n : Nat) (w : State) : Prop :=
  ∃ t q, (∀ m, n ≤ m → vRunOn (vMates p) m u = t) ∧ PipeOnly w t p q ∧ q.run = none

/-- A cycle of a run that is alone and presents no access. -/
theorem VRun.Single.vRunOn_succ {r : VRun} {f : Nat} {dbl : Bool} (h : r.Single f dbl) {u : State} {p : Nat} (hp : p < u.pipes.length)
    (hothers : ∀ k, k ≠ p → (pipe u k).run = none) (hrun : (pipe u p).run = some r) (htodo : r.todo = none)
    (ho : ∀ os ∈ r.outs, ∀ o ∈ os, o.IntoLongs p) (n : Nat) :
    vRunOn (vMates p) (n + 1) u = vRunOn (vMates p) n (elapse (vDo (setRun u p (some { r with todo := some [] })) p) 1) := by
  have hgrants : vGrants (setRun u p (some { r with todo := some [] })) [p] = elapse (vDo (setRun u p (some { r with todo := some [] })) p) 1 :=
    vGrants_of_no_access (by rw [pipe_setRun hp]) rfl
  simp only [vRunOn, vMates_alone hothers, List.foldl_cons, List.foldl_nil, h.vFront_eq hrun hp htodo ho, if_true, hgrants]

theorem vRunOn_bare {u : State} {p : Nat} (hothers : ∀ k, k ≠ p → (pipe u k).run = none) (hq : (pipe u p).Bare)
    (hrun : (pipe u p).run = none) (n : Nat) : vRunOn (vMates p) n u = u := by
  cases n with
  | zero => rfl
  | succ n => simp [vRunOn, vMates_alone hothers, vFront_bare hq hrun]

theorem VRun.Single.cycle_begun {r : VRun} {f : Nat} {dbl : Bool} (h : r.Single f dbl) : ({ r with todo := some [] } : VRun).Single f dbl :=
  ⟨h.kind, h.one, h.dest, h.a, h.b, h.c, h.k0, h.ixg, h.wg, h.bound, h.cut, h.flt, h.waitSince⟩

/-- The output is written and the run completes. -/
theorem PipeOnly.write_out {b u : State} {p : Nat} {q : PipeSt} (h : PipeOnly b u p q) (hp : p < u.pipes.length) (hq : q.Bare) {r r' : VRun} {f : Nat}
    {dbl : Bool} (hs : r.Single f dbl) (hcaps : r'.caps = r.caps) {o : VOut} (ho : o.IntoLongs p) :
    ∃ q', PipeOnly (runDone b p o) (Machine.vDone (Machine.setRun (wrOuts u p r [o]) p (some r')) p r') p q' ∧ q'.Bare ∧ q'.run = none := by
  have hall : o.wr.filter (fun e => decide (u.cfg.part.streamWords ≤ e.1)) = o.wr :=
    List.filter_eq_self.2 fun e he => by
      obtain ⟨j, hj⟩ := ho e he
      exact decide_eq_true (hj ▸ streamWords_le_longAt _ p j)
  have hwr : wrOuts u p r [o] = stick (o.wr.foldl (fun s e => wr s e.1 e.2) u) (R.vpARF p) o.fl.toNat := by
    simp only [wrOuts, List.foldl_cons, List.foldl_nil, hall, hs.capChain_dest]
    cases o.ch <;> rfl
  have hfar : ∀ e ∈ o.wr, e.1 ≠ vpStateAddr p := fun e he => by
    obtain ⟨j, hj⟩ := ho e he
    exact hj ▸ longAt_ne_vpStateAddr p j
  have hout := (h.wrs_both hfar).stick_both (f := R.vpARF p) o.fl.toNat (by simp [vpStateAddr, R.vpARF])
  rw [← hwr] at hout
  have hlen : p < (wrOuts u p r [o]).pipes.length := by
    rw [hwr, stick_pipes, foldl_wr_pipes]
    exact hp
  exact (hout.setRun hlen (some r')).vDone (by simpa [Machine.setRun] using hlen) ⟨hq.calQ, hq.rmQ, hq.blocks, hq.longW, hq.sleep⟩
    (hcaps ▸ hs.capChain_dest) (hcaps ▸ hs.srcChains_eq)

theorem VRun.Holds.cycle_begun {r : VRun} {f : Nat} {dbl : Bool} {e : VEntry} {c : VCaps} {o : VOut} {k : Nat} (h : r.Holds f dbl e c o k) :
    ({ r with todo := some [] } : VRun).Holds f dbl e c o k :=
  ⟨h.single.cycle_begun, h.ent, h.caps, h.gi, h.cyc, h.outs⟩

theorem PipeSt.Bare.with_run {q : PipeSt} (h : q.Bare) (x : Option VRun) : ({ q with run := x } : PipeSt).Bare :=
  ⟨h.calQ, h.rmQ, h.blocks, h.longW, h.sleep⟩

section Alone
variable {b : State} {p : Nat} (hothers : ∀ k, k ≠ p → (pipe b k).run = none) (hp : p < b.pipes.length)
include hothers hp

/-- A cycle of the run: it begins in `u1`, and goes on from that cycle's end. -/
theorem PipeOnly.run_cycle {u : State} {q : PipeSt} (h : PipeOnly b u p q) {r : VRun} (hrun : q.run = some r) {f : Nat} {dbl : Bool}
    (hr : r.Single f dbl) (htodo : r.todo = none) (ho : ∀ os ∈ r.outs, ∀ o ∈ os, o.IntoLongs p) :
    ∃ u1, PipeOnly b u1 p { q with run := some { r with todo := some [] } } ∧
      ∀ n, vRunOn (vMates p) (n + 1) u = vRunOn (vMates p) n (Machine.elapse (vDo u1 p) 1) := by
  have hpu : p < u.pipes.length := h.length.symm ▸ hp
  exact ⟨_, h.setRun hpu _, hr.vRunOn_succ hpu (fun k hk => (congrArg PipeSt.run (h.others k hk)).trans (hothers k hk)) (h.pipe_eq.symm ▸ hrun)
    htodo ho⟩

/-- The cycles from one in which the output is held to the last. -/
theorem VRun.Holds.runsOut {f : Nat} {dbl : Bool} {e : VEntry} {c : VCaps} {o : VOut} (ho : o.IntoLongs p) (j : Nat) :
    ∀ {u : State} {q : PipeSt} {r : VRun} {k : Nat}, PipeOnly b u p q → q.Bare → q.run = some r → r.Holds f dbl e c o k → r.todo = none →
      k + j = 3 + vrRate (veI e) → RunsOut u p (j + 1) (runDone b p o) := by
  have hout {r : VRun} {k : Nat} (hr : r.Holds f dbl e c o k) : ∀ os ∈ r.outs, ∀ o ∈ os, o.IntoLongs p := by
    rw [hr.outs]
    simpa using ho
  induction j with
  | zero =>
    intro u q r k h hq hrun hr htodo hk
    obtain ⟨u1, h1, hgo⟩ := h.run_cycle hothers hp hrun hr.single htodo (hout hr)
    have hp1 : p < u1.pipes.length := h1.length.symm ▸ hp
    obtain ⟨r', hdo, -, hcaps⟩ := hr.cycle_begun.vDo_writes (u := u1) (p := p) (by rw [h1.pipe_eq]) (by omega)
    obtain ⟨q', hend, hq', hrun'⟩ := h1.write_out hp1 (hq.with_run _) hr.single.cycle_begun (hcaps.trans hr.caps.symm) ho
    have ht := (hdo ▸ hend).elapse 1
    refine ⟨_, q', fun m hm => ?_, ht, hrun'⟩
    obtain ⟨n, rfl⟩ := Nat.exists_eq_add_of_lt hm
    rw [Nat.zero_add, hgo]
    have hidle : ∀ k, k ≠ p → (pipe _ k).run = none := fun k hk =>
      (congrArg PipeSt.run ((ht.others k hk).trans (pipe_runDone b p o k))).trans (hothers k hk)
    exact vRunOn_bare hidle (ht.pipe_eq.symm ▸ hq') (ht.pipe_eq.symm ▸ hrun') n
  | succ j ih =>
    intro u q r k h hq hrun hr htodo hk
    obtain ⟨u1, h1, hgo⟩ := h.run_cycle hothers hp hrun hr.single htodo (hout hr)
    have hp1 : p < u1.pipes.length := h1.length.symm ▸ hp
    obtain ⟨r', hdo, hr', htodo'⟩ := hr.cycle_begun.vDo_goes_on (u := u1) (p := p) (by rw [h1.pipe_eq]) (by omega)
    have h2 := (hdo ▸ h1.setRun hp1 (some r')).elapse 1
    obtain ⟨t, q', ht, hleft⟩ := ih h2 ((hq.with_run _).with_run _) rfl hr' htodo' (by omega)
    refine ⟨t, q', fun m hm => ?_, hleft⟩
    obtain ⟨n, rfl⟩ := Nat.exists_eq_add_of_le' (Nat.le_trans (Nat.le_add_left 1 _) hm)
    rw [hgo]
    exact ht n (Nat.le_of_succ_le_succ hm)

/-- The run of one element, from its first cycle on. -/
theorem VRun.Single.runsOut {u : State} {q : PipeSt} (h : PipeOnly b u p q) (hq : q.Bare) {r : VRun} (hrun : q.run = some r) {f : Nat} {dbl : Bool}
    (hr : r.Single f dbl) (htodo : r.todo = none) (hgi : r.gi = 0) (hcyc : r.cyc = 0) (hout : r.outs = []) :
    RunsOut u p (4 + vrRate (veI r.ent)) (runDone b p (r.out p f dbl)) := by
  obtain ⟨u1, h1, hgo⟩ := h.run_cycle hothers hp hrun hr htodo (by simp [hout])
  have hp1 : p < u1.pipes.length := h1.length.symm ▸ hp
  obtain ⟨r', hdo, hr', htodo'⟩ := hr.cycle_begun.vDo_reads (u := u1) (p := p) (by rw [h1.pipe_eq]) hgi hcyc hout
  have h2 := (hdo ▸ h1.setRun hp1 (some r')).elapse 1
  obtain ⟨t, q', ht, hleft⟩ := hr'.runsOut hothers hp (r.out_intoLongs p f dbl) (2 + vrRate (veI r.ent)) h2
    ((hq.with_run _).with_run _) rfl htodo' (by simp only; omega)
  refine ⟨t, q', fun m hm => ?_, hleft⟩
  obtain ⟨n, rfl⟩ := Nat.exists_eq_add_of_le' (Nat.le_trans (by omega : 1 ≤ _) hm)
  rw [hgo]
  exact ht n (by omega)

end Alone
end Sys2Proof.Machine

/-! SUPPORT. An instruction's issue to a ready pipe and its start (R82, R91, R92). -/

namespace Sys2Proof.Machine

/-! ### What the pipe's own changes leave of the capture -/

section Capture
variable {b u : State} {p : Nat} {q : PipeSt} (h : PipeOnly b u p q)
include h

theorem PipeOnly.vDesc_eq (n : Nat) : vDesc u p n = vDesc b p n := by
  have hw (k : Nat) : rdN u (blkBase .vp p + 0x100 + 8 * n + k) = rdN b (blkBase .vp p + 0x100 + 8 * n + k) := by
    rw [rdN, rdN, h.mem _ (by simp only [vpStateAddr]; omega)]
  simp only [vDesc, hw]

theorem PipeOnly.vCap_eq (dbl : Bool) (x : VOpd) : vCap u p dbl x = vCap b p dbl x := by
  have hk (k : Nat) : rf u (R.vpK p k) = rf b (R.vpK p k) := h.rf_eq (by simp only [R.vpK, vpStateAddr]; omega)
  cases x with
  | stream n => simp only [vCap, h.vDesc_eq]
  | scal k => simp only [vCap, hk]
  | none | long | chain | bad => rfl

theorem PipeOnly.vCaps_eq (v : VI) : vCaps u p v = vCaps b p v := by simp only [vCaps, h.vCap_eq]

theorem PipeOnly.capOk_eq (c : VCap) : capOk u c = capOk b c := by
  have hv (k : Nat) : rb u (R.idnVALID k) = rb b (R.idnVALID k) := by
    rw [rb, rb, h.rf_eq (by simp only [R.idnVALID, blkBase, vpStateAddr]; omega)]
  cases c with
  | str d ix => simp only [capOk, hv]
  | none | long | chain | scal => rfl

theorem PipeOnly.vLegal_eq (w0 w1 w2 : Word) : vLegal u p w0 w1 w2 = vLegal b p w0 w1 w2 := by
  have hlvt : rf u R.smLVT_BASE = rf b R.smLVT_BASE := h.rf_eq (by simp only [R.smLVT_BASE, blkBase, vpStateAddr]; omega)
  simp only [vLegal, h.vCaps_eq, h.capOk_eq, h.cfg, hlvt]

end Capture

/-! ### From the queue into the pipe -/

/-- The idle pipe with one instruction queued by its origin (R92). -/
def pipeQueued (e : VEntry) : PipeSt :=
  match e.org with
  | .cal _ _ => { pipeZero with calQ := [e] }
  | .rm _ _ _ _ _ => { pipeZero with rmQ := [e] }

/-- A run just started: nothing of it has been read, computed or presented. -/
structure VRun.Fresh (r : VRun) (e : VEntry) (c : VCaps) (drm : Nat) : Prop where
  ent : r.ent = e
  caps : r.caps = c
  drm : r.drm = drm
  k0 : r.k0 = 0
  bound : r.bound = (vChains c).isEmpty
  cyc : r.cyc = 0
  gi : r.gi = 0
  ixg : r.ixg = 0
  wg : r.wg = 0
  outs : r.outs = []
  todo : r.todo = none
  cut : r.cut = none
  flt : r.flt = none
  waitSince : r.waitSince = none

theorem vMayStart_iff (s : State) (p : Nat) : vMayStart s p = true ↔ (pipe s p).run = none ∧ p < s.cfg.part.pipes ∧
    (rf s (R.vpUNIT_STATE p) = usON ∨ rf s (R.vpUNIT_STATE p) = usDRAINING) ∧ (pipe s p).pow = .steady ∧ rf s (R.vpPOWER p) < pRETAINED ∧
    rb s (R.vpCAL_HELD p) = false := by
  simp [vMayStart, and_assoc]

section Start
variable {s u : State} {p : Nat} {e : VEntry}

/-- A ready pipe with an instruction in its queue starts it with the operands captured (R82, R92). -/
theorem vStart_queued (hs : s.pipeReady p) (h : PipeOnly s u p (pipeQueued e)) (hbad : e.bad = none) (hres : e.res = none)
    (hlegal : vLegal s p e.w0 e.w1 e.w2 = true) :
    ∃ t r, vStart u p = (.moved, t) ∧ PipeOnly s t p { pipeZero with run := some r } ∧
      r.Fresh e (vCaps s p (veI e)) (rf s (R.vpDRM p)) := by
  obtain ⟨hp, hlen, -, -, hon, -, hcal, hrm⟩ := hs
  have hpu : p < u.pipes.length := by rw [h.length, hlen]; exact hp
  have hmay : vMayStart u p = true := by
    refine (vMayStart_iff u p).2 ⟨?_, h.cfg ▸ hp, .inl (h.unit.trans hon), ?_, h.power, ?_⟩
    · rw [h.pipe_eq, pipeQueued]; split <;> rfl
    · rw [h.pipe_eq, pipeQueued]; split <;> rfl
    · rw [rb, h.calHeld]; exact hcal
  have hrm' : rb u (R.vpRM_HELD p) = false := by rw [rb, h.rmHeld]; exact hrm
  have hactive : PipeOnly s (wf u (R.vpPOWER p) pACTIVE) p (pipeQueued e) := h.wf_power (by decide)
  have hwu : p < (wf u (R.vpPOWER p) pACTIVE).pipes.length := hpu
  have hstart {k : PipeSt → PipeSt} (hk : k (pipeQueued e) = pipeZero) :
      PipeOnly s (freeNat (modPipe (wf u (R.vpPOWER p) pACTIVE) p k)).2 p pipeZero :=
    (hk ▸ hactive.modPipe hwu k).of_eq rfl rfl rfl
  have hlenm {m : State} (hm : PipeOnly s m p pipeZero) : p < m.pipes.length := by rw [hm.length, hlen]; exact hp
  have hdrm : (R.vpDRM p).addr ≠ vpStateAddr p := by simp [R.vpDRM, vpStateAddr]
  have hbound {c : VCaps} (hc : c = vCaps s p (veI e)) : (vChains c).isEmpty = (vChains (vCaps s p (veI e))).isEmpty := by rw [hc]
  unfold vStart
  unfold pipeQueued at h hstart
  cases horg : e.org with
  | cal act a =>
    simp only [horg] at h hstart
    have hm := hstart (k := fun q => { q with calQ := q.calQ.drop 1 }) rfl
    simp only [hmay, h.pipe_eq, hbad, hres, hm.vLegal_eq, hlegal, if_true, Bool.true_eq_false, if_false]
    exact ⟨_, _, rfl, hm.setRun (hlenm hm) _,
      ⟨rfl, hm.vCaps_eq _, hm.rf_eq hdrm, rfl, hbound (hm.vCaps_eq _), rfl, rfl, rfl, rfl, rfl, rfl, rfl, rfl, rfl⟩⟩
  | rm c l m t pc =>
    simp only [horg] at h hstart
    have hm := hstart (k := fun q => { q with rmQ := q.rmQ.drop 1 }) rfl
    have hblocks : pipeZero.blocks.isEmpty = true ∧ rb u (R.vpRM_HELD p) = false := ⟨rfl, hrm'⟩
    have hcalQ : pipeZero.calQ = [] := rfl
    simp only [hmay, h.pipe_eq, hcalQ, hblocks, List.head?_cons, Option.map_some, hbad, hres, hm.vLegal_eq, hlegal, and_self, if_true,
      Bool.false_eq_true, Bool.true_eq_false, if_false]
    exact ⟨_, _, rfl, hm.setRun (hlenm hm) _,
      ⟨rfl, hm.vCaps_eq _, hm.rf_eq hdrm, rfl, hbound (hm.vCaps_eq _), rfl, rfl, rfl, rfl, rfl, rfl, rfl, rfl, rfl⟩⟩

/-- An instruction issued to a ready pipe is queued, and the pipe is ACTIVE (R92, R104). -/
theorem pipeIssue_ready (hs : s.pipeReady p) (w0 w1 w2 : Word) (o : VOrg) :
    PipeOnly s (pipeIssue s p w0 w1 w2 o none none).2 p (pipeQueued ⟨s.vecId, w0, w1, w2, o, none, none⟩) := by
  obtain ⟨hp, hlen, -, hzero, hon, hidle, -, -⟩ := hs
  have hlow : rf s (R.vpPOWER p) < pRETAINED := by rw [hidle]; decide
  have hself : PipeOnly s { s with vecId := s.vecId + 1 } p pipeZero :=
    (PipeOnly.mk rfl rfl hzero (fun _ _ => rfl) (fun _ _ => rfl) rfl rfl rfl hlow : PipeOnly s s p pipeZero).of_eq rfl rfl rfl
  have hrouse : pipeRouse { s with vecId := s.vecId + 1 } p true = wf { s with vecId := s.vecId + 1 } (R.vpPOWER p) pACTIVE := by
    have hpw : rf { s with vecId := s.vecId + 1 } (R.vpPOWER p) = pIDLE := hidle
    simp [pipeRouse, hself.pipe_eq, pipeZero, hpw, pIDLE, pRETAINED]
  have hactive := hself.wf_power (by decide : pACTIVE < pRETAINED)
  have hq := fun k => hactive.modPipe (by rw [wf_pipes]; exact hlen.symm ▸ hp) k
  cases o with
  | cal act a => simpa [pipeIssue, hon, hzero, hrouse, pipeZero, pipeQueued] using hq (fun q => { q with calQ := q.calQ ++ [_] })
  | rm c l m t pc => simpa [pipeIssue, hon, hzero, hrouse, pipeZero, pipeQueued] using hq (fun q => { q with rmQ := q.rmQ ++ [_] })

end Start
end Sys2Proof.Machine

/-! SUPPORT. A vector instruction of one element from its issue to the idle pipe, and what it leaves (R34, R88, R92). -/

namespace Sys2Proof.Machine

/-! ### The fields of the issued words (Table VEC-4) -/

section Decode
variable (op : Nat) (f : VFields)

theorem viDecode_viWords_op (hop : op < 2 ^ 10) :
    (viDecode (viWords op f).1 (viWords op f).2.1 (viWords op f).2.2).op = op := by
  have htyp := f.typ.isLt
  have hrnd := f.rnd.isLt
  have hres := f.res.isLt
  have hb (x : Bool) : b2n x ≤ 1 := by cases x <;> decide
  have hsat := hb f.sat
  have hconv := hb f.conv
  have hplanned := hb f.planned
  simp only [viDecode, viWords, bits, mkW, BitVec.toNat_ofNat]
  omega

theorem viDecode_viWords_d : (viDecode (viWords op f).1 (viWords op f).2.1 (viWords op f).2.2).d = f.d.toNat := by
  have hd := f.d.isLt
  have ha := f.a.isLt
  have hb := f.b.isLt
  have hc := f.c.isLt
  simp only [viDecode, viWords, bits, mkW, BitVec.toNat_ofNat]
  omega

theorem viDecode_viWords_n : (viDecode (viWords op f).1 (viWords op f).2.1 (viWords op f).2.2).n = f.n.toNat := by
  have hn := f.n.isLt
  have hmod := f.mod.isLt
  simp only [viDecode, viWords, bits, mkW, BitVec.toNat_ofNat]
  omega

end Decode

theorem vOpd_long_lt {x r n : Nat} (h : vOpd x = .long r n) : r < 16 := by
  unfold vOpd at h
  dsimp only at h
  split at h <;> split_ifs at h <;> cases h <;> omega

/-! ### From the start to the idle pipe -/

theorem VCap.still_of_ne {c : VCap} (hs : ∀ d x, c ≠ .str d x) (hl : ∀ m k d, c ≠ .long m k d) (hc : ∀ n, c ≠ .chain n) : c.Still := by
  cases c with
  | none | scal v => exact trivial
  | str d x => exact hs d x rfl
  | long m k d => exact hl m k d rfl
  | chain n => exact hc n rfl

theorem ne_chain_of_vChains_nil {c : VCaps} (h : vChains c = []) (n : Nat) : c.a ≠ .chain n ∧ c.b ≠ .chain n ∧ c.c ≠ .chain n := by
  simp only [vChains, List.append_eq_nil_iff] at h
  obtain ⟨⟨⟨-, ha⟩, hb⟩, hc⟩ := h
  refine ⟨fun hn => ?_, fun hn => ?_, fun hn => ?_⟩
  · rw [hn] at ha; cases ha
  · rw [hn] at hb; cases hb
  · rw [hn] at hc; cases hc

/-- Operands of which one alone, the destination, names a register or port: a long register from number `f` on. -/
structure VCaps.IntoLong (c : VCaps) (f : Nat) (dbl : Bool) : Prop where
  chains : vChains c = []
  dest : ∃ n, c.d = .long f n dbl
  a : c.a.Still
  b : c.b.Still
  c : c.c.Still

theorem VRun.Fresh.single {r : VRun} {e : VEntry} {c : VCaps} {drm f : Nat} {dbl : Bool} (h : r.Fresh e c drm) (hc : c.IntoLong f dbl)
    (hkind : vKind (veI e).op = .elem) (hone : (veI e).n = 1) : r.Single f dbl where
  kind := h.ent ▸ hkind
  one := h.ent ▸ hone
  dest := h.caps ▸ hc.dest
  a := h.caps ▸ hc.a
  b := h.caps ▸ hc.b
  c := h.caps ▸ hc.c
  k0 := h.k0
  ixg := h.ixg
  wg := h.wg
  bound := by rw [h.bound, hc.chains]; rfl
  cut := h.cut
  flt := h.flt
  waitSince := h.waitSince

/-- A pipe that starts an instruction goes on in the same cycle: the start takes none (R92). -/
theorem vRunOn_start {u t : State} {p : Nat} {r : VRun} {f : Nat} {dbl : Bool} (hu : ∀ k, (pipe u k).run = none)
    (ht : ∀ k, k ≠ p → (pipe t k).run = none) (hp : p < t.pipes.length) (hstart : vStart u p = (.moved, t)) (hrun : (pipe t p).run = some r)
    (hr : r.Single f dbl) (htodo : r.todo = none) (hout : r.outs = []) (n : Nat) :
    vRunOn (vMates p) (n + 1) u = vRunOn (vMates p) (n + 1) t := by
  have hfar : ∀ os ∈ r.outs, ∀ o ∈ os, o.IntoLongs p := by simp [hout]
  have hfirst : vFront (false, u) p = (true, setRun t p (some { r with todo := some [] })) := by
    simp [vFront, hu p, hstart, hr.vPrep_eq hrun htodo hfar]
  simp only [vRunOn, vMates_alone fun k _ => hu k, vMates_alone ht, List.foldl_cons, List.foldl_nil, hfirst, hr.vFront_eq hrun hp htodo hfar]

/-- An instruction of one element is issued to a ready pipe, which runs it to its end. -/
theorem vSettle_issued {s : State} {p : Nat} (hs : s.pipeReady p) {w0 w1 w2 : Word} {o : VOrg}
    (hlegal : vLegal s p w0 w1 w2 = true) {f : Nat} {dbl : Bool}
    (hc : (vCaps s p (viDecode w0 w1 w2)).IntoLong f dbl) (hkind : vKind (viDecode w0 w1 w2).op = .elem) (hone : (viDecode w0 w1 w2).n = 1) :
    ∃ (r : VRun) (q : PipeSt), r.Fresh ⟨s.vecId, w0, w1, w2, o, none, none⟩ (vCaps s p (viDecode w0 w1 w2)) (rf s (R.vpDRM p)) ∧
      q.run = none ∧ PipeOnly (runDone s p (r.out p f dbl)) (vSettle vLong (pipeIssue s p w0 w1 w2 o none none).2 p) p q := by
  have hissue := pipeIssue_ready hs w0 w1 w2 o
  obtain ⟨t, r, hstart, ht, hr⟩ := vStart_queued hs hissue rfl rfl hlegal
  obtain ⟨hp, hlen, hidle, -, -, -, -, -⟩ := hs
  have hps : p < s.pipes.length := hlen.symm ▸ hp
  have hsingle := hr.single hc hkind hone
  obtain ⟨t', q, hend, hleft, hrun⟩ := VRun.Single.runsOut (fun k _ => hidle k) hps ht ⟨rfl, rfl, rfl, rfl, rfl⟩ rfl hsingle hr.todo
    hr.gi hr.cyc hr.outs
  have hu : ∀ k, (pipe (pipeIssue s p w0 w1 w2 o none none).2 k).run = none := fun k => by
    by_cases hk : k = p
    · rw [hk, hissue.pipe_eq, pipeQueued]; split <;> rfl
    · rw [hissue.others k hk, hidle k]
  have hto : ∀ k, k ≠ p → (pipe t k).run = none := fun k hk => by rw [ht.others k hk, hidle k]
  have hrate := (vRate_bounds (veI r.ent).op (veI r.ent).typ (veI r.ent).mod).2
  have hlong : 4 + vrRate (veI r.ent) ≤ vLong := Nat.le_trans (by rw [vrRate]; omega : _ ≤ 22) (by decide : 22 ≤ 2 ^ 40)
  refine ⟨r, q, hr, hrun, ?_⟩
  obtain ⟨n, hn⟩ := Nat.exists_eq_add_of_lt (Nat.lt_of_lt_of_le (by omega) hlong : 0 < vLong)
  rw [Nat.zero_add] at hn
  rw [vSettle, hn, vRunOn_start hu hto (by rw [ht.length]; exact hps) hstart (by rw [ht.pipe_eq]) hsingle hr.todo hr.outs, ← hn, hend _ hlong]
  exact hleft

end Sys2Proof.Machine

/-! O4. What an element-wise instruction of one element leaves (R33, R34, R85, R116). -/

namespace Sys2Proof.Machine

/-! ### The words and flags left -/

theorem foldl_wr_cfg (ws : List (Nat × Word)) (s : State) : (ws.foldl (fun s e => wr s e.1 e.2) s).cfg = s.cfg := by
  induction ws generalizing s with
  | nil => rfl
  | cons e ws ih => exact ih _
theorem runDone_cfg (b : State) (p : Nat) (o : VOut) : (runDone b p o).cfg = b.cfg := foldl_wr_cfg o.wr b

theorem rd_foldl_wr_ne {ws : List (Nat × Word)} {x : Nat} (h : ∀ e ∈ ws, e.1 ≠ x) (s : State) :
    rd (ws.foldl (fun s e => wr s e.1 e.2) s) x = rd s x := by
  induction ws generalizing s with
  | nil => rfl
  | cons e ws ih =>
    rw [List.forall_mem_cons] at h
    exact (ih h.2 _).trans (rd_wr_ne s e.2 h.1.symm)

/-- An element's words in the long registers. -/
theorem rd_foldl_wrList_longEl (s : State) (p f v : Nat) (dbl : Bool) :
    let t := (wrList (longEl p f dbl 0) v).foldl (fun s e => wr s e.1 e.2) s
    rd t (longAt p (128 * f)) = mkW v ∧ (dbl = true → rd t (longAt p (128 * f + 1)) = mkW (v / 2 ^ 36)) := by
  cases dbl with
  | false => exact ⟨rd_wr_same _ _ _, nofun⟩
  | true => exact ⟨(rd_wr_ne _ _ (by simp [longAt])).trans (rd_wr_same _ _ _), fun _ => rd_wr_same _ _ _⟩

section Left
variable (b : State) (p : Nat) (o : VOut)

theorem rd_runDone {x : Nat} (harf : x ≠ (R.vpARF p).addr) (hdone : x ≠ (R.vpDONE_CNT p).addr) :
    rd (runDone b p o) x = rd (o.wr.foldl (fun s e => wr s e.1 e.2) b) x := by
  rw [runDone, rd_cnt_ne _ _ hdone, rd_stick_ne _ _ _ harf]

variable {o} (ho : o.IntoLongs p)
include ho

theorem rf_output_written {g : Field} (hg : g.addr < blkBase .vp p + 0x1000) : rf (o.wr.foldl (fun s e => wr s e.1 e.2) b) g = rf b g := by
  rw [rf, rf, rdN, rdN, rd_foldl_wr_ne fun e he => ?_]
  obtain ⟨j, hj⟩ := ho e he
  rw [hj, longAt]
  omega

theorem rf_runDone_arf : rf (runDone b p o) (R.vpARF p) = rf b (R.vpARF p) ||| o.fl.toNat := by
  rw [runDone, cnt, cntAdd, rf_wf_ne _ _ _ _ (by simp [R.vpARF, R.vpDONE_CNT]),
    rf_stick_same _ _ (Nat.zero_le 6) (by decide : 6 < 36) o.fl.isLt, rf_output_written b p ho (by simp [R.vpARF])]

theorem rf_runDone_done : rf (runDone b p o) (R.vpDONE_CNT p) = min (rf b (R.vpDONE_CNT p) + 1) (2 ^ 36 - 1) := by
  rw [runDone, rf_cnt_same _ _ (Nat.zero_le 35) (by decide : 35 < 36), stick, rf_wf_ne _ _ _ _ (by simp [R.vpARF, R.vpDONE_CNT]),
    rf_output_written b p ho (by simp [R.vpDONE_CNT])]
  rfl

end Left

/-- What stands in the module once pipe `p` has run an instruction of one element with the value and flags `y` into long register `f`. -/
structure ElementLeft (s t : State) (p f : Nat) (dbl : Bool) (y : Nat × Arf) : Prop where
  low : rd t (longAt p (128 * f)) = mkW y.1
  high : dbl = true → rd t (longAt p (128 * f + 1)) = mkW (y.1 / 2 ^ 36)
  idle : (pipe t p).run = none
  arf : rf t (R.vpARF p) = rf s (R.vpARF p) ||| y.2.toNat
  done : rf t (R.vpDONE_CNT p) = min (rf s (R.vpDONE_CNT p) + 1) (2 ^ 36 - 1)
  frame : ∀ x, x < blkBase .vp p ∨ blkBase .vp p + 0x10000 ≤ x → rd t x = rd s x

theorem mem_longEl_lt {p f a : Nat} {dbl : Bool} (hf : f < 16) (ha : a ∈ longEl p f dbl 0) :
    blkBase .vp p ≤ a ∧ a < blkBase .vp p + 0x10000 := by
  cases dbl
  · rw [List.mem_singleton.1 ha, longAt]
    omega
  · rcases List.mem_pair.1 ha with rfl | rfl
    · rw [longAt]; omega
    · rw [longAt]; omega

theorem PipeOnly.elementLeft {s t : State} {p f : Nat} {dbl : Bool} {r : VRun} {q : PipeSt} (h : PipeOnly (runDone s p (r.out p f dbl)) t p q)
    (hrun : q.run = none) (hf : f < 16) : ElementLeft s t p f dbl r.val := by
  obtain ⟨hlow, hhigh⟩ := rd_foldl_wrList_longEl s p f r.val.1 dbl
  have hlong (j : Nat) : rd t (longAt p j) = rd ((r.out p f dbl).wr.foldl (fun s e => wr s e.1 e.2) s) (longAt p j) :=
    (h.mem _ (longAt_ne_vpStateAddr p j)).trans
      (rd_runDone _ _ _ (by simp only [longAt, R.vpARF]; omega) (by simp only [longAt, R.vpDONE_CNT]; omega))
  exact {
    low := (hlong _).trans hlow
    high := fun hd => (hlong _).trans (hhigh hd)
    idle := h.pipe_eq ▸ hrun
    arf := (h.rf_eq (by simp [R.vpARF, vpStateAddr])).trans (rf_runDone_arf s p (r.out_intoLongs p f dbl))
    done := (h.rf_eq (by simp [R.vpDONE_CNT, vpStateAddr])).trans (rf_runDone_done s p (r.out_intoLongs p f dbl))
    frame := fun x hx => by
      rw [h.mem x (by rw [vpStateAddr]; omega), rd_runDone _ _ _ (by simp only [R.vpARF]; omega) (by simp only [R.vpDONE_CNT]; omega),
        rd_foldl_wr_ne fun e he => ?_]
      have := mem_longEl_lt hf (fst_mem_of_mem_wrList he)
      omega }

/-- An element-wise command of one element from still operands into a long register, on a ready pipe. -/
theorem vCommand_elementLeft {s : State} {p r n op : Nat} {o : VOrg} {f : VFields} (hl : s.live iVEC) (hs : s.pipeReady p) (hn : f.n = 1#24)
    (hd : vOpd f.d.toNat = .long r n) (hop : op < 2 ^ 10) (hkind : vKind op = .elem) :
    let w := viWords op f
    let v := viDecode w.1 w.2.1 w.2.2
    let c := vCaps s p v
    vLegal s p w.1 w.2.1 w.2.2 = true → c.a.Still → c.b.Still → c.c.Still → vChains c = [] →
    ∃ t, vCommand op p o f s = .next t ∧ ElementLeft s t p r ((vDbl v.op v.typ v.mod 0).getD false)
      (vLane v (viRm v (rf s (R.vpDRM p))) 0 (capScal c.a) (capScal c.b) (capScal c.c)) := by
  intro w v c hlegal ha hb hc hchains
  have hkind' : vKind v.op = .elem := (viDecode_viWords_op op f hop).symm ▸ hkind
  have hone : v.n = 1 := (viDecode_viWords_n op f).trans (by rw [hn]; rfl)
  have hdest : c.d = .long r n ((vDbl v.op v.typ v.mod 0).getD false) := by
    have hopd : vOpd v.d = .long r n := by rw [← hd]; exact congrArg vOpd (viDecode_viWords_d op f)
    change vCap s p _ (vOpd v.d) = _
    rw [hopd, vCap]
  obtain ⟨x, q, hx, hrun, hend⟩ := vSettle_issued hs (o := o) hlegal ⟨hchains, ⟨n, hdest⟩, ha, hb, hc⟩ hkind' hone
  have hval : x.val = vLane v (viRm v (rf s (R.vpDRM p))) 0 (capScal c.a) (capScal c.b) (capScal c.c) := by
    rw [VRun.val, hx.ent, hx.caps, hx.drm]
    rfl
  have hkeep := hend.of_eq (t := keep s (vSettle vLong (pipeIssue s p w.1 w.2.1 w.2.2 o none none).2 p))
    (hend.cfg.trans (runDone_cfg s p _)).symm rfl rfl
  exact ⟨_, by rw [vCommand, gate_live hl, if_pos hs.1], hval ▸ hkeep.elementLeft hrun (vOpd_long_lt hd)⟩

/-- The element-wise instructions of Table VIN-3, each with its operation code. -/
def elemInstrs (p : Nat) (o : VOrg) (f : VFields) : List (Nat × Instr) :=
  [(0x001, .vmov p o f), (0x002, .vadd p o f), (0x003, .vsub p o f), (0x004, .vneg p o f), (0x005, .vabs p o f), (0x006, .vmin p o f),
    (0x007, .vmax p o f), (0x008, .vcpys p o f), (0x009, .vand p o f), (0x00A, .vor p o f), (0x00B, .vxor p o f), (0x00C, .vnot p o f),
    (0x00D, .vshl p o f), (0x00E, .vshra p o f), (0x00F, .vshrl p o f), (0x010, .vcmp p o f), (0x011, .vsel p o f), (0x012, .vclamp p o f),
    (0x013, .vlerp p o f), (0x014, .vidx p o f), (0x020, .vmul p o f), (0x021, .vmuld p o f), (0x022, .vfma p o f), (0x023, .vmacd p o f),
    (0x024, .vrnd p o f), (0x025, .vcvt p o f), (0x028, .vdiv p o f), (0x029, .vdivr p o f), (0x02A, .vsqrt p o f)]

section ElementWise
variable {p : Nat} {o : VOrg} {f : VFields}

theorem elemInstrs_code {e : Nat × Instr} (he : e ∈ elemInstrs p o f) : e.1 < 2 ^ 10 ∧ vKind e.1 = .elem := by
  have hcodes : ∀ op ∈ [0x001, 0x002, 0x003, 0x004, 0x005, 0x006, 0x007, 0x008, 0x009, 0x00A, 0x00B, 0x00C, 0x00D, 0x00E, 0x00F, 0x010, 0x011,
      0x012, 0x013, 0x014, 0x020, 0x021, 0x022, 0x023, 0x024, 0x025, 0x028, 0x029, 0x02A], op < 2 ^ 10 ∧ vKind op = .elem := by decide
  exact hcodes e.1 (List.mem_map_of_mem (f := Prod.fst) he)

theorem exec_elemInstrs (s : State) : ∀ e ∈ elemInstrs p o f, exec e.2 s = vCommand e.1 p o f s := by
  simp only [elemInstrs, List.forall_mem_cons]
  exact ⟨rfl, rfl, rfl, rfl, rfl, rfl, rfl, rfl, rfl, rfl, rfl, rfl, rfl, rfl, rfl, rfl, rfl, rfl, rfl, rfl, rfl, rfl, rfl, rfl, rfl, rfl, rfl, rfl,
    rfl, List.forall_mem_nil _⟩

end ElementWise

/-- Settles O4: the command issues its words to the pipe, which starts the instruction, reads its element in the first cycle, writes it when its
start-up and rate have passed, and is idle. -/
theorem vectorElementResult : Obligations.VectorElementResult := by
  unfold Obligations.VectorElementResult
  intro s p r n o f hl hs hn hd e he w v c hlegal has hbs hcs hal hbl hcl hchains
  obtain ⟨hop, hkind⟩ := elemInstrs_code he
  have hport := ne_chain_of_vChains_nil hchains
  obtain ⟨t, ht, hleft⟩ := vCommand_elementLeft hl hs hn hd hop hkind hlegal (VCap.still_of_ne has hal fun k => (hport k).1)
    (VCap.still_of_ne hbs hbl fun k => (hport k).2.1) (VCap.still_of_ne hcs hcl fun k => (hport k).2.2) hchains
  exact ⟨t, (exec_elemInstrs s e he).trans ht, hleft.low, hleft.high, hleft.idle, hleft.arf, hleft.done, hleft.frame⟩

end Sys2Proof.Machine

/-! SUPPORT. READ_WORDS of no words (R366): the model answers it OK, with no data (log entry 39). -/

namespace Sys2Proof.Machine

/-- READ_WORDS for this module: address 0, LOW32, a count of 0 words. -/
def noWordsRead : List HWord := [hw (0x40 + 2 ^ 24), 5#32, 62#32, hw 3, 0#32, 0#32, hw (1 * 2 ^ 8 + 0)]

/-- Every island is released, Stream Memory is initialised, and `noWordsRead` waits on the UART. -/
def noWordsReadState : State :=
  wb { State.reset with up := 0x7FFFFF#23, hst := { State.reset.hst with mail := [⟨.uart, noWordsRead⟩] } } R.smINIT_DONE true

theorem noWordsReadState_cmdReady : noWordsReadState.cmdReady .mail 0x40 noWordsRead := by
  have hhere : noWordsReadState.cmdHere .mail noWordsRead := by unfold State.cmdHere State.live; decide
  exact ⟨hhere, by decide, by decide, by decide, ⟨0x40, 0, 1, 8, 3, 3⟩, by decide, by decide, by decide, by decide, by decide⟩

/-- The read is answered OK, with no data. -/
theorem exec_noWordsRead :
    ∃ t, exec (.readWords .mail) noWordsReadState = .next t ∧ t.hst.uartOut = [mkReply noWordsReadState noWordsRead hsOK 0 []] :=
  ⟨_, rfl, by decide⟩

/-- Refutes O46: READ_WORDS of 0 words in a valid conversion is answered OK, where the first clause claims BAD_PARAM with DETAIL 2. -/
theorem not_wordsBlocksAndParameterSets : ¬ Obligations.WordsBlocksAndParameterSets := by
  unfold Obligations.WordsBlocksAndParameterSets
  intro h
  obtain ⟨hread, -⟩ := h noWordsReadState .mail noWordsRead
  obtain ⟨hrefused, -⟩ := hread noWordsReadState_cmdReady (by decide) (by decide) (by decide)
  obtain ⟨t, ht, ⟨-, -, -, hrefusal⟩, -⟩ := hrefused (by decide)
  obtain ⟨u, hu, hanswer⟩ := exec_noWordsRead
  obtain rfl : t = u := Host.Outcome.next.inj (ht.symm.trans hu)
  exact absurd (hanswer.symm.trans hrefusal) (by decide)

end Sys2Proof.Machine

/-! SUPPORT. Operations on the word store: each leaves the module and its queue as they are and the store in canonical form (log entry 16). -/

namespace Sys2Proof.Machine

/-- From `s` to `t` the module and its queue are the same, and the word store stays canonical. -/
structure StoreStep (s t : State) : Prop where
  cfg : t.cfg = s.cfg
  pending : t.pending = s.pending
  memOk : s.memOk → t.memOk

theorem StoreStep.refl (s : State) : StoreStep s s := ⟨rfl, rfl, id⟩

section Operations
variable {s t u : State}

theorem StoreStep.trans (h : StoreStep s t) (h' : StoreStep t u) : StoreStep s u :=
  ⟨h'.cfg.trans h.cfg, h'.pending.trans h.pending, h'.memOk ∘ h.memOk⟩

theorem StoreStep.ite (c : Prop) [Decidable c] (ht : StoreStep s t) (hu : StoreStep s u) : StoreStep s (if c then t else u) := by
  split
  · exact ht
  · exact hu

variable (h : StoreStep s t)
include h

/-- A change beside the word store. -/
theorem StoreStep.beside (hcfg : u.cfg = t.cfg) (hpending : u.pending = t.pending) (hmem : u.mem = t.mem) : StoreStep s u :=
  h.trans ⟨hcfg, hpending, fun ht => by rwa [State.memOk, hcfg, hmem]⟩

theorem StoreStep.setEcc (x : List (Nat × EccErr)) : StoreStep s { t with ecc := x } := h.beside rfl rfl rfl
theorem StoreStep.setSm (x : StreamSt) : StoreStep s { t with sm := x } := h.beside rfl rfl rfl
theorem StoreStep.setBm (x : BulkSt) : StoreStep s { t with bm := x } := h.beside rfl rfl rfl
theorem StoreStep.setIc (x : IntSt) : StoreStep s { t with ic := x } := h.beside rfl rfl rfl
theorem StoreStep.setCal (x : CalSt) : StoreStep s { t with cal := x } := h.beside rfl rfl rfl
theorem StoreStep.setHst (x : HostSt) : StoreStep s { t with hst := x } := h.beside rfl rfl rfl
theorem StoreStep.setRaiseQ (x : List Nat) : StoreStep s { t with raiseQ := x } := h.beside rfl rfl rfl
theorem StoreStep.setNoticeQ (x : List Notice) : StoreStep s { t with noticeQ := x } := h.beside rfl rfl rfl
theorem StoreStep.setLogQ (x : List (Notice × Nat × Nat)) : StoreStep s { t with logQ := x } := h.beside rfl rfl rfl
theorem StoreStep.freeNat : StoreStep s (Machine.freeNat t).2 := h.beside rfl rfl rfl
theorem StoreStep.freeWord : StoreStep s (Machine.freeWord t).2 := h.beside rfl rfl rfl
theorem StoreStep.raise (n : Nat) : StoreStep s (Machine.raise t n) := h.beside rfl rfl rfl
theorem StoreStep.notice (r b n d : Nat) : StoreStep s (Machine.notice t r b n d) := h.beside rfl rfl rfl
theorem StoreStep.elapse (d : Nat) : StoreStep s (Machine.elapse t d) := h.beside rfl rfl rfl
theorem StoreStep.modCore (n : Nat) (k : CoreSt → CoreSt) : StoreStep s (Machine.modCore t n k) := h.beside rfl rfl rfl
theorem StoreStep.modGp (k : GpSt → GpSt) : StoreStep s (Machine.modGp t k) := h.beside rfl rfl rfl
theorem StoreStep.modPwr (k : PwrSt → PwrSt) : StoreStep s (Machine.modPwr t k) := h.beside rfl rfl rfl

theorem StoreStep.wr (a : Nat) (w : Word) : StoreStep s (Machine.wr t a w) := h.trans ⟨rfl, rfl, wr_memOk a w⟩
theorem StoreStep.wf (f : Field) (v : Nat) : StoreStep s (Machine.wf t f v) := h.wr _ _
theorem StoreStep.wb (f : Field) (b : Bool) : StoreStep s (Machine.wb t f b) := h.wr _ _
theorem StoreStep.cnt (f : Field) : StoreStep s (Machine.cnt t f) := h.wr _ _

/-- Entries of the store go: what they held reads as its reset value. -/
theorem StoreStep.filter (q : Nat × Word → Bool) : StoreStep s { t with mem := t.mem.filter q } :=
  h.trans ⟨rfl, rfl, Memory.wf_filter _ _ q⟩

theorem StoreStep.wrBlock (ws : List Word) (a : Nat) : StoreStep s (Machine.wrBlock t a ws) := by
  induction ws generalizing t a with
  | nil => exact h
  | cons w ws ih => exact ih (h.wr a w) (a + 1)

theorem StoreStep.foldl {α : Type} {k : State → α → State} (hk : ∀ u x, StoreStep s u → StoreStep s (k u x)) (l : List α) :
    StoreStep s (l.foldl k t) := List.foldlRecOn l k h fun u hu x _ => hk u x hu

theorem StoreStep.raiseIf (c : Bool) (n : Nat) : StoreStep s (Machine.raiseIf t c n) := by
  cases c with
  | false => exact h
  | true => exact h.raise n

end Operations

end Sys2Proof.Machine

/-! SUPPORT. What Midway changes when it admits held requests (R304, R309): its transactions, its register block, and the raise and notice of a
decode error. -/

namespace Sys2Proof.Machine

/-- Address `a` is a word of Midway's register block. -/
def InMwyBlock (a : Nat) : Prop := 0x20000000 ≤ a ∧ a < 0x20010000

/-- `t` is `s` but for Midway's transactions and registers; of raises, notices and what no memory rule reads nothing is said. -/
structure MwyOnly (s t : State) : Prop extends StoreStep s t where
  ecc : t.ecc = s.ecc
  now : t.now = s.now
  bm : t.bm = s.bm
  rd_eq : ∀ a, ¬ InMwyBlock a → rd t a = rd s a

theorem MwyOnly.refl (s : State) : MwyOnly s s := ⟨.refl s, rfl, rfl, rfl, fun _ _ => rfl⟩

section Admission
variable {s t u : State}

theorem MwyOnly.trans (h : MwyOnly s t) (h' : MwyOnly t u) : MwyOnly s u where
  toStoreStep := h.toStoreStep.trans h'.toStoreStep
  ecc := h'.ecc.trans h.ecc
  now := h'.now.trans h.now
  bm := h'.bm.trans h.bm
  rd_eq a ha := (h'.rd_eq a ha).trans (h.rd_eq a ha)

variable (h : MwyOnly s t)
include h

/-- A further change of Midway's transactions, or of the raises and notices on their way. -/
theorem MwyOnly.beside (hcfg : u.cfg = t.cfg) (hpending : u.pending = t.pending) (hecc : u.ecc = t.ecc) (hnow : u.now = t.now)
    (hbm : u.bm = t.bm) (hmem : u.mem = t.mem) : MwyOnly s u :=
  h.trans ⟨(StoreStep.refl t).beside hcfg hpending hmem, hecc, hnow, hbm, fun a _ => by rw [rd, rd, hcfg, hmem]⟩

theorem MwyOnly.wf {f : Field} (v : Nat) (hf : InMwyBlock f.addr) : MwyOnly s (Machine.wf t f v) :=
  h.trans ⟨(StoreStep.refl t).wf f v, rfl, rfl, rfl, fun _ ha => rd_wf_ne t f v fun hx => ha (hx ▸ hf)⟩

theorem MwyOnly.rf_eq {f : Field} (hf : ¬ InMwyBlock f.addr) : rf t f = rf s f := by rw [rf, rf, rdN, rdN, h.rd_eq _ hf]
theorem MwyOnly.rb_eq {f : Field} (hf : ¬ InMwyBlock f.addr) : rb t f = rb s f := by rw [rb, rb, h.rf_eq hf]

theorem MwyOnly.decErr (a m : Nat) : MwyOnly s (Machine.decErr t a m) := by
  have hreport (v : State) (hv : MwyOnly s v) (c : Bool) :
      MwyOnly s (notice (raiseIf (wb v R.mwDEC_ERR true) c 240) 9 0 0 1) := by
    have hset : MwyOnly s (wb v R.mwDEC_ERR true) := hv.wf 1 (by unfold InMwyBlock; decide)
    cases c with
    | false => exact hset.beside rfl rfl rfl rfl rfl rfl
    | true => exact hset.beside rfl rfl rfl rfl rfl rfl
  unfold Machine.decErr
  cases rb t R.mwDEC_ERR with
  | true => exact hreport t h _
  | false => exact hreport _ ((h.wf a (by unfold InMwyBlock; decide)).wf m (by unfold InMwyBlock; decide)) _

theorem MwyOnly.mwWaits (port : Nat) : MwyOnly s (Machine.mwWaits t port) := by
  unfold Machine.mwWaits
  split
  · exact h
  · exact h.beside rfl rfl rfl rfl rfl rfl

theorem MwyOnly.mwSet (ts : List Txn) (m : Nat) : MwyOnly s (Machine.mwSet t ts m) := by
  have hset : MwyOnly s { t with mw := { t.mw with txns := ts } } := h.beside rfl rfl rfl rfl rfl rfl
  unfold Machine.mwSet
  split
  next hm => exact hset.wf _ (by simp only [InMwyBlock, R.mwOUTST, blkBase]; omega)
  next => exact hset

theorem MwyOnly.mwAdmit (n m : Nat) : MwyOnly s (Machine.mwAdmit n t m) := by
  induction n generalizing t with
  | zero => exact h
  | succ n ih =>
    rw [Machine.mwAdmit]
    split
    · exact h
    next x _ =>
      split
      · refine ih (MwyOnly.mwSet ?_ _ _)
        split
        · exact h.decErr _ _
        · split
          · exact h.mwWaits _
          · exact h
      · exact h

end Admission

theorem mwyOnly_mwAdmitAll (s : State) : MwyOnly s (mwAdmitAll s) :=
  List.foldlRecOn _ _ (.refl s) fun _ h m _ => h.mwAdmit 64 m

end Sys2Proof.Machine

/-! SUPPORT. Stream Memory (R52 to R71): its own commands, each from the operations it is made of. -/

namespace Sys2Proof.Machine

/-! ### Words of memory and their errors -/

theorem blkOf_of_lt {a : Nat} (h : a < 0x10000000) : blkOf a = none := if_pos h

/-- A word of memory that no entry lists reads 0 (log entry 16). -/
theorem rd_unlisted {s : State} {a : Nat} (hblk : blkOf a = none) (h : a ∉ s.mem.map Prod.fst) : rd s a = 0#36 := by
  rw [rd, kvGet_absent _ _ _ h, coldWord, hblk]

theorem streamWords_lt (p : Part) : p.streamWords < 0x10000000 := by cases p <;> decide

theorem not_mem_filter_fst {α : Type} {q : Nat → Bool} (m : List (Nat × α)) {a : Nat} (ha : q a = false) :
    a ∉ (m.filter fun e => q e.1).map Prod.fst := by
  intro h
  obtain ⟨e, he, rfl⟩ := List.mem_map.1 h
  rw [(List.mem_filter.1 he).2] at ha
  cases ha

theorem kvFind_filter_none {α : Type} {q : Nat → Bool} (m : List (Nat × α)) {a : Nat} (ha : q a = false) :
    kvFind (m.filter fun e => q e.1) a = none := by
  rw [kvFind, Option.map_eq_none_iff, List.find?_eq_none]
  intro e he hea
  exact not_mem_filter_fst m ha (List.mem_map.2 ⟨e, he, of_decide_eq_true hea⟩)

@[simp] theorem eccAt_eccClear (s : State) (a : Nat) : eccAt (eccClear s a) a = none := kvFind_kvDel_same _ _
theorem not_mem_wback_eccClear (s : State) (a : Nat) : a ∉ (eccClear s a).sm.wback := by simp [eccClear]

/-! ### Reads and grants -/

theorem smComplete_none {s : State} {b : Nat} (h : kvFind s.sm.rmw b = none) : smComplete s b = s := by rw [smComplete, h]
theorem smComplete_some {s : State} {b a : Nat} {w : Word} (h : kvFind s.sm.rmw b = some (a, w)) :
    smComplete s b = eccClear (wr { s with sm := { s.sm with rmw := kvDel s.sm.rmw b } } a w) a := by rw [smComplete, h]

/-- A read of a word without an error, in a bank that is on (R53). -/
theorem smReadOwn_ok {s : State} {a : Nat} (hb : bankOff s (smBank s a) = false) (he : eccAt s a = none) :
    smReadOwn s a = (stOK, rd s a, s) := by rw [smReadOwn, hb, if_neg Bool.false_ne_true, he]

theorem smPerform_read {s : State} {a : Nat} (hr : kvFind s.sm.rmw (smBank s a) = none) (hb : bankOff s (smBank s a) = false)
    (he : eccAt s a = none) : smPerform s a .read = (stOK, rd s a, s) := by
  rw [smPerform, smRead, smComplete_none hr, smReadOwn_ok hb he]

/-- The one access that waits is what its port presents (R56). -/
theorem smPresents_single {s : State} {q : SmReq} (h : s.sm.wait = [q]) (p : Nat) :
    smPresents s p = if q.port = p then [q] else [] := by
  rw [smPresents, h]
  by_cases hp : q.port = p
  · simp [hp]
  · simp [hp]

theorem smWaiting_single {s : State} {q : SmReq} (h : s.sm.wait = [q]) (hp : q.port < 4) : smWaiting s (smBank s q.addr) = [4 + q.port] := by
  have hone : (List.range 4).filter (fun p => (smPresents s p).any fun r => decide (smBank s r.addr = smBank s q.addr)) = [q.port] := by
    have hport (p : Nat) : ((smPresents s p).any fun r => decide (smBank s r.addr = smBank s q.addr)) = decide (q.port = p) := by
      rw [smPresents_single h]
      by_cases hq : q.port = p <;> simp [hq]
    simp only [hport]
    generalize q.port = x at hp
    decide +revert
  rw [smWaiting, hone, List.map_singleton]

/-- With one candidate the rotation chooses it, wherever its pointer stands (R55). -/
theorem rotWin_singleton {ptr n x : Nat} (hx : x < n) : rotWin ptr n [x] = some x := by
  rw [rotWin]
  cases hw : ((List.range n).map fun i => (ptr + i) % n).find? fun r => [x].contains r with
  | some y => simpa using List.find?_some hw
  | none =>
    refine absurd (List.find?_eq_none.1 hw x (List.mem_map.2 ⟨(x + n - ptr % n) % n, ?_, ?_⟩)) (by simp)
    · exact List.mem_range.2 (Nat.mod_lt _ (by omega))
    · have hm : ptr % n < n := Nat.mod_lt _ (by omega)
      rw [Nat.add_mod, Nat.mod_mod, ← Nat.add_mod, Nat.add_mod, Nat.add_mod_mod, Nat.add_sub_cancel' (by omega), Nat.add_mod_right,
        Nat.mod_eq_of_lt hx]

/-- The grant of the one waiting access, a read of a word without an error (R55, R56). -/
theorem smGrantPort_read {s : State} {q : SmReq} (hq : s.sm.wait = [q]) (hk : q.kind = .read)
    (hr : kvFind s.sm.rmw (smBank s q.addr) = none) (hb : bankOff s (smBank s q.addr) = false) (he : eccAt s q.addr = none) :
    smGrantPort s (smBank s q.addr) q.port =
      txnWord { s with sm := { s.sm with wait := [], resp := [⟨q.txn, stOK, [rd s q.addr]⟩] } } q.txn q.idx stOK (rd s q.addr) := by
  have hperf : smPerform { s with sm := { s.sm with wait := [] } } q.addr .read = _ := smPerform_read hr hb he
  simp only [smGrantPort, smPresents_single hq, if_true, List.find?_cons, decide_true, hq, List.erase_cons_head, hk, hperf]
  rfl

/-! ### The commands -/

section Commands
variable {s : State} (hl : s.live iVEC)
include hl

theorem rmwCompletion_held {b a : Nat} {w : Word} (h : kvFind s.sm.rmw b = some (a, w)) :
    ∃ t, exec (.rmwCompletion b) s = .next t ∧ rd t a = w ∧ kvFind t.sm.rmw b = none ∧ eccAt t a = none ∧
      (∀ x, x ≠ a → rd t x = rd s x) ∧ t.hst = s.hst ∧ t.clusters = s.clusters := by
  refine ⟨_, gate_live hl fun s => smComplete s b, ?_⟩
  rw [smComplete_some h]
  exact ⟨rd_wr_same s a w, kvFind_kvDel_same _ _, eccAt_eccClear _ _, fun x hx => rd_wr_ne s w hx, rfl, rfl⟩

theorem correctedWriteBack_due {b a : Nat} (h : s.sm.wback.find? (fun x => decide (smBank s x = b)) = some a) :
    ∃ t, exec (.correctedWriteBack b) s = .next t ∧ eccAt t a = none ∧ a ∉ t.sm.wback ∧ t.mem = s.mem := by
  refine ⟨keep s (eccClear s a), ?_, eccAt_eccClear _ _, not_mem_wback_eccClear _ _, rfl⟩
  change execCorrectedWriteBack b s = _
  rw [execCorrectedWriteBack, gate_live hl, h]

theorem sharedAccessGrant_read {b : Nat} {q : SmReq} (hr : kvFind s.sm.rmw b = none) (hq : s.sm.wait = [q]) (hp : q.port < 4)
    (hb : smBank s q.addr = b) (hk : q.kind = .read) (hon : bankOff s b = false) (he : eccAt s q.addr = none) :
    ∃ t, exec (.sharedAccessGrant b) s = .next t ∧ t.sm.wait = [] ∧ t.sm.resp = [⟨q.txn, stOK, [rd s q.addr]⟩] ∧
      t.mw = (txnWord s q.txn q.idx stOK (rd s q.addr)).mw ∧ kvGet 0 t.sm.shPtr b = (4 + q.port + 1) % 8 ∧ t.mem = s.mem := by
  subst hb
  have hgrant : smGrantPort (smTurn s (smBank s q.addr) (4 + q.port)) (smBank s q.addr) q.port = _ := smGrantPort_read hq hk hr hon he
  refine ⟨keep s (smGrantPort (smTurn s (smBank s q.addr) (4 + q.port)) (smBank s q.addr) q.port), ?_, ?_⟩
  · change execSharedAccessGrant (smBank s q.addr) s = _
    simp only [execSharedAccessGrant, gate_live hl, hr, Option.isSome_none, Bool.false_eq_true, if_false, smWaiting_single hq hp,
      rotWin_singleton (show 4 + q.port < 8 by omega), Nat.add_sub_cancel_left]
  · rw [hgrant]
    exact ⟨rfl, rfl, rfl, kvGet_kvSet_same _ _ _ _, rfl⟩

theorem patrolScrub_reads {b : Nat} (hen : rb s R.smSCRUB_EN = true) (hb : b < s.cfg.part.banks) (hon : bankOff s b = false)
    (hr : kvFind s.sm.rmw b = none) (hw : smWaiting s b = []) (he : eccAt s (kvGet 0 s.sm.scrubRows b % 32768 * s.cfg.part.banks + b) = none) :
    ∃ t, exec (.patrolScrub b) s = .next t ∧ kvGet 0 t.sm.scrubRows b = kvGet 0 s.sm.scrubRows b + 1 ∧
      (∀ x, x ≠ R.smSCRUB_PASSES.addr → rd t x = rd s x) := by
  have hbank : smBank s (kvGet 0 s.sm.scrubRows b % 32768 * s.cfg.part.banks + b) = b := by
    rw [smBank, Nat.mul_add_mod_self_right, Nat.mod_eq_of_lt hb]
  have hread := smReadOwn_ok (hbank.symm ▸ hon) he
  refine ⟨_, gate_live hl _, ?_⟩
  simp only [hen, hb, hon, hr, hw, Option.isNone_none, List.isEmpty_nil, and_self, if_true, smRows, hread]
  split
  · exact ⟨kvGet_kvSet_same _ _ _ _, fun x hx => rd_cnt_ne _ _ hx⟩
  · exact ⟨kvGet_kvSet_same _ _ _ _, fun x _ => rfl⟩

theorem streamInitDone_zeros (hinit : rb s R.smINIT_DONE = false) :
    ∃ t, exec .streamInitDone s = .next t ∧ rb t R.smINIT_DONE = true ∧ (∀ a, a < s.cfg.part.streamWords → rd t a = 0#36) ∧
      (∀ a, a < s.cfg.part.streamWords → eccAt t a = none) ∧ islAt s iVEC + 32768 ≤ t.now := by
  let u := atLeast s (islAt s iVEC + 32768)
  have hadm := mwyOnly_mwAdmitAll (smInit u)
  have hcfg : (mwAdmitAll (smInit u)).cfg = s.cfg := hadm.cfg
  refine ⟨keep s (mwAdmitAll (smInit u)), ?_, ?_, fun a ha => ?_, fun a ha => ?_, ?_⟩
  · change execStreamInitDone s = _
    rw [execStreamInitDone, gate_live hl, hinit, if_neg Bool.false_ne_true]
  · rw [rb_keep hcfg, hadm.rb_eq (by unfold InMwyBlock; decide)]
    exact rb_wb_same _ _ _ rfl (by decide)
  · have hlt : a < 0x10000000 := ha.trans (streamWords_lt _)
    have hne : a ≠ R.smINIT_DONE.addr := by
      have : R.smINIT_DONE.addr = 0x20040002 := rfl
      omega
    rw [rd_keep hcfg, hadm.rd_eq a (by unfold InMwyBlock; omega), smInit, rd_wb_ne _ _ _ hne]
    exact rd_unlisted (blkOf_of_lt hlt) (not_mem_filter_fst (q := fun x => decide (s.cfg.part.streamWords ≤ x)) _ (by simpa using ha))
  · rw [eccAt, keep_ecc, hadm.ecc]
    exact kvFind_filter_none (q := fun x => decide (s.cfg.part.streamWords ≤ x)) _ (by simpa using ha)
  · rw [keep_now, hadm.now]
    exact le_atLeast_now s _

theorem lvtBaseWrite_taken {w : Word} (hm : mode s = mCONFIGURE)
    (hfit : bits w.toNat 22 8 * 256 + 2 * s.cfg.part.queues ≤ s.cfg.part.streamWords) :
    ∃ t, exec (.lvtBaseWrite w) s = .next t ∧ lvtBase t = bits w.toNat 22 8 * 256 ∧
      (∀ x, x ≠ R.smLVT_BASE.addr → rd t x = rd s x) := by
  have hfield : rf (wf s R.smLVT_BASE (bits w.toNat 22 8)) R.smLVT_BASE = bits w.toNat 22 8 :=
    (rf_wf_same s R.smLVT_BASE _ (by decide) (by decide)).trans (Nat.mod_mod _ _)
  refine ⟨keep s (wf s R.smLVT_BASE (bits w.toNat 22 8)), ?_, congrArg (· * 256) hfield, fun x hx => rd_wf_ne s _ _ hx⟩
  change execLvtBaseWrite w s = _
  rw [execLvtBaseWrite, gate_live hl, lvtBaseWrite, if_pos ⟨hm, hfit⟩]

theorem lvtBaseWrite_ignored {w : Word}
    (h : ¬ (mode s = mCONFIGURE ∧ bits w.toNat 22 8 * 256 + 2 * s.cfg.part.queues ≤ s.cfg.part.streamWords)) :
    exec (.lvtBaseWrite w) s = .next s := by
  change execLvtBaseWrite w s = _
  rw [execLvtBaseWrite, gate_live hl, lvtBaseWrite, if_neg h, keep_self]

end Commands

/-- Settles O1: each command has its effect in a live island. -/
theorem streamMemoryCommands : Obligations.StreamMemoryCommands := by
  unfold Obligations.StreamMemoryCommands
  intro s hl
  exact ⟨fun b a w h => rmwCompletion_held hl h, fun b a h => correctedWriteBack_due hl h,
    fun b q hr hq hp hb hk hon he => sharedAccessGrant_read hl hr hq hp hb hk hon he,
    fun b hen hb hon hr hw he => patrolScrub_reads hl hen hb hon hr hw he,
    fun hinit => streamInitDone_zeros hl hinit, fun w hm hfit => lvtBaseWrite_taken hl hm hfit,
    fun w hm => lvtBaseWrite_ignored hl fun h => hm h.1,
    fun w hlate => lvtBaseWrite_ignored hl fun h => absurd h.2 (Nat.not_le.2 hlate)⟩

end Sys2Proof.Machine

/-! SUPPORT. Bulk Memory (R72 to R78): bursts, the combining buffer and the controller's upkeep, each command from the operations it is made of. -/

namespace Sys2Proof.Machine

/-! ### Consecutive words -/

theorem rd_wrBlock_of_lt {x : Nat} (ws : List Word) (s : State) (a : Nat) (h : x < a) : rd (wrBlock s a ws) x = rd s x := by
  induction ws generalizing s a with
  | nil => rfl
  | cons w ws ih => rw [wrBlock, ih _ _ (by omega), rd_wr_ne s w (by omega)]

theorem rd_wrBlock_of_ge {x : Nat} (ws : List Word) (s : State) (a : Nat) (h : a + ws.length ≤ x) : rd (wrBlock s a ws) x = rd s x := by
  induction ws generalizing s a with
  | nil => rfl
  | cons w ws ih =>
    rw [List.length_cons] at h
    rw [wrBlock, ih _ _ (by omega), rd_wr_ne s w (by omega)]

theorem rd_wrBlock_at {i : Nat} (ws : List Word) (s : State) (a : Nat) (h : i < ws.length) : rd (wrBlock s a ws) (a + i) = ws.getD i 0#36 := by
  induction ws generalizing s a i with
  | nil => simp at h
  | cons w ws ih =>
    rw [wrBlock]
    cases i with
    | zero => rw [rd_wrBlock_of_lt _ _ _ (by omega), Nat.add_zero, rd_wr_same, List.getD_cons_zero]
    | succ i =>
      have hi := ih (wr s a w) (a + 1) (Nat.lt_of_succ_lt_succ h)
      rwa [Nat.add_right_comm, Nat.add_assoc, ← List.getD_cons_succ (x := w)] at hi

/-- What a store of consecutive words keeps. -/
theorem wrBlock_frame (ws : List Word) (s : State) (a : Nat) :
    (wrBlock s a ws).bm = s.bm ∧ (wrBlock s a ws).ecc = s.ecc ∧ (wrBlock s a ws).cfg = s.cfg := by
  induction ws generalizing s a with
  | nil => exact ⟨rfl, rfl, rfl⟩
  | cons w ws ih => exact ih (wr s a w) (a + 1)

/-! ### The store under bursts and buffer entries -/

section Kept
variable {s t : State} (h : StoreStep s t)
include h

theorem StoreStep.bmCorrected (b n src : Nat) : StoreStep s (Machine.bmCorrected t b n src) := by
  have hlog : StoreStep s (Machine.wf (Machine.wf (Machine.wf (Machine.cnt (Machine.wb { t with ecc := kvDel t.ecc b } R.bmCE true) R.bmCE_CNT)
      R.bmCE_ADDR b) R.bmCE_SYMS n) R.bmCE_SRC src) :=
    (((((h.setEcc _).wb R.bmCE true).cnt R.bmCE_CNT).wf R.bmCE_ADDR b).wf R.bmCE_SYMS n).wf R.bmCE_SRC src
  unfold Machine.bmCorrected
  dsimp only
  split
  · exact (hlog.raise _).notice _ _ _ _
  · exact hlog

theorem StoreStep.bmUncorrectable (b src : Nat) : StoreStep s (Machine.bmUncorrectable t b src) := by
  unfold Machine.bmUncorrectable
  dsimp only
  split
  · exact (((h.wb R.bmUE true).cnt R.bmUE_CNT).raise _).notice _ _ _ _
  · exact (((((h.wf R.bmUE_ADDR b).wf R.bmUE_SRC src).wb R.bmUE true).cnt R.bmUE_CNT).raise _).notice _ _ _ _

theorem StoreStep.bmMiscorrected (b src : Nat) : StoreStep s (Machine.bmMiscorrected t b src) :=
  (h.freeNat.foldl (fun _ _ hu => hu.freeWord.wr _ _) _).bmCorrected _ _ _

theorem StoreStep.bmReadBurst (b src : Nat) : StoreStep s (Machine.bmReadBurst t b src).2 := by
  unfold Machine.bmReadBurst
  split
  · exact h
  next n _ =>
    split
    · exact h.bmCorrected b n src
    · dsimp only
      split
      · exact h.freeNat.bmUncorrectable b src
      · exact h.freeNat.bmMiscorrected b src
  · exact h.bmUncorrectable b src

theorem StoreStep.wrAll (ws : List (Nat × Word)) : StoreStep s (Machine.wrAll t ws) := h.foldl (fun _ _ hu => hu.wr _ _) ws

theorem StoreStep.combDrop (b : Nat) : StoreStep s (Machine.combDrop t b) := h.setBm _

theorem StoreStep.combWrite (e : CombEntry) : StoreStep s (Machine.combWrite t e) := by
  have hdrop := h.combDrop e.burst
  unfold Machine.combWrite
  dsimp only
  split
  · exact (hdrop.setEcc _).wrAll _
  · split
    · exact ((hdrop.bmReadBurst _ _).wrAll _).foldl (fun _ _ hu => hu.wr _ _) _
    · exact hdrop.bmReadBurst _ _

theorem StoreStep.bulkDrain : StoreStep s (Machine.bulkDrain t) := h.foldl (fun _ e hu => hu.combWrite e) _

end Kept

/-! ### The combining buffer -/

@[simp] theorem rd_combDrop (s : State) (b a : Nat) : rd (combDrop s b) a = rd s a := rfl

@[simp] theorem combFind_combDrop (s : State) (b : Nat) : combFind (combDrop s b) b = none := by
  simp [combFind, combDrop, List.find?_eq_none]

/-- The entry that a write of one word opens (R74). -/
theorem combPuts_word (b a : Nat) (w : Word) (now : Nat) :
    combPuts ⟨b, [], [], now⟩ a [(w, true, true)] = ⟨b, [(a, w)], [], now⟩ := rfl

/-- A write of one word to a burst without an entry, while the buffer has room, opens one. -/
theorem bulkPartial_opens {s : State} {a : Nat} (w : Word) (hnone : combFind s (burstOf a) = none) (hroom : s.bm.comb.length < 32) :
    bulkPartial s a [w] = { s with bm := { s.bm with comb := s.bm.comb ++ [⟨burstOf a, [(a, w)], [], s.now⟩] } } := by
  have hmine : (s.bm.comb.filter fun e => decide (bulkChan s e.burst = bulkChan s (burstOf a))).length < 32 :=
    (List.length_filter_le _ _).trans_lt hroom
  simp only [bulkPartial, bulkMasked, hnone, List.map_singleton, if_pos hmine, combPuts_word]
  rfl

/-- A word just written by itself is read back from the buffer (R74). -/
theorem bulkWord_opened {s : State} {a : Nat} {w : Word} {now : Nat} (hnone : combFind s (burstOf a) = none) :
    bulkWord { s with bm := { s.bm with comb := s.bm.comb ++ [⟨burstOf a, [(a, w)], [], now⟩] } } a = w := by
  have hfind : combFind { s with bm := { s.bm with comb := s.bm.comb ++ [⟨burstOf a, [(a, w)], [], now⟩] } } (burstOf a) =
      some ⟨burstOf a, [(a, w)], [], now⟩ := by
    rw [combFind] at hnone
    simp [combFind, List.find?_append, hnone]
  simp [bulkWord, hfind, kvFind]

/-- A burst without an error is delivered as it is (R75). -/
theorem bmReadBurst_clean {s : State} {b src : Nat} (h : eccAt s b = none) : bmReadBurst s b src = (true, s) := by rw [bmReadBurst, h]
theorem bmReadBurst_unc {s : State} {b src : Nat} (h : eccAt s b = some .unc) : bmReadBurst s b src = (false, bmUncorrectable s b src) := by
  rw [bmReadBurst, h]

/-- An entry of one word is merged into a burst without an error (R74). -/
theorem combWrite_word {s : State} {e : CombEntry} {a : Nat} {w : Word} (hw : e.words = [(a, w)]) (hh : e.halves = [])
    (hecc : eccAt s e.burst = none) : combWrite s e = wr (combDrop s e.burst) a w := by
  have hclean : bmReadBurst (combDrop s e.burst) e.burst 2 = (true, combDrop s e.burst) := bmReadBurst_clean hecc
  have hfull : combFull e = false := by rw [combFull, hw]; rfl
  rw [combWrite, hfull, hclean, hw, hh]
  rfl

/-- A full burst takes the place of its entry and of its error (R74, R76). -/
theorem bulkBurst_frame (s : State) (b : Nat) (ws : List Word) :
    (bulkBurst s b ws).bm = (combDrop s b).bm ∧ (bulkBurst s b ws).ecc = kvDel s.ecc b ∧ (bulkBurst s b ws).cfg = s.cfg := wrBlock_frame ws _ b

/-- An uncorrectable burst is recorded, counted and raised, and keeps its error (R76). -/
theorem bmUncorrectable_effect (s : State) (b src : Nat) :
    rb (bmUncorrectable s b src) R.bmUE = true ∧ (bmUncorrectable s b src).raiseQ = s.raiseQ ++ [228] ∧
      (bmUncorrectable s b src).ecc = s.ecc ∧ (bmUncorrectable s b src).cfg = s.cfg := by
  have hset (u : State) : rb (cnt (wb u R.bmUE true) R.bmUE_CNT) R.bmUE = true := by
    rw [rb, cnt, cntAdd, rf_wf_ne _ _ _ _ (by decide)]
    exact rb_wb_same u R.bmUE true rfl (by decide)
  unfold bmUncorrectable
  cases rb s R.bmUE with
  | true => exact ⟨hset s, rfl, rfl, rfl⟩
  | false => exact ⟨hset (wf (wf s R.bmUE_ADDR b) R.bmUE_SRC src), rfl, rfl, rfl⟩

/-! ### Writes -/

section Writes
variable {s : State} (hl : s.live iBLK)
include hl

theorem bulkPartialWrite_opens {a : Nat} (w : Word) (ha : isBulk s a = true) (hnone : combFind s (burstOf a) = none)
    (hroom : s.bm.comb.length < 32) :
    ∃ t, exec (.bulkPartialWrite a [w]) s = .next t ∧ t.bm.comb = s.bm.comb ++ [⟨burstOf a, [(a, w)], [], s.now⟩] ∧ t.mem = s.mem ∧
      bulkWord t a = w := by
  have hin : inBurst s a [w].length = true := by
    have hplace : a % 16 + 1 ≤ 16 := Nat.mod_lt a (by decide)
    simp [inBurst, ha, hplace]
  refine ⟨keep s (bulkPartial s a [w]), ?_, ?_⟩
  · change execBulkPartialWrite a [w] s = _
    rw [execBulkPartialWrite, gate_live hl, if_pos hin]
  · rw [bulkPartial_opens w hnone hroom]
    exact ⟨rfl, rfl, bulkWord_opened hnone⟩

theorem bulkBurstWrite_replaces {a : Nat} {ws : List Word} (ha : isBulk s a = true) (halign : a % 16 = 0) (hlen : ws.length = 16) :
    ∃ t, exec (.bulkBurstWrite a ws) s = .next t ∧ (∀ i, i < 16 → rd t (a + i) = ws.getD i 0#36) ∧
      (∀ x, x < a ∨ a + 16 ≤ x → rd t x = rd s x) ∧ combFind t a = none ∧ eccAt t a = none := by
  obtain ⟨hbm, hecc, hcfg⟩ := bulkBurst_frame s a ws
  refine ⟨keep s (bulkBurst s a ws), ?_, fun i hi => ?_, fun x hx => ?_, ?_, ?_⟩
  · change execBulkBurstWrite a ws s = _
    rw [execBulkBurstWrite, gate_live hl, if_pos ⟨ha, halign, hlen⟩]
  · exact (rd_keep hcfg _).trans (rd_wrBlock_at ws _ a (hlen ▸ hi))
  · refine (rd_keep hcfg x).trans ?_
    rcases hx with hx | hx
    · exact rd_wrBlock_of_lt ws _ a hx
    · exact rd_wrBlock_of_ge ws _ a (hlen ▸ hx)
  · rw [combFind, keep_bm, hbm]
    exact combFind_combDrop s a
  · rw [eccAt, keep_ecc, hecc]
    exact kvFind_kvDel_same _ _

theorem flush_begins :
    ∃ t, exec .flush s = .next t ∧ rb t R.bmFLUSH = true ∧ t.bm = s.bm ∧ (∀ x, x ≠ R.bmFLUSH.addr → rd t x = rd s x) :=
  ⟨_, gate_live hl bulkFlush, rb_wb_same s R.bmFLUSH true rfl (by decide), rfl, fun _ hx => rd_wb_ne s R.bmFLUSH true hx⟩

theorem flushDone_drains (hf : rb s R.bmFLUSH = true) : exec .flushDone s = .next (wb (bulkDrain s) R.bmFLUSH false) := by
  have hkept : StoreStep s (wb (bulkDrain s) R.bmFLUSH false) := (StoreStep.refl s).bulkDrain.wb _ _
  change execFlushDone s = _
  rw [execFlushDone, gate_live hl, hf, if_pos rfl, keep_eq hkept.cfg hkept.pending]

theorem combineEntryTimeout_writes {e : CombEntry} {a : Nat} {w : Word} (hfind : combFind s e.burst = some e) (hw : e.words = [(a, w)])
    (hh : e.halves = []) (hecc : eccAt s e.burst = none) :
    ∃ t, exec (.combineEntryTimeout e.burst) s = .next t ∧ rd t a = w ∧ (∀ x, x ≠ a → rd t x = rd s x) ∧
      combFind t e.burst = none ∧ e.born + 1280 ≤ t.now := by
  have hwrite : combWrite (atLeast s (e.born + 1280)) e = wr (combDrop (atLeast s (e.born + 1280)) e.burst) a w := combWrite_word hw hh hecc
  refine ⟨keep s (combWrite (atLeast s (e.born + 1280)) e), ?_, ?_⟩
  · change execCombineEntryTimeout e.burst s = _
    rw [execCombineEntryTimeout, gate_live hl, hfind]
  · rw [hwrite]
    exact ⟨rd_wr_same _ a w, fun x hx => rd_wr_ne _ w hx, combFind_combDrop _ _, le_atLeast_now s _⟩

end Writes

/-! ### Reads and upkeep -/

theorem blkOf_of_bulk {a : Nat} (h : bulkBase ≤ a) : blkOf a = none := by
  have hbase : bulkBase = 0x200000000 := rfl
  rw [blkOf, if_neg (by omega), if_neg (by omega), if_pos (by omega)]

/-- The controller's last answer is replaced. -/
def bulkAnswer (s : State) (r : MemResp) : State := { s with bm := { s.bm with resp := r } }

section Reads
variable {s : State} (hl : s.live iBLK)
include hl

theorem bulkRead_clean {a n : Nat} (tag : Nat) (hin : inBurst s a n = true) (hecc : eccAt s (burstOf a) = none) :
    exec (.bulkRead a n tag) s =
      .next { s with bm := { s.bm with resp := ⟨tag, stOK, (List.range n).map (fun i => bulkWord s (a + i))⟩ } } := by
  change execBulkRead a n tag s = _
  simp only [execBulkRead, gate_live hl, hin, if_true, bulkRead, bmReadBurst_clean hecc]
  rfl

theorem bulkRead_uncorrectable {a n : Nat} (tag : Nat) (hin : inBurst s a n = true) (hecc : eccAt s (burstOf a) = some .unc) :
    ∃ t, exec (.bulkRead a n tag) s = .next t ∧ t.bm.resp = ⟨tag, stDATA, []⟩ ∧ rb t R.bmUE = true ∧
      t.raiseQ = s.raiseQ ++ [228] ∧ eccAt t (burstOf a) = some .unc := by
  obtain ⟨hue, hraise, herr, hcfg⟩ := bmUncorrectable_effect s (burstOf a) 0
  refine ⟨keep s (bulkAnswer (bmUncorrectable s (burstOf a) 0) ⟨tag, stDATA, []⟩), ?_, rfl, ?_, hraise, ?_⟩
  · change execBulkRead a n tag s = _
    simp only [execBulkRead, gate_live hl, hin, if_true, bulkRead, bmReadBurst_unc hecc]
    rfl
  · exact (rb_keep (t := bulkAnswer _ ⟨tag, stDATA, []⟩) hcfg R.bmUE).trans hue
  · exact (congrArg (kvFind · (burstOf a)) herr).trans hecc

theorem bulkRefresh_due {ch : Nat} (hch : ch < s.cfg.part.channels) :
    ∃ t, exec (.bulkRefresh ch) s = .next t ∧ t.now = max s.now (kvGet 0 s.bm.refresh ch + refreshNs s) ∧
      kvGet 0 t.bm.refresh ch = t.now ∧ t.mem = s.mem := by
  refine ⟨_, gate_live hl _, ?_⟩
  rw [if_pos hch]
  exact ⟨atLeast_now s _, kvGet_kvSet_same _ _ _ _, rfl⟩

/-- What a report of a device's temperature leaves, where no device was hot. -/
theorem dramTemperatureReport_first {d : Nat} (hot : Bool) (hnone : s.bm.hot = []) (hcool : rb s R.bmHOT_REFRESH = false) :
    ∃ t, exec (.dramTemperatureReport d hot) s = .next t ∧ rb t R.bmHOT_REFRESH = hot ∧ t.bm.hot = (if hot then [d] else []) ∧
      t.noticeQ = s.noticeQ ++ (if hot then [⟨64 * 6 + 5, 0, 0#36⟩] else []) := by
  refine ⟨_, (show execDramTemperatureReport d hot s = _ from gate_live hl _), ?_⟩
  simp only [hnone, hcool]
  cases hot with
  | true => exact ⟨rb_wb_same _ R.bmHOT_REFRESH true rfl (by decide), rfl, rfl⟩
  | false => exact ⟨rb_wb_same _ R.bmHOT_REFRESH false rfl (by decide), rfl, (List.append_nil _).symm⟩

theorem bulkScrubRead_next (hen : rb s R.bmSCRUB_EN = true) (hecc : eccAt s (bulkBase + 16 * rf s R.bmSCRUB_POS) = none)
    (hpos : rf s R.bmSCRUB_POS + 1 < bulkBursts s) :
    exec .bulkScrubRead s = .next (wf s R.bmSCRUB_POS (rf s R.bmSCRUB_POS + 1)) := by
  change execBulkScrubRead s = _
  simp only [execBulkScrubRead, gate_live hl, hen, if_true, bmReadBurst_clean hecc, if_neg hpos.ne]
  rfl

theorem bulkTrainingDone_trains (bad : Bool) (hnot : s.bm.trained = false) :
    ∃ t, exec (.bulkTrainingDone bad) s = .next t ∧ t.bm.trained = true ∧ rb t R.bmTRAINED_FULL = (bad || !s.hst.trainOk) ∧
      t.hst.trainOk = true := by
  refine ⟨_, (show execBulkTrainingDone bad s = _ from gate_live hl _), ?_⟩
  simp only [hnot, Bool.false_eq_true, if_false]
  split
  · exact ⟨rfl, rb_wb_same _ R.bmTRAINED_FULL _ rfl (by decide), rfl⟩
  · exact ⟨rfl, rb_wb_same _ R.bmTRAINED_FULL _ rfl (by decide), rfl⟩

theorem bulkZeroFillDone_zeros (htrained : s.bm.trained = true) (hinit : rb s R.bmINIT_DONE = false) :
    ∃ t, exec .bulkZeroFillDone s = .next t ∧ rb t R.bmINIT_DONE = true ∧ t.bm.comb = [] ∧ (∀ a, isBulk s a = true → rd t a = 0#36) := by
  have hadm := mwyOnly_mwAdmitAll (bmInit s)
  have hcfg : (mwAdmitAll (bmInit s)).cfg = s.cfg := hadm.cfg
  refine ⟨keep s (mwAdmitAll (bmInit s)), ?_, ?_, ?_, fun a ha => ?_⟩
  · change execBulkZeroFillDone s = _
    rw [execBulkZeroFillDone, gate_live hl, if_pos ⟨htrained, hinit⟩]
  · rw [rb_keep hcfg, hadm.rb_eq (by unfold InMwyBlock; decide)]
    exact rb_wb_same _ _ _ rfl (by decide)
  · rw [keep_bm, hadm.bm]
    rfl
  · have hge : bulkBase ≤ a := by
      rw [isBulk, Bool.and_eq_true, decide_eq_true_eq] at ha
      exact ha.1
    have hbase : bulkBase = 0x200000000 := rfl
    have hne : a ≠ R.bmINIT_DONE.addr := by
      have : R.bmINIT_DONE.addr = 0x20050001 := rfl
      omega
    rw [rd_keep hcfg, hadm.rd_eq a (by unfold InMwyBlock; omega), bmInit, rd_wb_ne _ _ _ hne]
    exact rd_unlisted (blkOf_of_bulk hge) (not_mem_filter_fst (q := fun x => decide (x < bulkBase)) _ (by simpa using hge))

end Reads

/-- Settles O2: each write, and each read or command of upkeep, has its effect in a live island. -/
theorem bulkMemoryCommands : Obligations.BulkMemoryCommands := by
  unfold Obligations.BulkMemoryCommands
  refine ⟨fun s hl => ⟨fun a w ha hnone hroom => bulkPartialWrite_opens hl w ha hnone hroom,
    fun a ws ha halign hlen => bulkBurstWrite_replaces hl ha halign hlen, flush_begins hl, flushDone_drains hl,
    fun e a w hfind hw hh hecc => combineEntryTimeout_writes hl hfind hw hh hecc⟩,
    fun s hl => ⟨fun a n tag hin hecc => bulkRead_clean hl tag hin hecc,
    fun a n tag hin hecc => bulkRead_uncorrectable hl tag hin hecc, fun ch hch => bulkRefresh_due hl hch, fun d hnone hcool => ⟨?_, ?_⟩,
    bulkScrubRead_next hl, bulkTrainingDone_trains hl, bulkZeroFillDone_zeros hl⟩⟩
  · obtain ⟨t, ht, hset, hhot, hnotice⟩ := dramTemperatureReport_first hl (d := d) true hnone hcool
    exact ⟨t, ht, hset, hhot, if_pos hset, hnotice⟩
  · obtain ⟨t, ht, hclear, -, hnotice⟩ := dramTemperatureReport_first hl (d := d) false hnone hcool
    exact ⟨t, ht, hclear, if_neg (Bool.not_eq_true _ ▸ hclear), hnotice.trans (List.append_nil _)⟩

end Sys2Proof.Machine

/-! SUPPORT. The word store under the operations of Stream Memory, Bulk Memory, the interrupt controller, the trouble record and the GPIO: each is
made of register writes and of changes beside the store. -/

namespace Sys2Proof.Machine

section Kept
variable {s t : State} (h : StoreStep s t)
include h

/-! ### Stream Memory -/

theorem StoreStep.eccClear (a : Nat) : StoreStep s (Machine.eccClear t a) := h.beside rfl rfl rfl

theorem StoreStep.smComplete (b : Nat) : StoreStep s (Machine.smComplete t b) := by
  unfold Machine.smComplete
  split
  · exact h
  next a w _ => exact ((h.setSm _).wr a w).eccClear a

theorem StoreStep.smCorrected (a pos : Nat) : StoreStep s (Machine.smCorrected t a pos) := by
  unfold Machine.smCorrected
  extract_lets counted logged _ waiting
  have hlogged : StoreStep s logged := (((h.wb R.smCE true).cnt R.smCE_CNT).wf R.smCE_ADDR a).wf R.smCE_POS pos
  have hwaiting : StoreStep s waiting := hlogged.setSm _
  exact StoreStep.ite _ ((hwaiting.raise _).notice _ _ _ _) hwaiting

theorem StoreStep.smUncorrectable (a : Nat) : StoreStep s (Machine.smUncorrectable t a) := by
  unfold Machine.smUncorrectable
  dsimp only
  split
  · exact (((h.wb R.smUE true).cnt R.smUE_CNT).raise _).notice _ _ _ _
  · exact ((((h.wf R.smUE_ADDR a).wb R.smUE true).cnt R.smUE_CNT).raise _).notice _ _ _ _

theorem StoreStep.smReadOwn (a : Nat) : StoreStep s (Machine.smReadOwn t a).2.2 := by
  unfold Machine.smReadOwn
  split
  · exact h
  · split
    · exact h
    next p _ => exact h.smCorrected a p
    · exact h.smUncorrectable a

theorem StoreStep.smRead (a : Nat) : StoreStep s (Machine.smRead t a).2.2 := (h.smComplete _).smReadOwn a

theorem StoreStep.smWrite (a : Nat) (w : Word) : StoreStep s (Machine.smWrite t a w).2 := by
  have hdone := h.smComplete (smBank t a)
  unfold Machine.smWrite Machine.smWriteOwn
  split
  · exact hdone
  · exact (hdone.wr a w).eccClear a

theorem StoreStep.smRmw (a : Nat) (f : Word → Word) : StoreStep s (Machine.smRmw t a f).2.2 := by
  have hread := h.smRead a
  unfold Machine.smRmw
  dsimp only
  split
  · exact hread.setSm _
  · exact hread

theorem StoreStep.smPerform (a : Nat) (k : SmKind) : StoreStep s (Machine.smPerform t a k).2.2 := by
  cases k with
  | read => exact h.smRead a
  | write w => exact h.smWrite a w
  | half hi x => exact h.smRmw a _
  | fadd w => exact h.smRmw a _
  | swap w => exact h.smRmw a _

theorem StoreStep.txnWord (tid idx st : Nat) (w : Word) : StoreStep s (Machine.txnWord t tid idx st w) := h.beside rfl rfl rfl

theorem StoreStep.smGrantPort (b port : Nat) : StoreStep s (Machine.smGrantPort t b port) := by
  unfold Machine.smGrantPort
  split
  · exact h
  next q _ =>
    exact (((h.setSm _).smPerform q.addr q.kind).setSm _).txnWord _ _ _ _

theorem StoreStep.lvtBaseWrite (w : Word) : StoreStep s (Machine.lvtBaseWrite t w) := by
  unfold Machine.lvtBaseWrite
  dsimp only
  split
  · exact h.wf _ _
  · exact h

theorem StoreStep.smInit : StoreStep s (Machine.smInit t) := ((h.filter _).setEcc _).wb _ _
theorem StoreStep.bmInit : StoreStep s (Machine.bmInit t) := (((h.filter _).setEcc _).setBm _).wb _ _

/-! ### Bulk Memory -/

theorem StoreStep.bulkMasked (a : Nat) (ws : List (Word × Bool × Bool)) : StoreStep s (Machine.bulkMasked t a ws) := by
  unfold Machine.bulkMasked
  extract_lets b _ mine room e _
  clear_value mine
  split
  · extract_lets e'
    exact StoreStep.ite _ (h.combWrite _) (h.setBm _)
  · have hroom : StoreStep s room := by
      refine StoreStep.ite _ h ?_
      cases mine with
      | nil => exact h
      | cons oldest _ => exact h.combWrite oldest
    exact StoreStep.ite _ (hroom.combWrite _) (hroom.setBm _)

theorem StoreStep.bulkBurst (b : Nat) (ws : List Word) : StoreStep s (Machine.bulkBurst t b ws) := ((h.combDrop b).setEcc _).wrBlock ws b

theorem StoreStep.bulkRead (a n : Nat) : StoreStep s (Machine.bulkRead t a n).2.2 := by
  have hread := h.bmReadBurst (burstOf a) 0
  unfold Machine.bulkRead
  dsimp only
  split
  · exact hread
  · exact hread

/-! ### The interrupt controller -/

theorem StoreStep.coreWake (n : Nat) : StoreStep s (Machine.coreWake t n) := by
  unfold Machine.coreWake
  split
  · exact h.modCore _ _
  · exact h

theorem StoreStep.icTargetCheck (src : Nat) : StoreStep s (Machine.icTargetCheck t src) := by
  unfold Machine.icTargetCheck
  dsimp only
  split
  · exact h
  · split
    · exact h
    · split
      · exact h.coreWake _
      · exact h.foldl (fun _ n hu => hu.coreWake n) _

theorem StoreStep.icNoAvail : StoreStep s (Machine.icNoAvail t) := by
  have hnotices (l : List Nat) : StoreStep s (l.foldl (fun s _ => Machine.notice (Machine.wb s R.icNO_AVAIL true) 2 17 0 0) t) :=
    h.foldl (fun _ _ hu => (hu.wb R.icNO_AVAIL true).notice 2 17 0 0) l
  exact (hnotices _).setIc _

theorem StoreStep.icLine (n : Nat) : StoreStep s (Machine.icLine t n) := by
  unfold Machine.icLine
  dsimp only
  split
  · exact h.wb _ _
  · exact (h.modCore _ _).wb _ _

theorem StoreStep.icArb : StoreStep s (Machine.icArb t) :=
  StoreStep.foldl (StoreStep.icNoAvail (h.foldl (fun _ src hu => hu.icTargetCheck src) _)) (fun _ n hu => hu.icLine n) _

theorem StoreStep.icRaise (src : Nat) : StoreStep s (Machine.icRaise t src) := by
  unfold Machine.icRaise
  split
  · exact (h.wb _ _).icArb
  · exact h

theorem StoreStep.icPush (n src : Nat) : StoreStep s (Machine.icPush t n src) := ((((h.wf _ _).wf _ _).wf _ _).wf _ _).wf _ _
theorem StoreStep.icPop (n : Nat) : StoreStep s (Machine.icPop t n) := ((((h.wf _ _).wf _ _).wf _ _).wf _ _).wf _ _

theorem StoreStep.icClaim (n : Nat) : StoreStep s (Machine.icClaim t n).2 := by
  unfold Machine.icClaim
  split
  · exact h.cnt _
  next src _ =>
    have hpush := (((h.wf (R.icOWNER src) n).wb (R.icACTIVE src) true).wb (R.icPENDING src) false).icPush n src
    dsimp only
    split
    · exact hpush.icArb
    · exact StoreStep.icArb ((hpush.setIc _).wb _ _)

theorem StoreStep.icEoi (n v : Nat) : StoreStep s (Machine.icEoi t n v) := by
  unfold Machine.icEoi
  dsimp only
  split
  · exact h
  · split
    · exact ((h.wb _ _).icPop n).icArb
    · exact (h.wb R.icEOI_ERR true).notice _ _ _ _

/-! ### The trouble record -/

theorem StoreStep.trbBit (k b : Nat) : StoreStep s (Machine.trbBit t k b) := ((h.wb _ _).wb _ _).raiseIf _ _

theorem StoreStep.logDue (n : Notice) : StoreStep s (Machine.logDue t n) := by
  unfold Machine.logDue
  split
  · exact h.setLogQ _
  · exact ((h.raiseIf _ _).cnt _).trbBit 13 0

theorem StoreStep.troubleSet (n : Notice) (force : Bool) : StoreStep s (Machine.troubleSet t n force) := by
  have hbit := h.trbBit (n.cause / 64) (n.cause % 64)
  unfold Machine.troubleSet
  dsimp only
  split
  · exact hbit
  · exact hbit.logDue n

theorem StoreStep.swSet (w : Word) : StoreStep s (Machine.swSet t w) := by
  refine h.foldl (fun u b hu => ?_) _
  split
  · exact (hu.trbBit 15 b).logDue _
  · exact hu

theorem StoreStep.logWrite : StoreStep s (Machine.logWrite t) := by
  unfold Machine.logWrite
  split
  · exact h
  · dsimp only
    have hentry {r : List (Notice × Nat × Nat)} (a : Nat) (ws : List Word) (v : Nat) :
        StoreStep s (Machine.wf (Machine.wrBlock { t with logQ := r } a ws) R.trbLOG_NEXT v) :=
      ((h.setLogQ _).wrBlock ws a).wf _ v
    split
    · exact ((hentry _ _ _).trbBit 13 1).raiseIf _ _
    · exact (hentry _ _ _).raiseIf _ _

/-! ### GPIO, captures, encoders and PMBus -/

theorem StoreStep.gpioEdge (n : Nat) (ext : Bool) : StoreStep s (Machine.gpioEdge t n ext) := by
  unfold Machine.gpioEdge
  dsimp only
  refine StoreStep.ite _ h (StoreStep.ite _ ?_ ?_)
  · exact ((h.wb _ _).raiseIf _ _).wb _ _
  · exact h.wb _ _

theorem StoreStep.capApply (i v : Nat) : StoreStep s (Machine.capApply t i v) := by
  have hset {u : State} (hu : StoreStep s u) : StoreStep s
      (Machine.raise (Machine.wb (Machine.wf (Machine.wf u (capS i) (dtSec v)) (capNs i) (dtNs v)) (capCap i) true) (218 + i)) :=
    (((hu.wf _ _).wf _ _).wb _ _).raise _
  unfold Machine.capApply iff
  dsimp only
  split
  · exact hset (h.wb _ _)
  · exact hset h

theorem StoreStep.captureEdge (i : Nat) : StoreStep s (Machine.captureEdge t i) := by
  have hfree := h.freeNat
  unfold Machine.captureEdge
  dsimp only
  split
  · exact hfree.modGp _
  · exact hfree.capApply i _

theorem StoreStep.capThaw (i : Nat) : StoreStep s (Machine.capThaw t i) := by
  unfold Machine.capThaw
  dsimp only
  split
  · exact h
  · split
    · exact (h.modGp _).capApply i _
    · exact h.modGp _

theorem StoreStep.devAtLeast (d : Nat) : StoreStep s (Machine.devAtLeast t d) := ((h.elapse _).elapse _).elapse _

theorem StoreStep.ppsOutPulse : StoreStep s (Machine.ppsOutPulse t) := StoreStep.ite _ h ((h.devAtLeast _).modGp _)

theorem StoreStep.encMoved (e : Nat) : StoreStep s (Machine.encMoved t e) := by
  unfold Machine.encMoved
  dsimp only
  split
  · split
    · split
      · exact h
      · exact h.setCal _
    · exact h
  · exact h

theorem StoreStep.encFlag (f : Field) : StoreStep s (Machine.encFlag t f) := (h.raiseIf _ _).wb _ _
theorem StoreStep.encCount (e : Nat) (up : Bool) : StoreStep s (Machine.encCount t e up) := (h.wf _ _).encMoved e

theorem StoreStep.encEdge (e : Nat) (a b : Bool) : StoreStep s (Machine.encEdge t e a b) := by
  have hab (l : List (Bool × Bool)) : StoreStep s (Machine.modGp t fun g => { g with encAB := l }) := h.modGp _
  unfold Machine.encEdge
  dsimp only
  split_ifs
  · exact h
  · exact ((hab _).encFlag _).cnt _
  · exact (hab _).encCount _ _
  · exact (hab _).encCount _ _
  · exact hab _
  · exact (hab _).encCount _ _
  · exact hab _
  · exact hab _

theorem StoreStep.encWrite (e : Nat) (w : Word) : StoreStep s (Machine.encWrite t e w) := by
  unfold Machine.encWrite
  extract_lets st used
  exact StoreStep.ite _ h ((h.wf _ _).encMoved e)

theorem StoreStep.pmAnswer (l : List Nat) : StoreStep s (Machine.pmAnswer t l) := h.modPwr _
theorem StoreStep.pmWord (w : Nat) : StoreStep s (Machine.pmWord t w) := h.pmAnswer _
theorem StoreStep.pmBlock (l : List Nat) : StoreStep s (Machine.pmBlock t l) := h.pmAnswer _

theorem StoreStep.pmTell (was : Bool) : StoreStep s (Machine.pmTell t was) := by
  unfold Machine.pmTell
  split
  · exact h
  · exact (h.raise _).notice _ _ _ _

end Kept

end Sys2Proof.Machine

/-! SUPPORT. The commands that keep the word store canonical: each passes a gate, and its effect is one of the operations above. -/

namespace Sys2Proof.Machine

/-- Every next state the outcome `o` answers is a store step from `s`. -/
def StoreKept (s : State) (o : Host.Outcome State Fault Refusal) : Prop := ∀ t, o = .next t → StoreStep s t

/-! ### Gates -/

theorem storeKept_keep {s u : State} (h : StoreStep s u) : StoreKept s (.next (keep s u)) := by
  rintro t ⟨⟩
  exact ⟨rfl, rfl, fun hs => keep_memOk (h.memOk hs) h.cfg⟩

/-- In an island released by force the one word that may change keeps the form (R391, log entry 65). -/
theorem storeStep_islUndefined (i : Nat) (s : State) : StoreStep s (islUndefined i s) := by
  have hfree := (StoreStep.refl s).freeNat.freeWord
  exact StoreStep.ite _ (hfree.wr _ _) hfree

section Gates
variable {s : State} {k : State → State}

theorem storeKept_gate (i : Nat) (hk : StoreStep s (k s)) : StoreKept s (gate i s k) :=
  storeKept_keep (StoreStep.ite _ (storeStep_islUndefined i s) (StoreStep.ite _ hk (.refl s)))
theorem storeKept_gateAon (hk : StoreStep s (k s)) : StoreKept s (gateAon s k) := storeKept_keep (StoreStep.ite _ hk (.refl s))
theorem storeKept_gateRm (n : Nat) (hk : StoreStep s (k s)) : StoreKept s (gateRm n s k) :=
  storeKept_gate iRMC (StoreStep.ite _ hk (.refl s))

end Gates

/-! ### Stream Memory -/

theorem storeKept_sharedAccessGrant (b : Nat) (s : State) : StoreKept s (execSharedAccessGrant b s) := by
  refine storeKept_gate _ (StoreStep.ite _ (.refl s) ?_)
  split
  · exact .refl s
  next r _ =>
    have hturn : StoreStep s (smTurn s b r) := (StoreStep.refl s).setSm _
    exact hturn.smGrantPort b (r - 4)

theorem storeKept_rmwCompletion (b : Nat) (s : State) : StoreKept s (execRmwCompletion b s) :=
  storeKept_gate _ ((StoreStep.refl s).smComplete b)
theorem storeKept_lvtBaseWrite (w : Word) (s : State) : StoreKept s (execLvtBaseWrite w s) :=
  storeKept_gate _ ((StoreStep.refl s).lvtBaseWrite w)

theorem storeKept_correctedWriteBack (b : Nat) (s : State) : StoreKept s (execCorrectedWriteBack b s) := by
  refine storeKept_gate _ ?_
  split
  · exact .refl s
  · exact (StoreStep.refl s).eccClear _

theorem storeKept_patrolScrub (b : Nat) (s : State) : StoreKept s (execPatrolScrub b s) := by
  have hread := (StoreStep.refl s).smReadOwn (kvGet 0 s.sm.scrubRows b % smRows * s.cfg.part.banks + b)
  exact storeKept_gate _ (StoreStep.ite _ (StoreStep.ite _ ((hread.setSm _).cnt _) (hread.setSm _)) (.refl s))

theorem storeKept_streamInitDone (s : State) : StoreKept s (execStreamInitDone s) :=
  storeKept_gate _ (StoreStep.ite _ (.refl s) ((((StoreStep.refl s).elapse _).smInit).trans (mwyOnly_mwAdmitAll _).toStoreStep))

/-! ### Bulk Memory -/

section Bulk
variable (s : State)

theorem storeKept_bulkPartialWrite (a : Nat) (ws : List Word) : StoreKept s (execBulkPartialWrite a ws s) :=
  storeKept_gate _ (StoreStep.ite _ ((StoreStep.refl s).bulkMasked a _) (.refl s))
theorem storeKept_bulkBurstWrite (a : Nat) (ws : List Word) : StoreKept s (execBulkBurstWrite a ws s) :=
  storeKept_gate _ (StoreStep.ite _ ((StoreStep.refl s).bulkBurst a ws) (.refl s))

theorem storeKept_combineEntryTimeout (b : Nat) : StoreKept s (execCombineEntryTimeout b s) := by
  refine storeKept_gate _ ?_
  split
  · exact .refl s
  · exact ((StoreStep.refl s).elapse _).combWrite _

theorem storeKept_bulkRead (a n tag : Nat) : StoreKept s (execBulkRead a n tag s) :=
  storeKept_gate _ (StoreStep.ite _ (((StoreStep.refl s).bulkRead a n).setBm _) (.refl s))
theorem storeKept_bulkRefresh (ch : Nat) : StoreKept s (execBulkRefresh ch s) :=
  storeKept_gate _ (StoreStep.ite _ (((StoreStep.refl s).elapse _).setBm _) (.refl s))
theorem storeKept_flush : StoreKept s (execFlush s) := storeKept_gate _ ((StoreStep.refl s).wb _ _)
theorem storeKept_flushDone : StoreKept s (execFlushDone s) :=
  storeKept_gate _ (StoreStep.ite _ ((StoreStep.refl s).bulkDrain.wb _ _) (.refl s))

theorem storeKept_bulkScrubRead : StoreKept s (execBulkScrubRead s) := by
  have hread := (StoreStep.refl s).bmReadBurst (bulkBase + 16 * rf s R.bmSCRUB_POS) 1
  exact storeKept_gate _ (StoreStep.ite _ (StoreStep.ite _ ((hread.wf _ _).cnt _) (hread.wf _ _)) (.refl s))

theorem storeKept_bulkZeroFillDone : StoreKept s (execBulkZeroFillDone s) :=
  storeKept_gate _ (StoreStep.ite _ ((StoreStep.refl s).bmInit.trans (mwyOnly_mwAdmitAll _).toStoreStep) (.refl s))

theorem storeKept_dramTemperatureReport (d : Nat) (hot : Bool) : StoreKept s (execDramTemperatureReport d hot s) := by
  have hset (x : BulkSt) := (StoreStep.refl s).setBm x
  exact storeKept_gate _ (StoreStep.ite _ (((hset _).wb _ _).notice _ _ _ _) ((hset _).wb _ _))

theorem storeKept_bulkTrainingDone (bad : Bool) : StoreKept s (execBulkTrainingDone bad s) := by
  have hset (x : BulkSt) (y : HostSt) : StoreStep s { s with bm := x, hst := y } := (StoreStep.refl s).beside rfl rfl rfl
  exact storeKept_gate _ (StoreStep.ite _ (.refl s) (StoreStep.ite _ (((hset _ _).wb _ _).notice _ _ _ _) ((hset _ _).wb _ _)))

end Bulk

/-! ### The interrupt controller -/

section Interrupts
variable (s : State)

theorem storeKept_sourceRaise (src : Nat) : StoreKept s (execSourceRaise src s) :=
  storeKept_gate _ (StoreStep.ite _ (((StoreStep.refl s).setRaiseQ _).icRaise src) (.refl s))
theorem storeKept_set (src : Nat) : StoreKept s (execSet src s) := storeKept_gate _ ((StoreStep.refl s).icRaise src)
theorem storeKept_clear (src : Nat) : StoreKept s (execClear src s) :=
  storeKept_gate _ (StoreStep.ite _ ((StoreStep.refl s).wb _ _).icArb (.refl s))
theorem storeKept_claim (n : Nat) : StoreKept s (execClaim n s) := storeKept_gateRm n (((StoreStep.refl s).icClaim n).setIc _)
theorem storeKept_eoi (n v : Nat) : StoreKept s (execEoi n v s) := storeKept_gateRm n ((StoreStep.refl s).icEoi n (v % 512))

theorem storeKept_holdoffExpiry (g : Nat) : StoreKept s (execHoldoffExpiry g s) := by
  refine storeKept_gate _ ?_
  split
  · exact .refl s
  · exact ((((StoreStep.refl s).elapse _).setIc _).wb _ _).icArb

end Interrupts

/-! ### The trouble record, GPIO and PMBus -/

section Aon
variable (s : State)

theorem storeKept_troubleNotice : StoreKept s (execTroubleNotice s) := by
  refine storeKept_gateAon ?_
  split
  · exact .refl s
  · exact ((StoreStep.refl s).setNoticeQ _).troubleSet _ _

theorem storeKept_trbSwset (w : Word) : StoreKept s (execTrbSwset w s) := storeKept_gateAon ((StoreStep.refl s).swSet w)
theorem storeKept_logEntryWrite : StoreKept s (execLogEntryWrite s) := storeKept_gateAon ((StoreStep.refl s).elapse _).logWrite
theorem storeKept_gpioSet (w : Word) : StoreKept s (execGpioSet w s) := storeKept_gateAon ((StoreStep.refl s).wf _ _)
theorem storeKept_gpioClr (w : Word) : StoreKept s (execGpioClr w s) := storeKept_gateAon ((StoreStep.refl s).wf _ _)
theorem storeKept_ppsOutPulse : StoreKept s (execPpsOutPulse s) := storeKept_gateAon (StoreStep.refl s).ppsOutPulse
theorem storeKept_gpioEdge (n : Nat) (up : Bool) : StoreKept s (execGpioEdge n up s) := storeKept_gateAon ((StoreStep.refl s).gpioEdge n up)
theorem storeKept_captureEdge (tick : Bool) : StoreKept s (execCaptureEdge tick s) := storeKept_gateAon ((StoreStep.refl s).captureEdge _)
theorem storeKept_captureSecondsRead (tick : Bool) : StoreKept s (execCaptureSecondsRead tick s) := storeKept_gateAon ((StoreStep.refl s).modGp _)
theorem storeKept_captureNsRead (tick : Bool) : StoreKept s (execCaptureNsRead tick s) := storeKept_gateAon ((StoreStep.refl s).capThaw _)
theorem storeKept_encoderEdge (e : Nat) (a b : Bool) : StoreKept s (execEncoderEdge e a b s) := storeKept_gateAon ((StoreStep.refl s).encEdge e a b)
theorem storeKept_encCountWrite (e : Nat) (w : Word) : StoreKept s (execEncCountWrite e w s) := storeKept_gateAon ((StoreStep.refl s).encWrite e w)
theorem storeKept_encOpenDetect (e : Nat) : StoreKept s (execEncOpenDetect e s) :=
  storeKept_gateAon (StoreStep.ite _ (((StoreStep.refl s).elapse _).encFlag _) (.refl s))

theorem storeKept_pmGate {k : State → State} (hk : StoreStep s (k s)) : StoreKept s (pmGate s k) := storeKept_gateAon hk

theorem storeKept_pmbusUnsupported (code : Nat) (write : Bool) : StoreKept s (execPmbusUnsupported code write s) := by
  refine storeKept_pmGate s ?_
  exact StoreStep.ite _ (.refl s) (((StoreStep.refl s).pmTell _).modPwr _)

end Aon

/-! ### The families of commands -/

section Families
variable (s : State)

theorem storeKept_streamBanks (b : Nat) :
    ∀ i ∈ [Instr.sharedAccessGrant b, .rmwCompletion b, .correctedWriteBack b, .patrolScrub b], StoreKept s (exec i s) := by
  simp only [List.forall_mem_cons]
  exact ⟨storeKept_sharedAccessGrant b s, storeKept_rmwCompletion b s, storeKept_correctedWriteBack b s,
    storeKept_patrolScrub b s, List.forall_mem_nil _⟩

theorem storeKept_streamWhole (w : Word) : ∀ i ∈ [Instr.streamInitDone, .lvtBaseWrite w], StoreKept s (exec i s) := by
  simp only [List.forall_mem_cons]
  exact ⟨storeKept_streamInitDone s, storeKept_lvtBaseWrite w s, List.forall_mem_nil _⟩

theorem storeKept_bulkAccesses (a n tag : Nat) (ws : List Word) :
    ∀ i ∈ [Instr.bulkPartialWrite a ws, .bulkBurstWrite a ws, .combineEntryTimeout a, .bulkRead a n tag, .bulkRefresh a, .flush, .flushDone,
      .bulkScrubRead, .bulkZeroFillDone], StoreKept s (exec i s) := by
  simp only [List.forall_mem_cons]
  exact ⟨storeKept_bulkPartialWrite s a ws, storeKept_bulkBurstWrite s a ws, storeKept_combineEntryTimeout s a, storeKept_bulkRead s a n tag,
    storeKept_bulkRefresh s a, storeKept_flush s, storeKept_flushDone s, storeKept_bulkScrubRead s, storeKept_bulkZeroFillDone s,
    List.forall_mem_nil _⟩

theorem storeKept_bulkReports (d : Nat) (b : Bool) : ∀ i ∈ [Instr.dramTemperatureReport d b, .bulkTrainingDone b], StoreKept s (exec i s) := by
  simp only [List.forall_mem_cons]
  exact ⟨storeKept_dramTemperatureReport s d b, storeKept_bulkTrainingDone s b, List.forall_mem_nil _⟩

theorem storeKept_interrupts (n : Nat) :
    ∀ i ∈ [Instr.sourceRaise n, .set n, .clear n, .claim n, .holdoffExpiry n], StoreKept s (exec i s) := by
  simp only [List.forall_mem_cons]
  exact ⟨storeKept_sourceRaise s n, storeKept_set s n, storeKept_clear s n, storeKept_claim s n, storeKept_holdoffExpiry s n,
    List.forall_mem_nil _⟩

theorem storeKept_troubleAndPins (w : Word) :
    ∀ i ∈ [Instr.troubleNotice, .trbSwset w, .logEntryWrite, .gpioSet w, .gpioClr w, .ppsOutPulse], StoreKept s (exec i s) := by
  simp only [List.forall_mem_cons]
  exact ⟨storeKept_troubleNotice s, storeKept_trbSwset s w, storeKept_logEntryWrite s, storeKept_gpioSet s w, storeKept_gpioClr s w,
    storeKept_ppsOutPulse s, List.forall_mem_nil _⟩

theorem storeKept_edges (e : Nat) (a b : Bool) (w : Word) :
    ∀ i ∈ [Instr.gpioEdge e a, .captureEdge a, .captureSecondsRead a, .captureNsRead a, .encoderEdge e a b, .encCountWrite e w, .encOpenDetect e,
      .pmbusUnsupported e a], StoreKept s (exec i s) := by
  simp only [List.forall_mem_cons]
  exact ⟨storeKept_gpioEdge s e a, storeKept_captureEdge s a, storeKept_captureSecondsRead s a, storeKept_captureNsRead s a,
    storeKept_encoderEdge s e a b, storeKept_encCountWrite s e w, storeKept_encOpenDetect s e, storeKept_pmbusUnsupported s e a,
    List.forall_mem_nil _⟩

theorem storeKept_pmbus :
    ∀ i ∈ [Instr.clearFaults, .capability, .statusByte, .statusWord, .statusInput, .statusTemperature, .readVin, .readIin, .readTemperature1,
      .readTemperature2, .readPin, .pmbusRevision, .mfrId, .mfrModel, .mfrRevision], StoreKept s (exec i s) := by
  have hs := StoreStep.refl s
  have hfree := hs.freeNat
  simp only [List.forall_mem_cons]
  exact ⟨(storeKept_pmGate s (hs.modPwr _) : StoreKept s (execClearFaults s)),
    (storeKept_pmGate s (hs.pmAnswer _) : StoreKept s (execCapability s)),
    (storeKept_pmGate s (hs.pmAnswer _) : StoreKept s (execStatusByte s)),
    (storeKept_pmGate s (hs.pmWord _) : StoreKept s (execStatusWord s)),
    (storeKept_pmGate s (hs.pmAnswer _) : StoreKept s (execStatusInput s)),
    (storeKept_pmGate s (hs.pmAnswer _) : StoreKept s (execStatusTemperature s)),
    (storeKept_pmGate s (hs.pmWord _) : StoreKept s (execReadVin s)), (storeKept_pmGate s (hfree.pmWord _) : StoreKept s (execReadIin s)),
    (storeKept_pmGate s (hs.pmWord _) : StoreKept s (execReadTemperature1 s)),
    (storeKept_pmGate s (hfree.pmWord _) : StoreKept s (execReadTemperature2 s)),
    (storeKept_pmGate s (hs.pmWord _) : StoreKept s (execReadPin s)),
    (storeKept_pmGate s (hs.pmAnswer _) : StoreKept s (execPmbusRevision s)),
    (storeKept_pmGate s (hs.pmBlock _) : StoreKept s (execMfrId s)), (storeKept_pmGate s (hs.pmBlock _) : StoreKept s (execMfrModel s)),
    (storeKept_pmGate s (hs.pmBlock _) : StoreKept s (execMfrRevision s)),
    List.forall_mem_nil _⟩

end Families

/-- Settles O57: each family of commands answers a store step. -/
theorem wordStoreStaysCanonical : Obligations.WordStoreStaysCanonical := by
  unfold Obligations.WordStoreStaysCanonical
  intro s t i hs ht hi
  have hkept : StoreKept s (exec i s) := by
    obtain ⟨b, hi⟩ | ⟨w, hi⟩ | ⟨a, n, tag, ws, hi⟩ | ⟨d, b, hi⟩ | ⟨n, hi | ⟨v, rfl⟩⟩ | ⟨w, hi⟩ |
      ⟨e, a, b, w, hi⟩ | hi := hi
    · exact storeKept_streamBanks s b i hi
    · exact storeKept_streamWhole s w i hi
    · exact storeKept_bulkAccesses s a n tag ws i hi
    · exact storeKept_bulkReports s d b i hi
    · exact storeKept_interrupts s n i hi
    · exact storeKept_eoi s n v
    · exact storeKept_troubleAndPins s w i hi
    · exact storeKept_edges s e a b w i hi
    · exact storeKept_pmbus s i hi
  exact (hkept t ht).memOk hs

end Sys2Proof.Machine

/-! SUPPORT. The arrival of a vector instruction (R88, R92): every form is its operation code given to a pipe. -/

namespace Sys2Proof.Machine

/-- In a live island a vector instruction is offered to its pipe's queue as its three words, and the pipe runs as far as it can. -/
theorem vCommand_live {s : State} {p : Nat} (hl : s.live iVEC) (hp : p < s.cfg.part.pipes) (op : Nat) (o : VOrg) (f : VFields) :
    vCommand op p o f s = .next (keep s (vSettle vLong
      (pipeIssue s p (viWords op f).1 (viWords op f).2.1 (viWords op f).2.2 o none none).2 p)) := by
  rw [vCommand, gate_live hl, if_pos hp]

/-- The queue read, the reductions, the row instructions, the butterfly, the no-operation and the fence, each with its operation code (Tables
VIN-5, VIN-7, VIN-8, VIN-10). -/
def groupInstrs (p : Nat) (o : VOrg) (f : VFields) : List (Nat × Instr) :=
  [(0x040, .vqget p o f), (0x030, .vrsum p o f), (0x031, .vrdot p o f), (0x032, .vrmin p o f), (0x033, .vrmax p o f), (0x041, .vband p o f),
    (0x042, .vxcor p o f), (0x043, .vbfly p o f), (0x000, .vnop p o f), (0x3F0, .vfence p o f)]

theorem exec_groupInstrs (s : State) {p : Nat} {o : VOrg} {f : VFields} : ∀ e ∈ groupInstrs p o f, exec e.2 s = vCommand e.1 p o f s := by
  simp only [groupInstrs, List.forall_mem_cons]
  exact ⟨rfl, rfl, rfl, rfl, rfl, rfl, rfl, rfl, rfl, rfl, List.forall_mem_nil _⟩

/-- Settles O3: each instruction, element-wise or not, is its operation code given to its pipe. -/
theorem vectorInstructionsAreIssued : Obligations.VectorInstructionsAreIssued := by
  unfold Obligations.VectorInstructionsAreIssued
  intro s p o f hl hp e he
  have hexec : exec e.2 s = vCommand e.1 p o f s := by
    have hsplit : e ∈ elemInstrs p o f ++ groupInstrs p o f := he
    exact (List.mem_append.1 hsplit).elim (exec_elemInstrs s e) (exec_groupInstrs s e)
  exact hexec.trans (vCommand_live hl hp e.1 o f)

end Sys2Proof.Machine

/-! SUPPORT. CHAIN_TIMEOUT with a long-register write that waits (R87, R108): the run's end applies the waiting write after the Progress Record, at
whatever address the write names. -/

namespace Sys2Proof.Machine

/-- A VADD of one element whose A is chain port 0: it has held the port's consumer role since instant 0, and no producer has come. -/
def chainWaiter : VRun :=
  let w := viWords 0x002 ⟨0#3, 0#3, false, false, false, 0#17, 0x080#9, 0x180#9, 0x1C0#9, 0#9, 1#24, 0#12⟩
  { ent := ⟨0, w.1, w.2.1, w.2.2, .cal 0 0, none, none⟩, caps := ⟨.long 0 1 false, .chain 0, .scal 0, .none⟩, refTag := 0, pstep := 0, drm := 0,
    k0 := 0, bound := true, cyc := 0, gi := 0, ixg := 0, wg := 0, ixA := [], ixB := [], outs := [], part := none, partB := none, acc := 0,
    accFl := 0#7, accFlB := 0#7, todo := none, got := [], olds := [], cut := none, flt := none, waitSince := some 0, waitTo := 0 }

/-- Pipe 0 runs `chainWaiter`; the write that waits for its end names PR0, the first word of the Progress Record, and no long register. -/
def strayWriteState : State :=
  { chTake { State.reset with up := 0x7FFFFF#23 } 0 0 1 false with
    pipes := { pipeZero with run := some chainWaiter, longW := [((R.vpPR0 0).addr, 0#36, 2 ^ 36 - 1)] } :: List.replicate 3 pipeZero }

theorem strayWriteState_live : strayWriteState.live iVEC := by unfold State.live; decide

/-- The waiting instruction goes on waiting in the cycle of the timeout. -/
theorem vPrep_strayWriteState : (pipe (vPrep strayWriteState 0) 0).run = some chainWaiter := by decide

theorem exec_chainTimeout_live {s : State} {p : Nat} (hl : s.live iVEC) (hp : p < s.cfg.part.pipes) :
    exec (.chainTimeout p) s = .next (keep s (chainTimeout s p)) := by
  change execChainTimeout p s = _
  rw [execChainTimeout, gate_live hl, if_pos hp]

/-- The timeout leaves PR0 without VALID, its bit 35. -/
theorem exec_chainTimeout_strayWriteState :
    ∃ t, exec (.chainTimeout 0) strayWriteState = .next t ∧ bit (rdN t (R.vpPR0 0).addr) 35 = false :=
  ⟨_, exec_chainTimeout_live strayWriteState_live (by decide), by decide⟩

/-- Refutes O8: the clause of CHAIN_TIMEOUT claims VALID in PR0 for every `State`, without asking that the writes that wait for the run's end name
long registers, as `PipeSt.longW` is meant to; one that names PR0 overwrites the record. -/
theorem not_vectorPipeUpkeep : ¬ Obligations.VectorPipeUpkeep := by
  unfold Obligations.VectorPipeUpkeep
  intro h
  obtain ⟨-, -, -, -, htimeout, -⟩ := h strayWriteState 0 strayWriteState_live (by decide) (by decide)
  obtain ⟨t, ht, -, hvalid, -⟩ := htimeout chainWaiter 0 (by decide) vPrep_strayWriteState (by decide) (by decide) ⟨0, 0, by decide⟩
  obtain ⟨u, hu, hlost⟩ := exec_chainTimeout_strayWriteState
  obtain rfl : t = u := Host.Outcome.next.inj (ht.symm.trans hu)
  exact Bool.false_ne_true (hlost.symm.trans hvalid)

end Sys2Proof.Machine

/-! SUPPORT. A vector instruction at work alone in its pipe, whatever its kind: its start with every field of its run, its cycles, and its end (R57,
R82, R92, R95). -/

namespace Sys2Proof.Machine

/-! ### The start of an instruction -/

/-- The run that an instruction begins as, its operands, tag and modes captured in `s` (R82, R122). -/
def VRun.begun (s : State) (p : Nat) (e : VEntry) : VRun :=
  { ent := e, caps := vCaps s p (veI e), refTag := tagOf (s.devTime - (22 + Config.freeNat s.free % 23)), pstep := (Machine.pstep s : Int),
    drm := rf s (R.vpDRM p), k0 := 0, bound := (vChains (vCaps s p (veI e))).isEmpty, cyc := 0, gi := 0, ixg := 0, wg := 0, ixA := [],
    ixB := [], outs := [], part := none, partB := none, acc := 0, accFl := 0#7, accFlB := 0#7, todo := none, got := [], olds := [],
    cut := none, flt := none, waitSince := none, waitTo := s.now }

/-- What a read of Stream Memory meets beside the words: completions, waiting accesses, word errors, and the slots written with tag 0. -/
structure SameMemory (b u : State) : Prop where
  rmw : u.sm.rmw = b.sm.rmw
  wait : u.sm.wait = b.sm.wait
  ecc : u.ecc = b.ecc
  fld : u.fld = b.fld

/-- That, and what an instruction captures that is no word. -/
structure SameBeside (b u : State) : Prop extends SameMemory b u where
  now : u.now = b.now
  devTime : u.devTime = b.devTime
  free : u.free = b.free

/-- Pipe `p` runs `r`, with nothing in line behind it, and the rest of the module is as in `b`. -/
structure Running (b u : State) (p : Nat) (r : VRun) : Prop where
  only : ∃ q, PipeOnly b u p q ∧ q.Bare ∧ q.run = some r
  memory : SameMemory b u

theorem pipeRouse_same (s : State) (p : Nat) (issue : Bool) : SameBeside s (pipeRouse s p issue) := by
  unfold pipeRouse
  dsimp only
  split <;> split_ifs <;> exact ⟨⟨rfl, rfl, rfl, rfl⟩, rfl, rfl, rfl⟩

theorem pipeIssue_same (s : State) (p : Nat) (w0 w1 w2 : Word) (o : VOrg) : SameBeside s (pipeIssue s p w0 w1 w2 o none none).2 := by
  have hself : SameBeside s s := ⟨⟨rfl, rfl, rfl, rfl⟩, rfl, rfl, rfl⟩
  have h := pipeRouse_same { s with vecId := s.vecId + 1 } p true
  unfold pipeIssue
  exact iteInduction (motive := fun x : Nat × State => SameBeside s x.2) (fun _ => hself) fun _ =>
    iteInduction (motive := fun x : Nat × State => SameBeside s x.2) (fun _ => hself) fun _ =>
      ⟨⟨h.rmw, h.wait, h.ecc, h.fld⟩, h.now, h.devTime, h.free⟩

section Start
variable {s u : State} {p : Nat} {e : VEntry} {q : PipeSt}

theorem PipeOnly.pstep_eq (h : PipeOnly s u p q) : pstep u = pstep s := by
  rw [pstep, pstep, h.rf_eq (by simp only [R.idnPSTEP_LO, blkBase, vpStateAddr]; omega),
    h.rf_eq (by simp only [R.idnPSTEP_HI, blkBase, vpStateAddr]; omega)]

/-- The capture is the same in a module that differs in the pipe alone. -/
theorem PipeOnly.begun_eq (h : PipeOnly s u p q) (hm : SameBeside s u) : VRun.begun u p e = .begun s p e := by
  simp only [VRun.begun, h.vCaps_eq, h.pstep_eq, h.rf_eq (by simp [R.vpDRM, vpStateAddr] : (R.vpDRM p).addr ≠ vpStateAddr p), hm.now,
    hm.devTime, hm.free]

theorem PipeOnly.running (h : PipeOnly s u p q) (hp : p < u.pipes.length) (hq : q.Bare) (hm : SameMemory s u) (r : VRun) :
    Running s (Machine.setRun u p (some r)) p r :=
  ⟨⟨_, h.setRun hp _, hq.with_run _, rfl⟩, ⟨hm.rmw, hm.wait, hm.ecc, hm.fld⟩⟩

/-- A ready pipe with an instruction in its queue starts it as the run begun in the module at its issue. -/
theorem vStart_begun (hs : s.pipeReady p) (h : PipeOnly s u p (pipeQueued e)) (hm : SameBeside s u) (hbad : e.bad = none)
    (hres : e.res = none) (hlegal : vLegal s p e.w0 e.w1 e.w2 = true) :
    ∃ t, vStart u p = (.moved, t) ∧ Running s t p (.begun s p e) := by
  obtain ⟨hp, hlen, -, -, hon, -, hcal, hrm⟩ := hs
  have hmay : vMayStart u p = true := by
    refine (vMayStart_iff u p).2 ⟨?_, h.cfg ▸ hp, .inl (h.unit.trans hon), ?_, h.power, ?_⟩
    · rw [h.pipe_eq, pipeQueued]; split <;> rfl
    · rw [h.pipe_eq, pipeQueued]; split <;> rfl
    · rw [rb, h.calHeld]; exact hcal
  have hrm' : rb u (R.vpRM_HELD p) = false := by rw [rb, h.rmHeld]; exact hrm
  have htaken {k : PipeSt → PipeSt} (hk : k (pipeQueued e) = pipeZero) :
      let m := modPipe (wf u (R.vpPOWER p) pACTIVE) p k
      vLegal (freeNat m).2 p e.w0 e.w1 e.w2 = true ∧ Running s (setRun (freeNat m).2 p (some (.begun m p e))) p (.begun s p e) := by
    intro m
    have hpu : p < u.pipes.length := by rw [h.length, hlen]; exact hp
    have hmp : PipeOnly s m p pipeZero := hk ▸ (h.wf_power (by decide : pACTIVE < pRETAINED)).modPipe hpu k
    have hms : SameBeside s m := ⟨⟨hm.rmw, hm.wait, hm.ecc, hm.fld⟩, hm.now, hm.devTime, hm.free⟩
    have hf : PipeOnly s (freeNat m).2 p pipeZero := hmp.of_eq rfl rfl rfl
    refine ⟨by rw [hf.vLegal_eq, hlegal], ?_⟩
    rw [hmp.begun_eq hms]
    exact hf.running (by rw [hf.length, hlen]; exact hp) ⟨rfl, rfl, rfl, rfl, rfl⟩ ⟨hms.rmw, hms.wait, hms.ecc, hms.fld⟩ _
  unfold vStart
  unfold pipeQueued at h htaken
  cases horg : e.org with
  | cal act a =>
    simp only [horg] at h htaken
    obtain ⟨hok, hrun⟩ := htaken (k := fun q => { q with calQ := q.calQ.drop 1 }) rfl
    simp only [hmay, h.pipe_eq, hbad, hres, hok, if_true, Bool.true_eq_false, if_false]
    exact ⟨_, rfl, hrun⟩
  | rm c l m t pc =>
    simp only [horg] at h htaken
    obtain ⟨hok, hrun⟩ := htaken (k := fun q => { q with rmQ := q.rmQ.drop 1 }) rfl
    have hblocks : pipeZero.blocks.isEmpty = true ∧ rb u (R.vpRM_HELD p) = false := ⟨rfl, hrm'⟩
    have hcalQ : pipeZero.calQ = [] := rfl
    simp only [hmay, h.pipe_eq, hcalQ, hblocks, List.head?_cons, Option.map_some, hbad, hres, hok, and_self, if_true,
      Bool.false_eq_true, Bool.true_eq_false, if_false]
    exact ⟨_, rfl, hrun⟩

end Start

end Sys2Proof.Machine

/-! SUPPORT. The cycles of an instruction alone in its pipe: those in which it waits for nothing, those it only passes, and its last (R57, R95). -/

namespace Sys2Proof.Machine

/-! ### A run that waits for nothing -/

/-- A run without chain ports that nothing holds up. -/
structure VRun.Calm (r : VRun) : Prop where
  dest : capChain r.caps.d = none
  srcs : srcChains r.caps = []
  bound : r.bound = true
  kind : vKind (veI r.ent).op ≠ .fence
  cut : r.cut = none
  flt : r.flt = none
  waitSince : r.waitSince = none

/-- The run with what belongs to one cycle taken away: it is between cycles. -/
def VRun.cleared (r : VRun) : VRun := { r with todo := none, got := [], olds := [], cut := none }

/-- The accesses of a cycle of the run. -/
def VRun.asks (r : VRun) (u : State) (p : Nat) : List VReq := if vIdleOp r then [] else vReqs u p r

section Calm
variable {u : State} {p : Nat} {r : VRun} (h : r.Calm)
include h

/-- A cycle of the run begins: it presents its accesses. -/
theorem VRun.Calm.vPrep_eq (hrun : (pipe u p).run = some r) (htodo : r.todo = none) :
    vPrep u p = Machine.setRun u p (some { r with todo := some (r.asks u p) }) := by
  have hset : modRun u p (fun r => { r with todo := some [] }) = Machine.setRun u p (some { r with todo := some [] }) := by
    rw [modRun, hrun]; rfl
  have hcut : (if outDue r then prodCut u r else r) = r := by
    have hcut : prodCut u r = r := by rw [prodCut, h.dest]
    rw [hcut, ite_self]
  have habort : prodAbort u r = none := by rw [prodAbort, h.dest]; rfl
  have hroom : prodWaits u r = false := by rw [prodWaits, h.dest]
  have hsay : (if srcDue r then srcSay u r else (ChSay.ready, 0)) = (.ready, 0) := by
    have : srcSay u r = (.ready, 0) := by rw [srcSay, h.srcs]; rfl
    rw [this, ite_self]
  have hwaited : vWaited u p r = u := by rw [vWaited, h.waitSince]; rfl
  unfold vPrep
  by_cases hidle : vIdleOp r = true
  · simp only [hrun, htodo, hidle, h.kind, h.bound, VRun.asks, hset, Option.isSome_none, Bool.false_eq_true, if_false, if_true, false_and,
      true_or]
  · simp only [hrun, htodo, hidle, hwaited, h.bound, habort, Option.map_some, Option.getD_some, hcut, h.flt, setRun_same hrun, hroom, hsay,
      VRun.asks, h.waitSince, Option.isSome_none, Bool.false_eq_true, if_false, if_true, and_false]

/-- It is as calm while it presents accesses. -/
theorem VRun.Calm.presents (l : List VReq) : VRun.Calm { r with todo := some l } :=
  ⟨h.dest, h.srcs, h.bound, h.kind, h.cut, h.flt, h.waitSince⟩

theorem chPop_calm (s : State) : chPop s r = s := by rw [chPop, h.srcs]; rfl

end Calm

/-! ### The ends of its cycles -/

/-- No operand has an index stream. -/
structure VRun.NoIndex (r : VRun) : Prop where
  d : capIx r.caps.d = none
  a : capIx r.caps.a = none
  b : capIx r.caps.b = none

/-- The run once the index reads of its present cycle, of no index stream, are over. -/
def VRun.ixPassed (r : VRun) : VRun := if ixDue r then { r with ixg := r.ixg + 1 } else r

/-- A run with element groups to work on reads and writes nothing in its present cycle and does not end with it. -/
structure VRun.Rests (r : VRun) : Prop where
  work : vIdleOp r = false
  src : srcDue r = false
  out : outDue r = false
  red : redDue r = false
  stays : r.outs = [] → vKind (veI r.ent).op = .red ∨ r.gi < grpEnd (veI r.ent)

/-- The run has read its group and writes its output `o` in its present cycle, its last. -/
structure VRun.Writes (r : VRun) (o : VOut) : Prop where
  work : vIdleOp r = false
  src : srcDue r = false
  ix : ixDue r = false
  out : outDue r = true
  red : redDue r = false
  outs : r.outs = [[o]]
  kind : vKind (veI r.ent).op ≠ .red
  late : vrS r.caps ≤ r.cyc + 1
  gi : grpEnd (veI r.ent) ≤ r.gi

section Do
variable {u : State} {p : Nat} {r : VRun} (hrun : (pipe u p).run = some r)
include hrun

/-- An instruction without elements passes the cycles before its last. -/
theorem vDo_idle_passes (hidle : vIdleOp r = true) (hcyc : r.cyc < (vLast (veI r.ent) r.caps r.k0).1) :
    vDo u p = setRun u p (some { r with cyc := r.cyc + 1, todo := none }) := by
  unfold vDo
  simp only [hrun, hidle, Nat.not_le.2 hcyc, if_true, if_false, modRun, Option.map_some]

theorem vDo_idle_ends (hidle : vIdleOp r = true) (hcyc : (vLast (veI r.ent) r.caps r.k0).1 ≤ r.cyc) : vDo u p = vDone u p r := by
  unfold vDo
  simp only [hrun, hidle, hcyc, if_true]

variable (hc : r.Calm)
include hc

theorem VRun.Rests.vDo_eq (h : r.Rests) (hi : r.NoIndex) :
    vDo u p = setRun u p (some { r.ixPassed with cyc := r.cyc + 1 }.cleared) := by
  have hw : vWriting u p r = [] := by simp [vWriting, h.red, h.out]
  have hgrp (c : VCap) (hx : capIx c = none) (k : Nat) : ixGroup u r k c r.ixg = [] := by rw [ixGroup, hx]
  have hstays {x y : State} : (if r.outs.isEmpty = false then x
      else if vKind (veI r.ent).op ≠ .red ∧ grpEnd (veI r.ent) ≤ r.gi ∧ vrS r.caps ≤ r.cyc + 1 then y else x) = x := by
    split_ifs with hout hend
    · rfl
    · obtain ⟨hkind, hgi, -⟩ := hend
      rcases h.stays (by simpa using hout) with hred | hlt
      · exact absurd hred hkind
      · omega
    · rfl
  unfold vDo
  cases hix : ixDue r <;>
    simp only [hrun, h.work, h.src, h.out, h.red, hw, hix, VRun.ixPassed, hgrp _ hi.a, hgrp _ hi.b, wrOuts, List.foldl_nil, List.append_nil,
      hc.flt, Bool.false_eq_true, if_false, if_true] <;>
    exact hstays

/-- In the cycle its sources are due the run computes its group. -/
theorem vDo_reads (hwork : vIdleOp r = false) (hsrc : srcDue r = true) (hix : ixDue r = false) (hout : outDue r = false) (hred : redDue r = false)
    {r' : VRun} (hcomp : vCompute u p r = r') (hstays : r'.outs ≠ [] ∨ vKind (veI r.ent).op = .red) (hflt : r'.flt = none) :
    vDo u p = setRun u p (some { r' with cyc := r'.cyc + 1 }.cleared) := by
  have hw : vWriting u p r = [] := by simp [vWriting, hred, hout]
  have hstays {x y : State} : (if r'.outs.isEmpty = false then x
      else if vKind (veI r.ent).op ≠ .red ∧ grpEnd (veI r.ent) ≤ r'.gi ∧ vrS r.caps ≤ r'.cyc + 1 then y else x) = x := by
    split_ifs with hout hend
    · rfl
    · exact absurd (hstays.resolve_left (by simpa using hout)) hend.1
    · rfl
  unfold vDo
  simp only [hrun, hwork, hsrc, hix, hout, hred, hw, hcomp, chPop_calm hc, wrOuts, List.foldl_nil, hflt, Bool.false_eq_true, if_false, if_true]
  exact hstays

/-- In the cycle its output is due it is written, and the run is over. -/
theorem VRun.Writes.vDo_eq {o : VOut} (h : r.Writes o) :
    ∃ r', vDo u p = vDone (setRun (wrOuts u p r [o]) p (some r')) p r' ∧ r'.caps = r.caps := by
  have hw : vWriting u p r = [o] := by simp [vWriting, h.red, h.out, h.outs]
  unfold vDo
  simp only [hrun, h.work, h.src, h.ix, h.out, h.red, hw, h.outs, List.drop_succ_cons, List.drop_zero, List.isEmpty_nil, hc.flt, h.kind, h.gi,
    h.late, ne_eq, not_false_eq_true, Bool.false_eq_true, Bool.true_eq_false, and_self, if_false, if_true]
  exact ⟨_, rfl, rfl⟩

omit hc in
/-- In the cycle its result is due a reduction writes it, and is over. -/
theorem vDo_reduces (hwork : vIdleOp r = false) (hsrc : srcDue r = false) (hix : ixDue r = false) (hout : outDue r = false)
    (hred : redDue r = true) {o : VOut} (ho : redOut u p r = .ok o) :
    ∃ r', vDo u p = vDone (setRun (wrOuts u p r [o]) p (some r')) p r' ∧ r'.caps = r.caps := by
  have hw : vWriting u p r = [o] := by simp [vWriting, hred, ho, Except.toOption]
  unfold vDo
  simp only [hrun, hwork, hsrc, hix, hout, hred, hw, ho, Bool.false_eq_true, if_false, if_true]
  exact ⟨_, rfl, rfl⟩

end Do

/-! ### What an output leaves -/

/-- An output of long-register words is written and the run completes. -/
theorem PipeOnly.write_calm {b u : State} {p : Nat} {q : PipeSt} (h : PipeOnly b u p q) (hp : p < u.pipes.length) (hq : q.Bare) {r r' : VRun}
    (hc : r.Calm) (hcaps : r'.caps = r.caps) {o : VOut} (ho : o.IntoLongs p) :
    ∃ q', PipeOnly (runDone b p o) (Machine.vDone (Machine.setRun (wrOuts u p r [o]) p (some r')) p r') p q' ∧ q'.Bare ∧ q'.run = none := by
  have hall : o.wr.filter (fun e => decide (u.cfg.part.streamWords ≤ e.1)) = o.wr :=
    List.filter_eq_self.2 fun e he => by
      obtain ⟨j, hj⟩ := ho e he
      exact decide_eq_true (hj ▸ streamWords_le_longAt _ p j)
  have hwr : wrOuts u p r [o] = stick (o.wr.foldl (fun s e => wr s e.1 e.2) u) (R.vpARF p) o.fl.toNat := by
    simp only [wrOuts, List.foldl_cons, List.foldl_nil, hall, hc.dest]
    cases o.ch <;> rfl
  have hfar : ∀ e ∈ o.wr, e.1 ≠ vpStateAddr p := fun e he => by
    obtain ⟨j, hj⟩ := ho e he
    exact hj ▸ longAt_ne_vpStateAddr p j
  have hout := (h.wrs_both hfar).stick_both (f := R.vpARF p) o.fl.toNat (by simp [vpStateAddr, R.vpARF])
  rw [← hwr] at hout
  have hlen : p < (wrOuts u p r [o]).pipes.length := by
    rw [hwr, stick_pipes, foldl_wr_pipes]
    exact hp
  exact (hout.setRun hlen (some r')).vDone (by simpa [Machine.setRun] using hlen) (hq.with_run _) (hcaps ▸ hc.dest) (hcaps ▸ hc.srcs)

/-! ### From cycle to cycle -/

/-- A pipe that runs `r` runs `r'` after `n` cycles, with the rest of the module as in `b`. -/
def Goes (b : State) (p n : Nat) (r r' : VRun) : Prop :=
  ∀ u, Running b u p r → ∃ v, Running b v p r' ∧ ∀ m, vRunOn (vMates p) (m + n) u = vRunOn (vMates p) m v
/-- A pipe that runs `r` runs out within `n` cycles and leaves `w` but for the pipe. -/
def Ends (b : State) (p n : Nat) (r : VRun) (w : State) : Prop := ∀ u, Running b u p r → RunsOut u p n w

section Chain
variable {b w : State} {p : Nat}

theorem Goes.trans {n m : Nat} {r r' r'' : VRun} (h : Goes b p n r r') (h' : Goes b p m r' r'') : Goes b p (n + m) r r'' := by
  intro u hu
  obtain ⟨v, hv, huv⟩ := h u hu
  obtain ⟨t, ht, hvt⟩ := h' v hv
  exact ⟨t, ht, fun k => by rw [← hvt, ← huv]; congr 1; omega⟩

theorem Goes.ends {n m : Nat} {r r' : VRun} (h : Goes b p n r r') (h' : Ends b p m r' w) : Ends b p (n + m) r w := by
  intro u hu
  obtain ⟨v, hv, huv⟩ := h u hu
  obtain ⟨t, q, ht, hleft⟩ := h' v hv
  refine ⟨t, q, fun k hk => ?_, hleft⟩
  obtain ⟨j, rfl⟩ := Nat.exists_eq_add_of_le' (Nat.le_trans (Nat.le_add_right n m) hk)
  rw [huv, ht j (by omega)]

/-- As many cycles as the run has to pass. -/
theorem Goes.iterate {f : Nat → VRun} {k : Nat} (j : Nat) (h : ∀ i, k ≤ i → i < k + j → Goes b p 1 (f i) (f (i + 1))) :
    Goes b p j (f k) (f (k + j)) := by
  induction j with
  | zero => exact fun u hu => ⟨u, hu, fun _ => rfl⟩
  | succ j ih => exact (ih fun i hi hij => h i hi (by omega)).trans (h (k + j) (by omega) (by omega))

theorem Running.elapse {u : State} {r : VRun} (h : Running b u p r) (d : Nat) : Running b (Machine.elapse u d) p r := by
  obtain ⟨⟨q, hq, hbare, hrun⟩, hm⟩ := h
  exact ⟨⟨q, hq.elapse d, hbare, hrun⟩, ⟨hm.rmw, hm.wait, hm.ecc, hm.fld⟩⟩
theorem Running.run_eq {u : State} {r : VRun} (h : Running b u p r) : (pipe u p).run = some r := by
  obtain ⟨⟨q, hq, -, hrun⟩, -⟩ := h
  exact hq.pipe_eq.symm ▸ hrun

/-- Pipe `p` is present, and no other pipe runs an instruction. -/
structure Alone (b : State) (p : Nat) : Prop where
  here : p < b.pipes.length
  others : ∀ k, k ≠ p → (pipe b k).run = none

variable (ha : Alone b p)
include ha

theorem Running.setRun {u : State} {r : VRun} (h : Running b u p r) (r' : VRun) : Running b (Machine.setRun u p (some r')) p r' := by
  obtain ⟨⟨q, hq, hbare, -⟩, hm⟩ := h
  exact hq.running (hq.length.symm ▸ ha.here) hbare hm r'

theorem Running.vMates_eq {u : State} {r : VRun} (h : Running b u p r) : vMates p u = [p] := by
  obtain ⟨⟨q, hq, -, -⟩, -⟩ := h
  exact vMates_alone fun k hk => (congrArg PipeSt.run (hq.others k hk)).trans (ha.others k hk)

/-- A cycle of a calm run begins: it presents its accesses. -/
theorem Running.vFront_eq {u : State} {r : VRun} (h : Running b u p r) (hc : r.Calm) (htodo : r.todo = none) :
    vFront (false, u) p = (true, Machine.setRun u p (some { r with todo := some (r.asks u p) })) := by
  have hv := h.setRun ha { r with todo := some (r.asks u p) }
  simp only [vFront, h.run_eq, Option.isNone_some, Bool.false_eq_true, if_false, hc.vPrep_eq h.run_eq htodo, hv.run_eq]
  rfl

/-- They are granted in the cycle. -/
theorem Running.cycle {u : State} {r : VRun} (h : Running b u p r) (hc : r.Calm) (htodo : r.todo = none) :
    ∃ v, Running b v p { r with todo := some (r.asks u p) } ∧ ∀ m, vRunOn (vMates p) (m + 1) u = vRunOn (vMates p) m (vGrants v [p]) :=
  ⟨_, h.setRun ha _, fun m => by
    simp only [vRunOn, h.vMates_eq ha, List.foldl_cons, List.foldl_nil, h.vFront_eq ha hc htodo, if_true]⟩

/-- A cycle without accesses of its own, whose end leaves the run `r'`. -/
theorem Goes.of_vDo {r r' : VRun} (hc : r.Calm) (htodo : r.todo = none) (hasks : ∀ u, Running b u p r → r.asks u p = [])
    (hdo : ∀ u, Running b u p { r with todo := some [] } → vDo u p = Machine.setRun u p (some r')) : Goes b p 1 r r' := by
  intro u hu
  obtain ⟨v, hv, huv⟩ := hu.cycle ha hc htodo
  rw [hasks u hu] at hv
  refine ⟨_, (hv.setRun ha r').elapse 1, fun m => ?_⟩
  rw [huv, vGrants_of_no_access hv.run_eq rfl, hdo v hv]

/-- A cycle without accesses of its own, with which the run ends. -/
theorem Ends.of_vDo {r : VRun} (hc : r.Calm) (htodo : r.todo = none) (hasks : ∀ u, Running b u p r → r.asks u p = []) (hw : Alone w p)
    (hdo : ∀ u q, PipeOnly b u p q → q.Bare → (pipe u p).run = some { r with todo := some [] } →
      ∃ q', PipeOnly w (vDo u p) p q' ∧ q'.Bare ∧ q'.run = none) :
    Ends b p 1 r w := by
  intro u hu
  obtain ⟨v, hv, huv⟩ := hu.cycle ha hc htodo
  rw [hasks u hu] at hv
  obtain ⟨⟨q, hq, hbare, -⟩, -⟩ := id hv
  obtain ⟨q', hq', hbare', hrun'⟩ := hdo v q hq hbare hv.run_eq
  have ht := hq'.elapse 1
  refine ⟨_, q', fun m hm => ?_, ht, hrun'⟩
  obtain ⟨n, rfl⟩ := Nat.exists_eq_add_of_le' hm
  rw [huv, vGrants_of_no_access hv.run_eq rfl]
  exact vRunOn_bare (fun k hk => (congrArg PipeSt.run (ht.others k hk)).trans (hw.others k hk)) (ht.pipe_eq.symm ▸ hbare')
    (ht.pipe_eq.symm ▸ hrun') n

end Chain

end Sys2Proof.Machine

/-! SUPPORT. An instruction of at most one element alone in its pipe, from its issue to the idle pipe: what is due in its cycles, and the cycles it
only passes (R89, R92, R95). -/

namespace Sys2Proof.Machine

/-! ### From the issue to the end -/

theorem State.pipeReady.alone {s : State} {p : Nat} (hs : s.pipeReady p) : Alone s p := by
  obtain ⟨hp, hlen, hidle, -⟩ := hs
  exact ⟨hlen.symm ▸ hp, fun k _ => hidle k⟩

/-- An instruction issued to a ready pipe runs as the run it begins as. -/
theorem vSettle_ends {s w : State} {p n : Nat} (hs : s.pipeReady p) {w0 w1 w2 : Word} {o : VOrg} (hlegal : vLegal s p w0 w1 w2 = true)
    (hc : (VRun.begun s p ⟨s.vecId, w0, w1, w2, o, none, none⟩).Calm)
    (hend : Ends s p n (.begun s p ⟨s.vecId, w0, w1, w2, o, none, none⟩) w) (hn : n ≤ vLong) :
    ∃ q, PipeOnly w (vSettle vLong (pipeIssue s p w0 w1 w2 o none none).2 p) p q ∧ q.run = none := by
  have hissue := pipeIssue_ready hs w0 w1 w2 o
  obtain ⟨t, hstart, ht⟩ := vStart_begun hs hissue (pipeIssue_same s p w0 w1 w2 o) rfl rfl hlegal
  have hidle : ∀ k, (pipe (pipeIssue s p w0 w1 w2 o none none).2 k).run = none := fun k => by
    obtain ⟨-, -, hidle, -⟩ := hs
    by_cases hk : k = p
    · rw [hk, hissue.pipe_eq, pipeQueued]; split <;> rfl
    · rw [hissue.others k hk, hidle k]
  have hfirst : vFront (false, (pipeIssue s p w0 w1 w2 o none none).2) p = vFront (false, t) p := by
    rw [ht.vFront_eq hs.alone hc rfl]
    simp [vFront, hidle p, hstart, hc.vPrep_eq ht.run_eq rfl]
  obtain ⟨u', q, hend, hleft, hrun⟩ := hend t ht
  refine ⟨q, ?_, hrun⟩
  have hsame (m : Nat) : vRunOn (vMates p) (m + 1) (pipeIssue s p w0 w1 w2 o none none).2 = vRunOn (vMates p) (m + 1) t := by
    simp only [vRunOn, vMates_alone fun k _ => hidle k, ht.vMates_eq hs.alone, List.foldl_cons, List.foldl_nil, hfirst]
  obtain ⟨m, hm⟩ := Nat.exists_eq_add_of_le' (by decide : 1 ≤ 2 ^ 40)
  rw [← hend vLong hn] at hleft
  rw [vSettle, vLong, hm, hsame, ← hm]
  exact hleft

/-- A command that issues an instruction to a ready pipe, once its run is known to its end. -/
theorem vCommand_ends {s w : State} {p n op : Nat} {o : VOrg} {f : VFields} (hl : s.live iVEC) (hs : s.pipeReady p)
    (hlegal : vLegal s p (viWords op f).1 (viWords op f).2.1 (viWords op f).2.2 = true)
    (hc : (VRun.begun s p ⟨s.vecId, (viWords op f).1, (viWords op f).2.1, (viWords op f).2.2, o, none, none⟩).Calm) (hcfg : w.cfg = s.cfg)
    (hend : Ends s p n (.begun s p ⟨s.vecId, (viWords op f).1, (viWords op f).2.1, (viWords op f).2.2, o, none, none⟩) w) (hn : n ≤ vLong) :
    ∃ t q, vCommand op p o f s = .next t ∧ PipeOnly w t p q ∧ q.run = none := by
  obtain ⟨q, hq, hrun⟩ := vSettle_ends hs hlegal hc hend hn
  exact ⟨_, q, vCommand_live hl hs.1 op o f, hq.of_eq (hq.cfg.trans hcfg).symm rfl rfl, hrun⟩

/-! ### Runs without elements -/

/-- The run in its cycle `k`, all else as it is. -/
def VRun.atCycle (r : VRun) (k : Nat) : VRun := { r with cyc := k }

theorem VRun.Calm.atCycle {r : VRun} (hc : r.Calm) (k : Nat) : (r.atCycle k).Calm :=
  ⟨hc.dest, hc.srcs, hc.bound, hc.kind, hc.cut, hc.flt, hc.waitSince⟩
theorem VRun.todo_of_cleared {r : VRun} (h : r.cleared = r) : r.todo = none := by rw [← h]; rfl

section Idle
variable {b : State} {p : Nat} (ha : Alone b p) {r : VRun} (hc : r.Calm) (hidle : vIdleOp r = true) (htodo : r.todo = none)
include ha hc hidle htodo

theorem Goes.of_idle (hcyc : r.cyc < (vLast (veI r.ent) r.caps r.k0).1) : Goes b p 1 r (r.atCycle (r.cyc + 1)) :=
  Goes.of_vDo ha hc htodo (fun _ _ => if_pos hidle) fun u hu => by
    rw [vDo_idle_passes hu.run_eq hidle hcyc, ← htodo]
    rfl

theorem Ends.of_idle_last (hcyc : (vLast (veI r.ent) r.caps r.k0).1 ≤ r.cyc) : Ends b p 1 r (cnt b (R.vpDONE_CNT p)) :=
  Ends.of_vDo ha hc htodo (fun _ _ => if_pos hidle) ⟨ha.here, ha.others⟩ fun u q h hq hrun => by
    rw [vDo_idle_ends hrun hidle hcyc]
    exact h.vDone (h.length.symm ▸ ha.here) hq hc.dest hc.srcs

/-- An instruction without elements counts in DONE_CNT when its cycles are over, and changes nothing else (R89). -/
theorem Ends.of_idle (hcyc : r.cyc ≤ (vLast (veI r.ent) r.caps r.k0).1) :
    Ends b p ((vLast (veI r.ent) r.caps r.k0).1 - r.cyc + 1) r (cnt b (R.vpDONE_CNT p)) := by
  have hpass := Goes.iterate (b := b) (p := p) (f := r.atCycle) (k := r.cyc) ((vLast (veI r.ent) r.caps r.k0).1 - r.cyc) fun i _ hi =>
    Goes.of_idle ha (hc.atCycle i) hidle htodo (show i < (vLast (veI r.ent) r.caps r.k0).1 by omega)
  exact hpass.ends (Ends.of_idle_last ha (hc.atCycle _) hidle htodo (show (vLast (veI r.ent) r.caps r.k0).1 ≤ r.cyc + _ by omega))

end Idle

/-! ### The cycles of a run of one element -/

/-- A calm run of one element, from its first. -/
structure VRun.OfOne (r : VRun) : Prop extends r.Calm where
  one : (veI r.ent).n = 1
  k0 : r.k0 = 0
  wg : r.wg = 0

/-- The cycle in which its result is written (R95, R127). -/
def VRun.writeCyc (r : VRun) : Nat :=
  if vKind (veI r.ent).op = .row then vrS r.caps + 6
  else if vKind (veI r.ent).op = .red then vrS r.caps + vrRate (veI r.ent) + 5
  else vrS r.caps + vrRate (veI r.ent) - 1

section OfOne
variable {r : VRun} (h : r.OfOne)
include h

theorem VRun.OfOne.work : vIdleOp r = false := by
  have hn := h.one
  have hnop : veNop r.ent = false := by
    by_contra hne
    simp only [veNop, Bool.not_eq_false, Bool.and_eq_true, decide_eq_true_eq] at hne
    simp [veI, viDecode, bits, hne.2] at hn
  simp [vIdleOp, hnop, hn]

theorem VRun.OfOne.grpEnd_eq : grpEnd (veI r.ent) = 1 := by rw [grpEnd, h.one]

theorem VRun.OfOne.srcDue_eq : srcDue r = decide (r.gi = 0 ∧ r.cyc + 4 = vrS r.caps) := by
  by_cases hg : r.gi = 0
  · simp [srcDue, h.flt, h.grpEnd_eq, h.k0, hg]
  · simp [srcDue, h.grpEnd_eq, hg]
theorem VRun.OfOne.ixDue_eq : ixDue r = decide (r.ixg = 0 ∧ r.cyc + 8 = vrS r.caps) := by
  by_cases hg : r.ixg = 0
  · simp [ixDue, h.flt, h.grpEnd_eq, h.k0, hg]
  · simp [ixDue, h.grpEnd_eq, hg]
theorem VRun.OfOne.outDue_eq (hk : vKind (veI r.ent).op ≠ .red) : outDue r = (!r.outs.isEmpty && decide (r.cyc = r.writeCyc)) := by
  have hrate := (vRate_bounds (veI r.ent).op (veI r.ent).typ (veI r.ent).mod).1
  by_cases hrow : vKind (veI r.ent).op = .row
  · simp [outDue, VRun.writeCyc, hrow, h.wg, h.k0, Nat.add_assoc]
  · have hlast : r.writeCyc + 1 = vrS r.caps + vrRate (veI r.ent) := by
      rw [VRun.writeCyc, if_neg hrow, if_neg hk, vrRate]
      omega
    simp [outDue, hrow, h.wg, h.k0, ← hlast]
theorem VRun.OfOne.redDue_eq : redDue r = decide (vKind (veI r.ent).op = .red ∧ 1 ≤ r.gi ∧ r.cyc = r.writeCyc) := by
  by_cases hk : vKind (veI r.ent).op = .red
  · simp [redDue, VRun.writeCyc, hk, h.flt, h.grpEnd_eq, grpCnt, h.k0, Nat.add_assoc]
  · simp [redDue, hk]

end OfOne

/-! ### The cycles it passes -/

section Rest
variable {b : State} {p : Nat} (ha : Alone b p) {r : VRun} (hc : r.Calm) (hi : r.NoIndex) (hclear : r.cleared = r)

/-- A run without index streams whose results are long-register words asks for the words of its sources alone. -/
theorem VRun.NoIndex.vReqs_eq {u : State} (hi : r.NoIndex) (ho : ∀ o ∈ vWriting u p r, o.IntoLongs p) :
    vReqs u p r = if srcDue r then srcReqs u r 0 (vEls r) else [] := by
  have hout : outReqs u r (vWriting u p r) = [] := by
    refine List.flatMap_eq_nil_iff.2 fun o hmem => ?_
    rw [List.map_eq_nil_iff, List.filter_eq_nil_iff]
    intro e he
    obtain ⟨j, hj⟩ := ho o hmem e he
    simpa [hj] using streamWords_le_longAt u.cfg.part p j
  have hix (k : Nat) {c : VCap} (hx : capIx c = none) (els : List Nat) : ixReqs u r k c els = [] := by rw [ixReqs, hx]
  simp [vReqs, hout, hix _ hi.d, hix _ hi.a, hix _ hi.b]

include ha hc hi hclear

/-- A run that is between cycles, with nothing due, passes its cycle. -/
theorem Goes.of_rests (hr : r.Rests) : Goes b p 1 r (r.ixPassed.atCycle (r.cyc + 1)) := by
  have hw (u : State) : vWriting u p r = [] := by simp [vWriting, hr.red, hr.out]
  refine Goes.of_vDo ha hc (VRun.todo_of_cleared hclear) (fun u _ => ?_) fun u hu => ?_
  · rw [VRun.asks, hr.work, hi.vReqs_eq (by simp [hw u]), hr.src]
    rfl
  · rw [VRun.Rests.vDo_eq hu.run_eq (hc.presents [])
      ⟨hr.work, hr.src, hr.out, hr.red, hr.stays⟩ ⟨hi.d, hi.a, hi.b⟩]
    cases hix : ixDue r
    · have hix' : ixDue { r with todo := some [] } = false := hix
      rw [VRun.ixPassed, VRun.ixPassed, hix, hix']
      exact congrArg (fun x => Machine.setRun u p (some (x.atCycle (r.cyc + 1)))) hclear
    · have hix' : ixDue { r with todo := some [] } = true := hix
      rw [VRun.ixPassed, VRun.ixPassed, hix, hix']
      exact congrArg (fun x => Machine.setRun u p (some ({ x with ixg := x.ixg + 1 }.atCycle (r.cyc + 1)))) hclear

end Rest

/-! ### From its read to its end -/

/-- The run has read its element: its output waits for the cycle in which it is written, or it is a reduction. -/
structure VRun.HasRead (r : VRun) : Prop extends r.OfOne, r.NoIndex where
  clear : r.cleared = r
  gi : r.gi = 1
  ix : ∀ k, ixDue (r.atCycle k) = false

theorem VRun.HasRead.atCycle {r : VRun} (h : r.HasRead) (k : Nat) : (r.atCycle k).HasRead :=
  ⟨⟨h.toCalm.atCycle k, h.one, h.k0, h.wg⟩, ⟨h.d, h.a, h.b⟩, congrArg (fun x => x.atCycle k) h.clear, h.gi, h.ix⟩
theorem VRun.HasRead.srcDue_eq {r : VRun} (h : r.HasRead) : srcDue r = false := by simp [h.toOfOne.srcDue_eq, h.gi]

section HasRead
variable {b : State} {p : Nat} (ha : Alone b p) {r : VRun} (h : r.HasRead)
include ha h

/-- It passes the cycles before that in which its result is written. -/
theorem Goes.of_hasRead {k : Nat} (hk : r.cyc + k ≤ r.writeCyc) (ho : vKind (veI r.ent).op = .red ↔ r.outs = []) :
    Goes b p k r (r.atCycle (r.cyc + k)) := by
  refine Goes.iterate (f := r.atCycle) (k := r.cyc) k fun i _ hi => ?_
  have hr := h.atCycle i
  have hrest : (r.atCycle i).Rests := by
    have hne : i ≠ r.writeCyc := by omega
    refine ⟨hr.toOfOne.work, hr.srcDue_eq, ?_, ?_, fun hout => .inl (ho.2 hout)⟩
    · by_cases hred : vKind (veI r.ent).op = .red
      · have hout : (r.atCycle i).outs = [] := ho.1 hred
        simp [outDue, hout]
      · rw [hr.toOfOne.outDue_eq hred, decide_eq_false (show (r.atCycle i).cyc ≠ (r.atCycle i).writeCyc from hne), Bool.and_false]
    · rw [hr.toOfOne.redDue_eq]
      exact decide_eq_false fun hdue => hne hdue.2.2
  have hgo := Goes.of_rests ha hr.toCalm hr.toNoIndex hr.clear hrest
  rwa [VRun.ixPassed, h.ix i] at hgo

omit h in
theorem Alone.runDone (o : VOut) : Alone (Machine.runDone b p o) p where
  here := by
    rw [Machine.runDone, cnt_pipes, stick_pipes, foldl_wr_pipes]
    exact ha.here
  others k hk := by rw [pipe_runDone, ha.others k hk]

omit ha in
/-- In its last cycle a run asks for nothing: its result goes into long registers. -/
theorem VRun.HasRead.asks_eq {u : State} (ho : ∀ o ∈ vWriting u p r, o.IntoLongs p) : r.asks u p = [] := by
  rw [VRun.asks, h.toOfOne.work, h.toNoIndex.vReqs_eq ho, h.srcDue_eq]
  rfl

/-- The output it holds is written in its last cycle, and the run is over. -/
theorem Ends.of_held {o : VOut} (houts : r.outs = [[o]]) (hkind : vKind (veI r.ent).op ≠ .red) (ho : o.IntoLongs p) (hcyc : r.cyc = r.writeCyc) :
    Ends b p 1 r (runDone b p o) := by
  have hred : redDue r = false := by simp [h.toOfOne.redDue_eq, hkind]
  have hout : outDue r = true := by simp [h.toOfOne.outDue_eq hkind, houts, hcyc]
  have hlate : vrS r.caps ≤ r.cyc + 1 := by
    rw [hcyc, VRun.writeCyc]
    split_ifs <;> omega
  have hwrites : VRun.Writes { r with todo := some [] } o :=
    ⟨h.toOfOne.work, h.srcDue_eq, h.ix r.cyc, hout, hred, houts, hkind, hlate, by rw [h.toOfOne.grpEnd_eq, h.gi]⟩
  refine Ends.of_vDo ha h.toCalm (VRun.todo_of_cleared h.clear) (fun u _ => h.asks_eq ?_) (ha.runDone o) fun u q hu hq hrun => ?_
  · simpa [vWriting, hred, hout, houts] using ho
  · obtain ⟨r', hdo, hcaps⟩ := VRun.Writes.vDo_eq hrun (h.toCalm.presents []) hwrites
    rw [hdo]
    exact hu.write_calm (hu.length.symm ▸ ha.here) hq (h.toCalm.presents []) hcaps ho

/-- A reduction writes its result in its last cycle, and is over. -/
theorem Ends.of_reduced {o : VOut} (houts : r.outs = []) (hkind : vKind (veI r.ent).op = .red) (ho : o.IntoLongs p) (hcyc : r.cyc = r.writeCyc)
    (hres : ∀ u, redOut u p r = .ok o) : Ends b p 1 r (runDone b p o) := by
  have hred : redDue r = true := by simp [h.toOfOne.redDue_eq, hkind, h.gi, hcyc]
  have hout : outDue r = false := by simp [outDue, houts]
  refine Ends.of_vDo ha h.toCalm (VRun.todo_of_cleared h.clear) (fun u _ => h.asks_eq ?_) (ha.runDone o) fun u q hu hq hrun => ?_
  · simpa [vWriting, hred, hres u, Except.toOption] using ho
  · obtain ⟨r', hdo, hcaps⟩ := vDo_reduces hrun h.toOfOne.work h.srcDue_eq (h.ix r.cyc) hout hred (hres u)
    rw [hdo]
    exact hu.write_calm (hu.length.symm ▸ ha.here) hq (h.toCalm.presents []) hcaps ho

/-- A run that holds its output passes to the cycle in which it writes it. -/
theorem Ends.of_output {o : VOut} (houts : r.outs = [[o]]) (hkind : vKind (veI r.ent).op ≠ .red) (ho : o.IntoLongs p)
    (hcyc : r.cyc ≤ r.writeCyc) : Ends b p (r.writeCyc - r.cyc + 1) r (runDone b p o) :=
  (Goes.of_hasRead ha h (by omega) (by simp [hkind, houts])).ends
    (Ends.of_held ha (h.atCycle _) houts hkind ho (show r.cyc + (r.writeCyc - r.cyc) = r.writeCyc by omega))

/-- A reduction passes to the cycle in which it writes its result. -/
theorem Ends.of_partial {o : VOut} (houts : r.outs = []) (hkind : vKind (veI r.ent).op = .red) (ho : o.IntoLongs p)
    (hcyc : r.cyc ≤ r.writeCyc) (hres : ∀ u, redOut u p r = .ok o) : Ends b p (r.writeCyc - r.cyc + 1) r (runDone b p o) :=
  (Goes.of_hasRead ha h (by omega) (by simp [hkind, houts])).ends
    (Ends.of_reduced ha (h.atCycle _) houts hkind ho (show r.cyc + (r.writeCyc - r.cyc) = r.writeCyc by omega) hres)

end HasRead

/-- The result of an instruction is written after its start-up and before its fuel is spent (Table ARI-10, R95). -/
theorem VRun.writeCyc_bounds (r : VRun) : vrS r.caps ≤ r.writeCyc ∧ r.writeCyc ≤ 37 := by
  have hrate := vRate_bounds (veI r.ent).op (veI r.ent).typ (veI r.ent).mod
  have hs : vrS r.caps ≤ 14 := by rw [vrS]; split_ifs <;> omega
  rw [VRun.writeCyc, vrRate]
  split_ifs <;> omega

end Sys2Proof.Machine

/-! SUPPORT. The cycle in which an instruction of one element reads it (R57, R95): what the run computes and holds from then on. -/

namespace Sys2Proof.Machine

/-! ### The run once it has read -/

/-- A run of one element in the cycle in which its sources are due. -/
structure VRun.Unread (r : VRun) : Prop extends r.OfOne, r.NoIndex where
  clear : r.cleared = r
  gi : r.gi = 0
  outs : r.outs = []
  part : r.part = none
  partB : r.partB = none
  accFl : r.accFl = 0#7
  accFlB : r.accFlB = 0#7
  ix : r.ixg ≠ 0 ∨ vrS r.caps = 4
  due : r.cyc + 4 = vrS r.caps

/-- The run after that cycle, with its outputs, its partial, and its sum with the flags. -/
def VRun.afterRead (r : VRun) (os : List (List VOut)) (part : Option Nat) (acc : Nat) (fl : Arf) : VRun :=
  { r with
    gi := 1, ixA := r.ixA.drop 1, ixB := r.ixB.drop 1, outs := os, part := part, acc := acc, accFl := fl, cyc := r.cyc + 1, todo := none,
    got := [], olds := [], cut := none }
/-- The run with the accesses it still presents in its cycle and the words read. -/
def VRun.inCycle (r : VRun) (l : List VReq) (g : List (Nat × Option Word)) : VRun := { r with todo := some l, got := g }

section Unread
variable {r : VRun} (h : r.Unread)
include h

theorem VRun.Unread.hasRead (os : List (List VOut)) (part : Option Nat) (acc : Nat) (fl : Arf) : (r.afterRead os part acc fl).HasRead := by
  refine ⟨⟨⟨h.dest, h.srcs, h.bound, h.kind, rfl, h.flt, h.waitSince⟩, h.one, h.k0, h.wg⟩, ⟨h.d, h.a, h.b⟩, rfl, rfl, fun k => ?_⟩
  have hone : ((r.afterRead os part acc fl).atCycle k).OfOne :=
    ⟨⟨h.dest, h.srcs, h.bound, h.kind, rfl, h.flt, h.waitSince⟩, h.one, h.k0, h.wg⟩
  rw [hone.ixDue_eq]
  refine decide_eq_false fun hdue => h.ix.elim (fun hne => hne hdue.1) fun hfour => ?_
  have : k + 8 = 4 := hdue.2.trans hfour
  omega

theorem VRun.Unread.vEls_eq (l : List VReq) (g : List (Nat × Option Word)) : vEls (r.inCycle l g) = [0] := by
  have hels : grpEls r.k0 (veI r.ent).n r.gi = [0] := by rw [h.k0, h.one, h.gi]; rfl
  simp only [vEls, VRun.inCycle, h.cut, hels]
theorem VRun.Unread.grp_eq : grpHi (veI r.ent).n 0 - grpLo r.k0 0 = 1 := by rw [h.one, h.k0]; rfl

variable {s : State} {p : Nat} {l : List VReq} {g : List (Nat × Option Word)}

/-- The output of an element-wise operation or a queue read is held. -/
theorem VRun.Unread.vCompute_elem (hred : vKind (veI r.ent).op ≠ .red) (hrow : vKind (veI r.ent).op ≠ .row) {o : VOut}
    (hel : elemOut s p (r.inCycle l g) 0 0 = .ok o) :
    vCompute s p (r.inCycle l g) =
      { r.afterRead [[o]] r.part r.acc r.accFl with cyc := r.cyc, todo := some l, got := g, olds := r.olds, cut := r.cut } := by
  unfold vCompute
  rw [h.vEls_eq]
  simp only [elemGroup, hel]
  simp only [VRun.inCycle, VRun.afterRead, h.grp_eq, h.gi, h.outs, h.flt, h.cut, Nat.zero_add, List.nil_append, Option.none_or]

/-- The row's output is held, with its sum. -/
theorem VRun.Unread.vCompute_row (hrow : vKind (veI r.ent).op = .row) {o : VOut} {x : VRun}
    (hel : rowEl s p (r.inCycle l g) 0 = (x, some o, none)) :
    vCompute s p (r.inCycle l g) =
      { r.afterRead [[o]] r.part x.acc x.accFl with cyc := r.cyc, todo := some l, got := g, olds := r.olds, cut := r.cut } := by
  have hk : vKind (veI (r.inCycle l g).ent).op = .row := hrow
  unfold vCompute
  rw [h.vEls_eq]
  simp only [hk, rowGroup, hel]
  simp only [VRun.inCycle, VRun.afterRead, h.grp_eq, h.gi, h.outs, h.flt, h.cut, Nat.zero_add, List.nil_append, Option.none_or, Option.toList]

/-- A reduction's partial is its group's (R124). -/
theorem VRun.Unread.vCompute_red (hred : vKind (veI r.ent).op = .red) {a b : Nat} (hd : ∃ as, dstEl s p (r.inCycle l g) none 0 = .ok as)
    (hel : redEls s p (r.inCycle l g) 0 [0] = ([(0, a, b)], none)) :
    let y := redGroup (veI r.ent) (viRm (veI r.ent) r.drm) none [(0, a, b)]
    vCompute s p (r.inCycle l g) =
      { r.afterRead [] y.1 r.acc y.2 with cyc := r.cyc, todo := some l, got := g, olds := r.olds, cut := r.cut } := by
  have hk : vKind (veI (r.inCycle l g).ent).op = .red := hred
  have hfirst : (r.inCycle l g).gi = (r.inCycle l g).k0 / 16 := by rw [show (r.inCycle l g).gi = 0 from h.gi, show (r.inCycle l g).k0 = 0 from h.k0]
  obtain ⟨as, has⟩ := hd
  unfold vCompute
  rw [h.vEls_eq, if_pos hfirst]
  simp only [hk, has, hel]
  simp [VRun.inCycle, VRun.afterRead, h.grp_eq, h.gi, h.outs, h.flt, h.cut, h.part, h.partB, h.accFl, h.accFlB]

end Unread

/-! ### Operands that need no word of Stream Memory -/

/-- The operand's elements are no words of Stream Memory: None, a scalar, a long register, or chips. -/
def VCap.Within : VCap → Prop
  | .none => True
  | .scal _ => True
  | .long _ _ _ => True
  | .chain _ => False
  | .str d _ => d.mode = 4

section Within
variable {c : VCap} (hc : c.Within)
include hc

theorem capIx_within : capIx c = none := by
  cases c with
  | none | scal v | long f n dbl => rfl
  | chain n => exact hc.elim
  | str d x =>
    have hm : d.mode = 4 := hc
    simp [capIx, hm]
theorem capChain_within : capChain c = none := by
  cases c with
  | chain n => exact hc.elim
  | _ => rfl
theorem srcWords_within (s : State) (r : VRun) (oper : Nat) (x : Option VIx) (e : Nat) : srcWords s r oper c x e = .ok (false, []) := by
  cases c with
  | none | scal v | long f n dbl => rfl
  | chain n => exact hc.elim
  | str d x =>
    have hm : d.mode = 4 := hc
    simp [srcWords, hm]

end Within

/-- The operands of an instruction whose sources are all in the pipe and whose destination is a long register from number `f` on. -/
structure VCaps.InPipe (c : VCaps) (f : Nat) (dbl : Bool) : Prop where
  dest : ∃ n, c.d = .long f n dbl
  a : c.a.Within
  b : c.b.Within
  c : c.c.Within

section InPipe
variable {r : VRun} {f : Nat} {dbl : Bool} (h : r.caps.InPipe f dbl)
include h

theorem VCaps.InPipe.vrS_eq : vrS r.caps = 4 := by
  have hwithin : ∀ x ∈ [r.caps.a, r.caps.b, r.caps.c], x.Within := by simp [h.a, h.b, h.c]
  refine if_neg fun hany => ?_
  obtain ⟨x, hx, hstr⟩ := List.any_eq_true.1 hany
  have hx' := hwithin x hx
  cases x with
  | str d x =>
    have hm : d.mode = 4 := hx'
    simp [hm] at hstr
  | _ => cases hstr

theorem VCaps.InPipe.srcReqs_eq (s : State) (els : List Nat) (j : Nat) : srcReqs s r j els = [] := by
  have hel (i : Nat) (l : List (Nat × VCap × Option VIx × Nat)) (hl : ∀ x ∈ l, x.2.1.Within) : elReqs s r i l = ([], true) := by
    induction l with
    | nil => rfl
    | cons x l ih =>
      rw [List.forall_mem_cons] at hl
      obtain ⟨oper, c, ix, e⟩ := x
      simp [elReqs, srcWords_within hl.1, ih hl.2]
  have hsrcs (j i : Nat) : ∀ x ∈ elSrcs r j i, x.2.1.Within := by
    unfold elSrcs
    dsimp only
    split_ifs
    · split
      · simp
      · simp [h.a, h.b]
    · split <;> simp [h.a]
    · simp [h.a, h.b, h.c]
  induction els generalizing j with
  | nil => rfl
  | cons i is ih => simp [srcReqs, hel i _ (hsrcs j i), ih]

end InPipe

/-! ### The read -/

/-- In the cycle in which its words are there the run reads its element. -/
theorem VRun.Unread.vDo_eq {u : State} {p : Nat} {r : VRun} (h : r.Unread) {g : List (Nat × Option Word)}
    (hrun : (pipe u p).run = some (r.inCycle [] g)) {os : List (List VOut)} {part : Option Nat} {acc : Nat} {fl : Arf}
    (hstays : os ≠ [] ∨ vKind (veI r.ent).op = .red)
    (hcomp : vCompute u p (r.inCycle [] g) =
      { r.afterRead os part acc fl with cyc := r.cyc, todo := some [], got := g, olds := r.olds, cut := r.cut }) :
    vDo u p = setRun u p (some (r.afterRead os part acc fl)) := by
  have hsrc : srcDue r = true := by simp [h.toOfOne.srcDue_eq, h.gi, h.due]
  have hred : redDue r = false := by simp [h.toOfOne.redDue_eq, h.gi]
  have hout : outDue r = false := by simp [outDue, h.outs]
  have hix : ixDue r = false := by
    rw [h.toOfOne.ixDue_eq]
    have hdue := h.due
    exact decide_eq_false fun hnow => h.ix.elim (fun hne => hne hnow.1) fun hfour => by omega
  exact vDo_reads hrun ⟨h.dest, h.srcs, h.bound, h.kind, h.cut, h.flt, h.waitSince⟩ h.toOfOne.work hsrc hix hout hred hcomp hstays h.flt

/-- It asks for the words of its sources. -/
theorem VRun.Unread.asks_eq {r : VRun} (h : r.Unread) (u : State) (p : Nat) : r.asks u p = srcReqs u r 0 [0] := by
  have hsrc : srcDue r = true := by simp [h.toOfOne.srcDue_eq, h.gi, h.due]
  have hred : redDue r = false := by simp [h.toOfOne.redDue_eq, h.gi]
  have hout : outDue r = false := by simp [outDue, h.outs]
  have hels : vEls r = [0] := h.vEls_eq [] []
  rw [VRun.asks, h.toOfOne.work, h.toNoIndex.vReqs_eq (by simp [vWriting, hred, hout]), hsrc, hels]
  rfl

/-- A run that asks for no word of Stream Memory reads its element. -/
theorem Goes.of_read {b : State} {p : Nat} (ha : Alone b p) {r : VRun} (h : r.Unread) {f : Nat} {dbl : Bool} (hcaps : r.caps.InPipe f dbl)
    {os : List (List VOut)} {part : Option Nat} {acc : Nat} {fl : Arf} (hstays : os ≠ [] ∨ vKind (veI r.ent).op = .red)
    (hcomp : ∀ u, Running b u p (r.inCycle [] []) → vCompute u p (r.inCycle [] []) =
      { r.afterRead os part acc fl with cyc := r.cyc, todo := some [], got := [], olds := r.olds, cut := r.cut }) :
    Goes b p 1 r (r.afterRead os part acc fl) := by
  have htodo : { r with todo := some [] } = r.inCycle [] [] := by rw [VRun.inCycle, ← show r.got = [] by rw [← h.clear]; rfl]
  refine Goes.of_vDo ha h.toCalm (VRun.todo_of_cleared h.clear) (fun u _ => by rw [h.asks_eq, hcaps.srcReqs_eq]) fun u hu => ?_
  rw [htodo] at hu
  exact h.vDo_eq hu.run_eq hstays (hcomp u hu)

end Sys2Proof.Machine

/-! SUPPORT. What an instruction of one element leaves in a long register, with the runs of reductions and rows (R124 to R128). -/

namespace Sys2Proof.Machine

/-! ### What is left -/

/-- An output of one element into the long registers from number `f` on. -/
structure VOut.Into (o : VOut) (p f v : Nat) (fl : Arf) : Prop where
  wr : ∃ dbl, o.wr = wrList (longEl p f dbl 0) v
  fl : o.fl = fl

theorem VOut.Into.intoLongs {o : VOut} {p f v : Nat} {fl : Arf} (h : o.Into p f v fl) : o.IntoLongs p := fun e he => by
  obtain ⟨dbl, hwr⟩ := h.wr
  rw [hwr] at he
  exact exists_longAt_of_mem_longEl (fst_mem_of_mem_wrList he)

/-- What stands in the module once pipe `p` has written `v` with flags `fl` into long register `f`. -/
structure ResultLeft (s t : State) (p f v : Nat) (fl : Arf) : Prop where
  word : rd t (longAt p (128 * f)) = mkW v
  idle : (pipe t p).run = none
  arf : rf t (R.vpARF p) = rf s (R.vpARF p) ||| fl.toNat
  done : rf t (R.vpDONE_CNT p) = min (rf s (R.vpDONE_CNT p) + 1) (2 ^ 36 - 1)

theorem PipeOnly.resultLeft {s t : State} {p f v : Nat} {fl : Arf} {q : PipeSt} {o : VOut} (h : PipeOnly (runDone s p o) t p q) (hrun : q.run = none)
    (ho : o.Into p f v fl) : ResultLeft s t p f v fl where
  word := by
    obtain ⟨dbl, hwr⟩ := ho.wr
    rw [h.mem _ (longAt_ne_vpStateAddr p _), rd_runDone _ _ _ (by simp only [longAt, R.vpARF]; omega) (by simp only [longAt, R.vpDONE_CNT]; omega),
      hwr]
    exact (rd_foldl_wrList_longEl s p f v dbl).1
  idle := h.pipe_eq ▸ hrun
  arf := (h.rf_eq (by simp [R.vpARF, vpStateAddr])).trans (ho.fl ▸ rf_runDone_arf s p ho.intoLongs)
  done := (h.rf_eq (by simp [R.vpDONE_CNT, vpStateAddr])).trans (rf_runDone_done s p ho.intoLongs)

/-! ### The instruction's run -/

/-- What the words of a command decode to, and the operands it captures. -/
def vIssued (op : Nat) (f : VFields) : VI := viDecode (viWords op f).1 (viWords op f).2.1 (viWords op f).2.2
/-- The entry that the command queues. -/
def vQueued (s : State) (op : Nat) (o : VOrg) (f : VFields) : VEntry :=
  ⟨s.vecId, (viWords op f).1, (viWords op f).2.1, (viWords op f).2.2, o, none, none⟩

theorem vChains_eq (c : VCaps) :
    vChains c = (capChain c.d).toList ++ (capChain c.a).toList ++ (capChain c.b).toList ++ (capChain c.c).toList := by
  have hport (x : VCap) : (match x with | .chain n => [n] | _ => []) = (capChain x).toList := by cases x <;> rfl
  exact congrArg₂ _ (congrArg₂ _ (congrArg₂ _ (hport c.d) (hport c.a)) (hport c.b)) (hport c.c)

theorem VCaps.InPipe.vChains_nil {c : VCaps} {f : Nat} {dbl : Bool} (h : c.InPipe f dbl) : vChains c = [] := by
  obtain ⟨⟨n, hd⟩, ha, hb, hc⟩ := h
  rw [vChains_eq, hd, capChain_within ha, capChain_within hb, capChain_within hc]
  rfl

section Begun
variable {s : State} {p : Nat} {e : VEntry} {v : VI} {c : VCaps} (hv : veI e = v) (hc : vCaps s p v = c)
include hv hc

theorem VRun.begun_caps : (VRun.begun s p e).caps = c := by
  subst hv hc
  rfl

variable (hk : vKind v.op ≠ .fence)
include hk

theorem VRun.begun_calm (hch : vChains c = []) : (VRun.begun s p e).Calm := by
  subst hv hc
  have hports := hch
  simp only [vChains_eq, List.append_eq_nil_iff, Option.toList_eq_nil_iff] at hports
  obtain ⟨⟨⟨hd, ha⟩, hb⟩, hc⟩ := hports
  exact ⟨hd, by simp [VRun.begun, srcChains, ha, hb, hc], by simp [VRun.begun, hch], hk, rfl, rfl, rfl⟩

theorem VRun.begun_unread {f : Nat} {dbl : Bool} (hin : c.InPipe f dbl) (hone : v.n = 1) : (VRun.begun s p e).Unread := by
  have hcalm := VRun.begun_calm hv hc hk hin.vChains_nil
  subst hv hc
  have hs : vrS (VRun.begun s p e).caps = 4 := hin.vrS_eq
  have hd : capIx (VRun.begun s p e).caps.d = none := by
    obtain ⟨n, hn⟩ := hin.dest
    rw [show (VRun.begun s p e).caps.d = _ from hn]
    rfl
  exact ⟨⟨hcalm, hone, rfl, rfl⟩, ⟨hd, capIx_within hin.a, capIx_within hin.b⟩, rfl, rfl, rfl, rfl, rfl, rfl, rfl, .inr hs, hs.symm⟩

end Begun

/-- An instruction of one element whose sources are all in the pipe, once its read is known: its result is left. -/
theorem vCommand_resultLeft {s : State} {p op : Nat} {o : VOrg} {f : VFields} (hl : s.live iVEC) (hs : s.pipeReady p)
    (hlegal : vLegal s p (viWords op f).1 (viWords op f).2.1 (viWords op f).2.2 = true)
    {n r v : Nat} {fl : Arf} {out : VOut} (hout : out.Into p r v fl)
    (hc : (VRun.begun s p (vQueued s op o f)).Calm) (hend : Ends s p n (.begun s p (vQueued s op o f)) (runDone s p out)) (hn : n ≤ vLong) :
    ∃ t, vCommand op p o f s = .next t ∧ ResultLeft s t p r v fl := by
  obtain ⟨t, q, ht, hq, hrun⟩ := vCommand_ends hl hs hlegal hc (runDone_cfg s p out) hend hn
  exact ⟨t, ht, hq.resultLeft hrun hout⟩

/-! ### Reductions of one element (R124, R126) -/

theorem redEls_still {r : VRun} (ha : r.caps.a.Still) (hb : r.caps.b.Still) (s : State) (p : Nat) :
    redEls s p r 0 [0] = ([(0, capScal r.caps.a, capScal r.caps.b)], none) := by
  simp only [redEls, srcEl_still ha, srcEl_still hb]

theorem dstEl_long {r : VRun} {f n : Nat} {dbl : Bool} (hd : r.caps.d = .long f n dbl) (s : State) (p : Nat) (x : Option VIx) (i : Nat) :
    dstEl s p r x i = .ok (longEl p f dbl i) := by
  simp only [dstEl, hd]

theorem VCap.Still.within {c : VCap} (h : c.Still) : c.Within := by
  cases c with
  | none | scal v => trivial
  | _ => exact h.elim

/-- A reduction of one element folds it in the cycle it reads it, and writes the result in its last. -/
theorem Ends.of_reduction {b : State} {p : Nat} (ha : Alone b p) {r : VRun} (h : r.Unread) {v : VI} (hv : veI r.ent = v) {c : VCaps}
    (hc : r.caps = c) {drm : Nat} (hdrm : r.drm = drm) (hkind : vKind v.op = .red) {f n : Nat} {dbl : Bool} (hd : c.d = .long f n dbl)
    (hsa : c.a.Still) (hsb : c.b.Still) (hsc : c.c.Still) :
    let g := redGroup v (viRm v drm) none [(0, capScal c.a, capScal c.b)]
    let y := redResult v dbl (g.1.getD 0)
    Ends b p (1 + (r.writeCyc - (r.cyc + 1) + 1)) r (runDone b p ⟨0, wrList (longEl p f dbl 0) y.1, none, g.2 ||| y.2⟩) := by
  subst hv hc hdrm
  intro g y
  have hread : Goes b p 1 r (r.afterRead [] g.1 r.acc g.2) :=
    Goes.of_read ha h ⟨⟨n, hd⟩, hsa.within, hsb.within, hsc.within⟩ (.inr hkind) fun u _ =>
      h.vCompute_red hkind ⟨_, dstEl_long (r := r.inCycle [] []) hd u p none 0⟩ (redEls_still (r := r.inCycle [] []) hsa hsb u p)
  have hlate := r.writeCyc_bounds
  have hdue := h.due
  refine hread.ends (Ends.of_partial ha (h.hasRead _ _ _ _) rfl hkind ?_ (show r.cyc + 1 ≤ r.writeCyc by omega) fun u => ?_)
  · exact fun e he => exists_longAt_of_mem_longEl (fst_mem_of_mem_wrList he)
  · have hd' : (r.afterRead [] g.1 r.acc g.2).caps.d = .long f n dbl := hd
    simp only [redOut, dstEl_long hd', hd']
    rfl

/-! ### Rows of one term (R127, R128) -/

/-- A word of a long register. -/
theorem wordsVal_longEl_word (s : State) (p f i : Nat) : wordsVal s (longEl p f false i) = rdN s (longAt p (128 * f + i)) := by
  simp [wordsVal, longEl]

/-- The run with the sum of its row, of one term (R127). -/
def VRun.summed (r : VRun) (q : Nat × Arf) : VRun := { r with acc := q.1, accFl := q.2 }
/-- The output of a row with the sum `q`, which goes to the long registers from number `f` on (R127, R128). -/
def rowOut (v : VI) (p f : Nat) (dbl : Bool) (q : Nat × Arf) : VOut :=
  ⟨0, wrList (longEl p f dbl 0) (rowResult v false q.1).1, none, q.2 ||| (rowResult v false q.1).2⟩

section Row
variable {s : State} {p : Nat} {r : VRun} {v : VI} (hv : veI r.ent = v) {c : VCaps} (hc : r.caps = c) {f n : Nat} {dbl : Bool}
  (hd : c.d = .long f n dbl)
include hv hc hd

/-- The term of a row of VBAND that is not clipped. -/
theorem rowEl_band (hop : v.op = 0x041) (hw : v.mod = 1) {j k m l : Nat} (ha : c.a = .long j k false) (hb : c.b = .long m l false)
    (hlo : 0 ≤ bandE (capScal c.c) 0 0) (hhi : bandE (capScal c.c) 0 0 < (bandCap c.b : Int)) :
    let q := rowAcc v (viRm v r.drm) 0 (rdN s (longAt p (128 * j))) (rdN s (longAt p (128 * m + (bandE (capScal c.c) 0 0).toNat)))
    rowEl s p r 0 = (r.summed q, some (rowOut v p f dbl q), none) := by
  subst hv hc
  have hsrc : rowSrc (r.summed (0, 0#7)) 0 = some (0, (bandE (capScal r.caps.c) 0 0).toNat) := by
    have hin : ¬ (bandE (capScal r.caps.c) 0 0 < 0 ∨ (bandCap r.caps.b : Int) ≤ bandE (capScal r.caps.c) 0 0) := by omega
    simp [rowSrc, VRun.summed, hop, ha, hin]
  have hone : vRowW 0x041 (veI r.ent).mod (capScal r.caps.c) = 1 := by rw [hw]; rfl
  unfold VRun.summed at hsrc
  unfold rowEl
  simp [hone, dstEl, hd, hsrc, ha, hb, hop, srcEl, wordsVal_longEl_word, VRun.summed, rowOut]

/-- The term of a row of VXCOR. -/
theorem rowEl_chip (hop : v.op = 0x042) (hw : capScal c.c % 2 ^ 24 = 1) {j k : Nat} {x ix : SDesc} (ha : c.a = .long j k false)
    (hb : c.b = .str x ix) :
    let q := rowChip v (viRm v r.drm) 0 (rdN s (longAt p (128 * j))) (chipPlus s (x.w3 % 2 ^ 12) (r.pstep + sext 36 x.w4))
    rowEl s p r 0 = (r.summed q, some (rowOut v p f dbl q), none) := by
  subst hv hc
  have hsrc : rowSrc (r.summed (0, 0#7)) 0 = some (0, 0) := by simp [rowSrc, VRun.summed, hop]
  have hone : vRowW 0x042 (veI r.ent).mod (capScal r.caps.c) = 1 := hw
  unfold VRun.summed at hsrc
  unfold rowEl
  simp [hone, dstEl, hd, hsrc, ha, hb, hop, srcEl, chipAt, wordsVal_longEl_word, VRun.summed, rowOut]

end Row

/-- A row instruction of one element sums its row in the cycle it reads it, and writes it in its last. -/
theorem Ends.of_row {b : State} {p : Nat} (ha : Alone b p) {r : VRun} (h : r.Unread) {v : VI} (hv : veI r.ent = v) {c : VCaps} (hc : r.caps = c)
    (hkind : vKind v.op = .row) {f : Nat} {dbl : Bool} (hin : c.InPipe f dbl) {q : Nat × Arf}
    (hel : ∀ u, Running b u p (r.inCycle [] []) → rowEl u p (r.inCycle [] []) 0 = ((r.inCycle [] []).summed q, some (rowOut v p f dbl q), none)) :
    Ends b p (1 + (r.writeCyc - (r.cyc + 1) + 1)) r (runDone b p (rowOut v p f dbl q)) := by
  subst hv hc
  have hread : Goes b p 1 r (r.afterRead [[rowOut (veI r.ent) p f dbl q]] r.part q.1 q.2) :=
    Goes.of_read ha h hin (.inl (List.cons_ne_nil _ _)) fun u hu => h.vCompute_row hkind (hel u hu)
  have hlate := r.writeCyc_bounds
  have hdue := h.due
  have hnot : vKind (veI r.ent).op ≠ .red := by rw [hkind]; decide
  exact hread.ends (Ends.of_output ha (h.hasRead _ _ _ _) rfl hnot
    (fun e he => exists_longAt_of_mem_longEl (fst_mem_of_mem_wrList he)) (show r.cyc + 1 ≤ r.writeCyc by omega))

end Sys2Proof.Machine

/-! SUPPORT. Vector commands of one element: what legality says of their operands (R91, R110), and the results of reductions and rows. -/

namespace Sys2Proof.Machine

/-! ### What legality says of the sources (R91, R110) -/

/-- The source positions of a legal instruction of an operation with an acceptance. -/
theorem posOk_of_vLegal {s : State} {p : Nat} {w0 w1 w2 : Word} (hlegal : vLegal s p w0 w1 w2 = true) {acc : VAcc}
    (hacc : vAcc (viDecode w0 w1 w2).op (viDecode w0 w1 w2).typ (viDecode w0 w1 w2).mod = some acc) :
    let v := viDecode w0 w1 w2
    let c := vCaps s p v
    posOk v.op 1 acc.a (vOpd v.a) c.a = true ∧ posOk v.op 2 acc.b (vOpd v.b) c.b = true ∧ posOk v.op 3 acc.c (vOpd v.c) c.c = true := by
  intro v c
  have hop : (viDecode w0 w1 w2).op ≠ 0 ∧ (viDecode w0 w1 w2).op ≠ 0x3F0 := by
    constructor <;> (intro h; rw [h] at hacc; cases hacc)
  have hnop : ¬ (w0 = 0#36 ∧ w1 = 0#36 ∧ w2 = 0#36) := by
    rintro ⟨rfl, -, -⟩
    exact hop.1 rfl
  simp only [vLegal, if_neg hnop, if_neg hop.2, hacc, Bool.and_eq_true] at hlegal
  exact ⟨by simp only [v, c, hlegal], by simp only [v, c, hlegal], by simp only [v, c, hlegal]⟩

/-- A position that an operation does not read names None. -/
theorem eq_none_of_posOk {op pos : Nat} {x : VOpd} {c : VCap} (h : posOk op pos [] x c = true) : x = .none := by
  cases x with
  | none => rfl
  | bad => cases h
  | _ =>
    unfold posOk at h
    dsimp only at h
    split at h <;> cases h

/-- A position of one class names an operand of that class; VIDX alone may leave its A unnamed (R119). -/
theorem vCls_of_posOk {op pos : Nat} {cls : VCls} {x : VOpd} {c : VCap} (hop : op ≠ 0x014) (h : posOk op pos [cls] x c = true) :
    vCls c = some cls := by
  cases x with
  | none => simp [posOk, hop] at h
  | bad => cases h
  | _ =>
    unfold posOk at h
    dsimp only at h
    split at h
    · next cls' hcls => rw [hcls, List.mem_singleton.1 (List.contains_iff_mem.1 h)]
    · cases h

theorem eq_scal_of_vCls {c : VCap} (h : vCls c = some .k) : ∃ v, c = .scal v := by
  cases c with
  | scal v => exact ⟨v, rfl⟩
  | none | long | chain => cases h
  | str d x =>
    unfold vCls at h
    dsimp only at h
    split at h <;> cases h

theorem mode_of_vCls_prbs {d x : SDesc} (h : vCls (.str d x) = some .p) : d.mode = 4 := by
  unfold vCls at h
  dsimp only at h
  split at h <;> cases h
  assumption

theorem mode_of_vCls_qsnap {d x : SDesc} (h : vCls (.str d x) = some .q) : d.mode = 3 := by
  unfold vCls at h
  dsimp only at h
  split at h <;> cases h
  assumption

/-! ### Commands of one element -/

theorem le_vLong {m : Nat} (h : m ≤ 39) : m ≤ vLong := Nat.le_trans h (by decide : 39 ≤ 2 ^ 40)

/-- A command's words decode to `v` and capture `c`; they are legal, and name one element and long register `r` as destination. -/
structure Issued (s : State) (p r op : Nat) (f : VFields) (v : VI) (c : VCaps) : Prop where
  decoded : vIssued op f = v
  captured : vCaps s p v = c
  legal : vLegal s p (viWords op f).1 (viWords op f).2.1 (viWords op f).2.2 = true
  op_eq : v.op = op
  one : v.n = 1
  dest : ∃ n, c.d = .long r n ((vDbl v.op v.typ v.mod 0).getD false)

section Issued
variable {s : State} {p r op : Nat} {f : VFields} {v : VI} {c : VCaps}

theorem Issued.of_fields {n : Nat} (hd : vOpd f.d.toNat = .long r n) (hop : op < 2 ^ 10) (hn : f.n = 1#24)
    (hlegal : vLegal s p (viWords op f).1 (viWords op f).2.1 (viWords op f).2.2 = true) (hv : vIssued op f = v) (hc : vCaps s p v = c) :
    Issued s p r op f v c where
  decoded := hv
  captured := hc
  legal := hlegal
  op_eq := hv ▸ viDecode_viWords_op op f hop
  one := by
    subst hv
    exact (viDecode_viWords_n op f).trans (by rw [hn]; rfl)
  dest := by
    subst hv hc
    have hopd : vOpd (vIssued op f).d = .long r n := (congrArg vOpd (viDecode_viWords_d op f)).trans hd
    refine ⟨n, ?_⟩
    change vCap s p _ (vOpd (vIssued op f).d) = _
    rw [hopd, vCap]

variable (h : Issued s p r op f v c)
include h

theorem Issued.posOk {acc : VAcc} (hacc : vAcc v.op v.typ v.mod = some acc) :
    posOk v.op 1 acc.a (vOpd v.a) c.a = true ∧ posOk v.op 2 acc.b (vOpd v.b) c.b = true ∧ posOk v.op 3 acc.c (vOpd v.c) c.c = true := by
  obtain ⟨hv, hc, hlegal, -⟩ := h
  subst hv hc
  exact posOk_of_vLegal hlegal hacc

variable (hl : s.live iVEC) (hs : s.pipeReady p) (o : VOrg)
include hl hs

/-- VRSUM, VRDOT, VRMIN and VRMAX of one element (R124, R126). -/
theorem Issued.reduction (hkind : vKind op = .red) (ha : c.a.Still) (hb : c.b.Still) (hc : c.c.Still) :
    let g := redGroup v (viRm v (rf s (R.vpDRM p))) none [(0, capScal c.a, capScal c.b)]
    let y := redResult v ((vDbl v.op v.typ v.mod 0).getD false) (g.1.getD 0)
    ∃ t, vCommand op p o f s = .next t ∧ ResultLeft s t p r y.1 (g.2 ||| y.2) := by
  have hk : vKind v.op = .red := h.op_eq ▸ hkind
  obtain ⟨n, hdest⟩ := h.dest
  have hrun := VRun.begun_unread (e := vQueued s op o f) h.decoded h.captured (by rw [hk]; decide)
    ⟨h.dest, ha.within, hb.within, hc.within⟩ h.one
  have hcaps := VRun.begun_caps (e := vQueued s op o f) h.decoded h.captured
  have hlong := (VRun.begun s p (vQueued s op o f)).writeCyc_bounds.2
  exact vCommand_resultLeft hl hs h.legal ⟨⟨_, rfl⟩, rfl⟩ hrun.toCalm
    (Ends.of_reduction hs.alone hrun h.decoded hcaps rfl hk hdest ha hb hc) (le_vLong (by omega))

/-- A row instruction of one element, once its row's sum is known. -/
theorem Issued.row (hkind : vKind op = .row) (ha : c.a.Within) (hb : c.b.Within) (hc : c.c.Within) {q : Nat × Arf}
    (hel : ∀ u, Running s u p ((VRun.begun s p (vQueued s op o f)).inCycle [] []) →
      rowEl u p ((VRun.begun s p (vQueued s op o f)).inCycle [] []) 0 =
        (((VRun.begun s p (vQueued s op o f)).inCycle [] []).summed q,
          some (rowOut v p r ((vDbl v.op v.typ v.mod 0).getD false) q), none)) :
    ∃ t, vCommand op p o f s = .next t ∧ ResultLeft s t p r (rowResult v false q.1).1 (q.2 ||| (rowResult v false q.1).2) := by
  have hk : vKind v.op = .row := h.op_eq ▸ hkind
  have hin : c.InPipe r ((vDbl v.op v.typ v.mod 0).getD false) := ⟨h.dest, ha, hb, hc⟩
  have hrun := VRun.begun_unread (e := vQueued s op o f) h.decoded h.captured (by rw [hk]; decide) hin h.one
  have hcaps := VRun.begun_caps (e := vQueued s op o f) h.decoded h.captured
  have hlong := (VRun.begun s p (vQueued s op o f)).writeCyc_bounds.2
  exact vCommand_resultLeft hl hs h.legal ⟨⟨_, rfl⟩, rfl⟩ hrun.toCalm
    (Ends.of_row hs.alone hrun h.decoded hcaps hk hin hel) (le_vLong (by omega))

end Issued

/-! ### The rows of VBAND and VXCOR -/

theorem Running.rdN_longAt {b u : State} {p : Nat} {r : VRun} (h : Running b u p r) (j : Nat) : rdN u (longAt p j) = rdN b (longAt p j) := by
  obtain ⟨⟨q, hq, -⟩, -⟩ := h
  rw [rdN, rdN, hq.mem _ (longAt_ne_vpStateAddr p j)]

theorem Running.chipPlus_eq {b u : State} {p : Nat} {r : VRun} (h : Running b u p r) (ch : Nat) (n : Int) : chipPlus u ch n = chipPlus b ch n := by
  obtain ⟨⟨q, hq, -⟩, -⟩ := h
  simp only [chipPlus, hq.rf_eq (f := R.idnK ch) (by simp only [R.idnK, blkBase, vpStateAddr]; omega),
    hq.rf_eq (f := R.idnTAPS ch) (by simp only [R.idnTAPS, blkBase, vpStateAddr]; omega),
    hq.rf_eq (f := R.idnPHASE ch) (by simp only [R.idnPHASE, blkBase, vpStateAddr]; omega)]

section Rows
variable {s : State} {p r : Nat} {f : VFields} {v : VI} {c : VCaps} (hl : s.live iVEC) (hs : s.pipeReady p) (o : VOrg)
include hl hs

/-- VBAND of one row of one unclipped term (R127). -/
theorem Issued.band (h : Issued s p r 0x041 f v c) (hw : v.mod = 1) {j k m l : Nat} (ha : c.a = .long j k false) (hb : c.b = .long m l false)
    (hlo : 0 ≤ bandE (capScal c.c) 0 0) (hhi : bandE (capScal c.c) 0 0 < (bandCap c.b : Int)) :
    let q := rowAcc v (viRm v (rf s (R.vpDRM p))) 0 (rdN s (longAt p (128 * j)))
      (rdN s (longAt p (128 * m + (bandE (capScal c.c) 0 0).toNat)))
    let y := rowResult v false q.1
    ∃ t, vCommand 0x041 p o f s = .next t ∧ ResultLeft s t p r y.1 (q.2 ||| y.2) := by
  obtain ⟨-, -, hposc⟩ := h.posOk (by rw [h.op_eq]; rfl)
  obtain ⟨x, hc⟩ := eq_scal_of_vCls (vCls_of_posOk (by rw [h.op_eq]; decide) hposc)
  obtain ⟨n, hdest⟩ := h.dest
  refine h.row hl hs o rfl (ha ▸ trivial) (hb ▸ trivial) (hc ▸ trivial) fun u hu => ?_
  rw [← hu.rdN_longAt, ← hu.rdN_longAt]
  exact rowEl_band (r := (VRun.begun s p (vQueued s 0x041 o f)).inCycle [] []) h.decoded
    (VRun.begun_caps (e := vQueued s 0x041 o f) h.decoded h.captured) hdest h.op_eq hw ha hb hlo hhi

/-- VXCOR of one row of one sample (R128). -/
theorem Issued.chip (h : Issued s p r 0x042 f v c) (hw : capScal c.c % 2 ^ 24 = 1) {j k : Nat} {x ix : SDesc} (ha : c.a = .long j k false)
    (hb : c.b = .str x ix) :
    let q := rowChip v (viRm v (rf s (R.vpDRM p))) 0 (rdN s (longAt p (128 * j)))
      (chipPlus s (x.w3 % 2 ^ 12) ((pstep s : Int) + sext 36 x.w4))
    let y := rowResult v false q.1
    ∃ t, vCommand 0x042 p o f s = .next t ∧ ResultLeft s t p r y.1 (q.2 ||| y.2) := by
  obtain ⟨-, hposb, hposc⟩ := h.posOk (by rw [h.op_eq]; rfl)
  obtain ⟨k', hc⟩ := eq_scal_of_vCls (vCls_of_posOk (by rw [h.op_eq]; decide) hposc)
  have hmode : x.mode = 4 := mode_of_vCls_prbs (hb ▸ vCls_of_posOk (by rw [h.op_eq]; decide) hposb)
  obtain ⟨n, hdest⟩ := h.dest
  refine h.row hl hs o rfl (ha ▸ trivial) (hb ▸ hmode) (hc ▸ trivial) fun u hu => ?_
  rw [← hu.rdN_longAt, ← hu.chipPlus_eq]
  exact rowEl_chip (r := (VRun.begun s p (vQueued s 0x042 o f)).inCycle [] []) h.decoded
    (VRun.begun_caps (e := vQueued s 0x042 o f) h.decoded h.captured) hdest h.op_eq hw ha hb

end Rows

end Sys2Proof.Machine

/-! SUPPORT. The cycle of a pipe alone at work in which its shared reads are all granted (R54, R55, R57). -/

namespace Sys2Proof.Machine

/-! ### Grants of shared reads -/

theorem smWaiting_nil {s : State} (h : s.sm.wait = []) (b : Nat) : smWaiting s b = [] := by
  simp [smWaiting, smPresents, h]

/-- A shared read of a word without an error, in a bank that is on. -/
structure VReq.Clean (q : VReq) (b : State) : Prop where
  own : q.own = false
  put : q.put = none
  on : bankOff b (smBank b q.addr) = false
  ecc : eccAt b q.addr = none
  stream : q.addr < b.cfg.part.streamWords

/-! ### What the pipe's own changes leave of the checks on accesses -/

section Checks
variable {b u : State} {p : Nat} {q : PipeSt} (h : PipeOnly b u p q)
include h

theorem PipeOnly.smBank_eq (a : Nat) : smBank u a = smBank b a := by rw [smBank, smBank, h.cfg]
theorem PipeOnly.bankOff_eq (a : Nat) : bankOff u (smBank b a) = bankOff b (smBank b a) := by
  have hbank : smBank b a < 256 := by
    rw [smBank]
    cases b.cfg.part <;> simp only [Part.banks] <;> omega
  rw [bankOff, bankOff, h.rf_eq (by simp only [R.smBANK_OFF, blkBase, vpStateAddr]; omega)]
theorem PipeOnly.lvtBase_eq : lvtBase u = lvtBase b := by
  rw [lvtBase, lvtBase, h.rf_eq (by simp only [R.smLVT_BASE, blkBase, vpStateAddr]; omega)]
theorem PipeOnly.rd_stream {a : Nat} (ha : a < b.cfg.part.streamWords) : rd u a = rd b a :=
  h.mem a (by
    have hs : b.cfg.part.streamWords ≤ 0x20000000 := by cases b.cfg.part <;> decide
    simp only [vpStateAddr, blkBase]
    omega)
theorem PipeOnly.vCheck_eq (org : VOrg) (write : Bool) (a : Nat) : vCheck u org write a = vCheck b org write a := by
  have hprot : rb u R.smLVT_PROT = rb b R.smLVT_PROT := by
    rw [rb, rb, h.rf_eq (by simp only [R.smLVT_PROT, blkBase, vpStateAddr]; omega)]
  have hin : inLvt u a = inLvt b a := by rw [inLvt, inLvt, h.lvtBase_eq, h.cfg]
  simp only [vCheck, h.cfg, hprot, hin, h.smBank_eq, h.bankOff_eq]
theorem PipeOnly.vCheckAll_eq (org : VOrg) (write : Bool) (oper : Nat) (as : List Nat) :
    vCheckAll u org write oper as = vCheckAll b org write oper as := by
  simp only [vCheckAll, h.vCheck_eq]

end Checks

section Grants
variable {b : State} {p : Nat} (ha : Alone b p) (hp : p < 4) (hrmw : b.sm.rmw = []) (hwait : b.sm.wait = [])
include ha hp hrmw hwait

/-- The bank of the first access presented grants it (R54, R55). -/
theorem Running.bankGrant_eq {u : State} {r : VRun} {q : VReq} {l : List VReq} {g : List (Nat × Option Word)}
    (h : Running b u p (r.inCycle (q :: l) g)) (holds : r.olds = []) (hq : q.Clean b) (hl : ∀ x ∈ l, x.own = false) :
    ∃ v, bankGrant [p] ([], u) (smBank b q.addr) = ([], v) ∧ Running b v p (r.inCycle l (g ++ [(q.key, some (rd b q.addr))])) := by
  obtain ⟨⟨x, hu, hbare, hrun⟩, hm⟩ := id h
  have htodo : vTodo u p = q :: l := by simp [vTodo, h.run_eq, VRun.inCycle]
  have hown : vAsks u (smBank b q.addr) true p = none := by
    rw [vAsks, htodo, List.find?_eq_none]
    have hnot : ∀ x ∈ q :: l, x.own = false := List.forall_mem_cons.2 ⟨hq.own, hl⟩
    exact fun x hx => by simp [hnot x hx]
  have hask : vAsks u (smBank b q.addr) false p = some q := by
    rw [vAsks, htodo]
    simp [hq.own, hu.smBank_eq]
  have hturn : Running b (smTurn u (smBank b q.addr) p) p (r.inCycle (q :: l) g) :=
    ⟨⟨x, hu.of_eq rfl rfl rfl, hbare, hrun⟩, ⟨hm.rmw, hm.wait, hm.ecc, hm.fld⟩⟩
  have hread : smReadOwn (smTurn u (smBank b q.addr) p) q.addr = (stOK, rd b q.addr, smTurn u (smBank b q.addr) p) := by
    have ht := hu.of_eq (t := smTurn u (smBank b q.addr) p) rfl rfl rfl
    have hecc : eccAt (smTurn u (smBank b q.addr) p) q.addr = none := by rw [← hq.ecc, eccAt, eccAt]; exact congrArg (kvFind · _) hm.ecc
    have hon : bankOff (smTurn u (smBank b q.addr) p) (smBank (smTurn u (smBank b q.addr) p) q.addr) = false := by
      rw [ht.smBank_eq, ht.bankOff_eq, hq.on]
    rw [smReadOwn_ok hon hecc, ht.rd_stream hq.stream]
  have hperform : vPerform (smTurn u (smBank b q.addr) p) p q =
      Machine.setRun (smTurn u (smBank b q.addr) p) p (some (r.inCycle l (g ++ [(q.key, some (rd b q.addr))]))) := by
    unfold vPerform
    simp only [hq.put, hturn.run_eq, Option.bind_some, VRun.inCycle, holds, kvFind, List.find?_nil, Option.map_none, hread, if_true, modRun,
      Option.map_some, List.erase_cons_head]
  refine ⟨_, ?_, hturn.setRun ha _⟩
  have hnone (ptr n : Nat) : rotWin ptr n [] = none := by simp [rotWin]
  have hask' : vAsks (smTurn u (smBank b q.addr) p) (smBank b q.addr) false p = some q := hask
  have hrmw' : kvFind u.sm.rmw (smBank b q.addr) = none := by rw [hm.rmw, hrmw]; rfl
  have hport (ptr : Nat) : rotWin ptr 8 [p] = some p := rotWin_singleton (Nat.lt_of_lt_of_le hp (by decide : 4 ≤ 8))
  simp only [bankGrant, List.filter_cons, List.filter_nil, hown, hask, hask', hnone, hrmw', smWaiting_nil (hm.wait.trans hwait), hport, hp,
    Option.isSome_none, Option.isSome_some, Bool.false_eq_true, if_false, if_true, List.append_nil, vGrant, hperform]

/-- Each bank asked for grants its access in turn. -/
theorem Running.bankGrants_eq {r : VRun} (holds : r.olds = []) :
    ∀ (l : List VReq) {u : State} {g : List (Nat × Option Word)}, Running b u p (r.inCycle l g) → (∀ q ∈ l, q.Clean b) →
      ∃ v, (l.map fun q => smBank b q.addr).foldl (bankGrant [p]) ([], u) = ([], v) ∧
        Running b v p (r.inCycle [] (g ++ l.map fun q => (q.key, some (rd b q.addr))))
  | [], u, g, h, _ => ⟨u, rfl, by simpa using h⟩
  | q :: l, u, g, h, hl => by
    rw [List.forall_mem_cons] at hl
    obtain ⟨v, hgrant, hv⟩ := h.bankGrant_eq ha hp hrmw hwait holds hl.1 fun x hx => (hl.2 x hx).own
    obtain ⟨t, hgrants, ht⟩ := Running.bankGrants_eq holds l hv hl.2
    exact ⟨t, by rw [List.map_cons, List.foldl_cons, hgrant, hgrants], by simpa using ht⟩

/-- A cycle in which shared reads in banks of their own are granted all: the words are there at its end (R57). -/
theorem Running.vGrants_eq {r : VRun} (holds : r.olds = []) {l : List VReq} {u : State} {g : List (Nat × Option Word)}
    (h : Running b u p (r.inCycle l g)) (hl : ∀ q ∈ l, q.Clean b)
    (hbanks : (l.map fun q => smBank b q.addr).eraseDups = l.map fun q => smBank b q.addr) :
    ∃ v, Running b v p (r.inCycle [] (g ++ l.map fun q => (q.key, some (rd b q.addr)))) ∧ vGrants u [p] = Machine.elapse (vDo v p) 1 := by
  obtain ⟨v, hgrants, hv⟩ := Running.bankGrants_eq ha hp hrmw hwait holds l h hl
  refine ⟨v, hv, ?_⟩
  obtain ⟨⟨x, hu, -⟩, -⟩ := id h
  have htodo : vTodo u p = l := by simp [vTodo, h.run_eq, VRun.inCycle]
  have hdone : vTodo v p = [] := by simp [vTodo, hv.run_eq, VRun.inCycle]
  have hback : vBack v p = vDo v p := by simp [vBack, hv.run_eq, VRun.inCycle]
  simp only [vGrants, List.flatMap_cons, List.flatMap_nil, List.append_nil, htodo, hu.smBank_eq, hbanks, hgrants, phaseMiss, List.find?_cons,
    List.find?_nil, hdone, List.any_nil, List.foldl_cons, List.foldl_nil, hback]

end Grants

end Sys2Proof.Machine

/-! SUPPORT. The queue read of one slot (R122, R123), whose start-up is 14 cycles (R95). -/

namespace Sys2Proof.Machine

/-! ### The queue read of one slot (R122, R123) -/

/-- The operands of VQGET: a QSNAP stream `d` of queues, a substitute, and a long register from number `f` on. -/
structure VCaps.Slot (c : VCaps) (d : SDesc) (f : Nat) (dbl : Bool) : Prop where
  dest : ∃ n, c.d = .long f n dbl
  a : ∃ x, c.a = .str d x
  b : c.b.Still
  c : c.c = .none
  mode : d.mode = 3
  idxq : d.idxq = false
  len : d.len ≠ 0

/-- The words of the slot of queue `q` (R122). -/
def slotWords (s : State) (q : Nat) : List Nat := [lvtBase s + 2 * q, lvtBase s + 2 * q + 1]

/-- The slot of queue `q` can be read: it passes the checks on its accesses, and no bank or word error meets it. -/
structure SlotReadable (s : State) (o : VOrg) (q : Nat) : Prop where
  queue : q < s.cfg.part.queues
  check : vCheckAll s o false 1 (slotWords s q) = none
  ecc : ∀ a ∈ slotWords s q, eccAt s a = none
  rmw : s.sm.rmw = []
  wait : s.sm.wait = []

section Slot
variable {c : VCaps} {d : SDesc} {f : Nat} {dbl : Bool} (h : c.Slot d f dbl)
include h

theorem VCaps.Slot.vrS_eq : vrS c = 14 := by
  obtain ⟨x, ha⟩ := h.a
  simp [vrS, ha, h.mode]

theorem VCaps.Slot.noIndex {r : VRun} (hc : r.caps = c) : r.NoIndex := by
  obtain ⟨n, hd⟩ := h.dest
  obtain ⟨x, ha⟩ := h.a
  refine ⟨by rw [hc, hd]; rfl, by simp [hc, capIx, ha, h.mode, h.idxq], by rw [hc]; exact capIx_within h.b.within⟩

theorem VCaps.Slot.vChains_nil : vChains c = [] := by
  obtain ⟨n, hd⟩ := h.dest
  obtain ⟨x, ha⟩ := h.a
  rw [vChains_eq, hd, ha, capChain_still h.b, h.c]
  rfl

end Slot

/-- The queue that element 0 of a QSNAP stream names (Table VEC-2). -/
theorem sdAddr_zero {d : SDesc} (hm : d.mode ≠ 1) (hq : d.base < 2 ^ 36) : sdAddr d 0 = d.base := by
  have hat : toBits 36 (d.base : Int) = d.base := by
    rw [toBits, Int.emod_eq_of_lt (by omega) (by omega), Int.toNat_natCast]
  simp [sdAddr, hm, hat]

theorem Part.queues_lt (part : Part) : part.queues < 2 ^ 36 := by cases part <;> decide

/-- The reads of the slot of queue `q` as operand A of element 0. -/
def slotReqs (s : State) (q : Nat) : List VReq :=
  [⟨false, lvtBase s + 2 * q, vKey 1 0 0, none⟩, ⟨false, lvtBase s + 2 * q + 1, vKey 1 0 1, none⟩]
/-- What they deliver. -/
def slotGot (s : State) (q : Nat) : List (Nat × Option Word) := (slotReqs s q).map fun x => (x.key, some (rd s x.addr))

theorem kvFind_cons {α : Type} (k j : Nat) (v : α) (m : List (Nat × α)) : kvFind ((k, v) :: m) j = if k = j then some v else kvFind m j := by
  by_cases h : k = j
  · simp [kvFind, h]
  · simp [kvFind, h]

/-- The value of an element of two words that its reads delivered. -/
theorem gotVal_two {r : VRun} {oper i a a' : Nat} {w w' : Word} (h : kvFind r.got (vKey oper i 0) = some (some w))
    (h' : kvFind r.got (vKey oper i 1) = some (some w')) : gotVal r oper i [a, a'] = .ok (w'.toNat * 2 ^ 36 + w.toNat) := by
  have hws : (List.range [a, a'].length).map (fun j => (kvFind r.got (vKey oper i j)).getD (some 0#36)) = [some w, some w'] := by
    change [(kvFind r.got (vKey oper i 0)).getD (some 0#36), (kvFind r.got (vKey oper i 1)).getD (some 0#36)] = _
    rw [h, h']
    rfl
  rw [gotVal, hws]
  simp

/-- An access that passes its checks is to a word of Stream Memory, in a bank that is on (R68, R84). -/
theorem vCheck_eq_none {s : State} {org : VOrg} {write : Bool} {a : Nat} (h : vCheck s org write a = none) :
    a < s.cfg.part.streamWords ∧ bankOff s (smBank s a) = false := by
  constructor
  · by_contra hout
    simp [vCheck, Nat.not_lt.1 hout] at h
  · by_contra hoff
    rw [Bool.not_eq_false] at hoff
    cases org <;> simp only [vCheck, hoff, if_true] at h <;> split_ifs at h

section Read
variable {b u : State} {p : Nat} {x : PipeSt} (hu : PipeOnly b u p x) {o : VOrg} {d : SDesc} (hs : SlotReadable b o d.base) (hm : d.mode = 3)
  (hi : d.idxq = false) (hlen : d.len ≠ 0)

include hs in
theorem SlotReadable.clean : ∀ q ∈ slotReqs b d.base, q.Clean b := by
  have hword : ∀ a ∈ slotWords b d.base, ∀ k, VReq.Clean ⟨false, a, k, none⟩ b := fun a ha k => by
    have hcheck : vCheck b o false a = none := by simpa using List.findSome?_eq_none_iff.1 hs.check a ha
    obtain ⟨hstream, hon⟩ := vCheck_eq_none hcheck
    exact ⟨rfl, rfl, hon, hs.ecc a ha, hstream⟩
  simp only [slotWords, List.forall_mem_cons] at hword
  obtain ⟨hlo, hhi, -⟩ := hword
  simp only [slotReqs, List.forall_mem_cons]
  exact ⟨hlo _, hhi _, List.forall_mem_nil _⟩

theorem slotReqs_banks : ((slotReqs b d.base).map fun q => smBank b q.addr).eraseDups = (slotReqs b d.base).map fun q => smBank b q.addr := by
  have hne : smBank b (lvtBase b + 2 * d.base + 1) ≠ smBank b (lvtBase b + 2 * d.base) := by
    simp only [smBank]
    cases b.cfg.part <;> simp only [Part.banks] <;> omega
  simp [slotReqs, List.eraseDups_cons, hne]

include hs hm hi in
theorem slotQ_base (y : Option VIx) : slotQ d y 0 = .ok d.base := by
  have hq := Nat.lt_trans hs.queue (Part.queues_lt _)
  simp [slotQ, hi, sdAddr_zero (by omega : d.mode ≠ 1) hq]

include hu hs hm hi hlen

theorem srcWords_slot {r : VRun} (ho : r.ent.org = o) (ix : SDesc) (y : Option VIx) :
    srcWords u r 1 (.str d ix) y 0 = .ok (false, slotWords b d.base) := by
  have hslot : slotWords u d.base = slotWords b d.base := by rw [slotWords, slotWords, hu.lvtBase_eq]
  have hcheck : vCheckAll u o false 1 (slotWords u d.base) = none := by rw [hu.vCheckAll_eq, hslot, hs.check]
  have hqueue : ¬ u.cfg.part.queues ≤ d.base := by rw [hu.cfg]; exact Nat.not_le.2 hs.queue
  rw [← hslot]
  unfold slotWords at hcheck ⊢
  simp [srcWords, hm, hlen, slotQ_base hs hm hi, hqueue, ho, hcheck]

/-- The words of the slot once they are read. -/
theorem srcEl_slot {r : VRun} (ho : r.ent.org = o) (hg : r.got = slotGot b d.base) (ix : SDesc) (y : Option VIx) :
    srcEl u p r 1 (.str d ix) y 0 0 0 = .ok (rdN b (lvtBase b + 2 * d.base + 1) * 2 ^ 36 + rdN b (lvtBase b + 2 * d.base)) := by
  have hgot : gotVal r 1 0 (slotWords b d.base) = .ok (rdN b (lvtBase b + 2 * d.base + 1) * 2 ^ 36 + rdN b (lvtBase b + 2 * d.base)) := by
    have hkey : vKey 1 0 0 ≠ vKey 1 0 1 := by simp only [vKey]; omega
    refine gotVal_two ?_ ?_
    · rw [hg, slotGot, slotReqs, List.map_cons, kvFind_cons, if_pos rfl]
    · rw [hg, slotGot, slotReqs, List.map_cons, kvFind_cons, if_neg hkey, List.map_cons, kvFind_cons, if_pos rfl]
  have hmode : d.mode ≠ 4 := by omega
  simp only [srcEl, hmode, if_false, srcWords_slot hu hs hm hi hlen ho, hgot]

end Read

/-! ### The run of the queue read -/

section Run
variable {b : State} {p : Nat} {r : VRun} {v : VI} (hv : veI r.ent = v) {c : VCaps} (hc : r.caps = c) {d : SDesc} {f : Nat} {dbl : Bool}
  (hslot : c.Slot d f dbl) (hkind : vKind v.op = .qget)

include hv hc hslot hkind in
/-- What the queue read delivers for its slot (R122, R123). -/
theorem elemOut_slot {u : State} {x : PipeSt} (hu : PipeOnly b u p x) (hfld : u.fld = b.fld) (hs : SlotReadable b r.ent.org d.base)
    (hg : r.got = slotGot b d.base) {y : Nat}
    (hy : vqget v.mod (d.w3 % 2 ^ 35) r.refTag (rdN b (lvtBase b + 2 * d.base)) (rdN b (lvtBase b + 2 * d.base + 1)) (capScal c.b)
      (decide (rdN b (lvtBase b + 2 * d.base + 1) = 0) && !b.fld.tagZero.contains d.base) = some y) :
    elemOut u p r 0 0 = .ok ⟨0, wrList (longEl p f dbl 0) y, none, 0#7⟩ := by
  subst hv hc
  obtain ⟨n, hd⟩ := hslot.dest
  obtain ⟨ix, ha⟩ := hslot.a
  have hlo : rdN b (lvtBase b + 2 * d.base) < 2 ^ 36 := (rd b _).isLt
  have hword := srcEl_slot hu hs hslot.mode hslot.idxq hslot.len rfl hg ix (r.ixA[0]?)
  have hmod : (rdN b (lvtBase b + 2 * d.base + 1) * 2 ^ 36 + rdN b (lvtBase b + 2 * d.base)) % 2 ^ 36 = rdN b (lvtBase b + 2 * d.base) := by
    omega
  have hdiv : (rdN b (lvtBase b + 2 * d.base + 1) * 2 ^ 36 + rdN b (lvtBase b + 2 * d.base)) / 2 ^ 36 = rdN b (lvtBase b + 2 * d.base + 1) := by
    omega
  have hq : (slotQ d (r.ixA[0]?) 0).toOption.getD 0 = d.base := by rw [slotQ_base hs hslot.mode hslot.idxq]; rfl
  unfold elemOut
  simp only [hkind, ha, hword, srcEl_still hslot.b, hmod, hdiv, hq, hfld, hy, hd, dstEl, if_true]
  cases dbl <;> simp [longEl, wrList, capChain]

include hv hc hslot hkind

/-- The queue read asks for the words of its slot. -/
theorem srcReqs_slot {u : State} {x : PipeSt} (hu : PipeOnly b u p x) (hs : SlotReadable b r.ent.org d.base) :
    srcReqs u r 0 [0] = slotReqs b d.base := by
  subst hv hc
  obtain ⟨ix, ha⟩ := hslot.a
  have hels : elSrcs r 0 0 = [(1, r.caps.a, r.ixA[0]?, 0), (2, r.caps.b, r.ixB[0]?, 0), (3, r.caps.c, none, 0)] := by simp [elSrcs, hkind]
  have hc : r.caps.c.Still := by rw [hslot.c]; trivial
  have hreqs : elReqs u r 0 (elSrcs r 0 0) = (slotReqs b d.base, true) := by
    simp only [hels, elReqs, ha, srcWords_slot hu hs hslot.mode hslot.idxq hslot.len rfl, srcWords_still hslot.b, srcWords_still hc]
    rfl
  simp [srcReqs, hreqs]

/-- In the cycle its sources are due the queue read has its slot's words granted and computes its element. -/
theorem Goes.of_slot (ha : Alone b p) (hp : p < 4) (h : r.Unread) (hs : SlotReadable b r.ent.org d.base) {y : Nat}
    (hy : vqget v.mod (d.w3 % 2 ^ 35) r.refTag (rdN b (lvtBase b + 2 * d.base)) (rdN b (lvtBase b + 2 * d.base + 1)) (capScal c.b)
      (decide (rdN b (lvtBase b + 2 * d.base + 1) = 0) && !b.fld.tagZero.contains d.base) = some y) :
    Goes b p 1 r (r.afterRead [[⟨0, wrList (longEl p f dbl 0) y, none, 0#7⟩]] r.part r.acc r.accFl) := by
  intro u hu
  obtain ⟨t, ht, hut⟩ := hu.cycle ha h.toCalm (VRun.todo_of_cleared h.clear)
  obtain ⟨⟨x, hx, -⟩, -⟩ := hu
  have hpresent : { r with todo := some (r.asks u p) } = r.inCycle (slotReqs b d.base) [] := by
    rw [h.asks_eq, srcReqs_slot hv hc hslot hkind hx hs, VRun.inCycle, ← show r.got = [] by rw [← h.clear]; rfl]
  rw [hpresent] at ht
  obtain ⟨w, hw, hgrants⟩ := ht.vGrants_eq ha hp hs.rmw hs.wait (by rw [← h.clear]; rfl) hs.clean slotReqs_banks
  obtain ⟨⟨z, hz, -⟩, hm⟩ := id hw
  have hred : vKind (veI r.ent).op ≠ .red := by rw [hv, hkind]; decide
  have hrow : vKind (veI r.ent).op ≠ .row := by rw [hv, hkind]; decide
  have hout := elemOut_slot (r := r.inCycle [] (slotGot b d.base)) (p := p) hv hc hslot hkind hz hm.fld hs rfl hy
  have hdo := h.vDo_eq hw.run_eq (.inl (List.cons_ne_nil _ _)) (h.vCompute_elem hred hrow hout)
  exact ⟨_, (hw.setRun ha _).elapse 1, fun m => by rw [hut, hgrants, hdo]⟩

end Run

/-- The run of a queue read in its cycle `i`, before it reads: the index reads of its first group are over after cycle 6 (R95). -/
def VRun.fetching (r : VRun) (i : Nat) : VRun := { r with cyc := i, ixg := if i ≤ 6 then 0 else 1 }

section Fetch
variable {b : State} {p : Nat} (ha : Alone b p) {r : VRun} (h : r.OfOne) (hi : r.NoIndex) (hclear : r.cleared = r) (hgi : r.gi = 0)
  (houts : r.outs = []) (hkind : vKind (veI r.ent).op ≠ .red) (hS : vrS r.caps = 14)
include h hi hclear hgi houts hkind hS

/-- Its start-up of 14 cycles passes but for the last four (R95). -/
theorem Goes.of_fetching (ha : Alone b p) : Goes b p 10 (r.fetching 0) (r.fetching 10) := by
  refine Goes.iterate (f := r.fetching) (k := 0) 10 fun i _ hlt => ?_
  have hone : (r.fetching i).OfOne := ⟨⟨h.dest, h.srcs, h.bound, h.kind, h.cut, h.flt, h.waitSince⟩, h.one, h.k0, h.wg⟩
  have hix : ixDue (r.fetching i) = decide (i = 6) := by
    rw [hone.ixDue_eq, show vrS (r.fetching i).caps = 14 from hS]
    refine decide_eq_decide.2 ?_
    change (if i ≤ 6 then 0 else 1) = 0 ∧ i + 8 = 14 ↔ i = 6
    split_ifs <;> omega
  have hpassed : (r.fetching i).ixPassed.atCycle (i + 1) = r.fetching (i + 1) := by
    rw [VRun.ixPassed, hix]
    by_cases h6 : i = 6
    · subst h6; rfl
    · have hle : i + 1 ≤ 6 ↔ i ≤ 6 := by omega
      simp [h6, VRun.fetching, VRun.atCycle, hle]
  have hrest : (r.fetching i).Rests := by
    refine ⟨hone.work, ?_, ?_, ?_, fun _ => .inr ?_⟩
    · rw [hone.srcDue_eq, show vrS (r.fetching i).caps = 14 from hS]
      exact decide_eq_false fun hdue => by
        have : i + 4 = 14 := hdue.2
        omega
    · simp [outDue, show (r.fetching i).outs = [] from houts]
    · rw [hone.redDue_eq]
      exact decide_eq_false fun hdue => hkind hdue.1
    · rw [hone.grpEnd_eq, show (r.fetching i).gi = 0 from hgi]
      decide
  rw [← hpassed]
  exact Goes.of_rests ha hone.toCalm ⟨hi.d, hi.a, hi.b⟩ (congrArg (fun x => x.fetching i) hclear) hrest

omit hkind in
/-- Its sources are due in cycle 10. -/
theorem VRun.fetching_unread (hpart : r.part = none) (hpartB : r.partB = none) (hfl : r.accFl = 0#7) (hflB : r.accFlB = 0#7) :
    (r.fetching 10).Unread :=
  ⟨⟨⟨h.dest, h.srcs, h.bound, h.kind, h.cut, h.flt, h.waitSince⟩, h.one, h.k0, h.wg⟩, ⟨hi.d, hi.a, hi.b⟩,
    congrArg (fun x => x.fetching 10) hclear, hgi, houts, hpart, hpartB, hfl, hflB, .inl Nat.one_ne_zero, hS.symm⟩

end Fetch

/-- VQGET of one slot (R122, R123). -/
theorem Issued.slot {s : State} {p r : Nat} {f : VFields} {v : VI} {c : VCaps} (h : Issued s p r 0x040 f v c) (hl : s.live iVEC)
    (hs : s.pipeReady p) (o : VOrg) {d x : SDesc} (ha : c.a = .str d x) (hb : c.b.Still) (hidx : d.idxq = false) (hlen : d.len ≠ 0)
    (hslot : SlotReadable s o d.base) {y : Nat}
    (hy : vqget v.mod (d.w3 % 2 ^ 35) (tagOf (s.devTime - (22 + Config.freeNat s.free % 23))) (rdN s (lvtBase s + 2 * d.base))
      (rdN s (lvtBase s + 2 * d.base + 1)) (capScal c.b)
      (decide (rdN s (lvtBase s + 2 * d.base + 1) = 0) && !s.fld.tagZero.contains d.base) = some y) :
    ∃ t, vCommand 0x040 p o f s = .next t ∧ ResultLeft s t p r y 0#7 := by
  obtain ⟨hposa, -, hposc⟩ := h.posOk (by rw [h.op_eq]; rfl)
  have hmode : d.mode = 3 := mode_of_vCls_qsnap (ha ▸ vCls_of_posOk (by rw [h.op_eq]; decide) hposa)
  have hc : c.c = .none := by
    have hnone := eq_none_of_posOk hposc
    rw [← h.captured]
    change vCap s p _ (vOpd v.c) = _
    rw [hnone]
    rfl
  have hin : c.Slot d r ((vDbl v.op v.typ v.mod 0).getD false) := ⟨h.dest, ⟨x, ha⟩, hb, hc, hmode, hidx, hlen⟩
  have hkind : vKind v.op = .qget := by rw [h.op_eq]; rfl
  have hcalm := VRun.begun_calm (e := vQueued s 0x040 o f) h.decoded h.captured (by rw [hkind]; decide) hin.vChains_nil
  have hcaps := VRun.begun_caps (e := vQueued s 0x040 o f) h.decoded h.captured
  have hone : (VRun.begun s p (vQueued s 0x040 o f)).OfOne := ⟨hcalm, (congrArg VI.n h.decoded).trans h.one, rfl, rfl⟩
  have hred : vKind (veI (VRun.begun s p (vQueued s 0x040 o f)).ent).op ≠ .red := by
    rw [show veI (VRun.begun s p (vQueued s 0x040 o f)).ent = v from h.decoded, hkind]
    decide
  have hS : vrS (VRun.begun s p (vQueued s 0x040 o f)).caps = 14 := by rw [hcaps, hin.vrS_eq]
  have hwait := Goes.of_fetching hone (hin.noIndex hcaps) rfl rfl rfl hred hS hs.alone
  have hunread := VRun.fetching_unread hone (hin.noIndex hcaps) rfl rfl rfl hS rfl rfl rfl rfl
  have hp : p < 4 := Nat.lt_of_lt_of_le hs.1 (by cases s.cfg.part <;> decide)
  have hread := Goes.of_slot (r := (VRun.begun s p (vQueued s 0x040 o f)).fetching 10) h.decoded hcaps hin hkind hs.alone hp hunread hslot hy
  have hinto : VOut.Into ⟨0, wrList (longEl p r ((vDbl v.op v.typ v.mod 0).getD false) 0) y, none, 0#7⟩ p r y 0#7 := ⟨⟨_, rfl⟩, rfl⟩
  obtain ⟨hlo, hhi⟩ := ((VRun.begun s p (vQueued s 0x040 o f)).fetching 10).writeCyc_bounds
  have hlate : 11 ≤ ((VRun.begun s p (vQueued s 0x040 o f)).fetching 10).writeCyc :=
    Nat.le_trans (by decide : 11 ≤ 14) (Nat.le_trans (Nat.le_of_eq hS.symm) hlo)
  refine vCommand_resultLeft hl hs h.legal hinto hcalm
    ((hwait.trans hread).ends (Ends.of_output hs.alone (hunread.hasRead _ _ _ _) rfl hred hinto.intoLongs hlate)) (le_vLong ?_)
  have hlast : 10 + 1 + (((VRun.begun s p (vQueued s 0x040 o f)).fetching 10).writeCyc - 11 + 1) ≤ 39 := by omega
  exact hlast

end Sys2Proof.Machine

/-! O5. An instruction without elements counts in DONE_CNT and leaves the rest (R89), and the obligation. -/

namespace Sys2Proof.Machine

/-! ### Instructions without elements -/

/-- Pipe `p` is idle again, has counted an instruction, and its long registers and flags are as in `s`. -/
structure OnlyCounted (s t : State) (p : Nat) : Prop where
  idle : (pipe t p).run = none
  done : rf t (R.vpDONE_CNT p) = min (rf s (R.vpDONE_CNT p) + 1) (2 ^ 36 - 1)
  longs : ∀ x, rd t (longAt p x) = rd s (longAt p x)
  arf : rf t (R.vpARF p) = rf s (R.vpARF p)

theorem PipeOnly.onlyCounted {s t : State} {p : Nat} {q : PipeSt} (h : PipeOnly (cnt s (R.vpDONE_CNT p)) t p q) (hrun : q.run = none) :
    OnlyCounted s t p where
  idle := h.pipe_eq ▸ hrun
  done := (h.rf_eq (by simp [R.vpDONE_CNT, vpStateAddr])).trans (rf_cnt_same s _ (Nat.zero_le 35) (by decide : 35 < 36))
  longs x := (h.mem _ (longAt_ne_vpStateAddr p x)).trans (rd_cnt_ne s _ (by simp only [longAt, R.vpDONE_CNT]; omega))
  arf := (h.rf_eq (by simp [R.vpARF, vpStateAddr])).trans (rf_wf_ne s _ _ _ (by simp [R.vpARF, R.vpDONE_CNT]))

/-- The last cycle of an instruction without elements (R89). -/
theorem vLast_le_of_no_element {v : VI} (hn : v.n = 0) (c : VCaps) (k0 : Nat) : (vLast v c k0).1 ≤ 13 := by
  have hs : vrS c - 1 ≤ 13 := by rw [vrS]; split_ifs <;> omega
  unfold vLast
  cases vKind v.op <;> simp [hn, hs]

/-- An instruction without elements (R89). -/
theorem vCommand_onlyCounted {s : State} {p op : Nat} {f : VFields} {v : VI} (hl : s.live iVEC) (hs : s.pipeReady p) (o : VOrg)
    (hlegal : vLegal s p (viWords op f).1 (viWords op f).2.1 (viWords op f).2.2 = true) (hv : vIssued op f = v) (hn : v.n = 0)
    (hkind : vKind v.op ≠ .fence) (hports : vChains (vCaps s p v) = []) :
    ∃ t, vCommand op p o f s = .next t ∧ OnlyCounted s t p := by
  have hcalm := VRun.begun_calm (e := vQueued s op o f) hv rfl hkind hports
  have hno : (veI (VRun.begun s p (vQueued s op o f)).ent).n = 0 := (congrArg VI.n hv).trans hn
  have hcyc : (VRun.begun s p (vQueued s op o f)).cyc = 0 := rfl
  have hlast := vLast_le_of_no_element hno (VRun.begun s p (vQueued s op o f)).caps (VRun.begun s p (vQueued s op o f)).k0
  have hends := Ends.of_idle hs.alone hcalm (by simp [vIdleOp, hno]) rfl (Nat.zero_le _)
  obtain ⟨t, q, ht, hq, hrun⟩ := vCommand_ends (w := cnt s (R.vpDONE_CNT p)) hl hs hlegal hcalm rfl hends
    (le_vLong (by rw [hcyc]; omega))
  exact ⟨t, ht, hq.onlyCounted hrun⟩

/-! ### The obligation -/

theorem VCap.still_of_scal {c : VCap} (h : ∃ k, c = .scal k) : c.Still := by
  obtain ⟨k, rfl⟩ := h
  trivial
theorem VCap.still_of_none_or_scal {c : VCap} (h : c = .none ∨ ∃ k, c = .scal k) : c.Still :=
  h.elim (fun hc => hc ▸ trivial) VCap.still_of_scal

/-- Settles O5: alone in a ready pipe the instruction passes to the cycle its sources are due, reads its element (VQGET after two granted
reads of its slot), passes to the cycle its result is due, writes it and counts; without elements it counts in the last of its cycles. -/
theorem vectorReductionRowAndQueueResults : Obligations.VectorReductionRowAndQueueResults := by
  unfold Obligations.VectorReductionRowAndQueueResults
  intro s p r n o f hl hs hd
  refine ⟨?reductions, ?band, ?chip, ?slot, ?idle⟩
  case reductions =>
    intro e he w v c hn hlegal ha hb hc
    have hred : e ∈ groupInstrs p o f ∧ e.1 < 2 ^ 10 ∧ vKind e.1 = .red := by
      simp only [List.mem_cons, List.not_mem_nil, or_false] at he
      rcases he with rfl | rfl | rfl | rfl <;> simp [groupInstrs, vKind]
    obtain ⟨hmem, hop, hkind⟩ := hred
    obtain ⟨t, ht, hleft⟩ := (Issued.of_fields hd hop hn hlegal rfl rfl).reduction hl hs o hkind (VCap.still_of_scal ha)
      (VCap.still_of_none_or_scal hb) (hc ▸ trivial)
    exact ⟨t, (exec_groupInstrs s e hmem).trans ht, hleft.word, hleft.idle, hleft.arf, hleft.done⟩
  case band =>
    intro w v c j k m l a b hn hw hlegal ha hb hlo hhi
    refine fun hwa hwb => ?_
    subst hwa hwb
    obtain ⟨t, ht, hleft⟩ := (Issued.of_fields hd (by decide) hn hlegal rfl rfl).band hl hs o hw ha hb hlo hhi
    exact ⟨t, ht, hleft.word, hleft.idle, hleft.arf⟩
  case chip =>
    intro w v c j k a d x hn _ hlegal ha hb hwa hw
    subst hwa
    obtain ⟨t, ht, hleft⟩ := (Issued.of_fields hd (by decide) hn hlegal rfl rfl).chip hl hs o hw ha hb
    exact ⟨t, ht, hleft.word, hleft.idle⟩
  case slot =>
    intro w v c d x y hn hlegal ha hidx hlen hb hq hrmw hwait hcheck hlow hhigh hy
    have hslot : SlotReadable s o d.base := ⟨hq, hcheck, by simp [slotWords, hlow, hhigh], hrmw, hwait⟩
    obtain ⟨t, ht, hleft⟩ := (Issued.of_fields hd (by decide) hn hlegal rfl rfl).slot hl hs o ha (VCap.still_of_none_or_scal hb) hidx hlen
      hslot hy
    exact ⟨t, ht, hleft.word, hleft.idle⟩
  case idle =>
    intro e he hn hlegal hports
    have hrun : exec e.2 s = vCommand e.1 p o f s ∧ e.1 < 2 ^ 10 ∧ vKind e.1 ≠ .fence := by
      simp only [List.mem_cons, List.not_mem_nil, or_false] at he
      rcases he with rfl | rfl | rfl <;> simp [vKind] <;> rfl
    obtain ⟨hexec, hop, hkind⟩ := hrun
    obtain ⟨t, ht, hleft⟩ := vCommand_onlyCounted hl hs o hlegal rfl ((viDecode_viWords_n e.1 f).trans (by rw [hn]; rfl))
      (by rw [vIssued, viDecode_viWords_op e.1 f hop]; exact hkind) hports
    exact ⟨t, hexec.trans ht, hleft.idle, hleft.done, hleft.longs, hleft.arf⟩

end Sys2Proof.Machine

/-! SUPPORT. The issue of a cluster operation (R134): its word joins the bundle begun, which issues when it is whole. -/

namespace Sys2Proof.Machine

/-! ### The bundle begun -/

/-- Word `w` makes whole the bundle that cluster `c` has begun: it carries END, it is the eighth, or its UNIT does not ascend. -/
def ClusterSt.MadeWhole (c : ClusterSt) (w : Word) : Prop :=
  opEnd w = true ∨ c.bun.length = 7 ∨ ∃ v, c.bun.getLast? = some v ∧ opUnit w ≤ opUnit v

section Join
variable {s : State} {n : Nat} {w : Word}

theorem clIssue_not_running (hr : runState s n ≠ rsRUNNING) : clIssue n w s = s := if_pos hr

theorem clIssue_whole (hr : runState s n = rsRUNNING) (hw : (cl s n).MadeWhole w) :
    clIssue n w s = clBundle s n ((cl s n).bun ++ [w]) := by
  rw [clIssue, if_neg (not_not.2 hr)]
  refine if_pos ?_
  obtain hend | hlen | ⟨v, hv, hu⟩ := hw
  · exact .inl hend
  · exact .inr (.inl (by simp [hlen]))
  · exact .inr (.inr (by simp [hv, hu]))

theorem clIssue_begun (hr : runState s n = rsRUNNING) (hw : ¬ (cl s n).MadeWhole w) :
    clIssue n w s = modCl s n fun c => { c with bun := (cl s n).bun ++ [w] } := by
  rw [clIssue, if_neg (not_not.2 hr)]
  refine if_neg ?_
  simp only [ClusterSt.MadeWhole, not_or, not_exists, not_and, Nat.not_le] at hw
  obtain ⟨hend, hlen, hasc⟩ := hw
  rintro (h | h | h)
  · exact hend h
  · exact hlen (by simpa using h)
  · split at h
    next v hv => exact absurd (hasc v hv) (of_decide_eq_false h)
    next => cases h

end Join

/-! ### Every operation is the issue of its word -/

/-- A command that gives a live cluster an operation word has the word join its bundle. -/
theorem issues_of_exec {s : State} {n : Nat} {i : Instr} {w : Word} (hl : s.live (iCLU n)) (hn : n < s.cfg.part.clusters)
    (hlen : s.clusters.length = s.cfg.part.clusters) (hi : exec i s = gateCl n s (clIssue n w)) : s.issues n i w := by
  rw [← hlen] at hn
  have hexec : exec i s = .next (keep s (clIssue n w s)) := hi.trans (gateCl_live hl (hlen ▸ hn) _)
  refine ⟨fun hr => ?_, fun hr hw => ?_, fun hr hw => ⟨_, hexec, ?_⟩⟩
  · rw [hexec, clIssue_not_running hr, keep_self]
  · rw [hexec, clIssue_whole hr hw]
  · rw [clIssue_begun hr hw]
    exact ⟨congrArg ClusterSt.bun (cl_modCl_same hn fun c => { c with bun := (cl s n).bun ++ [w] }), rfl⟩

/-- Settles O9: each operation is the issue of its word, which joins its cluster's bundle. -/
theorem clusterOperationsAreIssued : Obligations.ClusterOperationsAreIssued := by
  unfold Obligations.ClusterOperationsAreIssued
  intro s n h b hl hn hlen
  have hissues {i : Instr} {w : Word} (hi : exec i s = gateCl n s (clIssue n w)) : s.issues n i w := issues_of_exec hl hn hlen hi
  refine ⟨fun e he => hissues ?_, fun u => hissues rfl, fun d imm => ⟨hissues rfl, hissues rfl⟩, fun rot c => hissues rfl⟩
  exact List.map_inj_left (f := fun e => exec e.2.2 s) (g := fun e => gateCl n s (clIssue n (opWord22 h e.1 e.2.1 b))).1 rfl e he

end Sys2Proof.Machine

/-! SUPPORT. A bundle of one operation with sequencing or memory accesses, issued by a ready cluster (R134 to R155): what it puts in flight, and
the place and the cycle the cluster goes on at. -/

namespace Sys2Proof.Machine

/-! ### One operation with its accesses -/

/-- Cluster `c` with the effect `o` of a bundle's only operation, of a slot, in flight. -/
def ClusterSt.begun (slot : Nat) (o : ClOut) (c : ClusterSt) : ClusterSt :=
  { c.launched slot o with bun := [], shOld := [], iss := c.cyc, touch := o.touch }

/-- An effect that meets no memory error and touches no DMA-owned sub-bank. -/
structure ClOut.Clean (o : ClOut) (s : State) (n : Nat) : Prop where
  ce : o.ce = []
  ue : ∀ r ∈ o.res, r.ue = false
  own : ∀ t ∈ o.touch, bit (rf s (if t.1 then R.scOWN_Y n else R.scOWN_X n)) t.2 = false

theorem clLaunch_clean {s : State} {n pc slot : Nat} {o : ClOut} (h : o.Clean s n) :
    clLaunch n pc s (slot, o) = modCl s n fun c => { c.launched slot o with touch := c.touch ++ o.touch } := by
  have hown : ¬ (o.touch.any fun t => bit (rf s (if t.1 then R.scOWN_Y n else R.scOWN_X n)) t.2) = true := by
    rw [List.any_eq_true]
    rintro ⟨t, ht, hb⟩
    exact Bool.false_ne_true ((h.own t ht).symm.trans hb)
  have hmap (c : ClusterSt) : o.res.map (fun r => (⟨r.dst, r.val, r.fl, c.cyc + r.lat, c.cyc, slot, if r.ue then some pc else none⟩ : ClFly)) =
      o.res.map (fun r => ⟨r.dst, r.val, r.fl, c.cyc + r.lat, c.cyc, slot, none⟩) :=
    List.map_congr_left fun r hr => by rw [h.ue r hr]; rfl
  simp only [clLaunch, h.ce, clOwnCheck, List.foldl_nil, if_neg hown, hmap]
  rfl

section Issue
variable {s : State} {n : Nat} {w : Word} {o : ClOut} (hr : s.clReady n) (hend : opEnd w = true)
  (hop : clOp (cl s n).ltgt ⟨s, n, (cl s n).cyc, opUnit w, opBody w⟩ = some (true, .ok o))
  (hcond : clCond s n (opCond w) = true) (hclean : o.Clean s n)
  (hloop : loopFault [] (rf s (R.scPC n)) (bundleCtl [(opUnit w, o)]) = none)
include hr hend hop hcond hclean hloop

/-- The cycle of the bundle: the operation's effect is in flight, and the sequencer goes on. -/
theorem clCycle_sequence : clCycle s n [w] =
    clSequence (modCl s n (ClusterSt.begun (opUnit w) o)) n (rf s (R.scPC n)) 1 (bundleCtl [(opUnit w, o)]) := by
  obtain ⟨-, hn, hlen, hrun, hecc, hfly, hst, hlev, hdue, -, -, hdiv⟩ := hr
  rw [← hlen] at hn
  have hdue' : clLoopEnd s n = s := by simp only [clLoopEnd, hdue]
  have hopened := cl_modCl_same hn fun c => { c with bun := [], touch := [] }
  have hland : clLand (modCl s n fun c => { c with bun := [], touch := [] }) n (cl s n).cyc = clAlone s n := by
    rw [clLand_nothing (by simpa using hn) (by rw [hopened]; exact hfly) (by rw [hopened]; exact hst), modCl_modCl hn]
    rfl
  have halone : cl (clAlone s n) n = _ := cl_modCl_same hn _
  have hrun' : runState (clAlone s n) n = rsRUNNING := hrun
  have hecc' : (clAlone s n).ecc = [] := hecc
  have hpc : rf (clAlone s n) (R.scPC n) = rf s (R.scPC n) := rfl
  have hgood (a : Nat) : kvFind ([] : List (Nat × EccErr)) a = none := rfl
  have hshape : ¬((!bundleShape [w]) = true ∨ 2 ^ 16 < rf s (R.scPC n) + [w].length ∨ 8 < [w].length) := by
    have hlt : rf s (R.scPC n) < 2 ^ 16 := rf_lt s (R.scPC n)
    simp [bundleShape, hend]
    omega
  have heff : bundleEff (clAlone s n) n [w] = .inr [(opUnit w, o)] :=
    bundleEff_one (by rw [halone]; exact hop) hcond (by rw [halone]; exact hdiv)
  have hlev' : (cl (clAlone s n) n).levels = [] := by rw [halone]; exact hlev
  have hclean' : o.Clean (modCl (clAlone s n) n fun c => { c with iss := c.cyc }) n := ⟨hclean.ce, hclean.ue, hclean.own⟩
  unfold clCycle
  simp only [hdue', hland, hrun', hpc, if_neg hshape, hecc', hgood, heff, hlev', hloop, clLaunch_clean hclean', ne_eq, not_true_eq_false,
    if_false, reduceCtorEq, decide_false, List.any_eq_true, and_false, exists_false, Bool.false_eq_true, Option.isSome_none,
    List.filter_false, List.foldl_nil, List.foldl_cons]
  rw [clAlone, modCl_modCl hn, modCl_modCl hn]
  rfl

/-- The command of the bundle's word, by where the sequencer goes on; no window access is to be retried. -/
theorem gateCl_clIssue_sequence {t : State}
    (hseq : clSequence (modCl s n (ClusterSt.begun (opUnit w) o)) n (rf s (R.scPC n)) 1 (bundleCtl [(opUnit w, o)]) = t)
    (hlen : t.clusters.length = s.clusters.length) (hretry : (cl t n).retry = (cl s n).retry) :
    gateCl n s (clIssue n w) = .next (keep s t) := by
  have hcycle := (clCycle_sequence hr hend hop hcond hclean hloop).trans hseq
  obtain ⟨hlive, hn, hall, hrun, -, -, -, -, -, hbun, hnone, -⟩ := hr
  have hissue : clIssue n w s = t := by
    have hb : clIssue n w s = clBundle s n [w] := by simp [clIssue, hrun, hbun, hend]
    rw [hb, clBundle, hcycle, winRetry_nothing (by rw [hlen, hall]; exact hn) (hretry.trans hnone)]
  rw [gateCl_live hlive hn, hissue]

end Issue

/-! ### Where the sequencer goes on -/

theorem modCl_wf (s : State) (n : Nat) (f : Field) (v : Nat) (k : ClusterSt → ClusterSt) : modCl (wf s f v) n k = wf (modCl s n k) f v := rfl
theorem runState_wf_same (s : State) (n : Nat) {v : Nat} (hv : v < 8) : runState (wf s (R.scRUN_STATE n) v) n = v :=
  (rf_wf_same s (R.scRUN_STATE n) v (by decide : 8 ≤ 10) (by decide : 10 < 36)).trans (Nat.mod_eq_of_lt hv)

/-- Cluster `c`, `d` cycles on. -/
def ClusterSt.later (d : Nat) (c : ClusterSt) : ClusterSt := { c with cyc := c.cyc + d }
/-- Cluster `c` with the loop levels `ls`, `d` cycles on. -/
def ClusterSt.looping (ls : List ClLoop) (d : Nat) (c : ClusterSt) : ClusterSt := { c with levels := ls, cyc := c.cyc + d }
/-- Cluster `c` one cycle after it has issued a HALT. -/
def ClusterSt.halting (c : ClusterSt) : ClusterSt := { c with levels := [], ending := some .halt, cyc := c.cyc + 1 }

theorem bundleLen_congr {s t : State} (h : ∀ a, rd t a = rd s a) (n : Nat) : ∀ k pc, bundleLen t n pc k = bundleLen s n pc k := by
  intro k
  induction k with
  | zero => intro pc; rfl
  | succ k ih => intro pc; rw [bundleLen, bundleLen, h, ih]

section Sequence
variable {s : State} {n : Nat} (pc len : Nat)

theorem clSequence_loop_zero (fin : Nat) (rot : Bool) : clSequence s n pc len (.loop 0 fin rot) =
    wf (modCl s n (ClusterSt.later 4)) (R.scPC n) ((fin + bundleLen s n fin 8) % 2 ^ 16) := rfl

variable (hn : n < s.clusters.length)
include hn

/-- Outside loops a branch closes no level. -/
theorem clSequence_br (h : (cl s n).levels = []) (t : Nat) : clSequence s n pc len (.br t) =
    wf (modCl s n (ClusterSt.later 4)) (R.scPC n) t := by
  simp only [clSequence, modCl_modCl hn]
  rw [modCl_congr (k' := ClusterSt.later 4) (by simp [ClusterSt.later, h, branchLevels])]

theorem clSequence_loop {count : Nat} (hc : 0 < count) (fin : Nat) (rot : Bool) : clSequence s n pc len (.loop count fin rot) =
    wf (modCl s n (ClusterSt.looping (⟨count, (pc + len) % 2 ^ 16, fin, rot⟩ :: (cl s n).levels) 1)) (R.scPC n) ((pc + len) % 2 ^ 16) := by
  obtain ⟨k, rfl⟩ : ∃ k, count = k + 1 := ⟨count - 1, by omega⟩
  simp only [clSequence, modCl_modCl hn]
  rfl

theorem clSequence_halt : clSequence s n pc len .halt =
    wf (wf (modCl s n (ClusterSt.halting)) (R.scPC n) ((pc + len) % 2 ^ 16)) (R.scRUN_STATE n) rsFINISHING := by
  simp only [clSequence, modCl_wf, modCl_modCl hn]
  rfl

end Sequence

/-! ### An operation with 22 operand bits -/

/-- What an operation of slot `u` of cluster `n` sees of its own word. -/
def clIn (s : State) (n u : Nat) (b : BitVec 22) : ClIn := ⟨s, n, (cl s n).cyc, u, b.toNat⟩

section Operation
variable {s : State} {n u opc : Nat} {h : OpHead} {b : BitVec 22} {o : ClOut} (hr : s.clReady n) (hl : h.last = true)
  (hc : clCond s n h.cond.toNat = true) (hu : u < 8) (ho : opc < 64)
  (hop : clOp (cl s n).ltgt ((clIn s n u b).withOpc opc) = some (true, .ok o)) (hclean : o.Clean s n)
  (hloop : loopFault [] (rf s (R.scPC n)) (bundleCtl [(u, o)]) = none)
include hr hl hc hu ho hop hclean hloop

/-- A ready cluster issues the operation alone. -/
theorem gateCl_clIssue_opWord22 {t : State}
    (hseq : clSequence (modCl s n (ClusterSt.begun u o)) n (rf s (R.scPC n)) 1 (bundleCtl [(u, o)]) = t)
    (hlen : t.clusters.length = s.clusters.length) (hretry : (cl t n).retry = (cl s n).retry) :
    gateCl n s (clIssue n (opWord22 h u opc b)) = .next (keep s t) := by
  have hb := b.isLt
  have hunit : opUnit (opWord22 h u opc b) = u := opUnit_opWord h hu
  have hbody : opBody (opWord22 h u opc b) = opc * 2 ^ 22 + b.toNat := opBody_opWord h (by omega)
  have hcond : opCond (opWord22 h u opc b) = h.cond.toNat := opCond_opWord h
  exact gateCl_clIssue_sequence (w := opWord22 h u opc b) (o := o) hr ((opEnd_opWord h).trans hl) (by rw [hunit, hbody]; exact hop)
    (by rw [hcond]; exact hc) hclean (by rw [hunit]; exact hloop) (by rw [hunit]; exact hseq) hlen hretry

/-- The issue where the sequencer changes the cluster's own state by `g` and goes on at `pc`. -/
theorem gateCl_clIssue_goes {g : ClusterSt → ClusterSt} {pc : Nat}
    (hseq : clSequence (modCl s n (ClusterSt.begun u o)) n (rf s (R.scPC n)) 1 (bundleCtl [(u, o)]) =
      wf (modCl (modCl s n (ClusterSt.begun u o)) n g) (R.scPC n) pc) (hg : (g ((cl s n).begun u o)).retry = (cl s n).retry) :
    ∃ t, gateCl n s (clIssue n (opWord22 h u opc b)) = .next t ∧ cl t n = g ((cl s n).begun u o) ∧ rf t (R.scPC n) = pc % 2 ^ 16 ∧
      runState t n = rsRUNNING ∧ ∀ a, a ≠ (R.scPC n).addr → rd t a = rd s a := by
  obtain ⟨-, hn, hlen, hrun, -⟩ := id hr
  rw [← hlen] at hn
  rw [modCl_modCl hn] at hseq
  have hcl : cl (wf (modCl s n (g ∘ ClusterSt.begun u o)) (R.scPC n) pc) n = g ((cl s n).begun u o) := cl_modCl_same hn _
  refine ⟨_, gateCl_clIssue_opWord22 hr hl hc hu ho hop hclean hloop hseq (by simp) (by rw [hcl, hg]), hcl, ?_, ?_,
    fun a ha => rd_wf_ne _ _ _ ha⟩
  · exact rf_wf_same _ (R.scPC n) _ (Nat.zero_le _) (by decide : 15 < 36)
  · exact (rf_wf_ne _ _ _ _ (by simp [R.scRUN_STATE, R.scPC])).trans hrun

/-- Nothing else being in flight, an operation after which the next word is next has its own results and stores there. -/
theorem gateCl_clIssue_oneOp {g : ClusterSt → ClusterSt}
    (hseq : clSequence (modCl s n (ClusterSt.begun u o)) n (rf s (R.scPC n)) 1 (bundleCtl [(u, o)]) =
      wf (modCl (modCl s n (ClusterSt.begun u o)) n g) (R.scPC n) ((rf s (R.scPC n) + 1) % 2 ^ 16))
    (hg : ∃ ls, g ((cl s n).begun u o) = ClusterSt.looping ls 1 ((cl s n).begun u o)) :
    ∃ t, gateCl n s (clIssue n (opWord22 h u opc b)) = .next t ∧
      s.oneOp t n (o.res.map fun r => ⟨r.dst, r.val, r.fl, (cl s n).cyc + r.lat, (cl s n).cyc, u, none⟩)
        (o.st.map fun q => ⟨q.1, q.2, (cl s n).cyc + 3⟩) ∧ cl t n = g ((cl s n).begun u o) := by
  obtain ⟨ls, hls⟩ := hg
  obtain ⟨t, ht, hcl, hpc, hrun, hmem⟩ := gateCl_clIssue_goes hr hl hc hu ho hop hclean hloop hseq (by rw [hls]; rfl)
  obtain ⟨-, -, -, -, -, hfly, hst, -⟩ := hr
  have hcl' := hcl.trans hls
  refine ⟨t, ht, ⟨?_, ?_, by rw [hcl']; rfl, hpc.trans (Nat.mod_mod _ _), hrun, hmem⟩, hcl⟩
  · rw [hcl']; simp [ClusterSt.looping, ClusterSt.begun, ClusterSt.launched, hfly]
  · rw [hcl']; simp [ClusterSt.looping, ClusterSt.begun, ClusterSt.launched, hst]

end Operation

/-- An operation that asks nothing of the sequencer, alone in its bundle. -/
theorem gateCl_clIssue_inLine {s : State} {n u opc : Nat} {h : OpHead} {b : BitVec 22} {o : ClOut} (hr : s.clReady n) (hl : h.last = true)
    (hc : clCond s n h.cond.toNat = true) (hu : u < 8) (ho : opc < 64)
    (hop : clOp (cl s n).ltgt ((clIn s n u b).withOpc opc) = some (true, .ok o)) (hclean : o.Clean s n) (hctl : o.ctl = .none) :
    ∃ t, gateCl n s (clIssue n (opWord22 h u opc b)) = .next t ∧
      s.oneOp t n (o.res.map fun r => ⟨r.dst, r.val, r.fl, (cl s n).cyc + r.lat, (cl s n).cyc, u, none⟩)
        (o.st.map fun q => ⟨q.1, q.2, (cl s n).cyc + 3⟩) := by
  have hnone : bundleCtl [(u, o)] = .none := bundleCtl_one hctl
  obtain ⟨-, hn, hlen, -, -, -, -, hlev, -⟩ := id hr
  rw [← hlen] at hn
  have hlev' : (cl (modCl s n (ClusterSt.begun u o)) n).levels = [] := (congrArg ClusterSt.levels (cl_modCl_same hn _)).trans hlev
  obtain ⟨t, ht, hone, -⟩ := gateCl_clIssue_oneOp hr hl hc hu ho hop hclean (by rw [hnone]; rfl)
    (by rw [hnone]; exact clSequence_none hlev') ⟨_, rfl⟩
  exact ⟨t, ht, hone⟩

end Sys2Proof.Machine

/-! SUPPORT. The memory units of a signal cluster (Table COP-4): their operation codes, their accesses, and what they put in flight. -/

namespace Sys2Proof.Machine

/-! ### The operands under an operation code -/

section WithOpc
variable (x : ClIn) (opc : Nat)

@[simp] theorem ClIn.isY_withOpc : (x.withOpc opc).isY = x.isY := (rfl)
@[simp] theorem ClIn.ptr_withOpc : (x.withOpc opc).ptr = x.ptr := x.f_withOpc opc (by decide) (by decide)
@[simp] theorem ClIn.dreg_withOpc : (x.withOpc opc).dreg = x.dreg := x.f_withOpc opc (by decide) (by decide)
@[simp] theorem ClIn.ea_withOpc : (x.withOpc opc).ea = x.ea := by simp [ClIn.ea]
@[simp] theorem ClIn.modi_withOpc : (x.withOpc opc).modi = x.modi := by simp [ClIn.modi, x.f_withOpc, x.opt_withOpc]
@[simp] theorem ClIn.ptrRes_withOpc : (x.withOpc opc).ptrRes = x.ptrRes := by simp [ClIn.ptrRes, x.f_withOpc]
@[simp] theorem ClIn.memF_withOpc (ok : Bool) : memF (x.withOpc opc) ok = memF x ok := by simp [memF, x.f_withOpc, x.opt_withOpc]
@[simp] theorem ClIn.access_withOpc (w : Nat) (k : ClOut → ClEff) : (x.withOpc opc).access w k = x.access w k := by simp [ClIn.access]
@[simp] theorem ClIn.ldWord_withOpc (i reg : Nat) (g : Nat → Nat) : (x.withOpc opc).ldWord i reg g = x.ldWord i reg g := by
  simp [ClIn.ldWord]
@[simp] theorem ClIn.load_withOpc (g : Nat → Nat) : (x.withOpc opc).load g = x.load g := by simp [ClIn.load]
@[simp] theorem ClIn.store_withOpc (ok : Bool) (puts : List ClPut) : (x.withOpc opc).store ok puts = x.store ok puts := by
  simp [ClIn.store]

end WithOpc

/-! ### Operation codes (Table COP-4) -/

/-- The operations of the memory units with their codes. -/
def memoryOps : List (Nat × (ClIn → Bool × ClEff)) :=
  [(0x01, clLd), (0x02, clLdh0), (0x03, clLdh1), (0x04, clLdd), (0x08, clSt), (0x09, clSth0), (0x0A, clSth1), (0x0B, clStd), (0x10, clModp)]

theorem memoryOps_opc_lt : ∀ e ∈ memoryOps, e.1 < 64 := by simp [memoryOps]

theorem clOp_memory : ∀ e ∈ memoryOps, ∀ (l : Nat) (x : ClIn), x.slot = 4 ∨ x.slot = 5 → x.f 27 22 = e.1 → clOp l x = some (e.2 x) := by
  simp only [memoryOps, List.forall_mem_cons]
  refine ⟨?_, ?_, ?_, ?_, ?_, ?_, ?_, ?_, ?_, List.forall_mem_nil _⟩ <;>
    (intro l x hs ho; unfold clOp; rw [ho]; obtain hs | hs := hs <;> rw [hs] <;> rfl)

/-- No operation of the units depends on BODY beyond its 22 operand bits. -/
theorem memory_withOpc : ∀ e ∈ memoryOps, ∀ (x : ClIn) (opc : Nat), e.2 (x.withOpc opc) = e.2 x := by
  simp only [memoryOps, List.forall_mem_cons]
  refine ⟨?_, ?_, ?_, ?_, ?_, ?_, ?_, ?_, ?_, List.forall_mem_nil _⟩ <;>
    (intro x opc; simp [clLd, clLdh0, clLdh1, clLdd, clSt, clSth0, clSth1, clStd, clModp])

theorem slotXY_cases (h : OpHead) : slotXY h = 4 ∨ slotXY h = 5 := by
  cases ha : h.alt <;> simp [slotXY, ha]

/-! ### Accesses (R144, R173) -/

section Access
variable {x : ClIn}

theorem ClIn.access_ok {w : Nat} (k : ClOut → ClEff) (h : (localRange x.isY x.ea).isSome = true)
    (hw : localRange x.isY (x.ea + (w - 1)) = localRange x.isY x.ea) :
    x.access w k = k { res := [x.ptrRes], touch := subBanks x.isY x.ea w } := if_pos ⟨h, hw⟩

/-- With no word in error a load takes the word that memory holds. -/
theorem ClIn.ldWord_good (he : x.s.ecc = []) (i reg : Nat) (g : Nat → Nat) :
    x.ldWord i reg g = (⟨.d (x.phys reg), g (rdN x.s (clPhys x.n x.isY (x.ea + i))), 0#7, 4, false⟩, []) := by
  rw [ldWord, he]
  rfl

theorem ClIn.load_ok (hm : memF x true = true) (h : (localRange x.isY x.ea).isSome = true) (he : x.s.ecc = []) (g : Nat → Nat) :
    x.load g = (true, .ok { res := [⟨.d (x.phys x.dreg), g (rdN x.s (clPhys x.n x.isY x.ea)), 0#7, 4, false⟩, x.ptrRes]
                            touch := subBanks x.isY x.ea 1 }) := by
  rw [load, hm, access_ok _ h rfl, ldWord_good he]
  rfl

theorem ClIn.store_ok {ok : Bool} (hm : memF x ok = true) {puts : List ClPut} (h : (localRange x.isY x.ea).isSome = true)
    (hw : localRange x.isY (x.ea + (puts.length - 1)) = localRange x.isY x.ea) :
    x.store ok puts = (true, .ok { res := [x.ptrRes], touch := subBanks x.isY x.ea puts.length
                                   st := (List.range puts.length).zip puts |>.map fun e => (clPhys x.n x.isY (x.ea + e.1), e.2) }) := by
  rw [store, hm, access_ok _ h hw]

theorem memF_of_legal {x : ClIn} (hm : memF x true = true) {ok : Bool} (h : ok = true) : memF x ok = true := h ▸ hm

theorem clLdd_ok (hm : memF x true = true) (hd : x.dreg % 2 = 0) (h : (localRange x.isY x.ea).isSome = true)
    (hw : localRange x.isY (x.ea + 1) = localRange x.isY x.ea) (he : x.s.ecc = []) :
    clLdd x = (true, .ok { res := [⟨.d (x.phys x.dreg), rdN x.s (clPhys x.n x.isY x.ea), 0#7, 4, false⟩,
                             ⟨.d (x.phys (x.dreg + 1)), rdN x.s (clPhys x.n x.isY (x.ea + 1)), 0#7, 4, false⟩, x.ptrRes]
                           touch := subBanks x.isY x.ea 2 }) := by
  rw [clLdd, memF_of_legal hm (show evenR x.dreg = true from beq_iff_eq.2 hd), ClIn.access_ok _ h hw, ClIn.ldWord_good he, ClIn.ldWord_good he]
  rfl

end Access

/-! ### In flight -/

/-- The result `r` of a memory operation of cluster `n`, in flight from this cycle. -/
def memoryFly (s : State) (n : Nat) (h : OpHead) (r : ClRes) : ClFly :=
  ⟨r.dst, r.val, r.fl, (cl s n).cyc + r.lat, (cl s n).cyc, slotXY h, none⟩

section Memory
variable {s : State} {n : Nat} {h : OpHead} {b : BitVec 22} (hr : s.clReady n) (hl : h.last = true)
  (hc : clCond s n h.cond.toNat = true) (hX : rf s (R.scOWN_X n) = 0) (hY : rf s (R.scOWN_Y n) = 0)
  {opc : Nat} {k : ClIn → Bool × ClEff} (hk : (opc, k) ∈ memoryOps)
include hr hl hc hX hY hk

/-- An operation of a memory unit, alone in its bundle, by its effect. -/
theorem memory_next {res : List ClRes} {st : List (Nat × ClPut)} {touch : List (Bool × Nat)}
    (ho : k (clIn s n (slotXY h) b) = (true, .ok { res := res, st := st, touch := touch })) (hue : ∀ r ∈ res, r.ue = false) :
    ∃ t, gateCl n s (clIssue n (opWord22 h (slotXY h) opc b)) = .next t ∧
      s.oneOp t n (res.map (memoryFly s n h)) (st.map fun q => ⟨q.1, q.2, (cl s n).cyc + 3⟩) := by
  have hslot : slotXY h < 8 := by have := slotXY_cases h; omega
  have hopc : opc < 64 := memoryOps_opc_lt _ hk
  have hop : clOp (cl s n).ltgt ((clIn s n (slotXY h) b).withOpc opc) = some (true, .ok { res := res, st := st, touch := touch }) := by
    rw [clOp_memory _ hk _ _ (slotXY_cases h) (ClIn.opc_withOpc b.isLt hopc), memory_withOpc _ hk,
      show (opc, k).2 (clIn s n (slotXY h) b) = _ from ho]
  have hown (t : Bool × Nat) : bit (rf s (if t.1 then R.scOWN_Y n else R.scOWN_X n)) t.2 = false := by
    have hzero : rf s (if t.1 then R.scOWN_Y n else R.scOWN_X n) = 0 := by
      cases t.1
      · exact hX
      · exact hY
    rw [hzero, bit, Nat.zero_div]
    rfl
  exact gateCl_clIssue_inLine hr hl hc hslot hopc hop ⟨rfl, hue, fun t _ => hown t⟩ rfl

end Memory

/-- Settles O14: each operation's code, legality, access and effect give what it puts in flight. -/
theorem clusterMemoryUnits : Obligations.ClusterMemoryUnits := by
  unfold Obligations.ClusterMemoryUnits
  intro s n h b hr hl hc hX hY x c ptr load a hm
  obtain ⟨-, -, -, -, he, -⟩ := id hr
  have next {opc : Nat} {k : ClIn → Bool × ClEff} (hk : (opc, k) ∈ memoryOps) {res : List ClRes} {st : List (Nat × ClPut)}
      {touch : List (Bool × Nat)} (ho : k x = (true, .ok { res := res, st := st, touch := touch })) (hue : ∀ r ∈ res, r.ue = false) :=
    memory_next (b := b) hr hl hc hX hY hk ho hue
  refine ⟨fun hrange => ⟨?_, ?_, ?_, ?_, ?_, ?_⟩, fun hd hrange hsame => ⟨?_, ?_⟩, fun hd => ?_⟩
  · exact next (k := clLd) (by simp [memoryOps]) (ClIn.load_ok hm hrange he id) (by simp [ClIn.ptrRes])
  · exact next (k := clLdh0) (by simp [memoryOps]) (ClIn.load_ok hm hrange he _) (by simp [ClIn.ptrRes])
  · exact next (k := clLdh1) (by simp [memoryOps]) (ClIn.load_ok hm hrange he _) (by simp [ClIn.ptrRes])
  · exact next (k := clSt) (by simp [memoryOps]) (ClIn.store_ok hm hrange rfl) (by simp [ClIn.ptrRes])
  · exact next (k := clSth0) (by simp [memoryOps]) (ClIn.store_ok hm hrange rfl) (by simp [ClIn.ptrRes])
  · exact next (k := clSth1) (by simp [memoryOps]) (ClIn.store_ok hm hrange rfl) (by simp [ClIn.ptrRes])
  · exact next (k := clLdd) (by simp [memoryOps]) (clLdd_ok hm hd hrange hsame he) (by simp [ClIn.ptrRes])
  · exact next (k := clStd) (by simp [memoryOps]) (ClIn.store_ok (memF_of_legal hm (beq_iff_eq.2 hd)) hrange hsame) (by simp [ClIn.ptrRes])
  · exact next (k := clModp) (by simp [memoryOps]) (Prod.ext (memF_of_legal hm (decide_eq_true hd)) rfl) (by simp [ClIn.ptrRes])

end Sys2Proof.Machine

/-! SUPPORT. The branch unit of a signal cluster (Table COP-5): its operation codes, and where its operations make the cluster go on. -/

namespace Sys2Proof.Machine

/-! ### Operation codes (Table COP-5) -/

/-- The operations of the branch unit with one code each. -/
def branchOps : List (Nat × (ClIn → Bool × ClEff)) := [(0x01, clBr), (0x02, clBrr), (0x03, clHalt), (0x04, clLend)]

theorem branchOps_opc_lt : ∀ e ∈ branchOps, e.1 < 64 := by simp [branchOps]

theorem clOp_branch : ∀ e ∈ branchOps, ∀ (l : Nat) (x : ClIn), x.slot = 6 → x.f 27 22 = e.1 → clOp l x = some (e.2 x) := by
  simp only [branchOps, List.forall_mem_cons]
  refine ⟨?_, ?_, ?_, ?_, List.forall_mem_nil _⟩ <;> (intro l x hs ho; unfold clOp; rw [ho, hs]; rfl)

/-- None of them depends on BODY beyond its 22 operand bits. -/
theorem branch_withOpc : ∀ e ∈ branchOps, ∀ (x : ClIn) (opc : Nat), e.2 (x.withOpc opc) = e.2 x := by
  simp only [branchOps, List.forall_mem_cons]
  refine ⟨?_, ?_, ?_, ?_, List.forall_mem_nil _⟩ <;> (intro x opc; simp [clBr, clBrr, clHalt, clLend, ClIn.f_withOpc])

theorem clOp_branch_withOpc {x : ClIn} (hs : x.slot = 6) (hb : x.body < 2 ^ 22) {opc : Nat} {k : ClIn → Bool × ClEff}
    (hk : (opc, k) ∈ branchOps) (l : Nat) : clOp l (x.withOpc opc) = some (k x) := by
  rw [clOp_branch _ hk l (x.withOpc opc) hs (ClIn.opc_withOpc hb (branchOps_opc_lt _ hk)), branch_withOpc _ hk]

/-- LOOPR has two codes: 6 with ROT in the low bit (R149). -/
theorem clOp_loopr (l : Nat) {x : ClIn} (rot : Bool) (hs : x.slot = 6) (ho : x.f 27 22 = 6 + b2n rot) : clOp l x = some (clLoopr x) := by
  unfold clOp
  rw [ho, hs]
  cases rot <;> rfl

theorem opt_rot_withOpc {x : ClIn} (rot : Bool) (hb : x.body < 2 ^ 22) : (x.withOpc (6 + b2n rot)).opt 22 = rot := by
  cases rot
  · refine beq_eq_false_iff_ne.2 ?_
    simp only [ClIn.withOpc, b2n, Bool.false_eq_true, if_false]
    omega
  · refine beq_iff_eq.2 ?_
    simp only [ClIn.withOpc, b2n, if_true]
    omega

theorem clOp_loopr_withOpc {x : ClIn} (hs : x.slot = 6) (hb : x.body < 2 ^ 22) (rot : Bool) (hc : x.d (x.f 21 16) % 2 ^ 25 ≤ 2 ^ 24)
    (l : Nat) : clOp l (x.withOpc (6 + b2n rot)) = some (true, .ok { ctl := .loop (x.d (x.f 21 16) % 2 ^ 25) (x.f 15 0) rot }) := by
  have hopc : 6 + b2n rot < 64 := by cases rot <;> decide
  rw [clOp_loopr l (x := x.withOpc (6 + b2n rot)) rot hs (ClIn.opc_withOpc hb hopc), clLoopr, opt_rot_withOpc rot hb, ClIn.d_withOpc,
    ClIn.f_withOpc x _ (by decide : 21 ≤ 21) (by decide : 16 ≤ 21), ClIn.f_withOpc x _ (by decide : 15 ≤ 21) (by decide : 0 ≤ 15)]
  exact congrArg some (Prod.ext rfl (if_neg (Nat.not_lt.2 hc)))

/-! ### Where the cluster goes on -/

theorem clean_of_ctl (k : ClCtl) (s : State) (n : Nat) : ({ ctl := k } : ClOut).Clean s n := ⟨rfl, by simp, by simp⟩

/-- Outside loops a LOOP whose end lies ahead does not fault (R149). -/
theorem loopFault_ahead {pc fin : Nat} (h : pc < fin) (count : Nat) (rot : Bool) : loopFault [] pc (.loop count fin rot) = none := by
  simp [loopFault, Nat.not_le.2 h]

section Branch
variable {s : State} {n : Nat} {h : OpHead} {b : BitVec 22} (hr : s.clReady n) (hl : h.last = true)
  (hc : clCond s n h.cond.toNat = true)
include hr hl hc

/-- A branch continues at its target four cycles on (R151). -/
theorem branch_taken {opc pc : Nat} {k : ClIn → Bool × ClEff} (hk : (opc, k) ∈ branchOps)
    (ho : k (clIn s n 6 b) = (true, .ok { ctl := .br pc })) :
    ∃ t, gateCl n s (clIssue n (opWord22 h 6 opc b)) = .next t ∧ rf t (R.scPC n) = pc % 2 ^ 16 ∧ (cl t n).cyc = (cl s n).cyc + 4 ∧
      (cl t n).fly = [] ∧ ∀ a, a ≠ (R.scPC n).addr → rd t a = rd s a := by
  obtain ⟨-, hn, hlen, -, -, hfly, -, hlev, -⟩ := id hr
  rw [← hlen] at hn
  have hlev' : (cl (modCl s n (ClusterSt.begun 6 { ctl := .br pc })) n).levels = [] :=
    (congrArg ClusterSt.levels (cl_modCl_same hn _)).trans hlev
  obtain ⟨t, ht, hcl, hpc, -, hmem⟩ := gateCl_clIssue_goes (g := ClusterSt.later 4) hr hl hc (by decide) (branchOps_opc_lt _ hk)
    ((clOp_branch_withOpc rfl b.isLt hk _).trans (congrArg some ho)) (clean_of_ctl _ s n) rfl
    (clSequence_br _ _ (by simpa using hn) hlev' pc) rfl
  exact ⟨t, ht, hpc, by rw [hcl]; rfl, by rw [hcl]; simp [ClusterSt.later, ClusterSt.begun, ClusterSt.launched, hfly], hmem⟩

/-- LEND puts LTGT in flight (R174). -/
theorem lend_next (hb : (clIn s n 6 b).f 21 16 = 0) : ∃ t, gateCl n s (clIssue n (opWord22 h 6 0x4 b)) = .next t ∧
    s.oneOp t n [⟨.ltgt, (clIn s n 6 b).f 15 0, 0#7, (cl s n).cyc + 1, (cl s n).cyc, 6, none⟩] [] := by
  have ho : clLend (clIn s n 6 b) = (true, .one .ltgt (noFl ((clIn s n 6 b).f 15 0)) 1) := Prod.ext (decide_eq_true hb) rfl
  exact gateCl_clIssue_inLine hr hl hc (by decide) (by decide)
    ((clOp_branch_withOpc rfl b.isLt (k := clLend) (by simp [branchOps]) _).trans (congrArg some ho)) ⟨rfl, by simp, by simp⟩ rfl

/-- HALT ends issue (R153). -/
theorem halt_finishing : ∃ t, gateCl n s (clIssue n (opWord22 h 6 0x3 0#22)) = .next t ∧ runState t n = rsFINISHING ∧
    (cl t n).ending = some .halt ∧ (cl t n).cyc = (cl s n).cyc + 1 := by
  obtain ⟨-, hn, hlen, -⟩ := id hr
  rw [← hlen] at hn
  have hseq := clSequence_halt (s := modCl s n (ClusterSt.begun 6 { ctl := .halt })) (rf s (R.scPC n)) 1 (by simpa using hn)
  rw [modCl_modCl hn] at hseq
  have hcl := cl_modCl_same hn (ClusterSt.halting ∘ ClusterSt.begun 6 { ctl := .halt })
  have ho : clHalt (clIn s n 6 0#22) = (true, .ok { ctl := .halt }) :=
    Prod.ext (decide_eq_true (by simp [ClIn.f, clIn, bits])) rfl
  refine ⟨_, gateCl_clIssue_opWord22 hr hl hc (by decide) (by decide)
    ((clOp_branch_withOpc rfl (0#22).isLt (opc := 0x3) (by simp [branchOps]) _).trans (congrArg some ho)) (clean_of_ctl .halt s n) rfl hseq
    (by simp) ((congrArg ClusterSt.retry hcl).trans rfl), ?_, congrArg ClusterSt.ending hcl, congrArg ClusterSt.cyc hcl⟩
  exact (rf_keep (by rfl) _).trans (runState_wf_same _ n (by decide : rsFINISHING < 8))

section Loop
variable (rot : Bool) (hpc : rf s (R.scPC n) < (clIn s n 6 b).f 15 0)
include hpc

/-- LOOPR opens a level of the register's count (R149). -/
theorem loopr_opens (hpos : 0 < (clIn s n 6 b).d ((clIn s n 6 b).f 21 16) % 2 ^ 25)
    (hle : (clIn s n 6 b).d ((clIn s n 6 b).f 21 16) % 2 ^ 25 ≤ 2 ^ 24) :
    ∃ t, gateCl n s (clIssue n (opWord22 h 6 (6 + b2n rot) b)) = .next t ∧ s.oneOp t n [] [] ∧ (cl t n).levels =
      [⟨(clIn s n 6 b).d ((clIn s n 6 b).f 21 16) % 2 ^ 25, (rf s (R.scPC n) + 1) % 2 ^ 16, (clIn s n 6 b).f 15 0, rot⟩] := by
  obtain ⟨-, hn, hlen, -, -, -, -, hlev, -⟩ := id hr
  rw [← hlen] at hn
  have hlev' (o : ClOut) : (cl (modCl s n (ClusterSt.begun 6 o)) n).levels = [] :=
    (congrArg ClusterSt.levels (cl_modCl_same hn _)).trans hlev
  obtain ⟨t, ht, hone, hcl⟩ := gateCl_clIssue_oneOp hr hl hc (by decide) (by cases rot <;> decide)
    (clOp_loopr_withOpc rfl b.isLt rot hle _) (clean_of_ctl _ s n) (loopFault_ahead hpc _ _)
    (clSequence_loop _ 1 (by simpa using hn) hpos _ _) ⟨_, rfl⟩
  refine ⟨t, ht, hone, ?_⟩
  rw [hcl, hlev']
  rfl

/-- A count of 0 continues after the end bundle (R149). -/
theorem loopr_skips (hzero : (clIn s n 6 b).d ((clIn s n 6 b).f 21 16) % 2 ^ 25 = 0) :
    ∃ t, gateCl n s (clIssue n (opWord22 h 6 (6 + b2n rot) b)) = .next t ∧ (cl t n).levels = [] ∧ (cl t n).cyc = (cl s n).cyc + 4 ∧
      rf t (R.scPC n) = ((clIn s n 6 b).f 15 0 + bundleLen s n ((clIn s n 6 b).f 15 0) 8) % 2 ^ 16 := by
  obtain ⟨-, -, -, -, -, -, -, hlev, -⟩ := id hr
  have hop := clOp_loopr_withOpc (x := clIn s n 6 b) rfl b.isLt rot (by omega) (cl s n).ltgt
  rw [hzero] at hop
  obtain ⟨t, ht, hcl, hgo, -⟩ := gateCl_clIssue_goes hr hl hc (by decide) (by cases rot <;> decide) hop (clean_of_ctl _ s n)
    (loopFault_ahead hpc _ _) (clSequence_loop_zero _ 1 _ _) rfl
  refine ⟨t, ht, by rw [hcl]; exact hlev, by rw [hcl]; rfl, ?_⟩
  rw [hgo, bundleLen_congr (s := s) (t := modCl s n _) fun _ => rfl, Nat.mod_mod]

end Loop

end Branch

theorem ClIn.f_mod_two_pow (x : ClIn) (hi lo : Nat) : x.f hi lo % 2 ^ (hi + 1 - lo) = x.f hi lo := Nat.mod_mod _ _

/-- Settles O15: each operation's code and effect give where the sequencer goes on. -/
theorem clusterBranchUnit : Obligations.ClusterBranchUnit := by
  unfold Obligations.ClusterBranchUnit
  intro s n h b hr hl hc x
  refine ⟨fun hd => ⟨?_, lend_next hr hl hc hd⟩, fun hd hf => ?_, fun hb => ?_, fun rot => ?_⟩
  · obtain ⟨t, ht, hpc, hcyc, hfly, hmem⟩ :=
      branch_taken hr hl hc (opc := 0x1) (k := clBr) (pc := x.f 15 0) (by simp [branchOps]) (Prod.ext (decide_eq_true hd) rfl)
    exact ⟨t, ht, hpc.trans (x.f_mod_two_pow 15 0), hcyc, hfly, hmem⟩
  · have hlegal : (decide (x.dst = 0) && decide (x.f 9 0 = 0)) = true := by rw [decide_eq_true hd, decide_eq_true hf]; rfl
    obtain ⟨t, ht, hpc, hcyc, hfly, -⟩ :=
      branch_taken hr hl hc (opc := 0x2) (k := clBrr) (pc := x.a % 2 ^ 16) (by simp [branchOps]) (Prod.ext hlegal rfl)
    exact ⟨t, ht, hpc.trans (Nat.mod_mod _ _), hcyc, hfly⟩
  · subst hb
    exact halt_finishing hr hl hc
  · intro c hpc
    exact ⟨fun hpos hle => loopr_opens hr hl hc rot hpc hpos hle, fun hzero => loopr_skips hr hl hc rot hpc hzero⟩

end Sys2Proof.Machine

/-! SUPPORT. Runs of a signal cluster: fields of its registers that share no bit, starting, stopping and acknowledging a fault (R152, R154, R156). -/

namespace Sys2Proof.Machine

/-! ### Fields that share no bit -/

/-- Field `g` shares no bit with field `f`, which lies within a word. -/
abbrev Field.Apart (f g : Field) : Prop := g.addr ≠ f.addr ∨ f.lo ≤ f.hi ∧ f.hi < 36 ∧ g.lo ≤ g.hi ∧ (f.hi < g.lo ∨ g.hi < f.lo)

section Apart
variable {f g : Field} (h : f.Apart g) (s : State)
include h

theorem rf_wf_apart (v : Nat) : rf (wf s f v) g = rf s g := by
  obtain hne | ⟨hf, hh, hg, hd⟩ := h
  · exact rf_wf_ne s f g v hne
  · by_cases ha : g.addr = f.addr
    · exact rf_wf_ne_bits s f g v ha hf hh hg hd
    · exact rf_wf_ne s f g v ha
theorem rf_wb_apart (b : Bool) : rf (wb s f b) g = rf s g := rf_wf_apart h s _
theorem rf_cnt_apart : rf (cnt s f) g = rf s g := rf_wf_apart h s _
theorem rf_stick_apart (v : Nat) : rf (stick s f v) g = rf s g := rf_wf_apart h s _

end Apart

theorem rf_wf_power_same (s : State) (n : Nat) {v : Nat} (hv : v < 4) : rf (wf s (R.scPOWER n) v) (R.scPOWER n) = v :=
  (rf_wf_same s (R.scPOWER n) v (by decide : 4 ≤ 5) (by decide : 5 < 36)).trans (Nat.mod_eq_of_lt hv)

theorem modCl_cfg (s : State) (n : Nat) (k : ClusterSt → ClusterSt) : (modCl s n k).cfg = s.cfg := rfl
theorem modCl_pending (s : State) (n : Nat) (k : ClusterSt → ClusterSt) : (modCl s n k).pending = s.pending := rfl

/-- An effect that leaves the module and its queue as they are is the answer. -/
theorem eq_next_of_keep {r : Host.Outcome State Fault Refusal} {s t : State} (h : r = .next (keep s t)) (hcfg : t.cfg = s.cfg)
    (hp : t.pending = s.pending) : r = .next t := by rw [h, keep_eq hcfg hp]

/-! ### Starting and stopping (R152, R154, R156) -/

/-- The registers of cluster `n` as a start at `entry` writes them. -/
def startRegs (s : State) (n entry : Nat) : State :=
  wf (wf (cnt (wf (wf (wf (wb (wf s (R.scFAULT_CAUSE n) 0) (R.scFAULT_IMPRECISE n) false) (R.scFAULT_PC n) 0) (R.scPC n) entry)
    (R.scCPOS n) 0) (R.scSTART_CNT n)) (R.scRUN_STATE n) rsRUNNING) (R.scPOWER n) pwACTIVE
/-- Cluster `c` as a start leaves it, two cycles on. -/
def ClusterSt.started (c : ClusterSt) : ClusterSt :=
  { c with cyc := c.cyc + 2, run0 := c.cyc + 2, levels := [], ltgt := 0, bun := [], due := none, ending := none, touch := [],
           shOld := [], startWait := none }

theorem clBegin_eq (s : State) (n entry : Nat) : clBegin s n entry = modCl (startRegs s n entry) n ClusterSt.started := rfl
theorem startRegs_clusters (s : State) (n entry : Nat) : (startRegs s n entry).clusters = s.clusters := by simp [startRegs]
theorem cl_startRegs (s : State) (n entry m : Nat) : cl (startRegs s n entry) m = cl s m := by rw [cl, cl, startRegs_clusters]
theorem startRegs_cfg (s : State) (n entry : Nat) : (startRegs s n entry).cfg = s.cfg := by simp [startRegs]
theorem startRegs_pending (s : State) (n entry : Nat) : (startRegs s n entry).pending = s.pending := by simp [startRegs]

theorem rf_startRegs (s : State) (n entry : Nat) : runState (startRegs s n entry) n = rsRUNNING ∧
    rf (startRegs s n entry) (R.scPC n) = entry % 2 ^ 16 ∧ rf (startRegs s n entry) (R.scCPOS n) = 0 ∧
    rf (startRegs s n entry) (R.scFAULT_CAUSE n) = 0 ∧ rf (startRegs s n entry) (R.scPOWER n) = pwACTIVE ∧
    rf (startRegs s n entry) (R.scSTART_CNT n) = min (rf s (R.scSTART_CNT n) + 1) (2 ^ 36 - 1) := by
  unfold startRegs runState
  simp (disch := simp [Field.Apart, R.scPC, R.scCPOS, R.scFAULT_CAUSE, R.scFAULT_IMPRECISE, R.scFAULT_PC, R.scSTART_CNT, R.scRUN_STATE,
    R.scPOWER]) only [rf_wf_apart, rf_wb_apart, rf_cnt_apart]
  refine ⟨runState_wf_same _ n (by decide : rsRUNNING < 8), rf_wf_same _ (R.scPC n) _ (Nat.zero_le _) (by decide : 15 < 36),
    rf_wf_same _ (R.scCPOS n) _ (Nat.zero_le _) (by decide : 4 < 36), rf_wf_same _ (R.scFAULT_CAUSE n) _ (Nat.zero_le _) (by decide : 5 < 36),
    rf_wf_power_same _ n (by decide : pwACTIVE < 4), ?_⟩
  rw [rf_cnt_same _ (R.scSTART_CNT n) (Nat.zero_le _) (by decide : 35 < 36)]
  simp (disch := simp [Field.Apart, R.scPC, R.scCPOS, R.scFAULT_CAUSE, R.scFAULT_IMPRECISE, R.scFAULT_PC, R.scSTART_CNT])
    only [rf_wf_apart, rf_wb_apart]
  rfl

section Runs
variable {s : State} {n : Nat}

/-- A start of an idle cluster that is ON is carried out. -/
theorem clStart_idle (entry : Nat) (hon : rf s (R.scUNIT_STATE n) = usON) (hrun : runState s n = rsHALTED)
    (hp : rf s (R.scPOWER n) = pwIDLE) : clStart s n entry = clBegin s n entry := by
  have hbusy : clBusy s n = false := by rw [clBusy, hrun]; rfl
  simp [clStart, hon, hbusy, hrun, hp, rsHALTED, rsFAULTED, pwIDLE]

theorem clLoopEnd_none (h : (cl s n).due = none) : clLoopEnd s n = s := by simp only [clLoopEnd, h]

theorem clStop_running (hrun : runState s n = rsRUNNING) (hdue : (cl s n).due = none) (cause : Nat) : clStop s n cause =
    wf (modCl s n fun c => { c with bun := [], ending := some .stop, stopCause := cause }) (R.scRUN_STATE n) rsFINISHING := by
  rw [clStop, if_neg (not_not.2 hrun), clLoopEnd_none hdue]

section Commands
variable (hl : s.live (iCLU n)) (hn : n < s.cfg.part.clusters) (hlen : s.clusters.length = s.cfg.part.clusters)
include hl hn

theorem exec_start_live : exec (.start n) s =
    .next (keep s (if rb s (R.scTT_OWNED n) then s else clStart s n (rf s (R.scENTRY n)))) := by
  change execStart n s = _
  exact gateCl_live hl hn _
theorem exec_stop_live : exec (.stop n) s = .next (keep s (if rb s (R.scTT_OWNED n) then s else clStop s n 3)) := by
  change execStop n s = _
  exact gateCl_live hl hn _
theorem exec_faultAck_live : exec (.faultAck n) s = .next (keep s (clFaultAck s n)) := by
  change execFaultAck n s = _
  exact gateCl_live hl hn _

theorem start_stop_owned (ht : rb s (R.scTT_OWNED n) = true) : exec (.start n) s = .next s ∧ exec (.stop n) s = .next s := by
  rw [exec_start_live hl hn, exec_stop_live hl hn, if_pos ht, if_pos ht]
  exact ⟨rfl, rfl⟩

theorem faultAck_stopped (hrun : runState s n = rsFAULTED) :
    ∃ t, exec (.faultAck n) s = .next t ∧ runState t n = rsSTOPPED ∧ rf t (R.scSTOP_CAUSE n) = 0 := by
  have hack : clFaultAck s n = wf (wf s (R.scRUN_STATE n) rsSTOPPED) (R.scSTOP_CAUSE n) 0 := if_pos hrun
  have hexec := exec_faultAck_live hl hn
  rw [hack] at hexec
  refine ⟨_, eq_next_of_keep hexec rfl rfl, ?_, rf_wf_same _ (R.scSTOP_CAUSE n) 0 (by decide : 8 ≤ 9) (by decide : 9 < 36)⟩
  exact (rf_wf_apart (by simp [Field.Apart, R.scRUN_STATE, R.scSTOP_CAUSE]) _ _).trans (runState_wf_same _ n (by decide : rsSTOPPED < 8))

include hlen

theorem start_runs (ht : rb s (R.scTT_OWNED n) = false) (hon : rf s (R.scUNIT_STATE n) = usON) (hrun : runState s n = rsHALTED)
    (hp : rf s (R.scPOWER n) = pwIDLE) :
    ∃ t, exec (.start n) s = .next t ∧ runState t n = rsRUNNING ∧ rf t (R.scPC n) = rf s (R.scENTRY n) ∧ rf t (R.scCPOS n) = 0 ∧
      rf t (R.scFAULT_CAUSE n) = 0 ∧ rf t (R.scPOWER n) = pwACTIVE ∧ (cl t n).levels = [] ∧ (cl t n).ltgt = 0 ∧
      (cl t n).cyc = (cl s n).cyc + 2 ∧ rf t (R.scSTART_CNT n) = min (rf s (R.scSTART_CNT n) + 1) (2 ^ 36 - 1) := by
  obtain ⟨hrun', hpc, hcpos, hcause, hpower, hcnt⟩ := rf_startRegs s n (rf s (R.scENTRY n))
  have hcl := cl_modCl_same (s := startRegs s n (rf s (R.scENTRY n))) (n := n) (by rw [startRegs_clusters, hlen]; exact hn) ClusterSt.started
  rw [cl_startRegs] at hcl
  have hexec := exec_start_live hl hn
  rw [if_neg (by simp [ht]), clStart_idle _ hon hrun hp, clBegin_eq] at hexec
  refine ⟨_, eq_next_of_keep hexec ((modCl_cfg _ _ _).trans (startRegs_cfg s n _))
    ((modCl_pending _ _ _).trans (startRegs_pending s n _)), ?_⟩
  rw [hcl, runState_modCl, rf_modCl, rf_modCl, rf_modCl, rf_modCl, rf_modCl]
  exact ⟨hrun', hpc.trans (Nat.mod_mod _ _), hcpos, hcause, hpower, rfl, rfl, rfl, hcnt⟩

theorem stop_finishing (ht : rb s (R.scTT_OWNED n) = false) (hrun : runState s n = rsRUNNING) (hdue : (cl s n).due = none) :
    ∃ t, exec (.stop n) s = .next t ∧ runState t n = rsFINISHING ∧ (cl t n).ending = some .stop ∧ (cl t n).stopCause = 3 := by
  have hcl := cl_modCl_same (hlen ▸ hn) fun c => { c with bun := [], ending := some .stop, stopCause := 3 }
  have hexec := exec_stop_live hl hn
  rw [if_neg (by simp [ht]), clStop_running hrun hdue] at hexec
  exact ⟨_, eq_next_of_keep hexec rfl rfl, runState_wf_same _ n (by decide : rsFINISHING < 8), congrArg ClusterSt.ending hcl,
    congrArg ClusterSt.stopCause hcl⟩

end Commands
end Runs
end Sys2Proof.Machine

/-! SUPPORT. Landings and ends in a signal cluster: loop ends, results, stores and runs (R139 to R142, R150, R153 to R155). -/

namespace Sys2Proof.Machine

section Runs
variable {s : State} {n : Nat}

/-! ### Loop ends and landings (R140, R141, R150) -/

/-- The end of an iteration that is not the last repeats the body. -/
theorem clLoopEnd_repeats {l : ClLoop} {r : List ClLoop} (hdue : (cl s n).due = some l.fin) (hlev : (cl s n).levels = l :: r)
    (hleft : 1 < l.left) : clLoopEnd s n = wf (wf (modCl s n fun c => { c with levels := { l with left := l.left - 1 } :: r, due := none })
      (R.scCPOS n) (rf s (R.scCPOS n) + b2n l.rot)) (R.scPC n) l.first := by
  simp only [clLoopEnd, hdue, hlev, loopEnd, if_true, if_pos hleft, rf_modCl]

theorem clLandResults_one {d : ClDst} {v i u : Nat} {f : Arf} (hfly : (cl s n).fly = [⟨d, v, f, (cl s n).cyc, i, u, none⟩]) :
    clLandResults s n (cl s n).cyc = stick (clWriteDst (modCl s n fun c => { c with fly := [] }) n d v) (R.scARF n) f.toNat := by
  have hleft : modCl s n (fun c => { c with fly := c.fly.filter (fun f => decide ((cl s n).cyc < f.land)) }) =
      modCl s n fun c => { c with fly := [] } := modCl_congr (by simp [hfly])
  simp only [clLandResults, hleft]
  simp [hfly, flySort, flyInsert, clLandOne, flyCollide, iff]

theorem clLandStores_one {a : Nat} {w : Word} (hst : (cl s n).stores = [⟨a, .word w, (cl s n).cyc⟩]) :
    ∃ c, c.stores = [] ∧ clLandStores s n (cl s n).cyc = clPutWord (modCl s n fun _ => c) a (.word w) := by
  simp only [clLandStores, hst, List.filter_cons, List.filter_nil, Nat.le_refl, decide_true, if_true, List.foldl_cons, List.foldl_nil]
  exact ⟨_, by simp [hst], rfl⟩

theorem rd_clPutWord_word (s : State) (a : Nat) (w : Word) (x : Nat) : rd (clPutWord s a (.word w)) x = rd (wr s a w) x := rfl

section Commands
variable (hl : s.live (iCLU n)) (hn : n < s.cfg.part.clusters)
include hl hn

theorem exec_loopIterationEnd_live : exec (.loopIterationEnd n) s = .next (keep s (clLoopEnd s n)) := by
  change execLoopIterationEnd n s = _
  exact gateCl_live hl hn _
theorem exec_clusterResultLanding_running (hrun : runState s n = rsRUNNING) :
    exec (.clusterResultLanding n) s = .next (keep s (clLandResults s n (cl s n).cyc)) := by
  change execClusterResultLanding n s = _
  rw [execClusterResultLanding, gateCl_live hl hn, if_pos hrun]
theorem exec_storeReachesMemory_running (hrun : runState s n = rsRUNNING) :
    exec (.storeReachesMemory n) s = .next (keep s (clLandStores s n (cl s n).cyc)) := by
  change execStoreReachesMemory n s = _
  rw [execStoreReachesMemory, gateCl_live hl hn, if_pos hrun]

variable (hlen : s.clusters.length = s.cfg.part.clusters)
include hlen

theorem loopIterationEnd_repeats {l : ClLoop} {r : List ClLoop} (hdue : (cl s n).due = some l.fin) (hlev : (cl s n).levels = l :: r)
    (hleft : 1 < l.left) : ∃ t, exec (.loopIterationEnd n) s = .next t ∧ (cl t n).levels = { l with left := l.left - 1 } :: r ∧
      (cl t n).due = none ∧ rf t (R.scPC n) = l.first % 2 ^ 16 ∧ rf t (R.scCPOS n) = (rf s (R.scCPOS n) + b2n l.rot) % 32 := by
  have hcl := cl_modCl_same (hlen ▸ hn) fun c => { c with levels := { l with left := l.left - 1 } :: r, due := none }
  have hexec := exec_loopIterationEnd_live hl hn
  rw [clLoopEnd_repeats hdue hlev hleft] at hexec
  refine ⟨_, eq_next_of_keep hexec rfl rfl, congrArg ClusterSt.levels hcl, congrArg ClusterSt.due hcl,
    rf_wf_same _ (R.scPC n) _ (Nat.zero_le _) (by decide : 15 < 36), ?_⟩
  rw [rf_wf_apart (by simp [Field.Apart, R.scCPOS, R.scPC])]
  exact rf_wf_same _ (R.scCPOS n) _ (Nat.zero_le _) (by decide : 4 < 36)

/-- A due result lands in its data register and ORs its flags. -/
theorem clusterResultLanding_data {k v i u : Nat} {f : Arf} (hv : v < 2 ^ 36) (hrun : runState s n = rsRUNNING)
    (hfly : (cl s n).fly = [⟨.d k, v, f, (cl s n).cyc, i, u, none⟩]) :
    ∃ t, exec (.clusterResultLanding n) s = .next t ∧ rf t (R.scD n k) = v ∧ rf t (R.scARF n) = rf s (R.scARF n) ||| f.toNat ∧
      (cl t n).fly = [] ∧ ∀ a, a ≠ (R.scD n k).addr → a ≠ (R.scARF n).addr → rd t a = rd s a := by
  have hcl := cl_modCl_same (hlen ▸ hn) fun c => { c with fly := [] }
  have hexec := exec_clusterResultLanding_running hl hn hrun
  rw [clLandResults_one hfly, clWriteDst] at hexec
  refine ⟨_, eq_next_of_keep hexec rfl rfl, ?_, ?_, congrArg ClusterSt.fly hcl, fun a hd harf => ?_⟩
  · rw [rf_stick_apart (by simp only [Field.Apart, R.scD, R.scARF]; omega), rf_wf_same _ (R.scD n k) _ (Nat.zero_le _) (by decide : 35 < 36)]
    exact Nat.mod_eq_of_lt hv
  · rw [rf_stick_same _ (R.scARF n) (Nat.zero_le _) (by decide : 6 < 36) f.isLt, rf_wf_apart (by simp only [Field.Apart, R.scD, R.scARF]; omega),
      rf_modCl]
  · exact (rd_stick_ne _ _ _ harf).trans (rd_wf_ne _ _ _ hd)

/-- A due store reaches memory. -/
theorem storeReachesMemory_word {a : Nat} {w : Word} (hrun : runState s n = rsRUNNING)
    (hst : (cl s n).stores = [⟨a, .word w, (cl s n).cyc⟩]) :
    ∃ t, exec (.storeReachesMemory n) s = .next t ∧ rd t a = w ∧ (cl t n).stores = [] ∧ ∀ x, x ≠ a → rd t x = rd s x := by
  obtain ⟨c, hc, hland⟩ := clLandStores_one hst
  have hexec := exec_storeReachesMemory_running hl hn hrun
  rw [hland] at hexec
  exact ⟨_, eq_next_of_keep hexec rfl rfl, (rd_clPutWord_word _ a w a).trans (rd_wr_same _ a w),
    (congrArg ClusterSt.stores (cl_modCl_same (hlen ▸ hn) fun _ => c)).trans hc,
    fun x hx => (rd_clPutWord_word _ a w x).trans (rd_wr_ne _ w hx)⟩

end Commands

/-! ### The end of a run (R153 to R155) -/

/-- Cluster `c` at the end of a run of which nothing is in flight any more. -/
def ClusterSt.ended (now : Nat) (c : ClusterSt) : ClusterSt := { c with ending := none, touch := [], shOld := [], idleSince := now }
/-- The module at the end of a run of cluster `n`, which is IDLE from now on. -/
def runLeft (s : State) (n : Nat) : State := wf (modCl s n (ClusterSt.ended s.now)) (R.scPOWER n) pwIDLE
/-- The registers of cluster `n` at the end of a run, by the cause of its end. -/
def endRegs (s : State) (n : Nat) : ClEnd → State
  | .halt => wf (wf (runLeft s n) (R.scLAST_RUN_CYCLES n) (min ((cl s n).cyc - (cl s n).run0) (2 ^ 36 - 1))) (R.scRUN_STATE n) rsHALTED
  | .fault => wf (runLeft s n) (R.scRUN_STATE n) rsFAULTED
  | .stop => wf (wf (runLeft s n) (R.scRUN_STATE n) rsSTOPPED) (R.scSTOP_CAUSE n) (cl s n).stopCause
/-- The module at the end of a run of cluster `n`, with what it reports. -/
def runEnded (s : State) (n : Nat) : ClEnd → State
  | .halt => { endRegs s n .halt with calIn := s.calIn ++ [.clusterHalted n] }
  | .fault => { notice (raise (endRegs s n .fault) (32 + n)) 4 n n (clDetail (runLeft s n) n) with
      calIn := s.calIn ++ [.clusterFault n] }
  | .stop => endRegs s n .stop

theorem cl_runLeft (hn : n < s.clusters.length) : cl (runLeft s n) n = (cl s n).ended s.now := cl_modCl_same hn _
theorem runEnded_clusters (e : ClEnd) : (runEnded s n e).clusters = (runLeft s n).clusters := by
  cases e <;> rfl
theorem cl_runEnded (hn : n < s.clusters.length) (e : ClEnd) : cl (runEnded s n e) n = (cl s n).ended s.now := by
  rw [cl, runEnded_clusters]
  exact cl_runLeft hn

/-- With nothing in flight, no access waiting and no SLEEP asked, the run ends at once. -/
theorem clFinish_landed (hn : n < s.clusters.length) {e : ClEnd} (hrun : runState s n = rsFINISHING) (he : (cl s n).ending = some e)
    (hfly : (cl s n).fly = []) (hst : (cl s n).stores = []) (hretry : (cl s n).retry = []) (hsleep : (cl s n).sleep = false) :
    clFinish s n = runEnded s n e := by
  have hlast : clLastCyc (cl s n) = (cl s n).cyc := by simp [clLastCyc, hfly, hst]
  have hland : clLand s n (cl s n).cyc = modCl s n fun c => { c with shOld := [] } := clLand_nothing hn hfly hst
  have hleft : wf (modCl (modCl s n fun c => { c with shOld := [] }) n
      fun c => { c with cyc := (cl s n).cyc, ending := none, touch := [], shOld := [], idleSince := s.now }) (R.scPOWER n) pwIDLE = runLeft s n := by
    rw [modCl_modCl hn]
    rfl
  have hending : (cl (modCl s n fun c => { c with shOld := [] }) n).ending = some e :=
    (congrArg ClusterSt.ending (cl_modCl_same hn _)).trans he
  have hnow : (modCl s n fun c => { c with shOld := [] }).now = s.now := rfl
  have hin : n < (runEnded s n e).clusters.length := by rw [runEnded_clusters, runLeft]; simpa using hn
  have hcl := cl_runEnded hn e
  have hidle : winRetry (runEnded s n e) n = runEnded s n e := winRetry_nothing hin (by rw [hcl]; exact hretry)
  have hawake : (cl (runEnded s n e) n).sleep = false := by rw [hcl]; exact hsleep
  simp only [clFinish, hrun, hlast, hland, hending, hnow, hleft, ne_eq, not_true_eq_false, if_false, cl_runLeft hn]
  have hend (t : State) (ht : t = runEnded s n e) : (if (cl (winRetry t n) n).sleep = true then
      clPowerDown (modCl (winRetry t n) n fun c => { c with sleep := false }) n else winRetry t n) = runEnded s n e := by
    rw [ht, hidle, hawake, if_neg Bool.false_ne_true]
  exact hend _ (by cases e <;> rfl)

theorem runEnded_cfg (e : ClEnd) : (runEnded s n e).cfg = s.cfg := by cases e <;> rfl
theorem runEnded_pending (e : ClEnd) : (runEnded s n e).pending = s.pending := by cases e <;> rfl

/-- The state a run ends in, by the cause of its end. -/
def ClEnd.runState : ClEnd → Nat
  | .halt => rsHALTED
  | .fault => rsFAULTED
  | .stop => rsSTOPPED

theorem rf_runEnded (e : ClEnd) (f : Field) : rf (runEnded s n e) f = rf (endRegs s n e) f := by cases e <;> rfl

theorem rf_endRegs_power (e : ClEnd) : rf (endRegs s n e) (R.scPOWER n) = pwIDLE := by
  have hleft : rf (runLeft s n) (R.scPOWER n) = pwIDLE := rf_wf_power_same _ n (by decide : pwIDLE < 4)
  cases e <;> simp (disch := simp [Field.Apart, R.scPOWER, R.scRUN_STATE, R.scLAST_RUN_CYCLES, R.scSTOP_CAUSE]) only
    [endRegs, rf_wf_apart, hleft]

theorem runState_endRegs (e : ClEnd) : runState (endRegs s n e) n = e.runState := by
  cases e with
  | halt => exact runState_wf_same _ n (by decide : rsHALTED < 8)
  | fault => exact runState_wf_same _ n (by decide : rsFAULTED < 8)
  | stop =>
    exact (rf_wf_apart (by simp [Field.Apart, R.scRUN_STATE, R.scSTOP_CAUSE]) _ _).trans (runState_wf_same _ n (by decide : rsSTOPPED < 8))

theorem rf_endRegs_halt : rf (endRegs s n .halt) (R.scLAST_RUN_CYCLES n) = min ((cl s n).cyc - (cl s n).run0) (2 ^ 36 - 1) := by
  have hlt : min ((cl s n).cyc - (cl s n).run0) (2 ^ 36 - 1) < 2 ^ 36 := by omega
  rw [endRegs, rf_wf_apart (by simp [Field.Apart, R.scLAST_RUN_CYCLES, R.scRUN_STATE]),
    rf_wf_same _ (R.scLAST_RUN_CYCLES n) _ (Nat.zero_le _) (by decide : 35 < 36)]
  exact Nat.mod_eq_of_lt hlt

section Finish
variable (hl : s.live (iCLU n)) (hn : n < s.cfg.part.clusters) (hlen : s.clusters.length = s.cfg.part.clusters)
include hl hn

theorem exec_clusterFinish_live : exec (.clusterFinish n) s = .next (keep s (clFinish s n)) := by
  change execClusterFinish n s = _
  exact gateCl_live hl hn _

include hlen

/-- The end of a run with nothing in flight (R153 to R155). -/
theorem clusterFinish_ended {e : ClEnd} (hrun : runState s n = rsFINISHING) (he : (cl s n).ending = some e)
    (hfly : (cl s n).fly = []) (hst : (cl s n).stores = []) (hretry : (cl s n).retry = []) (hsleep : (cl s n).sleep = false) :
    ∃ t, exec (.clusterFinish n) s = .next t ∧ rf t (R.scPOWER n) = pwIDLE ∧ runState t n = e.runState ∧
      (e = .halt → rf t (R.scLAST_RUN_CYCLES n) = min ((cl s n).cyc - (cl s n).run0) (2 ^ 36 - 1) ∧
        t.calIn = s.calIn ++ [.clusterHalted n]) ∧
      (e = .fault → t.raiseQ = s.raiseQ ++ [32 + n] ∧ t.calIn = s.calIn ++ [.clusterFault n]) := by
  have hexec := exec_clusterFinish_live hl hn
  rw [clFinish_landed (hlen ▸ hn) hrun he hfly hst hretry hsleep] at hexec
  refine ⟨_, eq_next_of_keep hexec (runEnded_cfg e) (runEnded_pending e), (rf_runEnded e _).trans (rf_endRegs_power e),
    (rf_runEnded e _).trans (runState_endRegs e), ?_, ?_⟩
  · rintro rfl
    exact ⟨(rf_runEnded .halt _).trans rf_endRegs_halt, rfl⟩
  · rintro rfl
    exact ⟨rfl, rfl⟩

end Finish
end Runs
end Sys2Proof.Machine

/-! SUPPORT. The window and the power of a signal cluster: Midway's accesses to X memory, idling, waking and initialisation (R145, R157, R159). -/

namespace Sys2Proof.Machine

/-- Address of word `o` of cluster `n`'s memories. -/
def clWordAt (n o : Nat) : Nat := 0x10000000 + n * 0x100000 + o

/-! ### Window accesses (R145, R147) -/

theorem winMerge_both (old w : Word) : winMerge old w true true = w := by
  apply BitVec.eq_of_toNat_eq
  have hw := w.isLt
  simp only [winMerge, mkW, if_true, BitVec.toNat_ofNat]
  omega

section Window
variable {s : State} {n : Nat}

/-- With no word in error a read answers OK with the word. -/
theorem winPerform_read (he : s.ecc = []) (o : Nat) : winPerform s n (.read o) = (0, rd s (clWordAt n o), s) := by
  rw [winPerform, he]
  rfl

/-- A write of both halves answers OK, and the word has its value. -/
theorem winPerform_write (o : Nat) (w : Word) : winPerform s n (.write o w true true) =
    (0, 0#36, { wr s (clWordAt n o) w with ecc := kvDel s.ecc (clWordAt n o) }) := by
  simp only [winPerform, winMerge_both]
  rfl

section XMemory
variable {w : WinAcc} (ho : winOff w < 0x8000) (hinit : rf s (R.scINIT_DONE n) = 1) (hpow : rf s (R.scPOWER n) < 2)
  (hunit : rf s (R.scUNIT_STATE n) ≠ usISOLATING)
include ho hinit hpow hunit

/-- An access to a DMA-owned word of X memory is performed, where no bundle touched its sub-bank. -/
theorem winAccess_owned (hown : bit (rf s (R.scOWN_X n)) (winOff w / 4096) = true) (htouch : (cl s n).touch = []) (first : Bool) :
    winAccess s n w first = (some ((winPerform s n w).1, (winPerform s n w).2.1), (winPerform s n w).2.2) := by
  have hoff : winOff w % 0x8000 = winOff w := Nat.mod_eq_of_lt ho
  simp [winAccess, hinit, hunit, hoff, hown, htouch, Nat.not_le.2 hpow, show ¬ 0x10000 ≤ winOff w by omega, show ¬ 0x8000 ≤ winOff w by omega]

/-- An access to a word of X memory that a busy cluster owns answers OWNED and counts. -/
theorem winAccess_rejected (hown : bit (rf s (R.scOWN_X n)) (winOff w / 4096) = false) (hbusy : clBusy s n = true) (first : Bool) :
    winAccess s n w first = (some (2, 0#36), cnt s (R.scOWN_REJECT_CNT n)) := by
  have hoff : winOff w % 0x8000 = winOff w := Nat.mod_eq_of_lt ho
  simp [winAccess, hinit, hunit, hoff, hown, hbusy, Nat.not_le.2 hpow, show ¬ 0x10000 ≤ winOff w by omega, show ¬ 0x8000 ≤ winOff w by omega]

end XMemory

/-- Cluster `c` with one more answer to Midway. -/
def ClusterSt.answering (tag st : Nat) (w : Word) (c : ClusterSt) : ClusterSt := { c with resp := c.resp ++ [⟨tag, st, [w]⟩] }

theorem winTry_answered {s' : State} {acc : WinAcc} {st : Nat} {w : Word} (h : winAccess s n acc true = (some (st, w), s')) (tag : Nat) :
    winTry n s ⟨tag, acc⟩ = modCl s' n (ClusterSt.answering tag st w) := by
  simp only [winTry, h, Option.isNone_some, Bool.false_eq_true, false_and, if_false]
  rfl

/-- A window access that is answered at once. -/
theorem clusterWindowAccess_answered {s' : State} {acc : WinAcc} {st : Nat} {w : Word} (hl : s.live (iCLU n)) (hn : n < s.cfg.part.clusters)
    (hlen : s.clusters.length = s.cfg.part.clusters) (ho : winOff acc < 0x8000) (h : winAccess s n acc true = (some (st, w), s'))
    (hcfg : s'.cfg = s.cfg) (hp : s'.pending = s.pending) (hcl : s'.clusters = s.clusters) (tag : Nat) :
    ∃ t, exec (.clusterWindowAccess n tag acc) s = .next t ∧ (∀ a, rd t a = rd s' a) ∧ t.mem = s'.mem ∧
      (cl t n).resp = (cl s n).resp ++ [⟨tag, st, [w]⟩] := by
  have hexec : exec (.clusterWindowAccess n tag acc) s = .next (keep s (winTry n s ⟨tag, acc⟩)) := by
    change execClusterWindowAccess n tag acc s = _
    rw [execClusterWindowAccess, gateCl_live hl hn, if_pos (by omega)]
  rw [winTry_answered h] at hexec
  have hsame : cl s' n = cl s n := by rw [cl, cl, hcl]
  refine ⟨_, eq_next_of_keep hexec ((modCl_cfg _ _ _).trans hcfg) ((modCl_pending _ _ _).trans hp), fun a => rfl, rfl, ?_⟩
  rw [cl_modCl_same (by rw [hcl, hlen]; exact hn), hsame]
  rfl

section Commands
variable (hl : s.live (iCLU n)) (hn : n < s.cfg.part.clusters) (hlen : s.clusters.length = s.cfg.part.clusters) {o : Nat} (ho : o < 0x8000)
  (hinit : rf s (R.scINIT_DONE n) = 1) (hpow : rf s (R.scPOWER n) < 2) (hunit : rf s (R.scUNIT_STATE n) ≠ usISOLATING) (tag : Nat)
include hl hn hlen ho hinit hpow hunit

theorem windowRead_owned (hown : bit (rf s (R.scOWN_X n)) (o / 4096) = true) (htouch : (cl s n).touch = []) (hecc : s.ecc = []) :
    ∃ t, exec (.clusterWindowAccess n tag (.read o)) s = .next t ∧ t.mem = s.mem ∧
      (cl t n).resp = (cl s n).resp ++ [⟨tag, 0, [rd s (clWordAt n o)]⟩] := by
  have hread := winAccess_owned (w := .read o) ho hinit hpow hunit hown htouch true
  rw [winPerform_read hecc] at hread
  obtain ⟨t, ht, -, hmem, hresp⟩ := clusterWindowAccess_answered (acc := .read o) hl hn hlen ho hread rfl rfl rfl tag
  exact ⟨t, ht, hmem, hresp⟩

theorem windowWrite_owned (hown : bit (rf s (R.scOWN_X n)) (o / 4096) = true) (htouch : (cl s n).touch = []) (w : Word) :
    ∃ t, exec (.clusterWindowAccess n tag (.write o w true true)) s = .next t ∧ rd t (clWordAt n o) = w ∧
      (∀ x, x ≠ clWordAt n o → rd t x = rd s x) ∧ (cl t n).resp = (cl s n).resp ++ [⟨tag, 0, [0#36]⟩] := by
  have hwrite := winAccess_owned (w := .write o w true true) ho hinit hpow hunit hown htouch true
  rw [winPerform_write] at hwrite
  obtain ⟨t, ht, hrd, -, hresp⟩ := clusterWindowAccess_answered (acc := .write o w true true) hl hn hlen ho hwrite rfl rfl rfl tag
  exact ⟨t, ht, (hrd _).trans (rd_wr_same s _ w), fun x hx => (hrd x).trans (rd_wr_ne s w hx), hresp⟩

theorem windowWrite_rejected (hown : bit (rf s (R.scOWN_X n)) (o / 4096) = false) (hbusy : clBusy s n = true) (w : Word) :
    ∃ t, exec (.clusterWindowAccess n tag (.write o w true true)) s = .next t ∧ (cl t n).resp = (cl s n).resp ++ [⟨tag, 2, [0#36]⟩] ∧
      rd t (clWordAt n o) = rd s (clWordAt n o) ∧
      rf t (R.scOWN_REJECT_CNT n) = min (rf s (R.scOWN_REJECT_CNT n) + 1) (2 ^ 36 - 1) := by
  have hreject := winAccess_rejected (w := .write o w true true) ho hinit hpow hunit hown hbusy true
  obtain ⟨t, ht, hrd, -, hresp⟩ := clusterWindowAccess_answered (acc := .write o w true true) hl hn hlen ho hreject rfl rfl rfl tag
  refine ⟨t, ht, hresp, (hrd _).trans (rd_cnt_ne s _ ?_), ?_⟩
  · simp only [clWordAt, R.scOWN_REJECT_CNT, blkBase]
    omega
  · rw [rf, rdN, hrd]
    exact rf_cnt_same s (R.scOWN_REJECT_CNT n) (Nat.zero_le _) (by decide : 35 < 36)

end Commands

end Window

/-! ### Power (R157) -/

section Power
variable {s : State} {n : Nat}

theorem clVolatile_power (n : Nat) : clVolatile n (R.scPOWER n).addr = false := by
  simp [clVolatile, R.scPOWER, blkBase]
  omega

/-- What a cluster keeps where it is GATED. -/
theorem rd_clLose_of_kept {a : Nat} (h : clVolatile n a = false) : rd (clLose s n) a = rd s a :=
  kvGet_filter _ _ _ _ fun _ => by simp [h]

/-- A memory word or register that GATED does not keep reads 0. -/
theorem rd_clLose_of_lost {a : Nat} (h : clVolatile n a = true) (hblk : blkOf a = none) : rd (clLose s n) a = 0#36 :=
  rd_unlisted hblk (not_mem_filter_fst (q := fun a => !clVolatile n a) s.mem (by simp [h]))

theorem clPowerDown_idle (hp : rf s (R.scPOWER n) = pwIDLE) (hb : clBusy s n = false) : clPowerDown s n =
    if rb s (R.scRETAIN_EN n) then wf s (R.scPOWER n) pwRETAINED else clLose (wf s (R.scPOWER n) pwGATED) n := if_pos ⟨hp, hb⟩

theorem rf_clLose_power : rf (clLose s n) (R.scPOWER n) = rf s (R.scPOWER n) := by
  rw [rf, rf, rdN, rdN, rd_clLose_of_kept (clVolatile_power n)]

section Commands
variable (hl : s.live (iCLU n)) (hn : n < s.cfg.part.clusters)
include hl hn

/-- An idle cluster whose time is up powers down. -/
theorem clusterIdleTimeout_powersDown (ht : rf s (R.scIDLE_TIME n) ≠ 0) (hp : rf s (R.scPOWER n) = pwIDLE) (hb : clBusy s n = false) :
    ∃ t, exec (.clusterIdleTimeout n) s = .next t ∧
      rf t (R.scPOWER n) = (if rb s (R.scRETAIN_EN n) then pwRETAINED else pwGATED) ∧
      t.now = max s.now ((cl s n).idleSince + rf s (R.scIDLE_TIME n) * 1000) ∧
      (rb s (R.scRETAIN_EN n) = false → ∀ a, clVolatile n a = true → blkOf a = none → rd t a = 0#36) := by
  have hexec : exec (.clusterIdleTimeout n) s =
      .next (keep s (clPowerDown (atLeast s ((cl s n).idleSince + rf s (R.scIDLE_TIME n) * 1000)) n)) := by
    change execClusterIdleTimeout n s = _
    rw [execClusterIdleTimeout, gateCl_live hl hn, if_pos ⟨ht, hp, hb⟩]
  have hnow : (atLeast s ((cl s n).idleSince + rf s (R.scIDLE_TIME n) * 1000)).now =
      max s.now ((cl s n).idleSince + rf s (R.scIDLE_TIME n) * 1000) := by simp only [atLeast, elapse]; omega
  rw [clPowerDown_idle (s := atLeast _ _) hp hb, show rb (atLeast s _) (R.scRETAIN_EN n) = rb s (R.scRETAIN_EN n) from rfl] at hexec
  cases hr : rb s (R.scRETAIN_EN n) with
  | true =>
    rw [hr] at hexec
    exact ⟨_, eq_next_of_keep hexec rfl rfl, rf_wf_power_same _ n (by decide : pwRETAINED < 4), hnow, nofun⟩
  | false =>
    rw [hr] at hexec
    exact ⟨_, eq_next_of_keep hexec rfl rfl, rf_clLose_power.trans (rf_wf_power_same _ n (by decide : pwGATED < 4)), hnow,
      fun _ a ha hblk => rd_clLose_of_lost ha hblk⟩

/-- A wake ends in IDLE. -/
theorem clusterWakeDone_idle (hlen : s.clusters.length = s.cfg.part.clusters) {d : Nat} (hw : (cl s n).waking = some d)
    (hs : (cl s n).startWait = none) :
    ∃ t, exec (.clusterWakeDone n) s = .next t ∧ rf t (R.scPOWER n) = pwIDLE ∧ (cl t n).waking = none ∧ t.now = max s.now d := by
  have hcl := cl_modCl_same (s := atLeast s d) (n := n) (hlen ▸ hn) fun c => { c with waking := none, idleSince := (atLeast s d).now }
  have hwait : (cl (wf (modCl (atLeast s d) n fun c => { c with waking := none, idleSince := (atLeast s d).now }) (R.scPOWER n) pwIDLE) n).startWait =
      none := (congrArg ClusterSt.startWait hcl).trans hs
  have hexec : exec (.clusterWakeDone n) s =
      .next (keep s (wf (modCl (atLeast s d) n fun c => { c with waking := none, idleSince := (atLeast s d).now }) (R.scPOWER n) pwIDLE)) := by
    change execClusterWakeDone n s = _
    rw [execClusterWakeDone, gateCl_live hl hn, hw]
    simp only [hwait]
  refine ⟨_, eq_next_of_keep hexec rfl rfl, rf_wf_power_same _ n (by decide : pwIDLE < 4), congrArg ClusterSt.waking hcl, ?_⟩
  show (atLeast s d).now = _
  simp only [atLeast, elapse]
  omega

end Commands
end Power

/-! ### Initialisation (R159) -/

section Init
variable {s : State} {n : Nat}

theorem clusters_le (p : Part) : p.clusters ≤ 16 := by cases p <;> decide

theorem blkOf_clWordAt {o : Nat} (hn : n < 16) (ho : o < 0x30000) : blkOf (clWordAt n o) = none := by
  rw [blkOf, clWordAt, if_neg (by omega), if_pos (by omega)]
  exact if_neg (by omega)

theorem rd_clInit {o : Nat} (hn : n < 16) (ho : o < 0x30000) : rd (clInit s n) (clWordAt n o) = 0#36 := by
  have hlost : clWordAt n o ∉ (s.mem.filter fun e =>
      !(decide (0x10000000 + n * 0x100000 ≤ e.1) && decide (e.1 < 0x10000000 + n * 0x100000 + 0x30000))).map Prod.fst :=
    not_mem_filter_fst (q := fun a => !(decide (0x10000000 + n * 0x100000 ≤ a) && decide (a < 0x10000000 + n * 0x100000 + 0x30000))) s.mem
      (by simp [clWordAt]; omega)
  refine (rd_wb_ne _ _ _ ?_).trans (rd_unlisted (blkOf_clWordAt hn ho) hlost)
  simp only [clWordAt, R.scINIT_DONE, blkBase]
  omega

/-- Initialisation leaves all four memories zero. -/
theorem clusterInitDone_zeros (hl : s.live (iCLU n)) (hn : n < s.cfg.part.clusters) (hlen : s.clusters.length = s.cfg.part.clusters)
    (hi : rb s (R.scINIT_DONE n) = false) (hr : (cl s n).retry = []) :
    ∃ t, exec (.clusterInitDone n) s = .next t ∧ rb t (R.scINIT_DONE n) = true ∧ ∀ o, o < 0x30000 → rd t (clWordAt n o) = 0#36 := by
  have hn16 : n < 16 := hn.trans_le (clusters_le _)
  have hadmit := mwyOnly_mwAdmitAll (clInit (atLeast s (islAt s (iCLU n) + 10240)) n)
  have hretry : winRetry (clInit (atLeast s (islAt s (iCLU n) + 10240)) n) n = clInit (atLeast s (islAt s (iCLU n) + 10240)) n :=
    winRetry_nothing (s := clInit _ n) (hlen ▸ hn) hr
  have hexec : exec (.clusterInitDone n) s = .next (keep s (mwAdmitAll (clInit (atLeast s (islAt s (iCLU n) + 10240)) n))) := by
    change execClusterInitDone n s = _
    rw [execClusterInitDone, gateCl_live hl hn, if_neg (by simp [hi])]
    simp only [hretry]
  refine ⟨_, eq_next_of_keep hexec hadmit.cfg hadmit.pending, ?_, fun o ho => ?_⟩
  · rw [hadmit.rb_eq (by simp only [InMwyBlock, R.scINIT_DONE, blkBase]; omega)]
    exact rb_wb_same _ (R.scINIT_DONE n) true rfl (by decide : 12 < 36)
  · rw [hadmit.rd_eq _ (by simp only [InMwyBlock, clWordAt]; omega)]
    exact rd_clInit hn16 ho

end Init

/-- Settles O17: runs, windows and power, each command by its effect. -/
theorem clusterRunsWindowsAndPower : Obligations.ClusterRunsWindowsAndPower := by
  unfold Obligations.ClusterRunsWindowsAndPower
  refine ⟨fun s n hl hn hlen => ⟨?start, start_stop_owned hl hn, ?stop, faultAck_stopped hl hn, ?loop, ?result, ?store, ?finish⟩,
    fun s n hl hn hlen => ⟨?owned, ?rejected, clusterIdleTimeout_powersDown hl hn, ?wake, ?init⟩⟩
  case start => exact start_runs hl hn hlen
  case stop => exact stop_finishing hl hn hlen
  case loop => exact fun l r => loopIterationEnd_repeats hl hn hlen
  case result => exact fun k v f i u _ hv => clusterResultLanding_data hl hn hlen hv
  case store => exact fun a w => storeReachesMemory_word hl hn hlen
  case finish =>
    intro e hrun he hfly hst hretry hsleep
    obtain ⟨t, ht, hpower, hended, hhalt, hfault⟩ := clusterFinish_ended hl hn hlen hrun he hfly hst hretry hsleep
    exact ⟨t, ht, hpower, hended.trans (by cases e <;> rfl), hhalt, hfault⟩
  case owned =>
    exact fun tag o ho hinit hpow hown hunit htouch hecc => ⟨windowRead_owned hl hn hlen ho hinit hpow hunit tag hown htouch hecc,
      windowWrite_owned hl hn hlen ho hinit hpow hunit tag hown htouch⟩
  case rejected =>
    exact fun tag o w ho hinit hpow hunit hown hbusy => windowWrite_rejected hl hn hlen ho hinit hpow hunit tag hown hbusy w
  case wake => exact fun d => clusterWakeDone_idle hl hn hlen
  case init => exact fun hi hr _ => clusterInitDone_zeros hl hn hlen hi hr

end Sys2Proof.Machine

/-! SUPPORT. An operation of a unit of a signal cluster, alone in its bundle, by the code that names it: one result in flight, or the two words
of a double (R134 to R141, R163). -/

namespace Sys2Proof.Machine

/-- OPC `opc` names the operation `k` in slot `u`, and `k` depends on the 22 operand bits alone. -/
structure CodeNames (u opc : Nat) (k : ClIn → Bool × ClEff) : Prop where
  opc_lt : opc < 64
  clOp_eq : ∀ (l : Nat) (x : ClIn), x.slot = u → x.f 27 22 = opc → clOp l x = some (k x)
  withOpc : ∀ (x : ClIn) (c : Nat), k (x.withOpc c) = k x

/-- A result that slot `u` of cluster `n` puts in flight in this cycle, with its latency. -/
def unitFly (s : State) (n u : Nat) (d : ClDst) (v : Nat × Arf) (lat : Nat) : ClFly :=
  ⟨d, v.1, v.2, (cl s n).cyc + lat, (cl s n).cyc, u, none⟩

section Unit
variable {s : State} {n u opc : Nat} {h : OpHead} {b : BitVec 22} {k : ClIn → Bool × ClEff} (hr : s.clReady n) (hl : h.last = true)
  (hc : clCond s n h.cond.toNat = true) (hu : u < 8) (hk : CodeNames u opc k)
include hr hl hc hu hk

/-- An operation whose effect is its results alone. -/
theorem unit_results {res : List ClRes} (ho : k (clIn s n u b) = (true, .ok { res := res })) (hue : ∀ r ∈ res, r.ue = false) :
    ∃ t, gateCl n s (clIssue n (opWord22 h u opc b)) = .next t ∧
      s.oneOp t n (res.map fun r => unitFly s n u r.dst (r.val, r.fl) r.lat) [] := by
  have hop : clOp (cl s n).ltgt ((clIn s n u b).withOpc opc) = some (true, .ok { res := res }) := by
    rw [hk.clOp_eq _ ((clIn s n u b).withOpc opc) rfl (ClIn.opc_withOpc b.isLt hk.opc_lt), hk.withOpc, ho]
  exact gateCl_clIssue_inLine hr hl hc hu hk.opc_lt hop ⟨rfl, hue, by simp⟩ rfl

/-- An operation of one result. -/
theorem unit_one {d : ClDst} {v : Nat × Arf} {lat : Nat} (ho : k (clIn s n u b) = (true, .one d v lat)) :
    ∃ t, gateCl n s (clIssue n (opWord22 h u opc b)) = .next t ∧ s.oneOp t n [unitFly s n u d v lat] [] :=
  unit_results hr hl hc hu hk ho (by simp)

/-- A double: the low word carries the flags (R15). -/
theorem unit_toDD {v : Nat × Arf} {lat : Nat} (ho : k (clIn s n u b) = (true, (clIn s n u b).toDD v lat)) :
    ∃ t, gateCl n s (clIssue n (opWord22 h u opc b)) = .next t ∧
      s.oneOp t n [unitFly s n u (.d ((clIn s n u b).phys (clIn s n u b).dst)) (v.1 % 2 ^ 36, v.2) lat,
        unitFly s n u (.d ((clIn s n u b).phys ((clIn s n u b).dst + 1))) (v.1 / 2 ^ 36 % 2 ^ 36, 0#7) lat] [] :=
  unit_results hr hl hc hu hk ho (by simp)

end Unit

end Sys2Proof.Machine

/-! SUPPORT. The multiply units of a signal cluster (Table COP-2): their operation codes and their results. -/

namespace Sys2Proof.Machine

/-! ### The operands under an operation code -/

section WithOpc
variable (x : ClIn) (opc : Nat)

@[simp] theorem ClIn.toAc_withOpc : (x.withOpc opc).toAc = x.toAc := by funext v; simp [ClIn.toAc]
@[simp] theorem ClIn.acA_withOpc : (x.withOpc opc).acA = x.acA := by simp [ClIn.acA]
@[simp] theorem ClIn.sub1_withOpc : (x.withOpc opc).sub1 = x.sub1 := by simp [ClIn.sub1]
@[simp] theorem ClIn.sub0_withOpc : (x.withOpc opc).sub0 = x.sub0 := by simp [ClIn.sub0]
@[simp] theorem accProd_withOpc (w acc : Nat) (p : Int) : accProd (x.withOpc opc) w acc p = accProd x w acc p := by
  simp [accProd, x.opt_withOpc]
@[simp] theorem dualAcc_withOpc (p1 p0 : Int) : dualAcc (x.withOpc opc) p1 p0 = dualAcc x p1 p0 := by simp [dualAcc]

theorem clFp_some {x : ClIn} {rm : Rm} (h : x.rm (x.f 2 0) = some rm) (lat : Nat) (k : Rm → Nat × Arf) :
    clFp x lat k = (true, x.toD (k rm) lat) := by rw [clFp, h]
theorem clFp_none {x : ClIn} (h : x.rm (x.f 2 0) = none) (lat : Nat) (k : Rm → Nat × Arf) : clFp x lat k = (false, ill) := by
  rw [clFp, h]

@[simp] theorem clFp_withOpc (lat : Nat) (k : Rm → Nat × Arf) : clFp (x.withOpc opc) lat k = clFp x lat k := by
  cases h : x.rm (x.f 2 0) with
  | none => rw [clFp_none h, clFp_none ((x.rnd_withOpc opc).trans h)]
  | some rm => rw [clFp_some h, clFp_some ((x.rnd_withOpc opc).trans h), x.toD_withOpc]

end WithOpc

/-! ### Operation codes (Table COP-2) -/

/-- The operations of the multiply units with their codes. -/
def multiplyOps : List (Nat × (ClIn → Bool × ClEff)) :=
  [(0x01, clMac), (0x02, clMach), (0x03, clMacx), (0x04, clAcld), (0x08, clSacq), (0x09, clSaci), (0x0A, clSach), (0x0B, clSacd),
    (0x0C, clSacdi), (0x0D, clSacw), (0x10, clMul), (0x11, clMulq), (0x12, clMulh), (0x13, clMulhq), (0x14, clMuld), (0x18, clFadd),
    (0x19, clFsub), (0x1A, clFmul), (0x1B, clFma), (0x1C, clFnma)]

theorem multiplyOps_opc_lt : ∀ e ∈ multiplyOps, e.1 < 64 := by simp [multiplyOps]

theorem clOp_multiply :
    ∀ e ∈ multiplyOps, ∀ (l : Nat) (x : ClIn), x.slot = 0 ∨ x.slot = 1 → x.f 27 22 = e.1 → clOp l x = some (e.2 x) := by
  simp only [multiplyOps, List.forall_mem_cons]
  refine ⟨?_, ?_, ?_, ?_, ?_, ?_, ?_, ?_, ?_, ?_, ?_, ?_, ?_, ?_, ?_, ?_, ?_, ?_, ?_, ?_, List.forall_mem_nil _⟩ <;>
    (intro l x hs ho; unfold clOp; rw [ho]; obtain hs | hs := hs <;> rw [hs] <;> rfl)

/-- No operation of the units depends on BODY beyond its 22 operand bits. -/
theorem multiply_withOpc : ∀ e ∈ multiplyOps, ∀ (x : ClIn) (opc : Nat), e.2 (x.withOpc opc) = e.2 x := by
  simp only [multiplyOps, List.forall_mem_cons]
  refine ⟨?_, ?_, ?_, ?_, ?_, ?_, ?_, ?_, ?_, ?_, ?_, ?_, ?_, ?_, ?_, ?_, ?_, ?_, ?_, ?_, List.forall_mem_nil _⟩ <;>
    (intro x opc; simp [clMac, clMach, clMacx, clAcld, clSacq, clSaci, clSach, clSacd, clSacdi, clSacw, clMul, clMulq, clMulh, clMulhq,
      clMuld, clFadd, clFsub, clFmul, clFma, clFnma, x.opt_withOpc])

theorem slotM_cases (h : OpHead) : slotM h = 0 ∨ slotM h = 1 := by
  cases ha : h.alt <;> simp [slotM, ha]

theorem slotM_lt (h : OpHead) : slotM h < 8 := by
  obtain hs | hs := slotM_cases h <;> omega

theorem multiply_codeNames (h : OpHead) {opc : Nat} {k : ClIn → Bool × ClEff} (hk : (opc, k) ∈ multiplyOps) : CodeNames (slotM h) opc k :=
  ⟨multiplyOps_opc_lt _ hk, fun l x hs => clOp_multiply _ hk l x (hs ▸ slotM_cases h), multiply_withOpc _ hk⟩

/-! ### Legal operands (R163, R164) -/

theorem acF_of_lt {r : Nat} (h : r < 8) : acF r = true := decide_eq_true h
theorem evenR_of_mod {r : Nat} (h : r % 2 = 0) : evenR r = true := beq_iff_eq.2 h

theorem clAcld_legal {x : ClIn} (hd : x.dst < 8) (ha : x.opt 0 = true ∨ x.srca % 2 = 0) : (clAcld x).1 = true :=
  Bool.and_eq_true_iff.2 ⟨acF_of_lt hd, Bool.or_eq_true_iff.2 (ha.imp_right evenR_of_mod)⟩

theorem clSacw_legal {x : ClIn} (ha : x.srca < 8) (hd : x.dst % 2 = 0) : (clSacw x).1 = true :=
  Bool.and_eq_true_iff.2 ⟨acF_of_lt ha, evenR_of_mod hd⟩

/-! ### Products as the vector lane gives them (R168) -/

theorem clMul_eq (x : ClIn) : clMul x = (true, x.toD (satOrWrap 36 (x.opt 0) (sext 36 x.a * sext 36 x.b)) 4) := rfl
theorem clMulq_eq (x : ClIn) : clMulq x = (true, x.toD (roundSat (x.opt 3) 36 35 (sext 36 x.a * sext 36 x.b)) 4) := rfl
theorem clMulh_eq (x : ClIn) :
    clMulh x = (true, x.toD (perHalf (fun p q _ => satOrWrap 18 (x.opt 0) (sext 18 p * sext 18 q)) x.a x.b 0) 4) := rfl
theorem clMulhq_eq (x : ClIn) :
    clMulhq x = (true, x.toD (perHalf (fun p q _ => roundSat (x.opt 3) 18 17 (sext 18 p * sext 18 q)) x.a x.b 0) 4) := rfl

/-- Settles O11: each operation's code, legality and effect give what it puts in flight. -/
theorem clusterMultiplyUnits : Obligations.ClusterMultiplyUnits := by
  unfold Obligations.ClusterMultiplyUnits
  intro s n h b hr hl hc x one two
  have next {opc : Nat} {k : ClIn → Bool × ClEff} (hk : (opc, k) ∈ multiplyOps) {d : ClDst} {v : Nat × Arf} {lat : Nat}
      (ho : k x = (true, .one d v lat)) :=
    unit_one (b := b) hr hl hc (slotM_lt h) (multiply_codeNames h hk) ho
  have next2 {opc : Nat} {k : ClIn → Bool × ClEff} (hk : (opc, k) ∈ multiplyOps) {v : Nat × Arf} {lat : Nat}
      (ho : k x = (true, x.toDD v lat)) :=
    unit_toDD (b := b) hr hl hc (slotM_lt h) (multiply_codeNames h hk) ho
  simp only [List.forall_mem_cons]
  refine ⟨fun hd => ?accumulate, fun hd ha => ?load, fun ha => ?store, fun ha hd => ?storeDouble, ?multiply, fun hd => ?multiplyDouble,
    fun rm hrm => ?float⟩
  case accumulate =>
    exact ⟨next (k := clMac) (by simp [multiplyOps]) (Prod.ext (acF_of_lt hd) rfl),
      next (k := clMach) (by simp [multiplyOps]) (Prod.ext (acF_of_lt hd) rfl),
      next (k := clMacx) (by simp [multiplyOps]) (Prod.ext (acF_of_lt hd) rfl), List.forall_mem_nil _⟩
  case load => exact next (k := clAcld) (by simp [multiplyOps]) (Prod.ext (clAcld_legal hd ha) rfl)
  case store =>
    exact ⟨next (k := clSacq) (by simp [multiplyOps]) (Prod.ext (acF_of_lt ha) rfl),
      next (k := clSaci) (by simp [multiplyOps]) (Prod.ext (acF_of_lt ha) rfl),
      next (k := clSach) (by simp [multiplyOps]) (Prod.ext (acF_of_lt ha) rfl),
      next (k := clSacd) (by simp [multiplyOps]) (Prod.ext (acF_of_lt ha) rfl),
      next (k := clSacdi) (by simp [multiplyOps]) (Prod.ext (acF_of_lt ha) rfl), List.forall_mem_nil _⟩
  case storeDouble => exact next2 (k := clSacw) (by simp [multiplyOps]) (Prod.ext (clSacw_legal ha hd) rfl)
  case multiply =>
    exact ⟨next (by simp [multiplyOps]) (clMul_eq x), next (by simp [multiplyOps]) (clMulq_eq x),
      next (by simp [multiplyOps]) (clMulh_eq x), next (by simp [multiplyOps]) (clMulhq_eq x), List.forall_mem_nil _⟩
  case multiplyDouble => exact next2 (k := clMuld) (by simp [multiplyOps]) (Prod.ext (evenR_of_mod hd) rfl)
  case float =>
    exact ⟨next (k := clFadd) (by simp [multiplyOps]) (clFp_some hrm _ _), next (k := clFsub) (by simp [multiplyOps]) (clFp_some hrm _ _),
      next (k := clFmul) (by simp [multiplyOps]) (clFp_some hrm _ _), next (k := clFma) (by simp [multiplyOps]) (clFp_some hrm _ _),
      next (k := clFnma) (by simp [multiplyOps]) (clFp_some hrm _ _), List.forall_mem_nil _⟩

end Sys2Proof.Machine

/-! SUPPORT. The arithmetic units of a signal cluster (Table COP-3): their operation codes, and the lane operations that give their results. -/

namespace Sys2Proof.Machine

/-! ### The operands under an operation code -/

section WithOpc
variable (x : ClIn) (opc : Nat)

@[simp] theorem clA_withOpc (op : Nat) (o sat conv : Bool) (mod q : Nat) : clA (x.withOpc opc) op o sat conv mod q = clA x op o sat conv mod q := by
  simp [clA]
@[simp] theorem ClIn.imm10_withOpc : (x.withOpc opc).imm10 = x.imm10 := by simp [ClIn.imm10, x.f_withOpc]
@[simp] theorem ClIn.toC_withOpc : (x.withOpc opc).toC = x.toC := by funext v; simp [ClIn.toC, x.f_withOpc]
@[simp] theorem ClIn.cmpCode_withOpc : (x.withOpc opc).cmpCode = x.cmpCode := x.f_withOpc opc (by decide) (by decide)
@[simp] theorem cmpF_withOpc (low : Bool) (codes : Nat) : cmpF (x.withOpc opc) low codes = cmpF x low codes := by simp [cmpF, x.f_withOpc]
@[simp] theorem ClIn.cSrc_withOpc (i : Nat) : (x.withOpc opc).cSrc i = x.cSrc i := (rfl)

end WithOpc

/-! ### Operation codes (Table COP-3) -/

/-- The operations of the arithmetic units with one code and 22 operand bits each. -/
def arithmeticOps : List (Nat × (ClIn → Bool × ClEff)) :=
  [(0x01, clAdd), (0x02, clSub), (0x03, clAddi), (0x04, clNeg), (0x05, clAbs), (0x06, clMin), (0x07, clMax), (0x08, clAnd), (0x09, clOr),
    (0x0A, clXor), (0x0B, clAndn), (0x0C, clNot), (0x0D, clMov), (0x10, clShl), (0x11, clShra), (0x12, clShrl), (0x13, clShli),
    (0x14, clShrai), (0x15, clShrli), (0x18, clCmp), (0x19, clCmpu), (0x1A, clFcmp), (0x1B, clCmpi), (0x1C, clClog), (0x20, clMvr),
    (0x21, clMvri), (0x22, clGetr)]

theorem arithmeticOps_opc_lt : ∀ e ∈ arithmeticOps, e.1 < 64 := by simp [arithmeticOps]

theorem clOp_arithmetic :
    ∀ e ∈ arithmeticOps, ∀ (l : Nat) (x : ClIn), x.slot = 2 ∨ x.slot = 3 → x.f 27 22 = e.1 → clOp l x = some (e.2 x) := by
  simp only [arithmeticOps, List.forall_mem_cons]
  refine ⟨?_, ?_, ?_, ?_, ?_, ?_, ?_, ?_, ?_, ?_, ?_, ?_, ?_, ?_, ?_, ?_, ?_, ?_, ?_, ?_, ?_, ?_, ?_, ?_, ?_, ?_, ?_, List.forall_mem_nil _⟩ <;>
    (intro l x hs ho; unfold clOp; rw [ho]; obtain hs | hs := hs <;> rw [hs] <;> rfl)

/-- None of them depends on BODY beyond its 22 operand bits. -/
theorem arithmetic_withOpc : ∀ e ∈ arithmeticOps, ∀ (x : ClIn) (opc : Nat), e.2 (x.withOpc opc) = e.2 x := by
  simp only [arithmeticOps, List.forall_mem_cons]
  refine ⟨?_, ?_, ?_, ?_, ?_, ?_, ?_, ?_, ?_, ?_, ?_, ?_, ?_, ?_, ?_, ?_, ?_, ?_, ?_, ?_, ?_, ?_, ?_, ?_, ?_, ?_, ?_, List.forall_mem_nil _⟩ <;>
    (intro x opc; simp [clAdd, clSub, clAddi, clNeg, clAbs, clMin, clMax, clAnd, clOr, clXor, clAndn, clNot, clMov, clShl, clShra, clShrl,
      clShli, clShrai, clShrli, clCmp, clCmpu, clFcmp, clCmpi, clClog, clMvr, clMvri, clGetr, x.f_withOpc, x.opt_withOpc])

theorem slotA_cases (h : OpHead) : slotA h = 2 ∨ slotA h = 3 := by
  cases ha : h.alt <;> simp [slotA, ha]

theorem slotA_lt (h : OpHead) : slotA h < 8 := by
  obtain hs | hs := slotA_cases h <;> omega

theorem arithmetic_codeNames (h : OpHead) {opc : Nat} {k : ClIn → Bool × ClEff} (hk : (opc, k) ∈ arithmeticOps) :
    CodeNames (slotA h) opc k :=
  ⟨arithmeticOps_opc_lt _ hk, fun l x hs => clOp_arithmetic _ hk l x (hs ▸ slotA_cases h), arithmetic_withOpc _ hk⟩

/-! ### The lanes on a word or on both halves (R169) -/

/-- A function of a width and two operands, on the word or, under `o`, on each of both halves. -/
def wordOrHalves (o : Bool) (f : Nat → Nat → Nat → Nat × Arf) (p q : Nat) : Nat × Arf :=
  if o then perHalf (fun p q _ => f 18 p q) p q 0 else f 36 p q

section Lanes
variable (o sat conv : Bool) (mod p q : Nat)

theorem lane2_add : lane2 0x002 (if o then 2 else 0) sat conv mod p q =
    wordOrHalves o (fun w p q => satOrWrap w sat (sext w p + sext w q)) p q := by cases o <;> rfl
theorem lane2_sub : lane2 0x003 (if o then 2 else 0) sat conv mod p q =
    wordOrHalves o (fun w p q => satOrWrap w sat (sext w p - sext w q)) p q := by cases o <;> rfl
theorem lane2_neg : lane2 0x004 (if o then 2 else 0) sat conv mod p 0 =
    wordOrHalves o (fun w p _ => satOrWrap w sat (-(sext w p))) p 0 := by cases o <;> rfl
theorem lane2_abs : lane2 0x005 (if o then 2 else 0) sat conv mod p 0 =
    wordOrHalves o (fun w p _ => satOrWrap w sat (sext w p).natAbs) p 0 := by cases o <;> rfl
theorem lane2_min : lane2 0x006 (if o then 2 else 0) sat conv mod p q =
    wordOrHalves o (fun w p q => noFl (if sext w q < sext w p then q else p)) p q := by cases o <;> rfl
theorem lane2_max : lane2 0x007 (if o then 2 else 0) sat conv mod p q =
    wordOrHalves o (fun w p q => noFl (if sext w p < sext w q then q else p)) p q := by cases o <;> rfl

/-- `cnt w q` is the shift count that MOD selects for an element of width `w` and an operand B of `q` (Table VIN-2). -/
def ShiftCount (mod : Nat) (cnt : Nat → Nat → Nat) : Prop := ∀ w q, min (if bit mod 6 then q % 64 else mod % 64) w = cnt w q

/-- The count that a shift by register takes. -/
def registerCount (w q : Nat) : Nat := min (q % 64) w
/-- The count that a shift by the immediate `k` takes. -/
def immediateCount (k w _q : Nat) : Nat := min k w

theorem shiftCount_register : ShiftCount 64 registerCount := fun _ _ => rfl

theorem shiftCount_immediate {k : Nat} (hk : k < 64) : ShiftCount k (immediateCount k) := by
  intro w q
  have hbit : bit k 6 = false := by rw [bit, Nat.div_eq_of_lt (by simpa using hk)]; rfl
  rw [hbit, if_neg Bool.false_ne_true, Nat.mod_eq_of_lt hk, immediateCount]

variable {mod} {cnt : Nat → Nat → Nat} (hcnt : ShiftCount mod cnt)
include hcnt

theorem lane2_shl : lane2 0x00D (if o then 2 else 0) sat conv mod p q =
    wordOrHalves o (fun w p q => satOrWrap w sat (sext w p * 2 ^ cnt w q)) p q := by
  simp only [← hcnt _ _]
  cases o <;> rfl
theorem lane2_shra : lane2 0x00E (if o then 2 else 0) sat conv mod p q =
    wordOrHalves o (fun w p q => noFl (toBits w (dropBits conv (sext w p) (cnt w q)))) p q := by
  simp only [← hcnt _ _]
  cases o <;> rfl
theorem lane2_shrl : lane2 0x00F (if o then 2 else 0) sat conv mod p q =
    wordOrHalves o (fun w p q => noFl (p / 2 ^ cnt w q)) p q := by
  simp only [← hcnt _ _]
  cases o <;> rfl

end Lanes

/-! ### In flight -/

section Arithmetic
variable {s : State} {n : Nat} {h : OpHead} {b : BitVec 22} (hr : s.clReady n) (hl : h.last = true)
  (hc : clCond s n h.cond.toNat = true) {opc : Nat} {k : ClIn → Bool × ClEff} (hk : (opc, k) ∈ arithmeticOps)
include hr hl hc hk

theorem arithmetic_one {d : ClDst} {v : Nat × Arf} {lat : Nat} (ho : k (clIn s n (slotA h) b) = (true, .one d v lat)) :
    ∃ t, gateCl n s (clIssue n (opWord22 h (slotA h) opc b)) = .next t ∧ s.oneOp t n [unitFly s n (slotA h) d v lat] [] :=
  unit_one hr hl hc (slotA_lt h) (arithmetic_codeNames h hk) ho

/-- An operation that is a lane operation of the vector pipes puts the lane's value in flight. -/
theorem arithmetic_lane {op mod q : Nat} {o sat conv : Bool} {v : Nat × Arf}
    (ho : k (clIn s n (slotA h) b) = (true, clA (clIn s n (slotA h) b) op o sat conv mod q))
    (hv : lane2 op (if o then 2 else 0) sat conv mod (clIn s n (slotA h) b).a q = v) :
    ∃ t, gateCl n s (clIssue n (opWord22 h (slotA h) opc b)) = .next t ∧
      s.oneOp t n [unitFly s n (slotA h) (.d ((clIn s n (slotA h) b).phys (clIn s n (slotA h) b).dst)) v 1] [] :=
  arithmetic_one hr hl hc hk (hv ▸ ho)

end Arithmetic

theorem ClIn.f_lt (x : ClIn) (hi lo : Nat) : x.f hi lo < 2 ^ (hi + 1 - lo) := Nat.mod_lt _ (Nat.two_pow_pos _)

/-- Settles O12: each operation's code, legality and lane give what it puts in flight. -/
theorem clusterArithmeticUnits : Obligations.ClusterArithmeticUnits := by
  unfold Obligations.ClusterArithmeticUnits
  intro s n h b hr hl hc x one halves cnt
  have next {opc : Nat} {k : ClIn → Bool × ClEff} (hk : (opc, k) ∈ arithmeticOps) {d : ClDst} {v : Nat × Arf}
      (ho : k x = (true, .one d v 1)) := arithmetic_one (b := b) hr hl hc hk ho
  have lane {opc : Nat} {k : ClIn → Bool × ClEff} (hk : (opc, k) ∈ arithmeticOps) {op mod q : Nat} {o sat conv : Bool} {v : Nat × Arf}
      (ho : k x = (true, clA x op o sat conv mod q)) (hv : lane2 op (if o then 2 else 0) sat conv mod x.a q = v) :=
    arithmetic_lane (b := b) hr hl hc hk ho hv
  have himmediate : ShiftCount (x.f 5 0) (immediateCount (x.f 5 0)) := shiftCount_immediate (x.f_lt 5 0)
  simp only [List.forall_mem_cons]
  refine ⟨?two, fun hb => ?single, fun hbit => ?immediate, ?moveImmediate, fun hz => ?move⟩
  case two =>
    exact ⟨lane (k := clAdd) (by simp [arithmeticOps]) rfl (lane2_add ..), lane (k := clSub) (by simp [arithmeticOps]) rfl (lane2_sub ..),
      next (k := clAddi) (by simp [arithmeticOps]) rfl, lane (k := clMin) (by simp [arithmeticOps]) rfl (lane2_min ..),
      lane (k := clMax) (by simp [arithmeticOps]) rfl (lane2_max ..), next (k := clAnd) (by simp [arithmeticOps]) rfl,
      next (k := clOr) (by simp [arithmeticOps]) rfl, next (k := clXor) (by simp [arithmeticOps]) rfl,
      next (k := clAndn) (by simp [arithmeticOps]) rfl, lane (k := clShl) (by simp [arithmeticOps]) rfl
        (lane2_shl (cnt := registerCount) (x.opt 3) (x.opt 2) false x.a x.b shiftCount_register),
      lane (k := clShra) (by simp [arithmeticOps]) rfl
        (lane2_shra (cnt := registerCount) (x.opt 3) false (x.opt 1) x.a x.b shiftCount_register),
      lane (k := clShrl) (by simp [arithmeticOps]) rfl
        (lane2_shrl (cnt := registerCount) (x.opt 3) false false x.a x.b shiftCount_register), List.forall_mem_nil _⟩
  case single =>
    have hlegal : decide (x.srcb = 0) = true := decide_eq_true hb
    exact ⟨lane (k := clNeg) (by simp [arithmeticOps]) (Prod.ext hlegal rfl) (lane2_neg ..),
      lane (k := clAbs) (by simp [arithmeticOps]) (Prod.ext hlegal rfl) (lane2_abs ..),
      next (k := clNot) (by simp [arithmeticOps]) (Prod.ext hlegal rfl),
      next (k := clMov) (by simp [arithmeticOps]) (Prod.ext hlegal rfl), List.forall_mem_nil _⟩
  case immediate =>
    have hlegal : (!x.opt 6) = true := by rw [hbit]; rfl
    exact ⟨lane (k := clShli) (by simp [arithmeticOps]) (Prod.ext hlegal rfl)
        (lane2_shl (cnt := immediateCount (x.f 5 0)) (x.opt 8) (x.opt 9) false x.a 0 himmediate),
      lane (k := clShrai) (by simp [arithmeticOps]) (Prod.ext hlegal rfl)
        (lane2_shra (cnt := immediateCount (x.f 5 0)) (x.opt 8) false (x.opt 7) x.a 0 himmediate),
      lane (k := clShrli) (by simp [arithmeticOps]) (Prod.ext hlegal rfl)
        (lane2_shrl (cnt := immediateCount (x.f 5 0)) (x.opt 8) false false x.a 0 himmediate), List.forall_mem_nil _⟩
  case moveImmediate => exact next (k := clMvri) (by simp [arithmeticOps]) rfl
  case move =>
    have hlegal : decide (x.f 9 0 = 0) = true := decide_eq_true hz
    exact ⟨next (k := clMvr) (by simp [arithmeticOps]) (Prod.ext hlegal rfl),
      next (k := clGetr) (by simp [arithmeticOps]) (Prod.ext hlegal rfl)⟩

end Sys2Proof.Machine

/-! SUPPORT. The compares and CLOG of a signal cluster (Table COP-3): when they are legal, and the condition they put in flight (R163, R170). -/

namespace Sys2Proof.Machine

theorem cmpF_legal {x : ClIn} {low : Bool} {codes : Nat} (hd : x.f 21 19 ≠ 0) (hcode : x.f 18 16 < codes)
    (hlow : low = true → x.f 3 0 = 0) : cmpF x low codes = true := by
  have hzero : (!low || decide (x.f 3 0 = 0)) = true := by
    cases low
    · rfl
    · exact decide_eq_true (hlow rfl)
  rw [cmpF, decide_eq_true hd, ClIn.cmpCode, decide_eq_true hcode, hzero]
  rfl

theorem clClog_legal {x : ClIn} (hd : x.f 21 19 ≠ 0) (hz : x.f 10 0 = 0) : (clClog x).1 = true :=
  Bool.and_eq_true_iff.2 ⟨decide_eq_true hd, decide_eq_true hz⟩

/-- Settles O13: each compare's code, legality and relation give the condition it puts in flight. -/
theorem clusterCompares : Obligations.ClusterCompares := by
  unfold Obligations.ClusterCompares
  intro s n h b hr hl hc x one hd
  have next {opc : Nat} {k : ClIn → Bool × ClEff} (hk : (opc, k) ∈ arithmeticOps) {v : Bool × Arf} (ho : k x = (true, x.toC v)) :=
    arithmetic_one (b := b) hr hl hc hk ho
  refine ⟨fun hcode hz => ⟨?signed, ?unsigned⟩, fun hcode hz => ?float, fun hcode => ?immediate, fun hz => ?logic⟩
  case signed => exact next (k := clCmp) (by simp [arithmeticOps]) (Prod.ext (cmpF_legal hd hcode fun _ => hz) rfl)
  case unsigned => exact next (k := clCmpu) (by simp [arithmeticOps]) (Prod.ext (cmpF_legal hd hcode fun _ => hz) rfl)
  case float => exact next (k := clFcmp) (by simp [arithmeticOps]) (Prod.ext (cmpF_legal hd hcode fun _ => hz) rfl)
  case immediate => exact next (k := clCmpi) (by simp [arithmeticOps]) (Prod.ext (cmpF_legal hd hcode nofun) rfl)
  case logic => exact next (k := clClog) (by simp [arithmeticOps]) (Prod.ext (clClog_legal hd hz) rfl)

end Sys2Proof.Machine

/-! SUPPORT. What an operation leaves alone, and the dispatch of an action of Calliope (R184): the state its effect starts from, and the answer. -/

namespace Sys2Proof.Machine

/-! ### Operations that write only certain words -/

/-- From `s` to `t` the module, its queue and its reset requests are the same, and so is every word whose address is not in `P`. -/
structure WritesOnly (P : Nat → Prop) (s t : State) : Prop where
  cfg : t.cfg = s.cfg
  pending : t.pending = s.pending
  rstReq : t.rstReq = s.rstReq
  rd_eq : ∀ a, ¬ P a → rd t a = rd s a

theorem WritesOnly.refl (P : Nat → Prop) (s : State) : WritesOnly P s s := ⟨rfl, rfl, rfl, fun _ _ => rfl⟩

section Writes
variable {P : Nat → Prop} {s t u : State}

theorem WritesOnly.trans (h : WritesOnly P s t) (h' : WritesOnly P t u) : WritesOnly P s u :=
  ⟨h'.cfg.trans h.cfg, h'.pending.trans h.pending, h'.rstReq.trans h.rstReq, fun a ha => (h'.rd_eq a ha).trans (h.rd_eq a ha)⟩

variable (h : WritesOnly P s t)
include h

theorem WritesOnly.mono {Q : Nat → Prop} (hpq : ∀ a, P a → Q a) : WritesOnly Q s t :=
  ⟨h.cfg, h.pending, h.rstReq, fun a ha => h.rd_eq a (ha ∘ hpq a)⟩

/-- A change beside the word store and the reset requests. -/
theorem WritesOnly.beside (hcfg : u.cfg = t.cfg) (hpending : u.pending = t.pending) (hreq : u.rstReq = t.rstReq) (hmem : u.mem = t.mem) :
    WritesOnly P s u :=
  h.trans ⟨hcfg, hpending, hreq, fun a _ => by rw [rd, rd, hcfg, hmem]⟩

theorem WritesOnly.wr {a : Nat} (w : Word) (ha : P a) : WritesOnly P s (Machine.wr t a w) :=
  h.trans ⟨rfl, rfl, rfl, fun _ hb => rd_wr_ne t w fun hx => hb (hx ▸ ha)⟩
theorem WritesOnly.wf {f : Field} (v : Nat) (hf : P f.addr) : WritesOnly P s (Machine.wf t f v) := h.wr _ hf
theorem WritesOnly.wb {f : Field} (b : Bool) (hf : P f.addr) : WritesOnly P s (Machine.wb t f b) := h.wr _ hf
theorem WritesOnly.cnt {f : Field} (hf : P f.addr) : WritesOnly P s (Machine.cnt t f) := h.wr _ hf
theorem WritesOnly.modCal (k : CalSt → CalSt) : WritesOnly P s (Machine.modCal t k) := h.beside rfl rfl rfl rfl
theorem WritesOnly.raise (n : Nat) : WritesOnly P s (Machine.raise t n) := h.beside rfl rfl rfl rfl
theorem WritesOnly.notice (r b n d : Nat) : WritesOnly P s (Machine.notice t r b n d) := h.beside rfl rfl rfl rfl
theorem WritesOnly.trb3 (b : Nat) : WritesOnly P s (Machine.trb3 t b) := h.notice _ _ _ _

theorem WritesOnly.rf_eq {f : Field} (hf : ¬ P f.addr) : rf t f = rf s f := by rw [rf, rf, rdN, rdN, h.rd_eq _ hf]
theorem WritesOnly.rb_eq {f : Field} (hf : ¬ P f.addr) : rb t f = rb s f := by rw [rb, rb, h.rf_eq hf]

omit h in
theorem WritesOnly.foldl {α : Type} {k : State → α → State} {l : List α} (hk : ∀ u, ∀ x ∈ l, WritesOnly P u (k u x)) (s : State) :
    WritesOnly P s (l.foldl k s) :=
  List.foldlRecOn l k (.refl P s) fun u hu x hx => hu.trans (hk u x hx)

end Writes

theorem WritesOnly.sameBut {s t : State} {as : List Nat} (h : WritesOnly (· ∈ as) s t) : s.sameBut t as := h.rd_eq

/-! ### Fields of states that differ beside the word store -/

section Fields
variable (s : State) (f : Field)

@[simp] theorem rf_modCal (k : CalSt → CalSt) : rf (modCal s k) f = rf s f := rfl
@[simp] theorem rf_raise (n : Nat) : rf (raise s n) f = rf s f := rfl
@[simp] theorem rf_notice (r b n d : Nat) : rf (notice s r b n d) f = rf s f := rfl
@[simp] theorem rf_trb3 (b : Nat) : rf (trb3 s b) f = rf s f := rfl
@[simp] theorem rf_took (g i : Nat) : rf (s.took g i) f = rf s f := rfl
@[simp] theorem rb_modCal (k : CalSt → CalSt) : rb (modCal s k) f = rb s f := rfl
@[simp] theorem rb_raise (n : Nat) : rb (raise s n) f = rb s f := rfl
@[simp] theorem rb_notice (r b n d : Nat) : rb (notice s r b n d) f = rb s f := rfl
@[simp] theorem rb_trb3 (b : Nat) : rb (trb3 s b) f = rb s f := rfl
@[simp] theorem rb_took (g i : Nat) : rb (s.took g i) f = rb s f := rfl

variable {s f}
variable {g : Field} (h : f.Apart g)
include h
theorem rb_wf_apart (v : Nat) : rb (wf s f v) g = rb s g := by rw [rb, rb, rf_wf_apart h]
theorem rb_wb_apart (b : Bool) : rb (wb s f b) g = rb s g := rb_wf_apart h _

end Fields

/-! ### Dispatch (R184) -/

theorem calDrain_none {s : State} (h : s.calIn = []) : calDrain s = s := by
  obtain ⟨⟩ := s
  simp only at h
  subst h
  rfl

section Dispatch
variable {s : State} {t : TT} {f i ty : Nat} (h : s.actReady t f i ty)
include h

/-- An action that may be dispatched, is not late and has nothing to wait for takes effect. -/
theorem calAct_ready (k : TT → Nat → State → State) : calAct ty k s = .next (keep s (rstSettle (k t i (s.took f i)))) := by
  obtain ⟨hlive, hnext, hty, hlates, hin, -⟩ := h
  rw [calAct, gateRst_live hlive]
  have hdrain : calDrain (s.took f i) = s.took f i := calDrain_none hin
  simp only [hnext, hty, hlates, List.find?_nil, ne_eq, not_true_eq_false, if_false]
  exact congrArg (fun u => Host.Outcome.next (keep s (rstSettle (k t i u)))) hdrain

theorem calAct_of_eq {k : TT → Nat → State → State} {v : State} (hv : k t i (s.took f i) = v) :
    calAct ty k s = .next (keep s (rstSettle v)) := by rw [calAct_ready h, hv]

omit h in
theorem settled_of_writesOnly {v : State} {P : Nat → Prop} (hreq : s.rstReq = []) (hk : WritesOnly P s v) : keep s (rstSettle v) = v := by
  rw [rstSettle_none (hk.rstReq.trans hreq), keep_eq hk.cfg hk.pending]

/-- An effect that requests no reset is the answer. -/
theorem calAct_next {k : TT → Nat → State → State} {v : State} {P : Nat → Prop} (hv : k t i (s.took f i) = v) (hk : WritesOnly P s v) :
    calAct ty k s = .next v := by
  obtain ⟨-, -, -, -, -, hreq⟩ := id h
  rw [calAct_of_eq h hv, settled_of_writesOnly hreq hk]

theorem State.actReady.act : s.cal.act = some t := by
  obtain ⟨-, hnext, -⟩ := h
  simp only [nextAct] at hnext
  split at hnext
  next t' a hact _ =>
    split at hnext
    next => cases hnext; exact hact
    next => cases hnext
  next => cases hnext

end Dispatch

theorem writesOnly_took (P : Nat → Prop) (s : State) (f i : Nat) : WritesOnly P s (s.took f i) := (WritesOnly.refl P s).modCal _

/-! ### Faults under the policy CONTINUE (Table TTB-6) -/

theorem calPolicy_continue {s : State} {t : TT} {k : Nat} (hact : s.cal.act = some t) (hp : hdrPolicy t.hdr k % 4 = 0) (skip : State → State) :
    calPolicy s k skip = s := by
  rw [calPolicy, hact]
  simp [hp]

theorem calFault_continue {s : State} {t : TT} {k : Nat} (hact : s.cal.act = some t) (hp : hdrPolicy t.hdr k % 4 = 0) (f : Field)
    (b src : Nat) (skip : State → State) : calFault s f b src k skip = trb3 (raise (wb s f true) src) b :=
  calPolicy_continue (s := trb3 (raise (wb s f true) src) b) hact hp skip

/-- What a counted fault about action `ix` leaves under CONTINUE: LAST_ACTION, its count, its status bit, its source, its trouble bit. -/
def calMarked (s : State) (f c : Field) (b src ix : Nat) : State := trb3 (raise (wb (cnt (lastAct s ix) c) f true) src) b

theorem writesOnly_calMarked {P : Nat → Prop} (s : State) {f c : Field} (b src ix : Nat) (hl : P R.calLAST_ACTION.addr) (hc : P c.addr)
    (hf : P f.addr) : WritesOnly P s (calMarked s f c b src ix) :=
  (((((WritesOnly.refl P s).wf _ hl).cnt hc).wb _ hf).raise _).trb3 _

/-- The status bit `f`, the count `c` and LAST_ACTION share no bit. -/
abbrev FaultFields (f c : Field) : Prop :=
  (f.lo = f.hi ∧ f.hi < 36 ∧ c.lo ≤ c.hi ∧ c.hi < 36) ∧ f.Apart c ∧ f.Apart R.calLAST_ACTION ∧ c.Apart R.calLAST_ACTION ∧
    R.calLAST_ACTION.Apart c

theorem calMarked_fields {f c : Field} (h : FaultFields f c) (s : State) (b src ix : Nat) :
    rb (calMarked s f c b src ix) f = true ∧ rf (calMarked s f c b src ix) c = min (rf s c + 1) (2 ^ (c.hi + 1 - c.lo) - 1) ∧
    rf (calMarked s f c b src ix) R.calLAST_ACTION = ix % 2 ^ 15 := by
  obtain ⟨⟨hf, hfhi, hc, hchi⟩, hfc, hfl, hcl, hlc⟩ := h
  simp only [calMarked, lastAct, rb_trb3, rb_raise, rf_trb3, rf_raise]
  refine ⟨rb_wb_same _ _ _ hf hfhi, ?_, ?_⟩
  · rw [rf_wb_apart hfc, rf_cnt_same _ _ hc hchi, rf_wf_apart hlc]
  · rw [rf_wb_apart hfl, rf_cnt_apart hcl]
    exact rf_wf_same _ R.calLAST_ACTION _ (by decide) (by decide)

end Sys2Proof.Machine

/-! SUPPORT. Calliope's actions on clusters, vector pipes and ownership (R93, R104, R105, R145, R152, R154, R188, R189, R192). -/

namespace Sys2Proof.Machine

/-! ### Starts and deadlines of clusters (R152, R154, R189, R192) -/

/-- The unit word of the clusters of a list that are not ON, as CLUSTER_START adds it up. -/
def clustersOff (s : State) (ns : List Nat) : Nat := ns.foldl (fun m n => if rf s (R.scUNIT_STATE n) ≠ usON then m + 2 ^ n else m) 0

theorem clustersOff_eq_zero {s : State} {ns : List Nat} (hon : ∀ n ∈ ns, rf s (R.scUNIT_STATE n) = usON) : clustersOff s ns = 0 :=
  List.foldlRecOn (motive := fun m => m = 0) ns _ rfl fun m hm n hn => by rw [if_neg (not_not.2 (hon n hn)), hm]
theorem clustersOff_singleton {s : State} {n : Nat} (hoff : rf s (R.scUNIT_STATE n) ≠ usON) : clustersOff s [n] = 2 ^ n := by
  simp [clustersOff, hoff]

theorem resLoss_zero (s : State) (ix : Nat) : resLoss s 0 ix = s := if_pos rfl

/-- The state a missed deadline of cluster `n` leaves under CONTINUE (R192). -/
def deadlineMissed (s : State) (n ix : Nat) : State :=
  calMarked (wb s (R.scDL_MISS n) true) R.calDEADLINE_MISS R.calDEADLINE_MISS_CNT 2 26 ix

section Actions
variable {s : State} {t : TT} {f i : Nat}

/-- A start that finds no cluster ON and still running raises no DEADLINE fault. -/
theorem clusterStart_timely (h : s.actReady t f i 0x1)
    (htimely : ∀ n ∈ maskCl s (actArg0 t i), rf s (R.scUNIT_STATE n) = usON → clBusy s n = false) : exec .clusterStart s =
      .next (keep s (rstSettle (resLoss ((maskCl s (actArg0 t i)).foldl (fun x n => clStart x n (actW t i 1 % 2 ^ 16)) (s.took f i))
        (clustersOff s (maskCl s (actArg0 t i))) i))) := by
  have hlate : (maskCl s (actArg0 t i)).any (fun n => decide (rf s (R.scUNIT_STATE n) = usON) && clBusy s n) = false := by
    simpa using htimely
  change execClusterStart s = _
  unfold execClusterStart
  exact calAct_of_eq h (if_neg (ne_true_of_eq_false hlate))

theorem clusterDeadline_met (h : s.actReady t f i 0x2) (hover : ∀ n ∈ maskCl s (actArg0 t i), runState s n = rsHALTED) :
    exec .clusterDeadline s = .next (s.took f i) := by
  have hnone : (maskCl s (actArg0 t i)).filter (fun n => decide (runState s n ≠ rsHALTED)) = [] := by simpa using hover
  change execClusterDeadline s = _
  unfold execClusterDeadline
  exact calAct_next h (if_pos (congrArg List.isEmpty hnone)) (writesOnly_took (· ∈ []) s f i)

theorem writesOnly_deadlineMissed (s : State) (n ix : Nat) :
    WritesOnly (· ∈ [(R.scDL_MISS n).addr, R.calDEADLINE_MISS.addr, R.calDEADLINE_MISS_CNT.addr, R.calLAST_ACTION.addr]) s
      (deadlineMissed s n ix) :=
  ((WritesOnly.refl _ s).wb _ (by simp)).trans (writesOnly_calMarked _ _ _ _ (by simp) (by simp) (by simp))

theorem clusterDeadline_missed {n : Nat} (h : s.actReady t f i 0x2)
    (hmiss : (maskCl s (actArg0 t i)).filter (fun n => decide (runState s n ≠ rsHALTED)) = [n]) (hstop : hdrDlStop t.hdr = false)
    (hpol : hdrPolicy t.hdr 2 % 4 = 0) : exec .clusterDeadline s = .next (deadlineMissed (s.took f i) n i) := by
  change execClusterDeadline s = _
  unfold execClusterDeadline
  refine calAct_next h ?_ ((writesOnly_took _ s f i).trans (writesOnly_deadlineMissed (s.took f i) n i))
  have hlist : (maskCl (s.took f i) (actArg0 t i)).filter (fun n => decide (runState (s.took f i) n ≠ rsHALTED)) = [n] := hmiss
  simp only [hlist, hstop, List.isEmpty_cons, Bool.false_eq_true, if_false, List.foldl_cons, List.foldl_nil]
  refine calFault_continue ?_ hpol _ _ _ _
  exact h.act

end Actions

theorem scDL_MISS_ne_cal (n : Nat) : ∀ o, o < 0x10000 → blkBase .cal 0 + o ≠ (R.scDL_MISS n).addr := by
  simp only [R.scDL_MISS, blkBase]
  omega

theorem deadlineMissed_fields (s : State) (n ix : Nat) :
    rb (deadlineMissed s n ix) (R.scDL_MISS n) = true ∧ rb (deadlineMissed s n ix) R.calDEADLINE_MISS = true ∧
    rf (deadlineMissed s n ix) R.calDEADLINE_MISS_CNT = min (rf s R.calDEADLINE_MISS_CNT + 1) (2 ^ 36 - 1) ∧
    rf (deadlineMissed s n ix) R.calLAST_ACTION = ix % 2 ^ 15 := by
  obtain ⟨hmiss, hcnt, hlast⟩ := calMarked_fields (f := R.calDEADLINE_MISS) (c := R.calDEADLINE_MISS_CNT) (by decide)
    (wb s (R.scDL_MISS n) true) 2 26 ix
  refine ⟨?_, hmiss, ?_, hlast⟩
  · have hw : WritesOnly (fun a => ∃ o < 0x10000, a = blkBase .cal 0 + o) (wb s (R.scDL_MISS n) true) (deadlineMissed s n ix) :=
      writesOnly_calMarked _ _ _ _ ⟨7, by decide, rfl⟩ ⟨0xA, by decide, rfl⟩ ⟨5, by decide, rfl⟩
    rw [hw.rb_eq fun ⟨o, ho, ha⟩ => scDL_MISS_ne_cal n o ho ha.symm]
    exact rb_wb_same _ (R.scDL_MISS n) _ rfl (by decide : 2 < 36)
  · rw [deadlineMissed, hcnt, rf_wb_apart (.inl (scDL_MISS_ne_cal n 0xA (by decide)))]
    rfl

/-! ### Vector blocks (R93, R189) -/

/-- From `s` to `t` a present vector pipe `p` is roused: its blocks are the same, and so is the rest of the module but the pipes and its
state word. -/
structure BlocksKept (p : Nat) (s t : State) : Prop where
  writes : WritesOnly (· = vpStateAddr p) s t
  cal : t.cal = s.cal
  vecId : t.vecId = s.vecId
  present : p < t.pipes.length
  blocks : (pipe t p).blocks = (pipe s p).blocks

section Rouse
variable {p : Nat} {s t : State}

theorem writesOnly_modPipe (s : State) (p : Nat) (k : PipeSt → PipeSt) : WritesOnly (· = vpStateAddr p) s (modPipe s p k) :=
  ((WritesOnly.refl (· = vpStateAddr p) s).beside (u := { s with pipes := s.pipes.set p (k (pipe s p)) }) rfl rfl rfl rfl).wf
    (f := R.vpCAL_Q p) _ rfl
    |>.wf (f := R.vpRM_Q p) _ rfl

variable (h : BlocksKept p s t)
include h

theorem BlocksKept.modPipe {k : PipeSt → PipeSt} (hk : ∀ q, (k q).blocks = q.blocks) : BlocksKept p s (Machine.modPipe t p k) where
  writes := h.writes.trans (writesOnly_modPipe t p k)
  cal := h.cal
  vecId := h.vecId
  present := h.present.trans_eq (by simp [Machine.modPipe])
  blocks := by rw [pipe_modPipe_same h.present, hk, h.blocks]

theorem BlocksKept.power (v : Nat) : BlocksKept p s (wf t (R.vpPOWER p) v) := ⟨h.writes.wf v rfl, h.cal, h.vecId, h.present, h.blocks⟩

theorem BlocksKept.rouse (issue : Bool) : BlocksKept p s (pipeRouse t p issue) := by
  have hwait (c : Prop) [Decidable c] :
      BlocksKept p s (if c then Machine.modPipe t p fun q => { q with waitFrom := some t.now } else t) := by
    split
    · exact h.modPipe fun _ => rfl
    · exact h
  unfold pipeRouse
  dsimp only
  split
  · exact (hwait _).modPipe fun _ => rfl
  · exact hwait _
  · refine iteInduction (fun _ => (hwait _).modPipe fun _ => rfl) fun _ => iteInduction (fun _ => (hwait _).power _) fun _ => hwait _

end Rouse

section Blocks
variable {s : State} {t : TT} {f i : Nat}

/-- The block of a VECTOR_BLOCK (Table TTB-2). -/
def actBlock (s : State) (t : TT) (i : Nat) : VBlock := ⟨s.vecId, actW t i 1, actW t i 2 % 2 ^ 24, 0, 0⟩

/-- Block `b` is queued on pipe `p`, for action `i` of Calliope. -/
def blockQueued (s : State) (p i : Nat) (b : VBlock) : State :=
  modCal (modPipe { s with vecId := s.vecId + 1 } p fun q => { q with blocks := q.blocks ++ [b] })
    fun c => { c with blks := c.blks ++ [(p, s.vecId)], blkIx := c.blkIx.set p i }

theorem writesOnly_blockQueued (s : State) (p i : Nat) (b : VBlock) : WritesOnly (· = vpStateAddr p) s (blockQueued s p i b) :=
  ((WritesOnly.refl _ s).beside (u := { s with vecId := s.vecId + 1 }) rfl rfl rfl rfl).trans (writesOnly_modPipe _ p _) |>.modCal _

theorem blocks_blockQueued {s : State} {p : Nat} (hp : p < s.pipes.length) (i : Nat) (b : VBlock) :
    (pipe (blockQueued s p i b) p).blocks = (pipe s p).blocks ++ [b] := by
  change (pipe (modPipe { s with vecId := s.vecId + 1 } p fun q => { q with blocks := q.blocks ++ [b] }) p).blocks = _
  rw [pipe_modPipe_same (s := { s with vecId := s.vecId + 1 }) hp]
  rfl

theorem vectorBlock_on (h : s.actReady t f i 0x3) (hup : isUp s iVEC = true) (hp : actArg0 t i % 4 < s.cfg.part.pipes)
    (hlen : s.pipes.length = s.cfg.part.pipes) (hon : rf s (R.vpUNIT_STATE (actArg0 t i % 4)) = usON) :
    ∃ v, exec .vectorBlock s = .next v ∧ v.vecId = s.vecId + 1 ∧
      (pipe v (actArg0 t i % 4)).blocks = (pipe s (actArg0 t i % 4)).blocks ++ [actBlock s t i] ∧
      v.cal.blks = s.cal.blks ++ [(actArg0 t i % 4, s.vecId)] ∧ v.cal.ix = i + 1 := by
  generalize harg : actArg0 t i % 4 = p at *
  have hp' : p < s.pipes.length := hlen ▸ hp
  have hq : BlocksKept p (blockQueued (s.took f i) p i (actBlock s t i)) (blockQueued (s.took f i) p i (actBlock s t i)) :=
    ⟨.refl _ _, rfl, rfl, hp'.trans_eq (by simp [blockQueued, modPipe, modCal, State.took]), rfl⟩
  have hr := hq.rouse true
  refine ⟨_, ?_, hr.vecId, ?_, congrArg CalSt.blks hr.cal, congrArg CalSt.ix hr.cal⟩
  · change execVectorBlock s = _
    unfold execVectorBlock
    refine calAct_next h ?_ (((writesOnly_took _ s f i).trans (writesOnly_blockQueued ..)).trans hr.writes)
    simp only [harg]
    rw [if_pos]
    · rfl
    · exact ⟨hup, hp, hon⟩
  · exact hr.blocks.trans (blocks_blockQueued hp' i _)

theorem vectorBlock_off (h : s.actReady t f i 0x3) (hoff : rf s (R.vpUNIT_STATE (actArg0 t i % 4)) ≠ usON) :
    exec .vectorBlock s = .next (keep s (rstSettle (resLoss (s.took f i) (2 ^ (16 + actArg0 t i % 4)) i))) := by
  change execVectorBlock s = _
  unfold execVectorBlock
  exact calAct_of_eq h (if_neg fun hx => hoff hx.2.2)

end Blocks

/-! ### Wakes, sleeps and ownership (R104, R105, R145, R157) -/

section Masks
variable {s : State} {t : TT} {f i : Nat}

theorem wake_masks (h : s.actReady t f i 0xA) : exec .wake s = .next (keep s (rstSettle ((maskVp s (actW t i 1)).foldl
    (fun x p => pipeRouse x p false) ((maskCl s (actArg0 t i)).foldl clWake (s.took f i))))) := by
  change execWake s = _
  exact calAct_ready h _
theorem sleep_masks (h : s.actReady t f i 0xB) : exec .sleep s = .next (keep s (rstSettle ((maskVp s (actW t i 1)).foldl
    pipeSleep ((maskCl s (actArg0 t i)).foldl clSleep (s.took f i))))) := by
  change execSleep s = _
  exact calAct_ready h _

/-- OWN_X and OWN_Y of cluster `n` are written as ARG1 gives them (R145). -/
def owned (w : Nat) (s : State) (n : Nat) : State := wf (wf s (R.scOWN_X n) w) (R.scOWN_Y n) (w / 256)

theorem owned_other {m n : Nat} (hmn : m ≠ n) (w : Nat) (s : State) :
    rf (owned w s n) (R.scOWN_X m) = rf s (R.scOWN_X m) ∧ rf (owned w s n) (R.scOWN_Y m) = rf s (R.scOWN_Y m) := by
  have ha : blkBase .sc m + 9 ≠ blkBase .sc n + 9 := by simp only [blkBase]; omega
  simp only [owned]
  exact ⟨by rw [rf_wf_ne _ _ _ _ ha, rf_wf_ne _ _ _ _ ha], by rw [rf_wf_ne _ _ _ _ ha, rf_wf_ne _ _ _ _ ha]⟩

theorem owned_same (w : Nat) (s : State) (n : Nat) :
    rf (owned w s n) (R.scOWN_X n) = w % 256 ∧ rf (owned w s n) (R.scOWN_Y n) = w / 256 % 256 := by
  constructor
  · rw [owned, rf_wf_apart (by simp [Field.Apart, R.scOWN_X, R.scOWN_Y]), rf_wf_same _ (R.scOWN_X n) _ (by decide : 0 ≤ 7) (by decide : 7 < 36)]
    rfl
  · exact rf_wf_same _ (R.scOWN_Y n) _ (by decide : 8 ≤ 15) (by decide : 15 < 36)

/-- Every cluster of a list that has been gone through has its new ownership. -/
theorem owned_all (w : Nat) (ns : List Nat) (s : State) : ∀ n ∈ ns,
    rf (ns.foldl (owned w) s) (R.scOWN_X n) = w % 256 ∧ rf (ns.foldl (owned w) s) (R.scOWN_Y n) = w / 256 % 256 := by
  induction ns using List.reverseRecOn with
  | nil => simp
  | append_singleton ns m ih =>
    intro n hn
    rw [List.foldl_append, List.foldl_cons, List.foldl_nil]
    by_cases hmn : n = m
    · subst hmn
      exact owned_same w _ n
    · obtain ⟨hx, hy⟩ := owned_other hmn w (ns.foldl (owned w) s)
      rw [hx, hy]
      exact ih n (by simpa [hmn] using hn)

theorem ownership_written (h : s.actReady t f i 0xE) : ∃ v, exec .ownership s = .next v ∧ v.cal = (s.took f i).cal ∧
    (∀ n ∈ maskCl s (actArg0 t i), rf v (R.scOWN_X n) = actW t i 1 % 256 ∧ rf v (R.scOWN_Y n) = actW t i 1 / 256 % 256) ∧
    s.sameBut v ((maskCl s (actArg0 t i)).map fun n => (R.scOWN_X n).addr) := by
  have hw : WritesOnly (· ∈ (maskCl s (actArg0 t i)).map fun n => (R.scOWN_X n).addr) s
      ((maskCl s (actArg0 t i)).foldl (owned (actW t i 1)) (s.took f i)) := by
    refine (writesOnly_took _ s f i).trans (WritesOnly.foldl (fun u n hn => ?_) _)
    have hmem : (R.scOWN_X n).addr ∈ (maskCl s (actArg0 t i)).map fun n => (R.scOWN_X n).addr := List.mem_map_of_mem hn
    exact ((WritesOnly.refl _ u).wf _ hmem).wf _ hmem
  refine ⟨_, ?_, ?_, owned_all _ _ _, hw.sameBut⟩
  · change execOwnership s = _
    unfold execOwnership
    exact calAct_next h rfl hw
  · exact List.foldlRecOn (motive := fun u : State => u.cal = (s.took f i).cal) _ _ rfl fun _ hu _ _ => hu

end Masks

/-- Settles O19: each action on units by the effect of its table row. -/
theorem calliopeActsOnUnits : Obligations.CalliopeActsOnUnits := by
  unfold Obligations.CalliopeActsOnUnits
  intro s t f i u ns
  refine ⟨fun h hon => ?_, fun n h hns hoff => ?_, clusterDeadline_met, fun n h hmiss hstop hpol => ?_,
    fun h hup hp hlen => ⟨vectorBlock_on h hup hp hlen, vectorBlock_off h⟩, wake_masks, sleep_masks, ownership_written⟩
  · rw [clusterStart_timely h fun n hn _ => (hon n hn).2, clustersOff_eq_zero fun n hn => (hon n hn).1, resLoss_zero]
  · have hlist : maskCl s (actArg0 t i) = [n] := hns
    have htimely : ∀ m ∈ maskCl s (actArg0 t i), rf s (R.scUNIT_STATE m) = usON → clBusy s m = false := by
      rw [hlist, List.forall_mem_singleton]
      exact fun hon => absurd hon hoff
    rw [clusterStart_timely h htimely, hlist, clustersOff_singleton hoff]
    rfl
  · obtain ⟨hdl, hmissed, hcnt, hlast⟩ := deadlineMissed_fields (s.took f i) n i
    exact ⟨_, clusterDeadline_missed h hmiss hstop hpol, hdl, hmissed, hcnt, hlast, rfl, rfl,
      ((writesOnly_took _ s f i).trans (writesOnly_deadlineMissed (s.took f i) n i)).sameBut⟩

end Sys2Proof.Machine

/-! SUPPORT. Barriers and switch points of Calliope (R190, R191, R203). -/

namespace Sys2Proof.Machine

/-! ### Barriers (R190) -/

/-- The barrier that action `i` of frame `f` puts in force. -/
def actBarrier (t : TT) (f i : Nat) : CalBar :=
  let dl := if actArg0 t i + 1 < hdrTicks t.hdr then (f, actArg0 t i + 1) else (f + 1, 0)
  ⟨i, actW t i 1 % 16, bits (actW t i 1) 19 4, actDma t i, dl.1, dl.2, false⟩

section Barrier
variable {s : State} {t : TT} {f i : Nat} {a : Nat × Nat}

theorem barOk_took (s : State) (f i : Nat) (b : CalBar) : barOk (s.took f i) b = barOk s b := rfl

/-- A BARRIER is over, in force, or missed, by its completions and its deadline tick. -/
theorem barrier_dispatched (h : s.actReady t f i 0xD) (ha : s.cal.arr = some a) : exec .barrier s =
    .next (keep s (rstSettle (if barOk s (actBarrier t f i) then s.took f i
      else if posLt a ((actBarrier t f i).dlF, (actBarrier t f i).dlT) then modCal (s.took f i) fun c => { c with bar := some (actBarrier t f i) }
      else barMiss (s.took f i) (actBarrier t f i)))) := by
  have harr : (s.took f i).cal.arr = some a := ha
  have hdf : (s.took f i).cal.df = f := rfl
  change execBarrier s = _
  unfold execBarrier
  refine calAct_of_eq h ?_
  by_cases hd : actArg0 t i + 1 < hdrTicks t.hdr <;> simp only [actBarrier, hd, if_true, if_false, harr, hdf] <;> rw [← barOk_took s f i]
  all_goals
    generalize posLt a _ = past
    cases past <;> rfl

variable (hlive : s.live iMWY)
include hlive

theorem barrierRelease_over {b : CalBar} (hbar : s.cal.bar = some b) (hmissed : b.missed = false) (hok : barOk (calDrain s) b = true) :
    exec .barrierRelease s = .next (keep s (modCal (calDrain s) fun c => { c with bar := none })) := by
  change execBarrierRelease s = _
  rw [execBarrierRelease, gate_live hlive]
  simp only [hbar, hmissed, hok, and_self, if_true]

omit hlive in
theorem calDrain_blockDone {p n : Nat} (hin : s.calIn = [.blockDone n]) (hblks : s.cal.blks = [(p, n)]) :
    calDrain s = modCal { s with calIn := [] } fun c => { c with blks := [] } := by
  simp [calDrain, hin, modCal, hblks]

omit hlive in
theorem barOk_nothing {b : CalBar} (hclus : b.clus = 0) (hdmas : b.dmas = 0) (hblks : s.cal.blks = []) : barOk s b = true := by
  simp [barOk, hclus, hdmas, hblks, bit]

theorem barrierRelease_reported {b : CalBar} {p n : Nat} (hbar : s.cal.bar = some b) (hmissed : b.missed = false) (hclus : b.clus = 0)
    (hdmas : b.dmas = 0) (hin : s.calIn = [.blockDone n]) (hblks : s.cal.blks = [(p, n)]) :
    ∃ v, exec .barrierRelease s = .next v ∧ v.cal.bar = none ∧ v.cal.blks = [] ∧ v.calIn = [] ∧ v.mem = s.mem := by
  have hdrain := calDrain_blockDone hin hblks
  have hok : barOk (calDrain s) b = true := by
    rw [hdrain]
    exact barOk_nothing hclus hdmas rfl
  refine ⟨_, barrierRelease_over hlive hbar hmissed hok, ?_⟩
  rw [hdrain]
  exact ⟨rfl, rfl, rfl, rfl⟩

omit hlive in
theorem barMiss_continue {t : TT} (hact : s.cal.act = some t) (hpol : hdrPolicy t.hdr 1 % 4 = 0) (b : CalBar) :
    barMiss s b = calMarked (modCal s fun c => { c with bar := none }) R.calBARRIER_MISS R.calBARRIER_MISS_CNT 1 25 b.ix := by
  unfold barMiss
  refine calFault_continue ?_ hpol _ _ _ _
  exact hact

theorem barrierMiss_marked {b : CalBar} {t : TT} {a : Nat × Nat} (hbar : s.cal.bar = some b) (hmissed : b.missed = true)
    (harr : s.cal.arr = some a) (ha : a.2 ≠ 0) (hact : s.cal.act = some t) (hpol : hdrPolicy t.hdr 1 % 4 = 0) :
    exec .barrierMiss s =
      .next (calMarked (modCal s fun c => { c with bar := none }) R.calBARRIER_MISS R.calBARRIER_MISS_CNT 1 25 b.ix) := by
  have hnow : barMissNow s = barMiss s b := by
    simp only [barMissNow, hbar, harr, hmissed, ha, if_true, if_false]
  change execBarrierMiss s = _
  rw [execBarrierMiss, gate_live hlive, hnow, barMiss_continue hact hpol]
  rfl

end Barrier

/-! ### Switch points (R203) -/

/-- From `s` to `t` Calliope changes in its standby and next slots, its loads and its pending target only. -/
def SlotsOnly (s t : State) : Prop :=
  ∃ sby nxt loads target, t.cal = { s.cal with sby := sby, nxt := nxt, loads := loads, target := target }

theorem SlotsOnly.refl (s : State) : SlotsOnly s s := ⟨_, _, _, _, rfl⟩

theorem SlotsOnly.trans {s t u : State} (h : SlotsOnly s t) (h' : SlotsOnly t u) : SlotsOnly s u := by
  obtain ⟨_, _, _, _, ht⟩ := h
  obtain ⟨_, _, _, _, hu⟩ := h'
  exact ⟨_, _, _, _, hu.trans (by rw [ht])⟩

theorem SlotsOnly.commits {s t : State} (h : SlotsOnly s t) :
    t.cal.act = s.cal.act ∧ t.cal.entry = s.cal.entry ∧ t.cal.nextM = s.cal.nextM := by
  obtain ⟨_, _, _, _, ht⟩ := h
  rw [ht]
  exact ⟨rfl, rfl, rfl⟩

theorem calSync_cal (s : State) : (calSync s).cal = s.cal := rfl

theorem slotsOnly_calFill (s : State) (into : Nat) (t : Option (Nat × Nat)) : SlotsOnly s (calFill s into t) := ⟨_, _, _, _, rfl⟩

theorem slotsOnly_calRefill (s : State) : SlotsOnly s (calRefill s) := by
  unfold calRefill
  split
  next => exact .refl s
  next t _ =>
    refine iteInduction (fun _ => .refl s) fun _ => iteInduction (fun _ => .refl s) fun _ => ?_
    refine .trans ?_ (slotsOnly_calFill _ _ _)
    split
    · exact (slotsOnly_calFill s 2 _).trans ⟨_, _, _, _, rfl⟩
    · exact .refl s

theorem foldl_cal {α : Type} {k : State → α → State} (hk : ∀ u x, (k u x).cal = u.cal) (l : List α) (s : State) :
    (l.foldl k s).cal = s.cal := List.foldlRecOn (motive := fun u : State => u.cal = s.cal) l k rfl fun u hu x _ => (hk u x).trans hu

theorem ttOwn_cal (s : State) (mask : Nat) : (ttOwn s mask).cal = s.cal :=
  foldl_cal (k := fun u n => wb u (R.scTT_OWNED n) (bit mask n)) (fun _ _ => rfl) _ s

theorem keepersOwnIf_cal (s : State) (q : Nat → Nat → Bool) : (keepersOwnIf s q).cal = s.cal :=
  foldl_cal (k := fun (u : State) (e : Nat × Nat) => if q e.1 e.2 then wb u (R.fpKOWN e.1 e.2) true else u)
    (fun _ _ => iteInduction (motive := fun u : State => u.cal = _) (fun _ => rfl) fun _ => rfl) _ s

theorem calActivate_cal (s : State) (t : TT) : (calActivate s t).cal = { s.cal with act := some t } := ttOwn_cal _ _

/-- A commit makes the new timetable active, at its entry tick. -/
theorem calCommit_entry (s : State) (t : TT) (w e : Nat) :
    (calCommit s t w e).cal.act = some t ∧ (calCommit s t w e).cal.entry = true ∧ (calCommit s t w e).cal.nextM = e := by
  have hstrip : ∀ u : State, (if hdrProbe t.hdr then u else emitsStrip u).cal = u.cal := fun u => by split <;> rfl
  have hstop : ∀ u : State, (if hdrProbe t.hdr ∧ u.probeOk = false then wf u R.idnRUN 0 else u).cal = u.cal := fun u => by split <;> rfl
  have hnote : ∀ u : State, (trb3 (raise (cnt (wb u R.calSWITCH_DONE true) R.calSWITCH_CNT) 30) 10).cal = u.cal := fun _ => rfl
  have hpend : ∀ u : State, (wf u R.calPENDING 0).cal = u.cal := fun _ => rfl
  unfold calCommit
  obtain ⟨hact, hentry, hnext⟩ := (slotsOnly_calRefill (calSync _)).commits
  rw [hact, hentry, hnext, calSync_cal, hnote, hstrip, keepersOwnIf_cal, calActivate_cal, hpend, hstop]
  exact ⟨rfl, rfl, rfl⟩

/-- What a SWITCH_POINT of entry tick `e` leaves, by the target that stands. -/
def switched (s : State) (target : Option (TT × Nat)) (e : Nat) : State :=
  match target with
  | some (t, w) => calCommit s t w e
  | none => s

theorem switchPoint_dispatched {s : State} {t : TT} {f i : Nat} (h : s.actReady t f i 0xF) :
    exec .switchPoint s = .next (keep s (rstSettle (switched (s.took f i) (calTarget s) (actArg0 t i)))) := by
  change execSwitchPoint s = _
  unfold execSwitchPoint
  exact calAct_of_eq h rfl

/-- Settles O21: a barrier by its completions and its deadline, its release by a report, its miss under CONTINUE, and the commit of a
switch point. -/
theorem calliopeBarriersAndSwitches : Obligations.CalliopeBarriersAndSwitches := by
  intro s
  refine ⟨?_, ?_, ?_, ?_, ?_, ?_⟩
  · intro t f i a h ha
    have hb := barrier_dispatched h ha
    obtain ⟨-, -, -, -, -, hreq⟩ := h
    have htook := writesOnly_took (fun _ => False) s f i
    refine ⟨fun (hok : barOk s (actBarrier t f i) = true) => ?_,
      fun (hok : barOk s (actBarrier t f i) = false) (hfuture : posLt a ((actBarrier t f i).dlF, (actBarrier t f i).dlT) = true) => ?_,
      fun (hok : barOk s (actBarrier t f i) = false) (hpast : posLt a ((actBarrier t f i).dlF, (actBarrier t f i).dlT) = false) => ?_⟩
    · rw [hb, if_pos hok, settled_of_writesOnly hreq htook]
    · rw [hb, if_neg (ne_true_of_eq_false hok), if_pos hfuture, settled_of_writesOnly hreq (htook.modCal _)]
      rfl
    · rw [hb, if_neg (ne_true_of_eq_false hok), if_neg (ne_true_of_eq_false hpast)]
      rfl
  · intro b hlive hbar hmissed hin hok
    rw [barrierRelease_over hlive hbar hmissed (by rwa [calDrain_none hin]), calDrain_none hin]
    rfl
  · intro b p a hlive hbar hmissed hclus hdmas hin hblks
    exact barrierRelease_reported hlive hbar hmissed hclus hdmas hin hblks
  · intro b t a hlive hbar hmissed harr ha hact hpol
    obtain ⟨hbit, hcount, hlast⟩ := calMarked_fields (f := R.calBARRIER_MISS) (c := R.calBARRIER_MISS_CNT) (by decide)
      (modCal s fun c => { c with bar := none }) 1 25 b.ix
    have hwrites := writesOnly_calMarked (P := (· ∈ [R.calBARRIER_MISS.addr, R.calBARRIER_MISS_CNT.addr, R.calLAST_ACTION.addr]))
      (modCal s fun c => { c with bar := none }) (f := R.calBARRIER_MISS) (c := R.calBARRIER_MISS_CNT) 1 25 b.ix
      (by simp) (by simp) (by simp)
    exact ⟨_, barrierMiss_marked hlive hbar hmissed harr ha hact hpol, rfl, hbit, hcount, hlast, rfl, hwrites.sameBut⟩
  · intro t f i h htarget
    obtain ⟨-, -, -, -, -, hreq⟩ := id h
    rw [switchPoint_dispatched h, htarget]
    exact congrArg Host.Outcome.next (settled_of_writesOnly hreq (writesOnly_took (fun _ => False) s f i))
  · intro t n f i w h htarget
    rw [switchPoint_dispatched h, htarget]
    exact ⟨rfl, calCommit_entry _ n w _⟩

end Sys2Proof.Machine

/-! SUPPORT. TT_SWITCH (R202) when the image words are the host registers that its own reply changes. -/

namespace Sys2Proof.Machine

/-- TT_SWITCH for this module: slot 0, timetable 0. -/
def firstSwitch : List HWord := [hw (0x31 + 2 ^ 24), 5#32, 62#32, hw 1, hw 0]

/-- Every island is released, `firstSwitch` waits on the UART, and the image of slot 0 is one section whose header word is the count of
commands: of type 1 as it stands, of type 2 (a timetable) once one more command is counted. -/
def countImageState : State :=
  wf (wf { State.reset with up := 0x7FFFFF#23, hst := { State.reset.hst with mail := [⟨.uart, firstSwitch⟩], imgLen := [8, 0] } }
    R.calIMG_BASE R.hstCMD_CNT.addr) R.hstCMD_CNT 0x1FFFFFFF

theorem countImageState_cmdReady : countImageState.cmdReady .mail 0x31 firstSwitch := by
  have hhere : countImageState.cmdHere .mail firstSwitch := by unfold State.cmdHere State.live; decide
  exact ⟨hhere, by decide, by decide, by decide, ⟨0x31, 1, 0, 8, 1, 1⟩, by decide, by decide, by decide, by decide, by decide⟩

theorem imgTTs_countImageState : imgTTs countImageState 0 = [] := by decide

/-- The command finds a timetable in the words it has just counted itself into, and is answered BUSY: Calliope is IDLE. -/
theorem exec_firstSwitch :
    ∃ t, exec (.ttSwitch .mail) countImageState = .next t ∧ t.hst.uartOut = [mkReply countImageState firstSwitch hsBUSY 0 []] :=
  ⟨_, rfl, by decide⟩

/-- Refutes O45: TT_SWITCH looks its timetable up after the command is counted, so where the image words are the host registers it finds one
that was not there before, and answers BUSY where the clause on an absent timetable claims BAD_PARAM with DETAIL 0. -/
theorem not_imageAndCalliopeCommands : ¬ Obligations.ImageAndCalliopeCommands := by
  unfold Obligations.ImageAndCalliopeCommands
  intro h
  obtain ⟨-, -, -, -, -, -, hswitch, -⟩ := h countImageState .mail firstSwitch
  obtain ⟨hnone, -⟩ := hswitch countImageState_cmdReady (by decide)
  obtain ⟨t, ht, ⟨-, -, -, hrefusal⟩, -⟩ := hnone (by rw [show pl firstSwitch 0 % 2 = 0 by decide, imgTTs_countImageState]; rfl)
  obtain ⟨u, hu, hanswer⟩ := exec_firstSwitch
  obtain rfl : t = u := Host.Outcome.next.inj (ht.symm.trans hu)
  exact absurd (hanswer.symm.trans hrefusal) (by decide)

end Sys2Proof.Machine

/-! SUPPORT. Reports of unit faults, timetable loads and re-arms of Calliope (R193, R197 to R199). -/

namespace Sys2Proof.Machine

/-! ### Stream Memory without errors, and the operating mode -/

theorem storeRead_clean {s : State} (h : s.ecc = []) (a n : Nat) : storeRead s a n = (true, s) := by
  have hburst : ∀ b, bmReadBurst s b 0 = (true, s) := fun b => bmReadBurst_clean (by rw [eccAt, h]; rfl)
  exact List.foldlRecOn (motive := fun r : Bool × State => r = (true, s)) (burstsOf a n) _ rfl fun r hr b _ => by
    subst hr
    simp only [hburst, if_true]

theorem writesOnly_setMode {P : Nat → Prop} (s : State) (m : Nat) (hp : P R.pwrMODE.addr) : WritesOnly P s (setMode s m) := by
  unfold setMode
  refine iteInduction (fun _ => .refl P s) fun _ => ?_
  exact (((((WritesOnly.refl P s).beside (u := { s with pwr := { s.pwr with overN := 0 } }) rfl rfl rfl rfl).wf (f := R.pwrPREV_MODE) _ hp).wf
    (f := R.pwrMODE) m hp).raise 204).notice _ _ _ _

/-! ### The slot fields of Calliope's registers -/

theorem rb_calSync_standby (s : State) : rb (calSync s) R.calSTANDBY_VALID = s.cal.sby.isSome := by
  simp only [calSync]
  rw [rb_wb_apart (by decide), rb_wf_apart (by decide), rb_wf_apart (by decide), rb_wb_same _ _ _ (by decide) (by decide)]

theorem rb_calSync_next (s : State) : rb (calSync s) R.calNEXT_VALID = s.cal.nxt.isSome := rb_wb_same _ _ _ (by decide) (by decide)

theorem calState_calSync (s : State) : calState (calSync s) = calState s := by
  simp only [calSync, calState]
  rw [rf_wb_apart (by decide), rf_wf_apart (by decide), rf_wf_apart (by decide), rf_wb_apart (by decide), rf_wf_apart (by decide)]

theorem writesOnly_calSync {P : Nat → Prop} (s : State) (hp : P R.calSTATE.addr) : WritesOnly P s (calSync s) :=
  (((((WritesOnly.refl P s).wf (f := R.calSTANDBY_IDX) _ hp).wb (f := R.calSTANDBY_VALID) _ hp).wf (f := R.calNEXT_IDX) _ hp).wf
    (f := R.calNEXT_IMG) _ hp).wb (f := R.calNEXT_VALID) _ hp

/-! ### Reports (R193) -/

section Report
variable {s : State} (hlive : s.live iMWY)
include hlive

theorem unitFaultReport_cluster {n : Nat} {t : TT} (hin : s.calIn = [.clusterFault n]) (howned : rb s (R.scTT_OWNED n) = true)
    (hact : s.cal.act = some t) (hack : hdrClAck t.hdr = false) (hpol : hdrPolicy t.hdr 3 % 4 = 0) :
    exec .unitFaultReport s = .next (trb3 (raise (wb { s with calIn := [] } R.calUNIT_FAULT true) 27) 3) := by
  have hfault : calUnitFault { s with calIn := [] } (.clusterFault n) = trb3 (raise (wb { s with calIn := [] } R.calUNIT_FAULT true) 27) 3 := by
    have hown : rb { s with calIn := [] } (R.scTT_OWNED n) = true := howned
    simp only [calUnitFault, hown, hact, hack]
    refine calFault_continue ?_ hpol _ _ _ _
    exact hact
  change execUnitFaultReport s = _
  rw [execUnitFaultReport, gate_live hlive, hin]
  simp only [List.find?_cons_of_pos, List.erase_cons_head, hfault]
  rfl

theorem unitFaultReport_pipe {p : Nat} (hin : s.calIn = [.pipeFault p]) :
    exec .unitFaultReport s = .next (keep s (calUnitFault { s with calIn := [] } (.pipeFault p))) := by
  change execUnitFaultReport s = _
  rw [execUnitFaultReport, gate_live hlive, hin]
  simp only [List.find?_cons_of_pos, List.erase_cons_head]

end Report

/-! ### Loads (R198) -/

theorem armGo_none {s : State} (h : s.cal.arm = none) : armGo s = s := by
  unfold armGo
  split
  next ha _ => cases h.symm.trans ha
  next => rfl

/-- The words of the timetable that the load `l` is for are read. -/
def loadRead (s : State) (l : CalLoad) : State :=
  match (imgTTs s l.img).find? (fun e => decide (hdrIndex e.2 = l.idx)) with
  | some e => (storeRead s e.1 (32 + 4 * hdrCount e.2)).2
  | none => s

theorem loadRead_clean {s : State} (h : s.ecc = []) (l : CalLoad) : loadRead s l = s := by
  unfold loadRead
  split
  · rw [storeRead_clean h]
  · rfl

/-- What the load `l` leaves in Calliope's slots, with the loads after it. -/
def loadKept (s : State) (l : CalLoad) (rest : List CalLoad) : State :=
  modCal s fun c => { c with
    loads := rest
    sby := if l.into = 1 then ttLoad s l.img l.idx else c.sby
    nxt := if l.into = 2 then ttLoad s l.img l.idx else c.nxt }

/-- What the load `l` leaves; a load for the active slot makes its timetable the active one. -/
def loadUsed (s : State) (l : CalLoad) (rest : List CalLoad) : State :=
  match ttLoad s l.img l.idx with
  | some t => if l.into = 0 then calRefill (calSettle (calActivate (loadKept s l rest) t)) else loadKept s l rest
  | none => loadKept s l rest

theorem loadUsed_slot (s : State) {l : CalLoad} (rest : List CalLoad) (h : l.into ≠ 0) : loadUsed s l rest = loadKept s l rest := by
  unfold loadUsed
  split
  · exact if_neg h
  · rfl

section Load
variable {s : State} {l : CalLoad} {rest : List CalLoad} (hloads : s.cal.loads = l :: rest) (hecc : s.ecc = [])
include hloads hecc

theorem loadDone_clean : loadDone s = armGo (calSync (loadUsed s l rest)) := by
  have hread : loadDone s = armGo (calSync (loadUsed (loadRead s l) l rest)) := by
    unfold loadDone
    rw [hloads]
    rfl
  rw [hread, loadRead_clean hecc]

theorem loadDone_slot (harm : s.cal.arm = none) (hinto : l.into ≠ 0) : loadDone s = calSync (loadKept s l rest) := by
  rw [loadDone_clean hloads hecc, loadUsed_slot s rest hinto]
  exact armGo_none (s := calSync (loadKept s l rest)) harm

theorem timetableLoadDone_slot (hlive : s.live iMWY) (harm : s.cal.arm = none) (hinto : l.into ≠ 0) :
    exec .timetableLoadDone s = .next (calSync (loadKept s l rest)) := by
  change gate iMWY s loadDone = _
  have hkept : WritesOnly (· = R.calSTATE.addr) s (loadKept s l rest) := (WritesOnly.refl _ s).modCal _
  have hwrites := hkept.trans (writesOnly_calSync (loadKept s l rest) rfl)
  rw [gate_live hlive, loadDone_slot hloads hecc harm hinto, keep_eq hwrites.cfg hwrites.pending]

end Load

/-! ### Re-arms (R199) -/

theorem armBegin_armed (s : State) (a : CalArm) :
    calState (armBegin s a) = csARMED ∧ (armBegin s a).cal.loads = [⟨0, a.img, a.idx⟩] ∧ (armBegin s a).cal.arm = some a :=
  ⟨(calState_calSync _).trans (rf_wf_same _ R.calSTATE _ (by decide) (by decide)), rfl, rfl⟩

/-- What a failed arm leaves before the mode changes. -/
def armFailed (s : State) (code : Nat) : State :=
  wf (modCal (trb3 (raise (wb (wf s R.calCHECK_CODE code) R.calARM_FAIL true) 31) 8) fun c => { c with was := none }) R.calSTATE csIDLE

theorem armFailed_fields (s : State) {code : Nat} (hcode : code < 32) :
    rf (armFailed s code) R.calCHECK_CODE = code ∧ rb (armFailed s code) R.calARM_FAIL = true ∧ calState (armFailed s code) = csIDLE := by
  refine ⟨?_, ?_, rf_wf_same _ R.calSTATE _ (by decide) (by decide)⟩
  · rw [armFailed, rf_wf_apart (by decide), rf_modCal, rf_trb3, rf_raise, rf_wb_apart (by decide),
      rf_wf_same _ R.calCHECK_CODE _ (by decide) (by decide)]
    exact Nat.mod_eq_of_lt hcode
  · rw [armFailed, rb_wf_apart (by decide), rb_modCal, rb_trb3, rb_raise, rb_wb_same _ _ _ (by decide) (by decide)]

theorem writesOnly_armFail (s : State) (code : Nat) (rearm : Bool) :
    WritesOnly (· = R.pwrMODE.addr) (armFailed s code) (armFail s code rearm) :=
  iteInduction (motive := WritesOnly (· = R.pwrMODE.addr) (armFailed s code)) (fun _ => writesOnly_setMode _ _ rfl) fun _ => .refl _ _

theorem armFail_fields (s : State) {code : Nat} (hcode : code < 32) (rearm : Bool) :
    rf (armFail s code rearm) R.calCHECK_CODE = code ∧ rb (armFail s code rearm) R.calARM_FAIL = true ∧
    calState (armFail s code rearm) = csIDLE := by
  obtain ⟨hcheck, hfail, hidle⟩ := armFailed_fields s hcode
  have hkeep := writesOnly_armFail s code rearm
  exact ⟨(hkeep.rf_eq (by decide)).trans hcheck, (hkeep.rb_eq (by decide)).trans hfail, (hkeep.rf_eq (f := R.calSTATE) (by decide)).trans hidle⟩

section Rearm
variable {s : State} {img idx st ft : Nat} (hlive : s.live iMWY) (hwas : s.cal.was = some (img, idx, st, ft))
  (hrestart : rb s R.pwrRESTARTING = false) (hauto : rb s R.calAUTO_REARM = true) (hidle : calState s = csIDLE)
include hlive hwas hrestart hauto hidle

theorem calliopeRearm_of_eq {r : Bool × State} {v : State} (hr : storeRead s (imgBase s img) (imgLen s img) = r)
    (hv : (if imgLen r.2 img = 0 ∨ r.1 = false ∨ crcsOk r.2 img = false then armFail r.2 5 true else
      if (applyRegs r.2 (imgRegs r.2 img)).1 then
        armBegin (applyRegs r.2 (imgRegs r.2 img)).2 ⟨img, idx, 0, true,
          decide (st = csHELD) || decide (mode r.2 = mHOLD), none⟩
      else armFail (applyRegs r.2 (imgRegs r.2 img)).2 0x0E true) = v) :
    exec .calliopeRearm s = .next (keep s (rstSettle v)) := by
  change gateRst iMWY s calRearm = _
  have hgo : ¬(rb s R.pwrRESTARTING = true ∨ rb s R.calAUTO_REARM = false ∨ calState s ≠ csIDLE) := by simp [hrestart, hauto, hidle]
  subst hr
  rw [gateRst_live hlive, calRearm, hwas]
  simp only [if_neg hgo]
  exact congrArg (fun u => Host.Outcome.next (keep s (rstSettle u))) hv

end Rearm

/-- Settles O23: a report of an owned cluster under CONTINUE, a load into each slot without errors in Stream Memory, and the two ends of a
re-arm. -/
theorem calliopeReportsLoadsAndRearms : Obligations.CalliopeReportsLoadsAndRearms := by
  intro s hlive
  refine ⟨?_, fun p hin => unitFaultReport_pipe hlive hin, ?_, ?_, ?_, armBegin_armed⟩
  · intro n t hin howned hact hack hpol
    have hwrites : WritesOnly (· ∈ [R.calUNIT_FAULT.addr]) s (trb3 (raise (wb { s with calIn := [] } R.calUNIT_FAULT true) 27) 3) :=
      ((((WritesOnly.refl _ s).beside (u := { s with calIn := [] }) rfl rfl rfl rfl).wb true (by simp)).raise 27).trb3 3
    have hbit : rb (trb3 (raise (wb { s with calIn := [] } R.calUNIT_FAULT true) 27) 3) R.calUNIT_FAULT = true := by
      rw [rb_trb3, rb_raise, rb_wb_same _ _ _ (by decide) (by decide)]
    exact ⟨_, unitFaultReport_cluster hlive hin howned hact hack hpol, hbit, rfl, rfl, hwrites.sameBut⟩
  · intro l rest hloads harm hecc
    refine ⟨fun hinto => ?_, fun hinto => ?_⟩
    · have hslot : (loadKept s l rest).cal.sby = ttLoad s l.img l.idx := if_pos hinto
      exact ⟨_, timetableLoadDone_slot hloads hecc hlive harm (by omega), hslot, rfl, (rb_calSync_standby _).trans (by rw [hslot]), rfl⟩
    · have hslot : (loadKept s l rest).cal.nxt = ttLoad s l.img l.idx := if_pos hinto
      exact ⟨_, timetableLoadDone_slot hloads hecc hlive harm (by omega), hslot, rfl, (rb_calSync_next _).trans (by rw [hslot]), rfl⟩
  · intro l rest t hloads hecc hinto hload
    have hslots : loadKept s l rest = modCal s fun c => { c with loads := rest } := by simp [loadKept, hinto]
    change gate iMWY s loadDone = _
    rw [gate_live hlive, loadDone_clean hloads hecc, loadUsed, hload, ← hslots]
    simp only [hinto, if_true]
  · intro img idx st ft hwas hrestart hauto hidle r s'
    refine ⟨fun hlen hread hcrc happly => ?_, fun hbad => ⟨?_, armFail_fields s' (by decide) true⟩⟩
    · have hok : ¬(imgLen s' img = 0 ∨ r.1 = false ∨ crcsOk s' img = false) := by simp [hlen, hread, hcrc]
      exact calliopeRearm_of_eq hlive hwas hrestart hauto hidle rfl (by rw [if_neg hok, if_pos happly])
    · exact calliopeRearm_of_eq hlive hwas hrestart hauto hidle rfl (if_pos hbad)

end Sys2Proof.Machine

/-! SUPPORT. Ticks of Calliope's own sources, their markers, and the arrival of a tick (R181 to R186, R199). -/

namespace Sys2Proof.Machine

/-! ### Time, tick outputs and packets to other modules leave the rest of the state -/

/-- From `s` to `t` only the tick output changes. -/
abbrev OnlyGp (s t : State) : Prop := ∃ g, t = { s with gp := g }

/-- From `s` to `t` only the links to other modules change. -/
abbrev OnlyLinks (s t : State) : Prop := ∃ ls, t = { s with cas := { s.cas with links := ls } }

/-- From `s` to `t` only words change. -/
abbrev OnlyMem (s t : State) : Prop := ∃ m, t = { s with mem := m }

/-- From `s` to `t` only the Field Ports' and the queues' own state changes. -/
abbrev OnlyFld (s t : State) : Prop := ∃ f, t = { s with fld := f }

/-- From `s` to `t` only words and that state change. -/
abbrev OnlyMemFld (s t : State) : Prop := ∃ m f, t = { s with mem := m, fld := f }

section Beside
variable (s : State)

theorem elapse_time (d : Nat) : ∃ dev sl, elapse s d = { s with now := s.now + d, devTime := dev, slew := sl } := ⟨_, _, rfl⟩

theorem devAtLeast_time (t : Nat) : ∃ n dev sl, devAtLeast s t = { s with now := n, devTime := dev, slew := sl } := ⟨_, _, _, rfl⟩

theorem atLeast_time (t : Nat) : ∃ dev sl, atLeast s t = { s with now := max s.now t, devTime := dev, slew := sl } := by
  obtain ⟨dev, sl, h⟩ := elapse_time s (t - s.now)
  exact ⟨dev, sl, by rw [atLeast, h, show s.now + (t - s.now) = max s.now t by omega]⟩

theorem tickOut_gp (m : Nat) (sp : Option Nat) : OnlyGp s (tickOut s m sp) := by
  unfold tickOut
  exact iteInduction (motive := OnlyGp s) (fun _ => ⟨_, rfl⟩) fun _ => ⟨_, rfl⟩

theorem briSend_links (l : Nat) (p : BPkt) : OnlyLinks s (briSend s l p) := by
  unfold briSend briSendFrom
  refine iteInduction (motive := OnlyLinks s) (fun _ => ⟨_, rfl⟩) fun _ => ?_
  exact iteInduction (motive := OnlyLinks s) (fun _ => ⟨_, rfl⟩) fun _ => ⟨_, rfl⟩

theorem briDown_links (p : BPkt) : OnlyLinks s (briDown s p) := by
  refine List.foldlRecOn (motive := OnlyLinks s) (linkIds s) _ ⟨_, rfl⟩ ?_
  rintro u ⟨ls, rfl⟩ l -
  refine iteInduction (motive := OnlyLinks s) (fun _ => ?_) fun _ => ⟨_, rfl⟩
  obtain ⟨ls', h⟩ := briSend_links { s with cas := { s.cas with links := ls } } l _
  exact ⟨ls', h⟩

end Beside

/-! ### The module's own ticks (R181, R182, R341) -/

/-- The module's own ticks go down to other modules as markers. -/
def marksOn (s : State) : Bool := isMaster s && rb s R.casMARK_EN && isUp s iCAS

theorem marksOn_eq_false {s : State} : marksOn s = false ↔ s.marksNot := by
  rw [marksOn, Bool.and_eq_false_iff, Bool.and_eq_false_iff, or_assoc, State.marksNot]

theorem marksOn_eq_true {s : State} : marksOn s = true ↔ ¬ s.marksNot := by rw [← marksOn_eq_false, Bool.not_eq_false]

section OwnTick
variable {s : State} (sp : Option Nat)

theorem tickRaise_flying (mk : Option (Nat × Nat)) (m : Nat) :
    ∃ g, tickRaise s mk m sp = { s with gp := g, cal := { s.cal with flying := s.cal.flying ++ [mk] } } := by
  obtain ⟨g, h⟩ := tickOut_gp s m sp
  exact ⟨g, by rw [tickRaise, h]; rfl⟩

theorem ownTick_raises (hkept : keptTicks s = none) (hmarks : s.marksNot) :
    ∃ g, ownTick s sp = { s with gp := g, cal := { s.cal with flying := s.cal.flying ++ [none] } } := by
  have hoff := marksOn_eq_false.mpr hmarks
  rw [marksOn] at hoff
  unfold ownTick
  simp only [hkept, hoff, Option.isSome_none, Bool.false_eq_true, if_false]
  exact tickRaise_flying sp none _

theorem ownTick_marks (hkept : keptTicks s = none) (hmarks : ¬ s.marksNot) :
    ∃ mk last ls, ownTick s sp = { s with cas := { s.cas with marks := s.cas.marks ++ [mk], lastMark := last, links := ls } } := by
  have hon := marksOn_eq_true.mpr hmarks
  rw [marksOn] at hon
  unfold ownTick
  simp only [hkept, hon, if_true]
  obtain ⟨ls, h⟩ := briDown_links _ _
  exact ⟨_, _, ls, h⟩

theorem ownTick_kept_out {ft : Nat} (hkept : keptTicks s = some ft) (hmarks : s.marksNot) :
    ∃ g, ownTick s sp = { keptMove s ft with gp := g } := by
  have hoff := marksOn_eq_false.mpr hmarks
  rw [marksOn] at hoff
  unfold ownTick
  simp only [hkept, hoff, Option.isSome_some, Bool.false_eq_true, if_false, if_true]
  exact tickOut_gp _ _ _

theorem ownTick_kept_marks {ft : Nat} (hkept : keptTicks s = some ft) (hmarks : ¬ s.marksNot) :
    ∃ at_ last ls, ownTick s sp = { keptMove s ft with
      cas := { s.cas with marks := s.cas.marks ++ [⟨at_, s.cal.nextM, s.cal.nextF⟩], lastMark := last, links := ls } } := by
  have hon := marksOn_eq_true.mpr hmarks
  rw [marksOn] at hon
  unfold ownTick
  simp only [hkept, hon, Option.isSome_some, if_true]
  obtain ⟨ls, h⟩ := briDown_links _ _
  exact ⟨_, _, ls, h⟩

theorem keptMove_idle (hact : s.cal.act = none) (ft : Nat) : keptMove s ft =
    modCal s fun c => { c with nextF := c.nextF + (c.nextM + 1) / ft, nextM := (c.nextM + 1) % ft } := by
  simp [keptMove, hact, modCal]

end OwnTick

theorem gateTick_live {s : State} (hlive : s.live iMWY) (hwas : s.cal.was = none) (hidle : calState s ≠ csIDLE) (k : State → State) :
    keptTicks s = none ∧ gateTick s k = .next (keep s (k s)) := by
  have hkept : keptTicks s = none := by rw [keptTicks, hwas]
  refine ⟨hkept, ?_⟩
  rw [gateTick, hkept]
  simp only [Option.isSome_none, Bool.false_eq_true, if_false, gate_live hlive, if_neg hidle]

/-- What a TIME tick of source `c` does. -/
def timeTicked (s : State) (c : TickSrc) : State :=
  modCal (ownTick (devAtLeast s (c.base + c.n * c.per + s.stepOfs).toNat) (some c.per)) fun k => { k with src := some { c with n := c.n + 1 } }

section Time
variable {s : State} {c : TickSrc} (hsrc : s.cal.src = some c) (hkind : c.kind = 0)
include hsrc hkind

theorem timeTick_live (hlive : s.live iMWY) (hwas : s.cal.was = none) (hidle : calState s ≠ csIDLE) :
    exec .timeTick s = .next (keep s (timeTicked s c)) := by
  obtain ⟨-, hgate⟩ := gateTick_live hlive hwas hidle fun s =>
    match s.cal.src with
    | some t => if t.kind = 0 then timeTicked s t else s
    | none => s
  refine Eq.trans ?_ (hgate.trans ?_)
  · rfl
  · simp only [hsrc, hkind, if_true]

end Time

/-! ### DISTANCE ticks (R183) -/

section Distance
variable {s : State} {c : TickSrc} (hlive : s.live iMWY) (hwas : s.cal.was = none) (hidle : calState s ≠ csIDLE) (hsrc : s.cal.src = some c)
include hlive hwas hidle

theorem distanceTick_live (hcross : 0 < s.cal.crossQ) : exec .distanceTick s = .next (keep s (distCross s)) := by
  obtain ⟨-, hgate⟩ := gateTick_live hlive hwas hidle fun s => if 0 < s.cal.crossQ then distCross s else s
  exact Eq.trans rfl (hgate.trans (by rw [if_pos hcross]))

include hsrc

theorem minSpacingEnd_live {d : Nat} (hdeliv : s.cal.deliv = some d) (hspacing : s.cal.spacing = true) :
    exec .minSpacingEnd s = .next (keep s (distDeliver (atLeast s (d + c.min)))) := by
  obtain ⟨-, hgate⟩ := gateTick_live hlive hwas hidle fun s =>
    match s.cal.src, s.cal.deliv with
    | some t, some d => if s.cal.spacing then distDeliver (atLeast s (d + t.min)) else s
    | _, _ => s
  refine Eq.trans ?_ (hgate.trans ?_)
  · rfl
  · simp only [hsrc, hdeliv, hspacing, if_true]

end Distance

/-- The state from which a DISTANCE tick is delivered. -/
def delivering (s : State) : State :=
  modCal s fun c => { c with deliv := some s.now, lossFrom := s.now, lossOut := false, spacing := false }

theorem distDeliver_raises {s : State} (hwas : s.cal.was = none) (hmarks : s.marksNot) :
    ∃ g, distDeliver s = { delivering s with gp := g, cal := { (delivering s).cal with flying := s.cal.flying ++ [none] } } :=
  ownTick_raises (s := delivering s) none (by rw [keptTicks, show (delivering s).cal.was = none from hwas]) hmarks

/-- One crossing of the DISTANCE source is taken up. -/
def crossed (s : State) : State := modCal s fun c => { c with crossQ := c.crossQ - 1 }

section Cross
variable {s : State} {c : TickSrc} (hsrc : s.cal.src = some c)
include hsrc

theorem distCross_delivers (hspacing : s.cal.spacing = false) (hmin : ∀ d, s.cal.deliv = some d → d + c.min ≤ s.now) :
    distCross s = distDeliver (crossed s) := by
  have hspacing' : ¬(crossed s).cal.spacing = true := ne_true_of_eq_false hspacing
  unfold distCross
  simp only [hsrc]
  refine (if_neg hspacing').trans ?_
  split
  next d hd => exact if_neg (Nat.not_lt.mpr (hmin d hd))
  next => rfl

theorem distCross_waits {d : Nat} (hspacing : s.cal.spacing = false) (hdeliv : s.cal.deliv = some d) (hmin : s.now < d + c.min) :
    distCross s = modCal s fun k => { k with crossQ := k.crossQ - 1, spacing := true } := by
  have hspacing' : ¬(crossed s).cal.spacing = true := ne_true_of_eq_false hspacing
  unfold distCross
  simp only [hsrc]
  refine (if_neg hspacing').trans ?_
  rw [show (modCal s fun c => { c with crossQ := c.crossQ - 1 }).cal.deliv = some d from hdeliv]
  exact if_pos hmin

theorem distCross_coalesced (hspacing : s.cal.spacing = true) (hwas : s.cal.was = none) (hfast : s.cal.fast + 1 ≠ c.fast) :
    distCross s = modCal (cnt (crossed s) R.calFAST_TICK_CNT) fun k => { k with fast := k.fast + 1 } := by
  have hkept : keptTicks (crossed s) = none := by rw [keptTicks, show (crossed s).cal.was = none from hwas]
  have hspacing' : (crossed s).cal.spacing = true := hspacing
  unfold distCross
  simp only [hsrc]
  refine (if_pos hspacing').trans ?_
  rw [show modCal s (fun c => { c with crossQ := c.crossQ - 1 }) = crossed s from rfl, hkept]
  exact if_neg hfast

end Cross

/-! ### A missing tick (R182) -/

theorem foldl_mem {α : Type} {k : State → α → State} (hk : ∀ u x, OnlyMem u (k u x)) (l : List α) (s : State) :
    OnlyMem s (l.foldl k s) := by
  refine List.foldlRecOn (motive := OnlyMem s) l k ⟨_, rfl⟩ ?_
  rintro u ⟨m, rfl⟩ x -
  obtain ⟨m', h⟩ := hk { s with mem := m } x
  exact ⟨m', h⟩

/-- The words of the Field Ports and of the queue engine. -/
abbrev FieldWord (a : Nat) : Prop := 0x20100000 ≤ a

theorem keepersOwnIf_mem (s : State) (q : Nat → Nat → Bool) : OnlyMem s (keepersOwnIf s q) :=
  foldl_mem (k := fun (u : State) (e : Nat × Nat) => if q e.1 e.2 then wb u (R.fpKOWN e.1 e.2) true else u)
    (fun u _ => iteInduction (motive := OnlyMem u) (fun _ => ⟨_, rfl⟩) fun _ => ⟨_, rfl⟩) _ s

theorem writesOnly_keepersOwnIf (s : State) (q : Nat → Nat → Bool) : WritesOnly FieldWord s (keepersOwnIf s q) :=
  WritesOnly.foldl (k := fun (u : State) (e : Nat × Nat) => if q e.1 e.2 then wb u (R.fpKOWN e.1 e.2) true else u)
    (fun u e _ => iteInduction (motive := WritesOnly FieldWord u)
      (fun _ => (WritesOnly.refl _ u).wb _ (by simp only [FieldWord, R.fpKOWN, blkBase]; omega)) fun _ => .refl _ u) s

theorem thawStart_fld (s : State) : OnlyMemFld s (thawStart s) := by
  unfold thawStart
  exact iteInduction (motive := OnlyMemFld s) (fun _ => ⟨_, _, rfl⟩) fun _ => ⟨_, _, rfl⟩

theorem writesOnly_thawStart (s : State) : WritesOnly FieldWord s (thawStart s) := by
  unfold thawStart
  refine iteInduction (fun _ => ?_) fun _ => .refl _ s
  exact (((WritesOnly.refl FieldWord s).beside (u := { s with fld := { s.fld with viewLeft := none, thawDue := false } }) rfl rfl rfl rfl).wb
    (f := R.qeFROZEN) false (by decide)).wb (f := R.qeTHAWING) true (by decide)

theorem writesOnly_calLeave (s : State) : WritesOnly FieldWord s (calLeave s) :=
  (writesOnly_thawStart s).trans (writesOnly_keepersOwnIf (thawStart s) fun _ _ => true)

theorem calLeave_fld (s : State) : OnlyMemFld s (calLeave s) := by
  obtain ⟨m, f, h⟩ := thawStart_fld s
  obtain ⟨m', h'⟩ := keepersOwnIf_mem (thawStart s) fun _ _ => true
  exact ⟨m', f, by rw [calLeave, keepersOwn, h', h]⟩

/-- Calliope has found its tick missing by the instant `at_`, under CONTINUE. -/
def tickMissed (s : State) (at_ : Nat) : State :=
  trb3 (raise (wb (modCal (atLeast s at_) fun c => { c with lossOut := true }) R.calTICK_LOSS true) 29) 5

theorem tickLoss_continue {s : State} {t : TT} {c : TickSrc} (hlive : s.live iMWY) (hact : s.cal.act = some t) (hsrc : s.cal.src = some c)
    (hkind : c.kind = 1) (hmax : 0 < c.max) (hout : s.cal.lossOut = false) (hruns : calRuns s = true) (hpol : hdrPolicy t.hdr 5 % 4 = 0) :
    exec .tickLoss s = .next (keep s (calLeave (wf (tickMissed s (s.cal.lossFrom + c.max)) R.calSTATE csSTALLED))) := by
  change execTickLoss s = _
  rw [execTickLoss, gate_live hlive]
  have hgo : c.kind = 1 ∧ 0 < c.max ∧ s.cal.lossOut = false ∧ calRuns s = true := ⟨hkind, hmax, hout, hruns⟩
  have hfault : calFault (modCal (atLeast s (s.cal.lossFrom + c.max)) fun c => { c with lossOut := true }) R.calTICK_LOSS 5 29 5 skipToSp =
      tickMissed s (s.cal.lossFrom + c.max) := by
    refine calFault_continue ?_ hpol _ _ _ _
    exact hact
  simp only [hact, hsrc, if_pos hgo, hpol, if_true, hfault]

theorem tickMissed_fields (s : State) (at_ : Nat) :
    let v := calLeave (wf (tickMissed s at_) R.calSTATE csSTALLED)
    rb v R.calTICK_LOSS = true ∧ calState v = csSTALLED ∧ v.raiseQ = s.raiseQ ++ [29] ∧ v.cal.lossOut = true ∧ at_ ≤ v.now := by
  intro v
  have hkeep := writesOnly_calLeave (wf (tickMissed s at_) R.calSTATE csSTALLED)
  obtain ⟨m, f, hv⟩ := calLeave_fld (wf (tickMissed s at_) R.calSTATE csSTALLED)
  refine ⟨(hkeep.rb_eq (by decide)).trans ?_, (hkeep.rf_eq (f := R.calSTATE) (by decide)).trans (rf_wf_same _ R.calSTATE _ (by decide) (by decide)),
    ?_, ?_, ?_⟩
  · rw [rb_wf_apart (by decide), tickMissed, rb_trb3, rb_raise, rb_wb_same _ _ _ (by decide) (by decide)]
  · exact congrArg State.raiseQ hv
  · exact congrArg (fun u => u.cal.lossOut) hv
  · have hnow : v.now = s.now + (at_ - s.now) := congrArg State.now hv
    omega

/-! ### The arrival of a tick (R184 to R186) -/

/-- A tick has come in; `rest` are on their way still. -/
def landed (s : State) (rest : List (Option (Nat × Nat))) : State := modCal s fun c => { c with flying := rest }

/-- The tick of frame `f` and minor tick `m` is the place now reached. -/
def tickPlaced (s : State) (rest : List (Option (Nat × Nat))) (f m : Nat) : State :=
  modCal (wf (wf (landed s rest) R.calMINOR_TICK m) R.calFRAME_NUM f) fun c => { c with
    nextF := f + (m + 1) / calTicks s, nextM := (m + 1) % calTicks s, arr := some (f, m), fast := if m = 0 then 0 else c.fast, entry := false }

/-- The frame before `f` is closed by tick 0. -/
def frameClosed (s : State) (f m : Nat) : State := if m = 0 ∧ 0 < f then digestClose s (f - 1) else s

/-- A tick is taken up in PLAYING. -/
def tickPlayed (s : State) : State := wf (freezeTick s) R.calSTATE csPLAYING

theorem barMissNow_none {u : State} (h : u.cal.bar = none) : barMissNow u = u := by
  unfold barMissNow
  split
  next hb _ => cases h.symm.trans hb
  next => rfl

theorem calFirst_ticked {u : State} (h : u.cal.ticked = true) : calFirst u = u := if_pos h

section Arrival
variable {s : State} {t : TT} {rest : List (Option (Nat × Nat))} (hlive : s.live iMWY) (hfly : s.cal.flying = none :: rest)
  (hact : s.cal.act = some t) (hbar : s.cal.bar = none)
include hfly hact hbar

theorem tickArrive_idle (hidle : calState s = csIDLE) : tickArrive s = landed s rest := by
  have hmiss : barMissNow (landed s rest) = landed s rest := barMissNow_none hbar
  unfold tickArrive
  simp only [hfly, hact]
  rw [show barMissNow (modCal s fun c => { c with flying := rest }) = landed s rest from hmiss]
  exact if_pos (.inl hidle)

theorem tickArrive_playing (htarget : s.cal.target = none) (hplay : calState s = csPLAYING) (hticked : s.cal.ticked = true)
    (hentry : s.cal.entry = false) (hnew : s.cal.newSrc = false) {u : State}
    (hu : frameClosed (tickPlaced s rest s.cal.nextF s.cal.nextM) s.cal.nextF s.cal.nextM = u) (hheld : calState u ≠ csHELD)
    (htick : (tickPlayed u).cal.ticked = true) : tickArrive s = tickChecks (tickPlayed u) s.cal.nextF s.cal.nextM := by
  subst hu
  have hmiss : barMissNow (landed s rest) = landed s rest := barMissNow_none hbar
  have hgo : ¬(calState (landed s rest) = csIDLE ∨ (!true && decide (hdrSrc t.hdr = 2)) = true ∧
      (Option.map Prod.snd (none : Option (Nat × Nat))).getD 0 ≠ 0) := by
    rw [show calState (landed s rest) = csPLAYING from hplay]
    simp [csPLAYING, csIDLE]
  have hnone : calTarget (landed s rest) = none := by rw [calTarget, show (landed s rest).cal.target = none from htarget]
  unfold tickArrive
  simp only [hfly, hact]
  rw [show barMissNow (modCal s fun c => { c with flying := rest }) = landed s rest from hmiss]
  simp only [hnone, show (landed s rest).cal.entry = false from hentry, show (landed s rest).cal.newSrc = false from hnew,
    show (landed s rest).cal.ticked = true from hticked, show (landed s rest).cal.act = some t from hact]
  refine (if_neg hgo).trans ((if_neg hheld).trans ?_)
  exact congrArg (fun u => tickChecks u s.cal.nextF s.cal.nextM) (calFirst_ticked htick)

end Arrival

theorem freezeTick_fld (s : State) : OnlyFld s (freezeTick s) := by
  unfold freezeTick
  dsimp only
  split
  next => exact iteInduction (motive := OnlyFld s) (fun _ => ⟨_, rfl⟩) fun _ => ⟨_, rfl⟩
  next => exact ⟨_, rfl⟩

theorem tickPlayed_eq (s : State) : ∃ f, tickPlayed s = wf { s with fld := f } R.calSTATE csPLAYING := by
  obtain ⟨f, h⟩ := freezeTick_fld s
  exact ⟨f, by rw [tickPlayed, h]⟩

section Placed
variable (s : State) (rest : List (Option (Nat × Nat))) (f m : Nat)

theorem writesOnly_tickPlaced : WritesOnly (· ∈ [R.calMINOR_TICK.addr, R.calFRAME_NUM.addr]) s (tickPlaced s rest f m) :=
  ((((WritesOnly.refl _ s).modCal _).wf _ (by simp)).wf _ (by simp)).modCal _

theorem tickPlaced_place : rf (tickPlaced s rest f m) R.calMINOR_TICK = m % 2 ^ 16 ∧ rf (tickPlaced s rest f m) R.calFRAME_NUM = f % 2 ^ 36 := by
  rw [tickPlaced, rf_modCal, rf_modCal, rf_wf_apart (by decide)]
  exact ⟨rf_wf_same _ R.calMINOR_TICK _ (by decide) (by decide), rf_wf_same _ R.calFRAME_NUM _ (by decide) (by decide)⟩

theorem calState_tickPlaced : calState (tickPlaced s rest f m) = calState s :=
  (writesOnly_tickPlaced s rest f m).rf_eq (f := R.calSTATE) (by decide)

theorem frameClosed_minor (h : m ≠ 0) : frameClosed s f m = s := if_neg fun hm => h hm.1

theorem frameClosed_alone (hf : 0 < f) (hrole : rf s R.casSH_ROLE = 0) : frameClosed s f 0 = { s with cas := { s.cas with digVals := [] } } := by
  refine (if_pos ⟨rfl, hf⟩).trans ?_
  simp [digestClose, hrole]

end Placed

/-- An action of an earlier place still waits when the tick of frame `f` and minor tick `m` arrives. -/
def lateMarked (s : State) (f m : Nat) : State :=
  modCal (cnt s R.calLATE_CNT) fun c => { c with lates := c.lates ++ [(f, m, s.now)] }

section Checks
variable {s : State} {t : TT} (f m : Nat) (hact : s.cal.act = some t)
include hact

theorem tickChecks_open (hbar : s.cal.bar = none) :
    ∃ w, (w = if posLt ((calPos s t).1, actTick t (calPos s t).2) (f, m) then lateMarked s f m else s) ∧
    tickChecks s f m = if m = 0 then overrun w f else w := by
  refine ⟨_, rfl, ?_⟩
  unfold tickChecks
  simp only [hact]
  cases posLt ((calPos s t).1, actTick t (calPos s t).2) (f, m)
  all_goals
    simp only [lateMarked, modCal, cnt_cal, hbar, Bool.false_eq_true, if_false, if_true]

theorem overrun_continue (hdf : s.cal.df < f) (hix : s.cal.ix < actCount t) (hruns : calRuns s = true) (hpol : hdrPolicy t.hdr 0 % 4 = 0) :
    overrun s f = trb3 (raise (wb (cnt s R.calOVERRUN_CNT) R.calOVERRUN true) 24) 0 := by
  unfold overrun
  simp only [hact]
  refine (if_pos ⟨.inr ⟨hdf, hix⟩, hruns⟩).trans ?_
  refine calFault_continue ?_ hpol _ _ _ _
  exact hact

end Checks

end Sys2Proof.Machine

/-! SUPPORT. What a tick of each source, of the kept grid, and an arrival leave (R181 to R186, R199). -/

namespace Sys2Proof.Machine

/-- `s` at another time. -/
abbrev atTime (s : State) (n dev : Nat) (sl : Int) : State := { s with now := n, devTime := dev, slew := sl }

section Sources
variable {s : State} {c : TickSrc} (hlive : s.live iMWY) (hsrc : s.cal.src = some c) (hwas : s.cal.was = none) (hidle : calState s ≠ csIDLE)
include hlive hsrc hwas hidle

theorem timeTick_raises (hkind : c.kind = 0) (hmarks : s.marksNot) : ∃ v, exec .timeTick s = .next v ∧
    v.cal.flying = s.cal.flying ++ [none] ∧ v.cal.src = some { c with n := c.n + 1 } ∧ v.mem = s.mem := by
  obtain ⟨n, dev, sl, htime⟩ := devAtLeast_time s (c.base + c.n * c.per + s.stepOfs).toNat
  have hkept : keptTicks (atTime s n dev sl) = none := by rw [keptTicks, hwas]
  obtain ⟨g, htick⟩ := ownTick_raises (s := atTime s n dev sl) (some c.per) hkept hmarks
  refine ⟨_, timeTick_live hsrc hkind hlive hwas hidle, ?_⟩
  rw [timeTicked, htime, htick]
  exact ⟨rfl, rfl, rfl⟩

theorem timeTick_marks (hkind : c.kind = 0) (hmarks : ¬ s.marksNot) : ∃ v, exec .timeTick s = .next v ∧
    v.cal.flying = s.cal.flying ∧ v.cas.marks.length = s.cas.marks.length + 1 ∧ v.cal.src = some { c with n := c.n + 1 } ∧ v.mem = s.mem := by
  obtain ⟨n, dev, sl, htime⟩ := devAtLeast_time s (c.base + c.n * c.per + s.stepOfs).toNat
  have hkept : keptTicks (atTime s n dev sl) = none := by rw [keptTicks, hwas]
  obtain ⟨mk, last, ls, htick⟩ := ownTick_marks (s := atTime s n dev sl) (some c.per) hkept hmarks
  refine ⟨_, timeTick_live hsrc hkind hlive hwas hidle, ?_⟩
  rw [timeTicked, htime, htick]
  exact ⟨rfl, List.length_append, rfl, rfl⟩

theorem distanceTick_raises (hcross : 0 < s.cal.crossQ) (hspacing : s.cal.spacing = false)
    (hmin : ∀ d, s.cal.deliv = some d → d + c.min ≤ s.now) (hmarks : s.marksNot) : ∃ v, exec .distanceTick s = .next v ∧
    v.cal.flying = s.cal.flying ++ [none] ∧ v.cal.crossQ = s.cal.crossQ - 1 ∧ v.cal.deliv = some s.now ∧ v.mem = s.mem := by
  obtain ⟨g, hdeliver⟩ := distDeliver_raises (s := crossed s) hwas hmarks
  refine ⟨_, distanceTick_live hlive hwas hidle hcross, ?_⟩
  rw [distCross_delivers hsrc hspacing hmin, hdeliver]
  exact ⟨rfl, rfl, rfl, rfl⟩

theorem distanceTick_waits (hcross : 0 < s.cal.crossQ) {d : Nat} (hspacing : s.cal.spacing = false) (hdeliv : s.cal.deliv = some d)
    (hmin : s.now < d + c.min) :
    exec .distanceTick s = .next (modCal s fun k => { k with crossQ := k.crossQ - 1, spacing := true }) := by
  rw [distanceTick_live hlive hwas hidle hcross, distCross_waits hsrc hspacing hdeliv hmin]
  rfl

theorem distanceTick_coalesced (hcross : 0 < s.cal.crossQ) (hspacing : s.cal.spacing = true) (hfast : s.cal.fast + 1 ≠ c.fast) :
    ∃ v, exec .distanceTick s = .next v ∧ rf v R.calFAST_TICK_CNT = min (rf s R.calFAST_TICK_CNT + 1) (2 ^ 36 - 1) ∧
      v.cal.fast = s.cal.fast + 1 ∧ v.cal.flying = s.cal.flying ∧ s.sameBut v [R.calFAST_TICK_CNT.addr] := by
  have hwrites : WritesOnly (· ∈ [R.calFAST_TICK_CNT.addr]) s
      (modCal (cnt (crossed s) R.calFAST_TICK_CNT) fun k => { k with fast := k.fast + 1 }) :=
    (((WritesOnly.refl _ s).modCal _).cnt (by simp)).modCal _
  refine ⟨_, distanceTick_live hlive hwas hidle hcross, ?_⟩
  rw [distCross_coalesced hsrc hspacing hwas hfast, keep_eq hwrites.cfg hwrites.pending]
  exact ⟨rf_cnt_same (crossed s) R.calFAST_TICK_CNT (by decide) (by decide), rfl, rfl, hwrites.sameBut⟩

theorem minSpacingEnd_raises {d : Nat} (hdeliv : s.cal.deliv = some d) (hspacing : s.cal.spacing = true) (hmarks : s.marksNot) :
    ∃ v, exec .minSpacingEnd s = .next v ∧ v.cal.flying = s.cal.flying ++ [none] ∧ v.cal.spacing = false ∧
      v.now = max s.now (d + c.min) ∧ v.cal.deliv = some v.now ∧ v.mem = s.mem := by
  obtain ⟨dev, sl, htime⟩ := atLeast_time s (d + c.min)
  obtain ⟨g, hdeliver⟩ := distDeliver_raises (s := atTime s (max s.now (d + c.min)) dev sl) hwas hmarks
  refine ⟨_, minSpacingEnd_live hlive hwas hidle hsrc hdeliv hspacing, ?_⟩
  rw [htime, hdeliver]
  exact ⟨rfl, rfl, rfl, rfl, rfl⟩

end Sources

/-! ### The grid kept over a warm reset (R199, R349) -/

theorem gateTick_kept {s : State} {ft : Nat} (hkept : keptTicks s = some ft) (haon : s.aonOn = true) (k : State → State) :
    gateTick s k = .next (keep s (k s)) := by
  rw [gateTick, hkept]
  exact gateAon_on haon k

section Kept
variable {s : State} {c : TickSrc} {ft : Nat} (haon : s.aonOn = true) (hkept : keptTicks s = some ft) (hsrc : s.cal.src = some c)
  (hkind : c.kind = 0)
include haon hkept hsrc hkind

theorem timeTick_kept : exec .timeTick s = .next (keep s (timeTicked s c)) := by
  refine Eq.trans rfl ((gateTick_kept hkept haon fun s =>
    match s.cal.src with
    | some t => if t.kind = 0 then timeTicked s t else s
    | none => s).trans ?_)
  simp only [hsrc, hkind, if_true]

theorem timeTick_keptMoves (hact : s.cal.act = none) :
    ∃ v, exec .timeTick s = .next v ∧ v.cal.flying = s.cal.flying ∧ v.cal.src = some { c with n := c.n + 1 } ∧
      (v.cal.nextF, v.cal.nextM) = (s.cal.nextF + (s.cal.nextM + 1) / ft, (s.cal.nextM + 1) % ft) ∧ v.cal.was = s.cal.was ∧
      (¬ s.marksNot → v.cas.marks.map (fun m => (m.frame, m.minor)) =
        s.cas.marks.map (fun m => (m.frame, m.minor)) ++ [(s.cal.nextF, s.cal.nextM)]) ∧
      (s.marksNot → v.cas.marks = s.cas.marks) ∧ v.mem = s.mem := by
  obtain ⟨n, dev, sl, htime⟩ := devAtLeast_time s (c.base + c.n * c.per + s.stepOfs).toNat
  have hmove := keptMove_idle (s := atTime s n dev sl) hact ft
  refine ⟨_, timeTick_kept haon hkept hsrc hkind, ?_⟩
  by_cases hmarks : s.marksNot
  · obtain ⟨g, htick⟩ := ownTick_kept_out (s := atTime s n dev sl) (some c.per) hkept hmarks
    rw [timeTicked, htime, htick, hmove]
    exact ⟨rfl, rfl, rfl, rfl, fun h => absurd hmarks h, fun _ => rfl, rfl⟩
  · obtain ⟨at_, last, ls, htick⟩ := ownTick_kept_marks (s := atTime s n dev sl) (some c.per) hkept hmarks
    rw [timeTicked, htime, htick, hmove]
    exact ⟨rfl, rfl, rfl, rfl, fun _ => List.map_append, fun h => absurd h hmarks, rfl⟩

end Kept

/-! ### The arrival of a tick in PLAYING (R184 to R186) -/

/-- The place that the tick of frame `f` and minor tick `m` has reached, in PLAYING. -/
def placeReached (s : State) (rest : List (Option (Nat × Nat))) (f m : Nat) (fl : FieldSt) (cas : CasSt) : State :=
  wf { tickPlaced s rest f m with fld := fl, cas := cas } R.calSTATE csPLAYING

/-- The words a tick writes in every case. -/
abbrev placeRegs : List Nat := [R.calMINOR_TICK.addr, R.calFRAME_NUM.addr, R.calSTATE.addr]

section Reached
variable (s : State) (rest : List (Option (Nat × Nat))) (f m : Nat) (fl : FieldSt) (cas : CasSt)

theorem writesOnly_placeReached : WritesOnly (· ∈ placeRegs) s (placeReached s rest f m fl cas) :=
  (((writesOnly_tickPlaced s rest f m).mono (by simp +contextual)).beside (u := { tickPlaced s rest f m with fld := fl, cas := cas })
    rfl rfl rfl rfl).wf _ (by simp)

theorem placeReached_place : rf (placeReached s rest f m fl cas) R.calMINOR_TICK = m % 2 ^ 16 ∧
    rf (placeReached s rest f m fl cas) R.calFRAME_NUM = f % 2 ^ 36 := by
  have hplace := tickPlaced_place s rest f m
  rw [placeReached, rf_wf_apart (by decide), rf_wf_apart (by decide)]
  exact hplace

theorem calState_placeReached : calState (placeReached s rest f m fl cas) = csPLAYING := rf_wf_same _ R.calSTATE _ (by decide) (by decide)

end Reached

section Arrival
variable {s : State} {t : TT} {rest : List (Option (Nat × Nat))} (hlive : s.live iMWY) (hfly : s.cal.flying = none :: rest)
  (hact : s.cal.act = some t) (hbar : s.cal.bar = none) (htarget : s.cal.target = none) (hplay : calState s = csPLAYING)
  (hticked : s.cal.ticked = true) (hentry : s.cal.entry = false) (hnew : s.cal.newSrc = false)

/-- What the arrival leaves for R186: the place reached, and the mark of a late action. -/
def lateSettled (s : State) (t : TT) (f m : Nat) : State :=
  if posLt ((calPos s t).1, actTick t (calPos s t).2) (f, m) then lateMarked s f m else s

include hlive hfly hact hbar htarget hplay hticked hentry hnew

/-- The tick's place is written, and the checks of R185 and R186 follow from there. -/
theorem tickArrival_closed {cas : CasSt} (hclosed : frameClosed (tickPlaced s rest s.cal.nextF s.cal.nextM) s.cal.nextF s.cal.nextM =
    { tickPlaced s rest s.cal.nextF s.cal.nextM with cas := cas }) : ∃ fl,
    let u := lateSettled (placeReached s rest s.cal.nextF s.cal.nextM fl cas) t s.cal.nextF s.cal.nextM
    exec .tickArrival s = .next (keep s (if s.cal.nextM = 0 then overrun u s.cal.nextF else u)) := by
  have hstate := calState_tickPlaced s rest s.cal.nextF s.cal.nextM
  obtain ⟨fl, hplayed⟩ := tickPlayed_eq { tickPlaced s rest s.cal.nextF s.cal.nextM with cas := cas }
  have harrive := tickArrive_playing hfly hact hbar htarget hplay hticked hentry hnew hclosed
    (ne_of_eq_of_ne (hstate.trans hplay) (by decide)) (by rw [hplayed]; exact hticked)
  obtain ⟨w, hw, hchecks⟩ := tickChecks_open (s := placeReached s rest s.cal.nextF s.cal.nextM fl cas) s.cal.nextF s.cal.nextM hact hbar
  refine ⟨fl, ?_⟩
  change gate iMWY s tickArrive = _
  rw [gate_live hlive, harrive, hplayed]
  exact congrArg (fun v => Host.Outcome.next (keep s v)) (hchecks.trans (by rw [hw]; rfl))

theorem tickArrival_minor (hm : s.cal.nextM ≠ 0) : ∃ fl, exec .tickArrival s =
    .next (keep s (lateSettled (placeReached s rest s.cal.nextF s.cal.nextM fl s.cas) t s.cal.nextF s.cal.nextM)) := by
  obtain ⟨fl, h⟩ := tickArrival_closed hlive hfly hact hbar htarget hplay hticked hentry hnew (cas := s.cas) (frameClosed_minor _ _ _ hm)
  exact ⟨fl, h.trans (by rw [if_neg hm])⟩

theorem tickArrival_onTime (hm : s.cal.nextM ≠ 0) (htime : posLt ((calPos s t).1, actTick t (calPos s t).2) (s.cal.nextF, s.cal.nextM) = false) :
    ∃ fl, exec .tickArrival s = .next (placeReached s rest s.cal.nextF s.cal.nextM fl s.cas) := by
  obtain ⟨fl, h⟩ := tickArrival_minor hlive hfly hact hbar htarget hplay hticked hentry hnew hm
  have hwrites := writesOnly_placeReached s rest s.cal.nextF s.cal.nextM fl s.cas
  have hsettled : lateSettled (placeReached s rest s.cal.nextF s.cal.nextM fl s.cas) t s.cal.nextF s.cal.nextM =
      placeReached s rest s.cal.nextF s.cal.nextM fl s.cas := if_neg (ne_true_of_eq_false htime)
  exact ⟨fl, by rw [h, hsettled, keep_eq hwrites.cfg hwrites.pending]⟩

theorem tickArrival_late (hm : s.cal.nextM ≠ 0) (hlate : posLt ((calPos s t).1, actTick t (calPos s t).2) (s.cal.nextF, s.cal.nextM) = true) :
    ∃ fl, exec .tickArrival s =
      .next (keep s (lateMarked (placeReached s rest s.cal.nextF s.cal.nextM fl s.cas) s.cal.nextF s.cal.nextM)) := by
  obtain ⟨fl, h⟩ := tickArrival_minor hlive hfly hact hbar htarget hplay hticked hentry hnew hm
  have hsettled : lateSettled (placeReached s rest s.cal.nextF s.cal.nextM fl s.cas) t s.cal.nextF s.cal.nextM =
      lateMarked (placeReached s rest s.cal.nextF s.cal.nextM fl s.cas) s.cal.nextF s.cal.nextM := if_pos hlate
  exact ⟨fl, by rw [h, hsettled]⟩

omit hlive hfly hact hbar htarget hplay hticked hentry hnew in
/-- Beyond the list of late ticks, the mark of a late action changes LATE_CNT alone. -/
theorem lateSettled_fields (s : State) (t : TT) (f m : Nat) : WritesOnly (· = R.calLATE_CNT.addr) s (lateSettled s t f m) ∧
    ∃ l, (lateSettled s t f m).cal = { s.cal with lates := l } ∧ (lateSettled s t f m).raiseQ = s.raiseQ := by
  unfold lateSettled
  split
  · exact ⟨((WritesOnly.refl (· = R.calLATE_CNT.addr) s).cnt (f := R.calLATE_CNT) rfl).modCal _, _, rfl, rfl⟩
  · exact ⟨.refl _ s, _, rfl, rfl⟩

theorem tickArrival_overrun (hm : s.cal.nextM = 0) (hdf : s.cal.df < s.cal.nextF) (hix : s.cal.ix < actCount t)
    (hrole : rf s R.casSH_ROLE = 0) (hpol : hdrPolicy t.hdr 0 % 4 = 0) :
    ∃ v, exec .tickArrival s = .next v ∧ rb v R.calOVERRUN = true ∧ rf v R.calMINOR_TICK = 0 ∧
      rf v R.calOVERRUN_CNT = min (rf s R.calOVERRUN_CNT + 1) (2 ^ 36 - 1) ∧ v.raiseQ = s.raiseQ ++ [24] := by
  have hrole' : rf (tickPlaced s rest s.cal.nextF 0) R.casSH_ROLE = 0 :=
    ((writesOnly_tickPlaced s rest s.cal.nextF 0).rf_eq (by decide)).trans hrole
  obtain ⟨fl, h⟩ := tickArrival_closed hlive hfly hact hbar htarget hplay hticked hentry hnew
    (by rw [hm]; exact frameClosed_alone _ _ (by omega) hrole')
  rw [hm] at h
  simp only [if_true] at h
  refine ⟨_, h, ?_⟩
  generalize hr : placeReached s rest s.cal.nextF 0 fl _ = r
  have hreached : WritesOnly (· ∈ placeRegs) s r := hr ▸ writesOnly_placeReached ..
  have hminor : rf r R.calMINOR_TICK = 0 := hr ▸ (placeReached_place ..).1
  have hstate : calState r = csPLAYING := hr ▸ calState_placeReached ..
  have hcal : r.cal.act = some t ∧ r.cal.df = s.cal.df ∧ r.cal.ix = s.cal.ix := hr ▸ ⟨hact, rfl, rfl⟩
  have hraise : r.raiseQ = s.raiseQ := hr ▸ rfl
  obtain ⟨hlate, l, hlcal, hlraise⟩ := lateSettled_fields r t s.cal.nextF 0
  obtain ⟨hract, hrdf, hrix⟩ := hcal
  generalize lateSettled r t s.cal.nextF 0 = w at hlate hlcal hlraise ⊢
  have hruns : calRuns w = true := by
    rw [calRuns, show calState w = csPLAYING from (hlate.rf_eq (f := R.calSTATE) (by decide)).trans hstate]
    decide
  rw [overrun_continue (t := t) _ (by rw [hlcal, hract]) (by rw [hlcal, hrdf]; exact hdf) (by rw [hlcal, hrix]; exact hix) hruns hpol]
  have hcount : rf w R.calOVERRUN_CNT = rf s R.calOVERRUN_CNT := (hlate.rf_eq (by decide)).trans (hreached.rf_eq (by decide))
  have hplace : rf w R.calMINOR_TICK = 0 := (hlate.rf_eq (by decide)).trans hminor
  rw [keep_eq (t := trb3 (raise (wb (cnt w R.calOVERRUN_CNT) R.calOVERRUN true) 24) 0) (hlate.cfg.trans hreached.cfg)
    (hlate.pending.trans hreached.pending)]
  simp only [rb_trb3, rf_trb3, rb_raise, rf_raise]
  refine ⟨rb_wb_same _ _ _ (by decide) (by decide), ?_, ?_, congrArg (· ++ [24]) (hlraise.trans hraise)⟩
  · rw [rf_wb_apart (by decide), rf_cnt_apart (by decide), hplace]
  · rw [rf_wb_apart (by decide), rf_cnt_same _ _ (by decide) (by decide), hcount]
    rfl

end Arrival

/-- Settles O22: the ticks of each source go to Calliope or down as markers, a missing one under CONTINUE leaves it STALLED, the kept grid
moves on alone, and an arrival is dropped, is the place reached, finds an action late, or finds a frame overrun. -/
theorem calliopeTicks : Obligations.CalliopeTicks := by
  refine ⟨fun s hlive => ⟨?_, ?_, ?_, ?_, ?_⟩, ?_, ?_⟩
  · intro c hsrc hkind hidle hwas hmarks
    exact timeTick_raises hlive hsrc hwas hidle hkind hmarks
  · intro c hsrc hkind hidle hwas hmarks
    exact timeTick_marks hlive hsrc hwas hidle hkind hmarks
  · intro c hsrc hcross hidle hwas
    exact ⟨distanceTick_raises hlive hsrc hwas hidle hcross, fun _ => distanceTick_waits hlive hsrc hwas hidle hcross,
      distanceTick_coalesced hlive hsrc hwas hidle hcross⟩
  · intro c d hsrc hdeliv hspacing hidle hwas hmarks
    exact minSpacingEnd_raises hlive hsrc hwas hidle hdeliv hspacing hmarks
  · intro t c hact hsrc hkind hmax hout hruns hpol
    exact ⟨_, tickLoss_continue hlive hact hsrc hkind hmax hout hruns hpol, tickMissed_fields s _⟩
  · intro s c ft haon hkept hsrc hkind hact
    exact timeTick_keptMoves haon hkept hsrc hkind hact
  · intro s t rest hlive hfly hact hbar htarget
    refine ⟨fun hidle => ?_, ?_⟩
    · change gate iMWY s tickArrive = _
      rw [gate_live hlive, tickArrive_idle hfly hact hbar hidle]
      rfl
    intro f m hplay hticked hentry hnew _
    refine ⟨fun hm htime => ?_, fun hm hlate => ?_, fun hm hdf hix hrole hpol => ?_⟩
    · obtain ⟨fl, h⟩ := tickArrival_onTime hlive hfly hact hbar htarget hplay hticked hentry hnew hm htime
      obtain ⟨hminor, hframe⟩ := placeReached_place s rest f m fl s.cas
      exact ⟨_, h, hminor, hframe, rfl, rfl, rfl, rfl, rfl, (writesOnly_placeReached s rest f m fl s.cas).sameBut⟩
    · obtain ⟨fl, h⟩ := tickArrival_late hlive hfly hact hbar htarget hplay hticked hentry hnew hm hlate
      have hcount := (writesOnly_placeReached s rest f m fl s.cas).rf_eq (f := R.calLATE_CNT) (by decide)
      have hlates : rf (lateMarked (placeReached s rest f m fl s.cas) f m) R.calLATE_CNT = min (rf s R.calLATE_CNT + 1) (2 ^ 36 - 1) := by
        rw [lateMarked, rf_modCal, rf_cnt_same _ _ (by decide) (by decide), hcount]
        rfl
      exact ⟨_, h, hlates, rfl, rfl⟩
    · exact tickArrival_overrun hlive hfly hact hbar htarget hplay hticked hentry hnew hm hdf hix hrole hpol

end Sys2Proof.Machine

/-! SUPPORT. Accesses to Stream Memory that the model makes at once, where no access waits and no completion is held (R54 to R65). -/

namespace Sys2Proof.Machine

/-! ### What an access may write -/

/-- The words below every block's space, Stream Memory's own words among them, and Stream Memory's registers. -/
abbrev SmWord (a : Nat) : Prop := a < 0x10000000 ∨ 0x20040000 ≤ a ∧ a < 0x20050000

/-- From `s` to `t` only words in `P` are written, the probe channels' fresh list and Calliope's own state are the same, and in `t` no access
to Stream Memory waits and no bank holds a completion. -/
structure QuietStep (P : Nat → Prop) (s t : State) : Prop extends WritesOnly P s t where
  fresh : t.idn.fresh = s.idn.fresh
  cal : t.cal = s.cal
  rmw : t.sm.rmw = []
  wait : t.sm.wait = []

theorem QuietStep.refl {s : State} (P : Nat → Prop) (hr : s.sm.rmw = []) (hw : s.sm.wait = []) : QuietStep P s s :=
  ⟨WritesOnly.refl P s, rfl, rfl, hr, hw⟩

section Quiet
variable {P : Nat → Prop} {s t u : State} (h : QuietStep P s t)
include h

theorem QuietStep.trans (h' : QuietStep P t u) : QuietStep P s u :=
  ⟨h.toWritesOnly.trans h'.toWritesOnly, h'.fresh.trans h.fresh, h'.cal.trans h.cal, h'.rmw, h'.wait⟩

theorem QuietStep.mono {Q : Nat → Prop} (hpq : ∀ a, P a → Q a) : QuietStep Q s t := { h with toWritesOnly := h.toWritesOnly.mono hpq }

/-- A change of words alone, as `WritesOnly` has it. -/
theorem QuietStep.writes (h' : WritesOnly P t u) (hfresh : u.idn.fresh = t.idn.fresh) (hcal : u.cal = t.cal) (hr : u.sm.rmw = t.sm.rmw)
    (hw : u.sm.wait = t.sm.wait) : QuietStep P s u :=
  ⟨h.toWritesOnly.trans h', hfresh.trans h.fresh, hcal.trans h.cal, hr.trans h.rmw, hw.trans h.wait⟩

theorem QuietStep.wr {a : Nat} (w : Word) (ha : P a) : QuietStep P s (Machine.wr t a w) := h.writes ((WritesOnly.refl P t).wr w ha) rfl rfl rfl rfl
theorem QuietStep.wf {f : Field} (v : Nat) (hf : P f.addr) : QuietStep P s (Machine.wf t f v) := h.wr _ hf
theorem QuietStep.wb {f : Field} (b : Bool) (hf : P f.addr) : QuietStep P s (Machine.wb t f b) := h.wr _ hf
theorem QuietStep.cnt {f : Field} (hf : P f.addr) : QuietStep P s (Machine.cnt t f) := h.wr _ hf
theorem QuietStep.raise (n : Nat) : QuietStep P s (Machine.raise t n) := h.writes ((WritesOnly.refl P t).raise n) rfl rfl rfl rfl
theorem QuietStep.notice (r b n d : Nat) : QuietStep P s (Machine.notice t r b n d) :=
  h.writes ((WritesOnly.refl P t).notice r b n d) rfl rfl rfl rfl

theorem QuietStep.beside (hcfg : u.cfg = t.cfg) (hpending : u.pending = t.pending) (hreq : u.rstReq = t.rstReq) (hmem : u.mem = t.mem)
    (hfresh : u.idn.fresh = t.idn.fresh) (hcal : u.cal = t.cal) (hr : u.sm.rmw = t.sm.rmw) (hw : u.sm.wait = t.sm.wait) : QuietStep P s u :=
  h.writes ((WritesOnly.refl P t).beside hcfg hpending hreq hmem) hfresh hcal hr hw

end Quiet

/-! ### A read or a write made at once -/

section Access
variable {P : Nat → Prop} {s t : State} (h : QuietStep P s t) (hP : ∀ a, SmWord a → P a)
include h

theorem QuietStep.eccClear (a : Nat) : QuietStep P s (Machine.eccClear t a) := h.beside rfl rfl rfl rfl rfl rfl rfl rfl

theorem QuietStep.smTurn (b x : Nat) : QuietStep P s (Machine.smTurn t b x) := h.beside rfl rfl rfl rfl rfl rfl rfl rfl

theorem QuietStep.smComplete_eq (b : Nat) : Machine.smComplete t b = t := smComplete_none (by rw [h.rmw]; rfl)

include hP

theorem QuietStep.smCorrected (a pos : Nat) : QuietStep P s (Machine.smCorrected t a pos) := by
  have hword : ∀ f : Field, 0x20040000 ≤ f.addr ∧ f.addr < 0x20050000 → P f.addr := fun f hf => hP _ (.inr hf)
  unfold Machine.smCorrected
  extract_lets counted logged _ waiting
  have hlogged : QuietStep P s logged := (((h.wb (f := R.smCE) true (hword _ (by decide))).cnt (f := R.smCE_CNT) (hword _ (by decide))).wf
    (f := R.smCE_ADDR) a (hword _ (by decide))).wf (f := R.smCE_POS) pos (hword _ (by decide))
  have hwaiting : QuietStep P s waiting := hlogged.beside rfl rfl rfl rfl rfl rfl rfl rfl
  exact iteInduction (motive := QuietStep P s) (fun _ => (hwaiting.raise _).notice _ _ _ _) fun _ => hwaiting

theorem QuietStep.smUncorrectable (a : Nat) : QuietStep P s (Machine.smUncorrectable t a) := by
  have hword : ∀ f : Field, 0x20040000 ≤ f.addr ∧ f.addr < 0x20050000 → P f.addr := fun f hf => hP _ (.inr hf)
  unfold Machine.smUncorrectable
  extract_lets first
  have hfirst : QuietStep P s first :=
    iteInduction (motive := QuietStep P s) (fun _ => h) fun _ => h.wf (f := R.smUE_ADDR) a (hword _ (by decide))
  exact (((hfirst.wb (f := R.smUE) true (hword _ (by decide))).cnt (f := R.smUE_CNT) (hword _ (by decide))).raise _).notice _ _ _ _

theorem QuietStep.smReadOwn (a : Nat) : QuietStep P s (Machine.smReadOwn t a).2.2 := by
  unfold Machine.smReadOwn
  split
  · exact h
  · split
    · exact h
    next p _ => exact h.smCorrected hP a p
    · exact h.smUncorrectable hP a

omit hP in
/-- With nothing waiting, the access is its bank's next grant. -/
theorem QuietStep.smAccess_eq (a : Nat) (k : SmKind) :
    smAccess t a k = smPerform (Machine.smTurn t (smBank t a) (smPos a)) a k := by
  have hpos : smPos a < 8 := by rw [smPos]; omega
  have hwaiting : smWaiting t (smBank t a) = [] := smWaiting_nil h.wait _
  rw [smAccess, h.wait, List.length_nil, smServe]
  simp only [h.smComplete_eq, hwaiting, rotWin_singleton hpos]
  exact if_pos ⟨trivial, rfl⟩

theorem QuietStep.smRd (a : Nat) : QuietStep P s (Machine.smRd t a).2.2 := by
  have hturn := h.smTurn (smBank t a) (smPos a)
  unfold Machine.smRd
  split
  · exact h
  · split
    · rw [h.smAccess_eq, smPerform, smRead, hturn.smComplete_eq]
      exact hturn.smReadOwn hP a
    · exact h

theorem QuietStep.smPut (a : Nat) (w : Word) : QuietStep P s (Machine.smPut t a w) := by
  have hturn := h.smTurn (smBank t a) (smPos a)
  unfold Machine.smPut
  split
  next hreach =>
    have ha : SmWord a := .inl (hreach.1.trans (streamWords_lt _))
    rw [h.smAccess_eq, smPerform, smWrite, hturn.smComplete_eq, smWriteOwn]
    split
    · exact hturn
    · exact (hturn.wr w (hP a ha)).eccClear a
  · exact h

theorem QuietStep.smWr (a : Nat) (w : Word) : QuietStep P s (Machine.smWr t a w) :=
  iteInduction (motive := QuietStep P s) (fun _ => h) fun _ => h.smPut hP a w

end Access

theorem QuietStep.smRdN {P : Nat → Prop} (hP : ∀ a, SmWord a → P a) (n : Nat) {s t : State} (h : QuietStep P s t) (a : Nat) :
    QuietStep P s (Machine.smRdN t a n).2 := by
  induction n generalizing t a with
  | zero => exact h
  | succ n ih =>
    have hread := h.smRd hP a
    unfold Machine.smRdN
    dsimp only
    split
    · exact hread
    · exact ih hread (a + 1)

end Sys2Proof.Machine

/-! SUPPORT. PROBE_STEP and MAP_SWAP: what their guard, their status words and the map's test leave alone (R247, R250 to R256). -/

namespace Sys2Proof.Machine

/-! ### The words a step leaves alone -/

/-- Every word but PSTEP. -/
abbrev BesidePstep (a : Nat) : Prop := a ≠ R.idnPSTEP_LO.addr ∧ a ≠ R.idnPSTEP_HI.addr

theorem besidePstep_of_smWord (a : Nat) (h : SmWord a) : BesidePstep a := by
  have hlo : R.idnPSTEP_LO.addr = 0x201A0001 := rfl
  have hhi : R.idnPSTEP_HI.addr = 0x201A0002 := rfl
  simp only [BesidePstep, SmWord] at h ⊢
  omega

section Probe
variable {s t : State} (h : QuietStep BesidePstep s t)
include h

theorem QuietStep.guardTrip : QuietStep BesidePstep s (Machine.guardTrip t) :=
  (((((h.wf (f := R.idnGUARD_STATE) 1 (by decide)).wb (f := R.idnGUARD_TRIP) true (by decide)).cnt (f := R.idnGUARD_TRIP_CNT) (by decide)).wf
    (f := R.idnTRIP_STEP) _ (by decide)).raise 168).notice _ _ _ _

theorem QuietStep.guardHigh : QuietStep BesidePstep s (Machine.guardHigh t).2 := h.smRd besidePstep_of_smWord _

theorem QuietStep.guardStep : QuietStep BesidePstep s (Machine.guardStep t) := by
  have hread := h.guardHigh
  unfold Machine.guardStep
  refine iteInduction (motive := QuietStep BesidePstep s) (fun _ => ?_) fun _ => ?_
  · refine iteInduction (motive := QuietStep BesidePstep s) (fun _ => ?_) fun _ => h
    exact iteInduction (motive := QuietStep BesidePstep s) (fun _ => hread.guardTrip) fun _ => hread
  · refine iteInduction (motive := QuietStep BesidePstep s) (fun _ => hread.wf _ (by decide)) fun _ => ?_
    refine iteInduction (motive := QuietStep BesidePstep s) (fun _ => ?_) fun _ => hread.wf _ (by decide)
    exact (((hread.wf (f := R.idnQUIET_CNT) 0 (by decide)).wf (f := R.idnGUARD_STATE) 0 (by decide)).raise 169).notice _ _ _ _

theorem QuietStep.unitGo_probe (c st : Nat) : QuietStep BesidePstep s (unitGo t (.probe c) st) := by
  have haddr : BesidePstep (R.idnUNIT_STATE c).addr := by
    have hlo : R.idnPSTEP_LO.addr = 0x201A0001 := rfl
    have hhi : R.idnPSTEP_HI.addr = 0x201A0002 := rfl
    simp only [BesidePstep, hlo, hhi, R.idnUNIT_STATE, blkBase]
    omega
  exact (h.beside (u := { t with unitT := kvDel t.unitT (unitKey (.probe c)) ++ [(unitKey (.probe c), t.now)] })
    rfl rfl rfl rfl rfl rfl rfl rfl).wf (f := R.idnUNIT_STATE c) st haddr

end Probe

theorem QuietStep.foldl {α : Type} {P : Nat → Prop} {s t : State} (h : QuietStep P s t) {k : State → α → State} {l : List α}
    (hk : ∀ u, QuietStep P s u → ∀ x ∈ l, QuietStep P s (k u x)) : QuietStep P s (l.foldl k t) :=
  List.foldlRecOn (motive := QuietStep P s) l k h hk

/-- A PROBE_STEP counts PSTEP. -/
def pstepCounted (s : State) : State :=
  wf (wf s R.idnPSTEP_LO (pstep s + 1)) R.idnPSTEP_HI ((pstep s + 1) / 2 ^ 36)

theorem writesOnly_pstepCounted (s : State) : WritesOnly (fun _ => True) s (pstepCounted s) :=
  ((WritesOnly.refl _ s).wf (f := R.idnPSTEP_LO) (pstep s + 1) trivial).wf (f := R.idnPSTEP_HI) ((pstep s + 1) / 2 ^ 36) trivial

theorem pstep_pstepCounted (s : State) : pstep (pstepCounted s) = (pstep s + 1) % 2 ^ 72 := by
  have hlo : rf (pstepCounted s) R.idnPSTEP_LO = (pstep s + 1) % 2 ^ 36 := by
    rw [pstepCounted, rf_wf_apart (by decide)]
    exact rf_wf_same _ R.idnPSTEP_LO _ (by decide) (by decide)
  have hhi : rf (pstepCounted s) R.idnPSTEP_HI = (pstep s + 1) / 2 ^ 36 % 2 ^ 36 := rf_wf_same _ R.idnPSTEP_HI _ (by decide) (by decide)
  rw [pstep, hlo, hhi]
  omega

/-- PSTEP is counted, and every channel is in force. -/
def stepCounted (s : State) : State :=
  { pstepCounted s with idn := { s.idn with fresh := [], off := rb (pstepCounted s) R.idnPROBE_OFF } }

theorem pstep_setIdn (s : State) (i : IdentSt) : pstep { s with idn := i } = pstep s := rfl

theorem pstep_stepCounted (s : State) : pstep (stepCounted s) = (pstep s + 1) % 2 ^ 72 := (pstep_setIdn _ _).trans (pstep_pstepCounted s)

theorem pstep_of_quiet {s t : State} (h : QuietStep BesidePstep s t) : pstep t = pstep s := by
  rw [pstep, pstep, h.rf_eq (f := R.idnPSTEP_LO) (by decide), h.rf_eq (f := R.idnPSTEP_HI) (by decide)]

theorem WritesOnly.setIdn {P : Nat → Prop} {s t : State} (h : WritesOnly P s t) (i : IdentSt) : WritesOnly P s { t with idn := i } :=
  h.beside rfl rfl rfl rfl

theorem writesOnly_stepCounted (s : State) : WritesOnly (fun _ => True) s (stepCounted s) :=
  (writesOnly_pstepCounted s).setIdn _

theorem probeStep_quiet {s : State} (hok : s.probeOk = true) (hr : s.sm.rmw = []) (hw : s.sm.wait = []) :
    QuietStep BesidePstep (stepCounted s) (probeStep s) := by
  unfold probeStep
  rw [if_neg (ne_false_of_eq_true hok)]
  extract_lets n counted idn guarded applied run waked a idn' status
  have hguarded : QuietStep BesidePstep (stepCounted s) guarded :=
    (QuietStep.refl (s := stepCounted s) BesidePstep hr hw).guardStep
  have hrun : QuietStep BesidePstep (stepCounted s) run := hguarded.wf (f := R.idnRUN) _ (by decide)
  have hwaked : QuietStep BesidePstep (stepCounted s) waked := hrun.foldl fun u hu c _ =>
    iteInduction (motive := QuietStep BesidePstep (stepCounted s)) (fun _ => hu.unitGo_probe c usISOLATING) fun _ => hu
  have hstatus : QuietStep BesidePstep (stepCounted s) status := hwaked.smWr besidePstep_of_smWord _ _
  refine iteInduction (motive := QuietStep BesidePstep (stepCounted s)) (fun _ => ?_) fun _ => ?_
  · exact hwaked.beside rfl rfl rfl rfl rfl rfl rfl rfl
  · exact QuietStep.smWr (hstatus.beside (u := { status with idn := { status.idn with lastStat := some (a + 1) } })
      rfl rfl rfl rfl rfl rfl rfl rfl) besidePstep_of_smWord _ _

/-! ### The map's test and its installation (R254 to R256) -/

/-- What a test of the map answers, from `s`: a code of SWAP_CODE, and a state no word of which is changed beyond Stream Memory's. -/
def MapTested (P : Nat → Prop) (s : State) (r : Nat × State) : Prop := r.1 ≤ 4 ∧ QuietStep P s r.2

theorem QuietStep.mapTest {P : Nat → Prop} {s t : State} (hP : ∀ a, SmWord a → P a) (h : QuietStep P s t) (rev : Bool) :
    MapTested P s (Machine.mapTest t rev) := by
  unfold Machine.mapTest
  have hhead := h.smRdN hP 8 (mapInactive t)
  refine iteInduction (motive := MapTested P s) (fun _ => ⟨by omega, h⟩) fun _ => ?_
  dsimp only
  split
  next => exact ⟨Nat.le_refl 4, hhead⟩
  next head _ =>
    refine iteInduction (motive := MapTested P s) (fun _ => ⟨by omega, hhead⟩) fun _ => ?_
    refine iteInduction (motive := MapTested P s) (fun _ => ⟨by omega, hhead⟩) fun _ => ?_
    refine iteInduction (motive := MapTested P s) (fun _ => ⟨by omega, hhead⟩) fun _ => ?_
    generalize bits (head.getD 0 0#36).toNat 12 0 = rows
    have hrows := hhead.smRdN hP rows (mapInactive t + 8 + rows * bits (head.getD 1 0#36).toNat 6 0)
    split
    next => exact ⟨Nat.le_refl 4, hrows⟩
    next conf _ =>
      refine ⟨?_, hrows⟩
      exact iteInduction (motive := (· ≤ 4)) (fun _ => by omega) fun _ => by omega

/-- Every word but SWAP_CODE's. -/
abbrev BesideCode (a : Nat) : Prop := a ≠ R.idnSWAP_CODE.addr

/-- Every word but SWAP_CODE's and MAP_ACTIVE's. -/
abbrev BesideActive (a : Nat) : Prop := BesideCode a ∧ a ≠ R.idnMAP_ACTIVE.addr

theorem besideActive_of_lt {a : Nat} (h : a < 0x201A0000) : BesideActive a := by
  have hcode : R.idnSWAP_CODE.addr = 0x201A000D := rfl
  have hactive : R.idnMAP_ACTIVE.addr = 0x201A0003 := rfl
  simp only [BesideActive, BesideCode]
  omega

theorem besideActive_of_smWord (a : Nat) (h : SmWord a) : BesideActive a := besideActive_of_lt (by simp only [SmWord] at h; omega)

theorem besideCode_of_smWord (a : Nat) (h : SmWord a) : BesideCode a := (besideActive_of_smWord a h).1

section Map
variable {s t : State}

/-- A block's descriptor base is written in its pipe's registers. -/
theorem QuietStep.wrBase (h : QuietStep BesideCode s t) (b n : Nat) :
    QuietStep BesideCode s (wrN t (blkBase .vp (rf t (R.idnPIPE b)) + 0x100 + 8 * rf t (R.idnDESC b)) n) := by
  have hpipe : rf t (R.idnPIPE b) < 2 ^ 2 := rf_lt t (R.idnPIPE b)
  have hdesc : rf t (R.idnDESC b) < 2 ^ 5 := rf_lt t (R.idnDESC b)
  exact h.wr _ (besideActive_of_lt (by simp only [blkBase]; omega)).1

theorem QuietStep.mapInstall (h : QuietStep BesideCode s t) : QuietStep BesideCode s (Machine.mapInstall t) := by
  unfold Machine.mapInstall
  extract_lets base old active based freed
  have hactive : QuietStep BesideCode s active := h.wf (f := R.idnMAP_ACTIVE) _ (by decide)
  have hbased : QuietStep BesideCode s based := hactive.foldl fun u hu b _ =>
    iteInduction (motive := QuietStep BesideCode s) (fun _ => hu.wrBase b _) fun _ => hu
  have hfreed : QuietStep BesideCode s freed := hbased.smWr besideCode_of_smWord _ _
  exact (((hfreed.wb (f := R.idnSWAP_DONE) true (by decide)).cnt (f := R.idnSWAP_CNT) (by decide)).raise 170).notice _ _ _ _

/-- A test failed; its code is written already. -/
theorem QuietStep.swapFail (h : QuietStep BesideActive s t) :
    QuietStep BesideActive s (Machine.notice (Machine.raise (Machine.cnt (Machine.wb t R.idnSWAP_FAIL true) R.idnSWAP_FAIL_CNT) 171) 8 3 0 0) :=
  (((h.wb (f := R.idnSWAP_FAIL) true (by decide)).cnt (f := R.idnSWAP_FAIL_CNT) (by decide)).raise 171).notice _ _ _ _

/-- What MAP_SWAP leaves, by the code of its test. -/
theorem mapSwap_fields (hr : s.sm.rmw = []) (hw : s.sm.wait = []) :
    let code := (mapTest s (rb s R.idnREVERT_PENDING)).1
    WritesOnly (fun _ => True) s (mapSwap s) ∧ (mapSwap s).cal = s.cal ∧ rb (mapSwap s) R.idnREVERT_PENDING = false ∧
      rf (mapSwap s) R.idnSWAP_CODE = code ∧ (code ≠ 0 → rf (mapSwap s) R.idnMAP_ACTIVE = rf s R.idnMAP_ACTIVE) := by
  intro code
  obtain ⟨hcode, htest⟩ := (QuietStep.refl SmWord hr hw).mapTest (fun _ ha => ha) (rb s R.idnREVERT_PENDING)
  generalize hcoded : wf (mapTest s (rb s R.idnREVERT_PENDING)).2 R.idnSWAP_CODE code = coded
  have hto : QuietStep (fun _ => True) s coded := hcoded ▸ (htest.mono fun _ _ => trivial).wf _ trivial
  have hcodeIs : rf coded R.idnSWAP_CODE = code := by
    rw [← hcoded, rf_wf_same _ R.idnSWAP_CODE _ (by decide) (by decide)]
    exact Nat.mod_eq_of_lt (Nat.lt_of_le_of_lt hcode (by decide))
  have hactiveIs : rf coded R.idnMAP_ACTIVE = rf s R.idnMAP_ACTIVE := by
    rw [← hcoded, rf_wf_apart (by decide)]
    exact htest.rf_eq (by decide)
  have htry : mapTry s (rb s R.idnREVERT_PENDING) = if code = 0 then mapInstall coded else if code = 1 then coded
      else notice (raise (cnt (wb coded R.idnSWAP_FAIL true) R.idnSWAP_FAIL_CNT) 171) 8 3 0 0 := by rw [← hcoded]; rfl
  have hstill : QuietStep BesideActive coded coded := .refl _ hto.rmw hto.wait
  have hfail : code ≠ 0 → QuietStep BesideActive coded (mapTry s (rb s R.idnREVERT_PENDING)) := by
    intro hne
    rw [htry, if_neg hne]
    exact iteInduction (motive := QuietStep BesideActive coded) (fun _ => hstill) fun _ => hstill.swapFail
  have htried : QuietStep BesideCode coded (mapTry s (rb s R.idnREVERT_PENDING)) := by
    by_cases h0 : code = 0
    · rw [htry, if_pos h0]
      exact (hstill.mono fun _ ha => ha.1).mapInstall
    · exact (hfail h0).mono fun _ ha => ha.1
  have hall := (hto.trans (htried.mono fun _ _ => trivial)).wb (f := R.idnREVERT_PENDING) false trivial
  refine ⟨hall.toWritesOnly, hall.cal, rb_wb_same _ _ _ (by decide) (by decide), ?_, fun hne => ?_⟩
  · rw [mapSwap, rf_wb_apart (by decide), htried.rf_eq (by decide), hcodeIs]
  · rw [mapSwap, rf_wb_apart (by decide), (hfail hne).rf_eq (by decide), hactiveIs]

end Map

end Sys2Proof.Machine

/-! SUPPORT. DMA_START (R316): a channel's start changes its own registers, its own transfer and its own bit alone. -/

namespace Sys2Proof.Machine

/-- The registers of channel c. -/
abbrev ChanWord (c a : Nat) : Prop := 0x20010100 + 32 * c ≤ a ∧ a < 0x20010120 + 32 * c

theorem chanWord_of_eq {c a : Nat} (k : Nat) (hk : k < 32) (h : a = 0x20010100 + k + 32 * c) : ChanWord c a := by
  subst h
  simp only [ChanWord]
  omega

/-! ### The transfer of a channel -/

section Find
variable (s : State) {c d : Nat} {k : DmaCh}

theorem find?_chan_filter {l : List DmaCh} (h : d ≠ c) :
    (l.filter fun j => decide (j.c ≠ c)).find? (fun j => decide (j.c = d)) = l.find? fun j => decide (j.c = d) := by
  rw [List.find?_filter]
  congr 1
  funext j
  by_cases hj : j.c = d
  · simp [hj, h]
  · simp [hj]

theorem dmaFind_dmaPut_same : dmaFind (dmaPut s k) k.c = some k := by
  have hnone : (s.dma.chans.filter fun j => decide (j.c ≠ k.c)).find? (fun j => decide (j.c = k.c)) = none := by
    refine List.find?_eq_none.mpr fun j hj => ?_
    simpa using (List.mem_filter.mp hj).2
  simp only [dmaFind, dmaPut, List.find?_append, hnone]
  simp

theorem dmaFind_dmaPut_ne (h : d ≠ k.c) : dmaFind (dmaPut s k) d = dmaFind s d := by
  simp only [dmaFind, dmaPut, List.find?_append, find?_chan_filter h]
  simp [h.symm]

theorem dmaFind_dmaDrop_ne (h : d ≠ c) : dmaFind (dmaDrop s c) d = dmaFind s d := find?_chan_filter h

end Find

/-! ### What a start of channel c may change -/

/-- From `s` to `t` only channel c is changed: its registers, its transfer, its bit of what Calliope waits for. -/
structure ChanStep (c : Nat) (s t : State) : Prop extends WritesOnly (ChanWord c) s t where
  find : ∀ d, d ≠ c → dmaFind t d = dmaFind s d
  mark : ∀ d, d ≠ c → bit t.cal.dmas d = bit s.cal.dmas d

theorem ChanStep.refl (c : Nat) (s : State) : ChanStep c s s := ⟨WritesOnly.refl _ s, fun _ _ => rfl, fun _ _ => rfl⟩

section Step
variable {c : Nat} {s t : State} (h : ChanStep c s t)
include h

theorem ChanStep.wf {f : Field} (v : Nat) (hf : ChanWord c f.addr) : ChanStep c s (Machine.wf t f v) :=
  { h with toWritesOnly := h.toWritesOnly.wf v hf }
theorem ChanStep.wb {f : Field} (b : Bool) (hf : ChanWord c f.addr) : ChanStep c s (Machine.wb t f b) :=
  { h with toWritesOnly := h.toWritesOnly.wb b hf }
theorem ChanStep.notice (r b n d : Nat) : ChanStep c s (Machine.notice t r b n d) := { h with toWritesOnly := h.toWritesOnly.notice r b n d }

theorem ChanStep.raiseIf (b : Bool) (n : Nat) : ChanStep c s (Machine.raiseIf t b n) := by
  cases b with
  | false => exact h
  | true => exact { h with toWritesOnly := h.toWritesOnly.raise n }

theorem ChanStep.dmaPut {k : DmaCh} (hk : k.c = c) : ChanStep c s (Machine.dmaPut t k) where
  toWritesOnly := h.toWritesOnly.beside rfl rfl rfl rfl
  find d hd := (dmaFind_dmaPut_ne t (hk ▸ hd)).trans (h.find d hd)
  mark := h.mark

theorem ChanStep.dmaDrop : ChanStep c s (Machine.dmaDrop t c) where
  toWritesOnly := h.toWritesOnly.beside rfl rfl rfl rfl
  find d hd := (dmaFind_dmaDrop_ne t hd).trans (h.find d hd)
  mark := h.mark

theorem ChanStep.setGen (g : Nat) : ChanStep c s { t with dma := { t.dma with gen := g } } where
  toWritesOnly := h.toWritesOnly.beside rfl rfl rfl rfl
  find := h.find
  mark := h.mark

theorem ChanStep.setMark : ChanStep c s (modCal t fun k => { k with dmas := k.dmas ||| 2 ^ c }) where
  toWritesOnly := h.toWritesOnly.modCal _
  find := h.find
  mark d hd := by
    rw [← h.mark d hd, bit_eq_testBit, bit_eq_testBit]
    simp [modCal, Nat.testBit_two_pow_of_ne hd.symm]

theorem ChanStep.dmaErr (code addr : Nat) : ChanStep c s (Machine.dmaErr t c code addr) := by
  have hset : ChanStep c s (dmaErrSet t c code addr) := by
    unfold dmaErrSet
    have hwords := ((h.wb (f := R.dcERR c) true (chanWord_of_eq 13 (by decide) rfl)).wf (f := R.dcERR_CODE c) code
      (chanWord_of_eq 13 (by decide) rfl)).wf (f := R.dcERR_ADDR c) addr (chanWord_of_eq 15 (by decide) rfl)
    exact iteInduction (motive := ChanStep c s) (fun _ => hwords.notice _ _ _ _) fun _ => hwords.notice _ _ _ _
  exact ((hset.wf (f := R.dcSTATE c) 0 (chanWord_of_eq 13 (by decide) rfl)).raiseIf _ _).dmaDrop

end Step

/-! ### The start of a channel (R316) -/

/-- The descriptor of channel c. -/
def chanDesc (s : State) (c : Nat) : List Nat := (List.range 13).map fun k => rdN s ((R.dcMODE c).addr + k)

/-- Calliope's start of channel c. -/
def calStart (s : State) (c : Nat) : State :=
  if (dmaStart s c true).1 then modCal (dmaStart s c true).2 fun k => { k with dmas := k.dmas ||| 2 ^ c } else (dmaStart s c true).2

/-- A start that finds channel c busy or not ON. -/
def startBusy (s : State) (c : Nat) : State := wb (raiseIf s (!rb s (R.dcSTART_BUSY c)) (56 + c)) (R.dcSTART_BUSY c) true

/-- DONE and ARRIVED of channel c are cleared. -/
def startCleared (s : State) (c : Nat) : State := wb (wb s (R.dcDONE c) false) (R.dcARRIVED c) false

/-- The transfer that a start of channel c makes. -/
def startedChan (s : State) (c : Nat) : DmaCh :=
  ⟨c, s.dma.gen + 1, chanDesc s c, true, ddLen (chanDesc s c), 0, [], [], 0, 0, 0, 0, [], 0, [], [], [], 0⟩

/-- The transfer of channel c has begun. -/
def startRuns (s : State) (c : Nat) : State :=
  wf (wf (dmaPut { startCleared s c with dma := { s.dma with gen := s.dma.gen + 1 } } (startedChan s c)) (R.dcSTATE c) 1)
    (R.dcREMAIN c) (ddLen (chanDesc s c))

theorem dmaStart_cases (s : State) (c : Nat) :
    dmaStart s c true = if rf s (R.dcSTATE c) ≠ 0 ∨ rf s (R.dcUNIT_STATE c) ≠ usON then (false, startBusy s c)
      else if ddOk s (chanDesc s c) = false then (true, dmaErr (startCleared s c) c 1 0) else (true, startRuns s c) := rfl

theorem calStart_of {s : State} {c : Nat} {b : Bool} {t : State} (h : dmaStart s c true = (b, t)) :
    calStart s c = if b then modCal t fun k => { k with dmas := k.dmas ||| 2 ^ c } else t := by rw [calStart, h]

theorem calStart_busy {s : State} {c : Nat} (h : rf s (R.dcSTATE c) ≠ 0 ∨ rf s (R.dcUNIT_STATE c) ≠ usON) : calStart s c = startBusy s c :=
  calStart_of ((dmaStart_cases s c).trans (if_pos h))

section Start
variable (s : State) (c : Nat)

theorem startCleared_step : ChanStep c s (startCleared s c) :=
  ((ChanStep.refl c s).wb (f := R.dcDONE c) false (chanWord_of_eq 13 (by decide) rfl)).wb (f := R.dcARRIVED c) false
    (chanWord_of_eq 13 (by decide) rfl)

theorem startRuns_step : ChanStep c s (startRuns s c) :=
  ((((startCleared_step s c).setGen (s.dma.gen + 1)).dmaPut (k := startedChan s c) rfl).wf (f := R.dcSTATE c) 1
    (chanWord_of_eq 13 (by decide) rfl)).wf (f := R.dcREMAIN c) _ (chanWord_of_eq 14 (by decide) rfl)

theorem calStart_step : ChanStep c s (calStart s c) := by
  by_cases hbusy : rf s (R.dcSTATE c) ≠ 0 ∨ rf s (R.dcUNIT_STATE c) ≠ usON
  · rw [calStart_busy hbusy]
    exact ((ChanStep.refl c s).raiseIf _ _).wb (f := R.dcSTART_BUSY c) true (chanWord_of_eq 13 (by decide) rfl)
  · by_cases hok : ddOk s (chanDesc s c) = false
    · rw [calStart_of ((dmaStart_cases s c).trans ((if_neg hbusy).trans (if_pos hok)))]
      exact ((startCleared_step s c).dmaErr 1 0).setMark
    · rw [calStart_of ((dmaStart_cases s c).trans ((if_neg hbusy).trans (if_neg hok)))]
      exact (startRuns_step s c).setMark

end Start

section Started
variable {s : State} {c : Nat}

/-- A busy channel goes on as it is, and the start is marked. -/
theorem calStart_refused (h : rf s (R.dcSTATE c) ≠ 0) :
    rb (calStart s c) (R.dcSTART_BUSY c) = true ∧ rf (calStart s c) (R.dcSTATE c) = rf s (R.dcSTATE c) := by
  have hraise : ∀ (b : Bool) (n : Nat) (f : Field), rf (raiseIf s b n) f = rf s f := fun b _ _ => by cases b <;> rfl
  rw [calStart_busy (.inl h)]
  refine ⟨rb_wb_same _ (R.dcSTART_BUSY c) _ rfl (by decide : 15 < 36), ?_⟩
  rw [startBusy, rf_wb_apart (.inr (by simp [R.dcSTART_BUSY, R.dcSTATE])), hraise]

theorem dmaFind_modCal (s : State) (k : CalSt → CalSt) (c : Nat) : dmaFind (modCal s k) c = dmaFind s c := rfl

theorem calStart_accepted (hidle : rf s (R.dcSTATE c) = 0) (hon : rf s (R.dcUNIT_STATE c) = usON) (hok : ddOk s (chanDesc s c) = true) :
    calStart s c = modCal (startRuns s c) fun k => { k with dmas := k.dmas ||| 2 ^ c } :=
  calStart_of ((dmaStart_cases s c).trans ((if_neg (by simp [hidle, hon])).trans (if_neg (ne_false_of_eq_true hok))))

theorem startRuns_state : rf (startRuns s c) (R.dcSTATE c) = 1 := by
  rw [startRuns, rf_wf_apart (.inl (by simp [R.dcSTATE, R.dcREMAIN]))]
  exact rf_wf_same _ (R.dcSTATE c) 1 (by decide : (0 : Nat) ≤ 1) (by decide : 1 < 36)

theorem startRuns_find : dmaFind (startRuns s c) c = some (startedChan s c) :=
  dmaFind_dmaPut_same (k := startedChan s c) { startCleared s c with dma := { s.dma with gen := s.dma.gen + 1 } }

end Started

/-! ### The starts of every channel of a mask -/

/-- From `s` to `t` channel c is as it was. -/
structure ChanKept (c : Nat) (s t : State) : Prop where
  cfg : t.cfg = s.cfg
  rd_eq : ∀ a, ChanWord c a → rd t a = rd s a
  find : dmaFind t c = dmaFind s c
  mark : bit t.cal.dmas c = bit s.cal.dmas c

theorem ChanKept.rf_eq {c : Nat} {s t : State} (h : ChanKept c s t) {f : Field} (hf : ChanWord c f.addr) : rf t f = rf s f := by
  rw [rf, rf, rdN, rdN, h.rd_eq _ hf]

theorem ChanKept.chanDesc_eq {c : Nat} {s t : State} (h : ChanKept c s t) : chanDesc t c = chanDesc s c := by
  refine List.map_congr_left fun k hk => ?_
  have hlt := List.mem_range.mp hk
  rw [rdN, rdN, h.rd_eq _ (chanWord_of_eq k (by omega) (by simp only [R.dcMODE, blkBase]; omega))]

theorem ddOk_congr {s t : State} (h : t.cfg = s.cfg) (d : List Nat) : ddOk t d = ddOk s d := by
  simp only [ddOk, isBulk, h]

theorem ChanStep.kept {c d : Nat} {s t : State} (h : ChanStep c s t) (hd : d ≠ c) : ChanKept d s t :=
  ⟨h.cfg, fun a ha => h.rd_eq a (by simp only [ChanWord] at ha ⊢; omega), h.find d hd, h.mark d hd⟩

theorem calStarts_kept {c : Nat} (l : List Nat) (hc : c ∉ l) (s : State) : ChanKept c s (l.foldl calStart s) := by
  refine List.foldlRecOn (motive := ChanKept c s) l calStart ⟨rfl, fun _ _ => rfl, rfl, rfl⟩ fun u hu d hd => ?_
  have hstep := (calStart_step u d).kept (d := c) fun heq => hc (heq ▸ hd)
  exact ⟨hstep.cfg.trans hu.cfg, fun a ha => (hstep.rd_eq a ha).trans (hu.rd_eq a ha), hstep.find.trans hu.find, hstep.mark.trans hu.mark⟩

/-- A channel of the mask is started once, and nothing before or after changes it. -/
theorem calStarts_at {c : Nat} {l : List Nat} (hc : c ∈ l) (hl : l.Nodup) (s : State) :
    ∃ w, ChanKept c s w ∧ ChanKept c (calStart w c) (l.foldl calStart s) := by
  obtain ⟨l₁, l₂, rfl⟩ := List.append_of_mem hc
  obtain ⟨-, hafter, hbefore⟩ := List.nodup_append.mp hl
  refine ⟨l₁.foldl calStart s, calStarts_kept l₁ (fun h => hbefore c h c List.mem_cons_self rfl) s, ?_⟩
  rw [List.foldl_append, List.foldl_cons]
  exact calStarts_kept l₂ (List.nodup_cons.mp hafter).1 _

theorem writesOnly_calStarts (l : List Nat) (s : State) : WritesOnly (fun _ => True) s (l.foldl calStart s) :=
  WritesOnly.foldl (fun u c _ => (calStart_step u c).toWritesOnly.mono fun _ _ => trivial) s

section Mask
variable {c : Nat} {l : List Nat} (hc : c ∈ l) (hl : l.Nodup) (s : State)
include hc hl

theorem calStarts_refused (hstate : rf s (R.dcSTATE c) ≠ 0) :
    rb (l.foldl calStart s) (R.dcSTART_BUSY c) = true ∧ rf (l.foldl calStart s) (R.dcSTATE c) = rf s (R.dcSTATE c) := by
  obtain ⟨w, hbefore, hafter⟩ := calStarts_at hc hl s
  have hw : rf w (R.dcSTATE c) = rf s (R.dcSTATE c) := hbefore.rf_eq (chanWord_of_eq 13 (by decide) rfl)
  obtain ⟨hbusy, hsame⟩ := calStart_refused (s := w) (c := c) (by rwa [hw])
  refine ⟨?_, (hafter.rf_eq (chanWord_of_eq 13 (by decide) rfl)).trans (hsame.trans hw)⟩
  rw [rb, hafter.rf_eq (chanWord_of_eq 13 (by decide) rfl)]
  exact hbusy

theorem calStarts_accepted (hstate : rf s (R.dcSTATE c) = 0) (hunit : rf s (R.dcUNIT_STATE c) = usON) (hok : ddOk s (chanDesc s c) = true) :
    rf (l.foldl calStart s) (R.dcSTATE c) = 1 ∧ bit (l.foldl calStart s).cal.dmas c = true ∧
      ∃ k, dmaFind (l.foldl calStart s) c = some k ∧ k.cal = true ∧ k.desc = chanDesc s c ∧ k.rdK = 0 ∧ k.wrK = 0 := by
  obtain ⟨w, hbefore, hafter⟩ := calStarts_at hc hl s
  have hidle : rf w (R.dcSTATE c) = 0 := (hbefore.rf_eq (chanWord_of_eq 13 (by decide) rfl)).trans hstate
  have hon : rf w (R.dcUNIT_STATE c) = usON := (hbefore.rf_eq (chanWord_of_eq 17 (by decide) rfl)).trans hunit
  have hdesc := hbefore.chanDesc_eq
  have hacc := calStart_accepted hidle hon (by rw [hdesc, ddOk_congr hbefore.cfg, hok])
  rw [hacc] at hafter
  refine ⟨?_, hafter.mark.trans ?_, startedChan w c, ?_, rfl, hdesc, rfl, rfl⟩
  · rw [hafter.rf_eq (chanWord_of_eq 13 (by decide) rfl), rf_modCal, startRuns_state]
  · rw [bit_eq_testBit]
    simp [modCal]
  · rw [hafter.find, dmaFind_modCal, startRuns_find]

end Mask

end Sys2Proof.Machine

/-! SUPPORT. Calliope's actions on data: queues, frames, events, parameter sets, probing and the map (R227, R230, R247, R254, R369). -/

namespace Sys2Proof.Machine

/-! ### QUEUE_FREEZE (R227) -/

section Freeze
variable {s : State} (hthaw : rb s R.qeTHAWING = false)

/-- The next freeze of the queues, `n` ticks long, waits for the thaw. -/
def freezePending (s : State) (n : Option Nat) : State := { s with fld := { s.fld with freezePend := some n } }

theorem qFreeze_thawing (h : rb s R.qeTHAWING = true) : qFreeze s = wb (freezePending s (freezeTicks s)) R.qeFREEZE_LATE true := if_pos h

theorem freezeTicks_eq (s : State) : freezeTicks s = if rf s R.qeFREEZE_TICKS = 0 then none else some (rf s R.qeFREEZE_TICKS) := rfl

/-- The view ends, and the thaw is under way. -/
def thawBegun (s : State) : State :=
  wb (wb { s with fld := { s.fld with viewLeft := none, thawDue := false } } R.qeFROZEN false) R.qeTHAWING true

theorem writesOnly_thawBegun (s : State) : WritesOnly (· = R.qeFROZEN.addr) s (thawBegun s) :=
  (((WritesOnly.refl (· = R.qeFROZEN.addr) s).beside (u := { s with fld := { s.fld with viewLeft := none, thawDue := false } }) rfl rfl rfl rfl).wb
    (f := R.qeFROZEN) false rfl).wb (f := R.qeTHAWING) true rfl

theorem thawBegun_bits (s : State) : rb (thawBegun s) R.qeFROZEN = false ∧ rb (thawBegun s) R.qeTHAWING = true := by
  refine ⟨?_, rb_wb_same _ R.qeTHAWING _ (by decide) (by decide)⟩
  rw [thawBegun, rb_wb_apart (by decide), rb_wb_same _ _ _ (by decide) (by decide)]

include hthaw

theorem qFreeze_frozen (h : rb s R.qeFROZEN = true) : qFreeze s = freezePending (thawBegun s) (freezeTicks s) := by
  have hstart : thawStart s = thawBegun s := if_pos h
  have hticks : freezeTicks (thawBegun s) = freezeTicks s := by
    rw [freezeTicks_eq, freezeTicks_eq, (writesOnly_thawBegun s).rf_eq (by decide)]
  rw [qFreeze, if_neg (ne_true_of_eq_false hthaw), if_pos h, hstart]
  exact congrArg (freezePending (thawBegun s)) hticks

theorem qFreeze_open (h : rb s R.qeFROZEN = false) : qFreeze s = viewBegin s (freezeTicks s) :=
  (if_neg (ne_true_of_eq_false hthaw)).trans (if_neg (ne_true_of_eq_false h))

end Freeze

theorem viewBegin_left (s : State) : (viewBegin s (freezeTicks s)).fld.viewLeft = freezeTicks s := by
  have hne : freezeTicks s ≠ some 0 := by
    rw [freezeTicks_eq]
    split
    · exact nofun
    next h => exact fun heq => h (Option.some.inj heq)
  exact if_neg hne

section Frozen
variable (s : State)

theorem freezeLate_fields : rb (wb (freezePending s (freezeTicks s)) R.qeFREEZE_LATE true) R.qeFREEZE_LATE = true ∧
    (wb (freezePending s (freezeTicks s)) R.qeFREEZE_LATE true).fld.freezePend = some (freezeTicks s) ∧
    WritesOnly (· ∈ [R.qeFREEZE_LATE.addr]) s (wb (freezePending s (freezeTicks s)) R.qeFREEZE_LATE true) :=
  ⟨rb_wb_same _ R.qeFREEZE_LATE _ (by decide) (by decide), rfl,
    ((WritesOnly.refl _ s).beside (u := freezePending s (freezeTicks s)) rfl rfl rfl rfl).wb true (by simp)⟩

theorem viewBegin_fields : rb (viewBegin s (freezeTicks s)) R.qeFROZEN = true ∧ (viewBegin s (freezeTicks s)).fld.viewLeft = freezeTicks s ∧
    WritesOnly (· ∈ [R.qeFROZEN.addr]) s (viewBegin s (freezeTicks s)) :=
  ⟨rb_wb_same _ R.qeFROZEN _ (by decide) (by decide), viewBegin_left s,
    ((WritesOnly.refl _ s).beside (u := { s with fld := { s.fld with
      viewLeft := if freezeTicks s = some 0 then none else freezeTicks s, thawDue := decide (freezeTicks s = some 0) } })
      rfl rfl rfl rfl).wb (f := R.qeFROZEN) true (by simp)⟩

theorem thawBegun_fields : rb (freezePending (thawBegun s) (freezeTicks s)) R.qeFROZEN = false ∧
    rb (freezePending (thawBegun s) (freezeTicks s)) R.qeTHAWING = true ∧
    (freezePending (thawBegun s) (freezeTicks s)).fld.viewLeft = none ∧
    (freezePending (thawBegun s) (freezeTicks s)).fld.freezePend = some (freezeTicks s) ∧
    WritesOnly (· ∈ [R.qeFROZEN.addr]) s (freezePending (thawBegun s) (freezeTicks s)) := by
  obtain ⟨hoff, hon⟩ := thawBegun_bits s
  exact ⟨hoff, hon, rfl, rfl, ((writesOnly_thawBegun s).mono fun _ ha => List.mem_singleton.mpr ha).beside rfl rfl rfl rfl⟩

end Frozen

/-! ### EVENT (R184) -/

theorem event_fields (s : State) (k n : Nat) (w : Word) :
    let v := raise (wf s (R.calEVENT_CODE k) w.toNat) n
    rf v (R.calEVENT_CODE k) = w.toNat ∧ v.raiseQ = s.raiseQ ++ [n] ∧ v.cal = s.cal ∧ WritesOnly (· ∈ [(R.calEVENT_CODE k).addr]) s v := by
  refine ⟨?_, rfl, rfl, ((WritesOnly.refl _ s).wf _ (by simp)).raise _⟩
  rw [rf_raise, rf_wf_same _ (R.calEVENT_CODE k) _ (by decide : (0 : Nat) ≤ 35) (by decide : 35 < 36)]
  exact Nat.mod_eq_of_lt w.isLt

/-! ### PARAM_COMMIT (R369) -/

theorem foldl_unchanged {α β : Type} {f : β → α → β} {l : List α} {b : β} (h : ∀ x ∈ l, f b x = b) : l.foldl f b = b :=
  List.foldlRecOn (motive := fun u => u = b) l f rfl fun _ hu x hx => hu ▸ h x hx

/-- Set k is committed if it is sealed and in the mask. -/
def commitOne (mask : Nat) (s : State) (k : Nat) : State :=
  if bit mask k ∧ (s.hst.psets.getD k psetZero).st = 2 then paramApply s k else s

theorem paramCommit_none {s : State} {mask : Nat} (h : ∀ k, k < 16 → bit mask k = true → (s.hst.psets.getD k psetZero).st ≠ 2) :
    paramCommit s mask = s :=
  foldl_unchanged (f := commitOne mask) fun k hk => if_neg fun hb => h k (List.mem_range.mp hk) hb.1 hb.2

theorem paramCommit_one {s : State} {k : Nat} (hk : k < 16) (hst : (s.hst.psets.getD k psetZero).st = 2) :
    paramCommit s (2 ^ k) = paramApply s k := by
  have hself : commitOne (2 ^ k) s k = paramApply s k := if_pos ⟨by simp [bit_eq_testBit], hst⟩
  have hother : ∀ (l : List Nat) (u : State), k ∉ l → l.foldl (commitOne (2 ^ k)) u = u := fun l u hl =>
    foldl_unchanged fun j hj => if_neg fun hb => absurd hb.1 (by
      rw [bit_eq_testBit, Nat.testBit_two_pow_of_ne fun heq : k = j => hl (heq ▸ hj)]
      exact Bool.false_ne_true)
  obtain ⟨l₁, l₂, hsplit⟩ := List.append_of_mem (List.mem_range.mpr hk)
  obtain ⟨-, hafter, hbefore⟩ := List.nodup_append.mp (hsplit ▸ List.nodup_range (n := 16))
  change (List.range 16).foldl (commitOne (2 ^ k)) s = _
  rw [hsplit, List.foldl_append, List.foldl_cons, hother l₁ s fun h => hbefore k h k List.mem_cons_self rfl, hself,
    hother l₂ _ (List.nodup_cons.mp hafter).1]

/-! ### Each action as it is dispatched -/

section Actions
variable {s : State} {t : TT} {f i : Nat}

theorem dmaStart_dispatched (h : s.actReady t f i 0x4) :
    exec .dmaStart s = .next (((List.range 64).filter fun c => bit (actDma t i) c).foldl calStart (s.took f i)) := by
  change execDmaStart s = _
  unfold execDmaStart
  exact calAct_next h rfl ((writesOnly_took _ s f i).trans (writesOnly_calStarts _ _))

theorem queueFreeze_dispatched (h : s.actReady t f i 0x5) {v : State} {P : Nat → Prop} (hv : qFreeze (s.took f i) = v)
    (hk : WritesOnly P (s.took f i) v) : exec .queueFreeze s = .next v := by
  change execQueueFreeze s = _
  unfold execQueueFreeze
  exact calAct_next h hv ((writesOnly_took P s f i).trans hk)

theorem frameEmit_dispatched (h : s.actReady t f i 0x6) (hfld : isUp s iFLD = true) (hport : actArg0 t i % 8 < s.cfg.part.ports) :
    ∃ v, exec .frameEmit s = .next v ∧ v.fld.emitFly = s.fld.emitFly ++ [(actArg0 t i % 8, ⟨actW t i 1 % 1024, actW t i 2 % 2048, pstep s,
      s.probeOk && !rb s R.idnPROBE_OFF && !s.idn.off && decide (rf s R.idnGUARD_STATE = 0)⟩)] ∧ v.mem = s.mem ∧
      v.cal = (s.took f i).cal := by
  have hgo : isUp (s.took f i) iFLD = true ∧ actArg0 t i % 8 < (s.took f i).cfg.part.ports := ⟨hfld, hport⟩
  change ∃ v, execFrameEmit s = .next v ∧ _
  unfold execFrameEmit
  exact ⟨_, calAct_next h (if_pos hgo) ((writesOnly_took (fun _ => False) s f i).beside rfl rfl rfl rfl), rfl, rfl, rfl⟩

theorem event_dispatched (h : s.actReady t f i 0xC) :
    exec .event s = .next (raise (wf (s.took f i) (R.calEVENT_CODE (actArg0 t i % 8)) (actW t i 1)) (16 + actArg0 t i % 8)) := by
  change execEvent s = _
  unfold execEvent
  exact calAct_next h rfl (((writesOnly_took (fun _ => True) s f i).wf _ trivial).raise _)

theorem probeStep_dispatched (h : s.actReady t f i 0x7) {P : Nat → Prop} (hk : WritesOnly P s (probeStep (s.took f i))) :
    exec .probeStep s = .next (probeStep (s.took f i)) := by
  change execProbeStep s = _
  unfold execProbeStep
  exact calAct_next h rfl hk

theorem mapSwap_dispatched (h : s.actReady t f i 0x8) {P : Nat → Prop} (hk : WritesOnly P s (mapSwap (s.took f i))) :
    exec .mapSwap s = .next (mapSwap (s.took f i)) := by
  change execMapSwap s = _
  unfold execMapSwap
  exact calAct_next h rfl hk

theorem paramCommit_dispatched (h : s.actReady t f i 0x9) :
    exec .paramCommit s = .next (keep s (rstSettle (paramCommit (s.took f i) (actArg0 t i)))) := by
  change execParamCommit s = _
  unfold execParamCommit
  exact calAct_of_eq h rfl

end Actions

/-- Settles O20: each action's effect on the state that its dispatch leaves. -/
theorem calliopeActsOnData : Obligations.CalliopeActsOnData := by
  intro s t f i u
  refine ⟨fun h => ?_, fun h => ?_, fun h => ⟨fun hthaw => ?_, fun hthaw hfrozen => ?_, fun hthaw hfrozen => ?_⟩, fun h hfld hport =>
    frameEmit_dispatched h hfld hport, fun h => ?_, fun h hnone => ?_, fun k h hk hmask hst => ?_, fun h hok hr hw => ?_, fun h hok => ?_,
    fun h hr hw => ?_⟩
  · change execActionNop s = _
    unfold execActionNop
    exact calAct_next h rfl (writesOnly_took (fun _ => False) s f i)
  · have hnodup : ((List.range 64).filter fun c => bit (actDma t i) c).Nodup := List.nodup_range.filter _
    have hmem : ∀ c, c < 64 → bit (actDma t i) c = true → c ∈ (List.range 64).filter fun c => bit (actDma t i) c := fun c hc hb =>
      List.mem_filter.mpr ⟨List.mem_range.mpr hc, hb⟩
    refine ⟨_, dmaStart_dispatched h, fun c hc hb hstate hunit hok => ?_, fun c hc hb hstate => ?_, fun c hc hb => ?_⟩
    · exact calStarts_accepted (hmem c hc hb) hnodup (s.took f i) hstate hunit hok
    · exact calStarts_refused (hmem c hc hb) hnodup (s.took f i) hstate
    · have hkept := calStarts_kept (c := c) ((List.range 64).filter fun c => bit (actDma t i) c)
        (fun hin => ne_true_of_eq_false hb (List.mem_filter.mp hin).2) (s.took f i)
      exact ⟨hkept.rf_eq (chanWord_of_eq 13 (by decide) rfl), hkept.find⟩
  · obtain ⟨hlate, hpend, hwrites⟩ := freezeLate_fields u
    exact ⟨_, queueFreeze_dispatched h (qFreeze_thawing hthaw) hwrites, hlate, hpend, hwrites.sameBut⟩
  · obtain ⟨hoff, hon, hleft, hpend, hwrites⟩ := thawBegun_fields u
    exact ⟨_, queueFreeze_dispatched h (qFreeze_frozen hthaw hfrozen) hwrites, hoff, hon, hleft, hpend, hwrites.sameBut⟩
  · obtain ⟨hon, hleft, hwrites⟩ := viewBegin_fields u
    exact ⟨_, queueFreeze_dispatched h (qFreeze_open hthaw hfrozen) hwrites, hon, hleft, hwrites.sameBut⟩
  · obtain ⟨hcode, hraise, hcal, hwrites⟩ := event_fields u (actArg0 t i % 8) (16 + actArg0 t i % 8) (t.acts.getD (4 * i + 1) 0#36)
    exact ⟨_, event_dispatched h, hcode, hraise, hcal, hwrites.sameBut⟩
  · obtain ⟨-, -, -, -, -, hreq⟩ := id h
    rw [paramCommit_dispatched h, paramCommit_none (s := s.took f i) hnone,
      settled_of_writesOnly hreq (writesOnly_took (fun _ => False) s f i)]
  · rw [paramCommit_dispatched h, hmask, paramCommit_one (s := s.took f i) hk hst]
  · have hquiet := probeStep_quiet (s := u) hok hr hw
    have hwrites := ((writesOnly_took _ s f i).trans (writesOnly_stepCounted u)).trans (hquiet.toWritesOnly.mono fun _ _ => trivial)
    exact ⟨_, probeStep_dispatched h hwrites, (pstep_of_quiet hquiet).trans (pstep_stepCounted u), hquiet.fresh⟩
  · have hsame : probeStep u = u := if_pos hok
    have hdisp := probeStep_dispatched h (P := fun _ => False) (hsame.symm ▸ writesOnly_took _ s f i)
    exact hdisp.trans (congrArg Host.Outcome.next hsame)
  · obtain ⟨hwrites, hcal, hpend, hcode, hactive⟩ := mapSwap_fields (s := u) hr hw
    exact ⟨_, mapSwap_dispatched h ((writesOnly_took _ s f i).trans hwrites), hpend, hcal, hcode, hactive⟩

end Sys2Proof.Machine

/-! SUPPORT. PROBE_SET (R244, R245) on a channel that is live with another on one target. -/

namespace Sys2Proof.Machine

/-- PROBE_SET for this module: channel 0, VALID and ENABLE 1, every further word 0. -/
def channelZeroSet : List HWord :=
  [hw (0x70 + 2 ^ 24), 5#32, 62#32, hw 10, 0#32, 3#32, 0#32, 0#32, 0#32, 0#32, 0#32, 0#32, 0#32, 0#32]

/-- Every island is released, `channelZeroSet` waits on the UART, and channels 0 and 1 are VALID, enabled and ON with one target: port 0, stream 0,
element 0. -/
def sharedTargetState : State :=
  wrN (wrN { State.reset with up := 0x7FFFFF#23, hst := { State.reset.hst with mail := [⟨.uart, channelZeroSet⟩] } } (R.idnVALID 0).addr 3)
    (R.idnVALID 1).addr 3

theorem sharedTargetState_cmdReady : sharedTargetState.cmdReady .mail 0x70 channelZeroSet := by
  have hhere : sharedTargetState.cmdHere .mail channelZeroSet := by unfold State.cmdHere State.live; decide
  exact ⟨hhere, by decide, by decide, by decide, ⟨0x70, 1, 0, 8, 10, 10⟩, by decide, by decide, by decide, by decide, by decide⟩

/-- The write back of the channel's own word 0 is refused with CONFLICT. -/
theorem exec_channelZeroSet :
    ∃ t, exec (.probeSet .mail) sharedTargetState = .next t ∧
      t.hst.uartOut = [mkReply sharedTargetState channelZeroSet hsPARAM (1 + 512) []] :=
  ⟨_, rfl, by decide⟩

/-- Refutes O47: PROBE_SET of a live channel with the values it holds is answered BAD_PARAM with CONFLICT where another live channel has the same
target, and the clause on an unchanged entry, which does not exclude it, claims OK with UNIT_STATE. -/
theorem not_unitCommands : ¬ Obligations.UnitCommands := by
  unfold Obligations.UnitCommands
  intro h
  obtain ⟨-, -, -, -, -, -, hprobe, -⟩ := h sharedTargetState .mail channelZeroSet
  obtain ⟨-, hsame⟩ := hprobe sharedTargetState_cmdReady (by decide) (by decide) (by decide) (by decide)
  obtain ⟨t, ht, ⟨-, -, -, hdone⟩, -⟩ := hsame (by decide) (by decide) (by decide)
  obtain ⟨u, hu, hanswer⟩ := exec_channelZeroSet
  obtain rfl : t = u := Host.Outcome.next.inj (ht.symm.trans hu)
  exact absurd (hanswer.symm.trans hdone) (by decide)

end Sys2Proof.Machine

/-! SUPPORT. Commands whose effect writes only certain words, and operations at a field port: what they leave alone (R210 to R242). -/

namespace Sys2Proof.Machine

/-! ### Answers -/

/-- In a live island a command's effect is its answer, where it leaves the module and its queue as they are. -/
theorem gate_next_eq {s t : State} {i : Nat} {k : State → State} {P : Nat → Prop} (h : s.live i) (hk : k s = t) (ht : WritesOnly P s t) :
    gate i s k = .next t := eq_next_of_keep (hk ▸ gate_live h k) ht.cfg ht.pending

theorem gatePort_next_eq {s t : State} {p : Nat} {k : State → State} {P : Nat → Prop} (h : s.live iFLD) (hp : p < s.cfg.part.ports)
    (hk : k s = t) (ht : WritesOnly P s t) : gatePort p s k = .next t := eq_next_of_keep (hk ▸ gatePort_live h hp k) ht.cfg ht.pending

/-! ### Words that stay -/

section Writes
variable {P : Nat → Prop} {s t : State} (h : WritesOnly P s t)
include h

theorem WritesOnly.setFld (x : FieldSt) : WritesOnly P s { t with fld := x } := h.beside rfl rfl rfl rfl
theorem WritesOnly.setBm (x : BulkSt) : WritesOnly P s { t with bm := x } := h.beside rfl rfl rfl rfl
theorem WritesOnly.modPort (p : Nat) (k : PortSt → PortSt) : WritesOnly P s (Machine.modPort t p k) := h.setFld _
theorem WritesOnly.cntAdd {f : Field} (n : Nat) (hf : P f.addr) : WritesOnly P s (Machine.cntAdd t f n) := h.wf _ hf
theorem WritesOnly.elapse (d : Nat) : WritesOnly P s (Machine.elapse t d) := h.beside rfl rfl rfl rfl
theorem WritesOnly.atLeast (n : Nat) : WritesOnly P s (Machine.atLeast t n) := h.elapse _
theorem WritesOnly.raiseIf (c : Bool) (n : Nat) : WritesOnly P s (Machine.raiseIf t c n) := by
  cases c with
  | false => exact h
  | true => exact h.raise n

end Writes

/-! ### Fields after small operations -/

section Fields
variable (s : State) (f : Field)

@[simp] theorem rf_modPort (p : Nat) (k : PortSt → PortSt) : rf (modPort s p k) f = rf s f := rfl
@[simp] theorem rb_modPort (p : Nat) (k : PortSt → PortSt) : rb (modPort s p k) f = rb s f := rfl
@[simp] theorem rf_elapse (d : Nat) : rf (elapse s d) f = rf s f := rfl
@[simp] theorem rb_elapse (d : Nat) : rb (elapse s d) f = rb s f := rfl
@[simp] theorem rf_atLeast (n : Nat) : rf (atLeast s n) f = rf s f := rfl
@[simp] theorem rb_atLeast (n : Nat) : rb (atLeast s n) f = rb s f := rfl
@[simp] theorem rf_raiseIf (c : Bool) (n : Nat) : rf (raiseIf s c n) f = rf s f := by cases c <;> rfl
@[simp] theorem rb_raiseIf (c : Bool) (n : Nat) : rb (raiseIf s c n) f = rb s f := by cases c <;> rfl
@[simp] theorem raiseIf_fld (c : Bool) (n : Nat) : (raiseIf s c n).fld = s.fld := by cases c <;> rfl
@[simp] theorem raiseIf_true (n : Nat) : raiseIf s true n = raise s n := rfl
@[simp] theorem raiseIf_false (n : Nat) : raiseIf s false n = s := rfl

variable {s f}
variable {g : Field}
theorem rb_cnt_apart (h : f.Apart g) : rb (cnt s f) g = rb s g := rb_wf_apart h _

/-- A counter of a whole word after one count (R71). -/
theorem rf_cnt_word (s : State) (a : Nat) : rf (cnt s ⟨a, 35, 0⟩) ⟨a, 35, 0⟩ = min (rf s ⟨a, 35, 0⟩ + 1) (2 ^ 36 - 1) :=
  rf_cnt_same s ⟨a, 35, 0⟩ (by decide : 0 ≤ 35) (by decide : 35 < 36)

/-- A whole-word field just written reads as the value of the word. -/
theorem rd_wf_whole (a : Nat) (w : Word) : rd (wf s ⟨a, 35, 0⟩ w.toNat) a = w := by
  have hw : putBits (rdN s a) 35 0 w.toNat = w.toNat := by
    have hlt : rdN s a < 2 ^ 36 := (rd s a).isLt
    rw [putBits_split _ _ _ _ (by decide), Nat.div_eq_of_lt hlt, Nat.mod_eq_of_lt w.isLt]
    omega
  rw [wf, wrN, rd_wr_same]
  change mkW (putBits (rdN s a) 35 0 w.toNat) = w
  rw [hw, mkW, BitVec.ofNat_toNat, BitVec.setWidth_eq]

end Fields

section Ports
variable (s : State) (q : Nat)

@[simp] theorem port_wf (f : Field) (v : Nat) : port (wf s f v) q = port s q := rfl
@[simp] theorem port_wb (f : Field) (b : Bool) : port (wb s f b) q = port s q := rfl
@[simp] theorem port_cnt (f : Field) : port (cnt s f) q = port s q := rfl
@[simp] theorem port_wr (a : Nat) (w : Word) : port (wr s a w) q = port s q := rfl
@[simp] theorem port_raise (n : Nat) : port (raise s n) q = port s q := rfl
@[simp] theorem port_notice (r b n d : Nat) : port (notice s r b n d) q = port s q := rfl
@[simp] theorem port_atLeast (n : Nat) : port (atLeast s n) q = port s q := rfl
@[simp] theorem port_raiseIf (c : Bool) (n : Nat) : port (raiseIf s c n) q = port s q := by cases c <;> rfl

end Ports

end Sys2Proof.Machine

/-! SUPPORT. Stream Memory whose every bank is on, and in which nothing waits: a word read, and a word written, by one access at once (R53 to R65). -/

namespace Sys2Proof.Machine

/-- Stream Memory answers, every bank is on, no access waits, and no bank holds a completion. -/
structure SmIdle (s : State) : Prop where
  reach : smReach s = true
  rmw : s.sm.rmw = []
  wait : s.sm.wait = []
  bankOn : ∀ b, b < s.cfg.part.banks → bankOff s b = false

theorem smBank_lt (s : State) (a : Nat) : smBank s a < s.cfg.part.banks :=
  Nat.mod_lt _ (by cases s.cfg.part <;> decide)

theorem smIdle_of_live {s : State} (hm : s.live iMWY) (hv : s.live iVEC) (hr : s.sm.rmw = []) (hw : s.sm.wait = [])
    (hb : ∀ b, b < s.cfg.part.banks → bankOff s b = false) : SmIdle s := by
  obtain ⟨hmup, -⟩ := hm
  obtain ⟨hvup, hvf⟩ := hv
  exact ⟨by simp [smReach, hmup, hvup, hvf], hr, hw, hb⟩

section Idle
variable {s t : State} (h : SmIdle s)
include h

theorem SmIdle.quiet (P : Nat → Prop) : QuietStep P s s := .refl P h.rmw h.wait

/-- Stream Memory is idle still after a change of nothing it depends on. -/
theorem SmIdle.of_eq (hcfg : t.cfg = s.cfg) (hup : t.up = s.up) (hforced : t.forced = s.forced) (hr : t.sm.rmw = s.sm.rmw)
    (hw : t.sm.wait = s.sm.wait) (hoff : ∀ a, 0x20040000 ≤ a → a < 0x20050000 → rd t a = rd s a) : SmIdle t where
  reach := by rw [← h.reach, smReach, smReach, isUp, isUp, isUp, isUp, hup, hforced]
  rmw := hr.trans h.rmw
  wait := hw.trans h.wait
  bankOn b hb := by
    rw [hcfg] at hb
    have hlt : b < 256 := hb.trans_le (by cases s.cfg.part <;> decide)
    rw [← h.bankOn b hb, bankOff, bankOff, rf, rf, rdN, rdN, hoff _ (by simp only [R.smBANK_OFF, blkBase]; omega)
      (by simp only [R.smBANK_OFF, blkBase]; omega)]

/-- A write in the part's Stream Memory. -/
theorem SmIdle.smPut_eq {a : Nat} (ha : a < s.cfg.part.streamWords) (w : Word) :
    smPut s a w = eccClear (wr (smTurn s (smBank s a) (smPos a)) a w) a := by
  have hturn := (h.quiet fun _ => True).smTurn (smBank s a) (smPos a)
  have hon : bankOff (smTurn s (smBank s a) (smPos a)) (smBank (smTurn s (smBank s a) (smPos a)) a) = false := h.bankOn _ (smBank_lt s a)
  rw [smPut, if_pos ⟨ha, h.reach⟩, (h.quiet fun _ => True).smAccess_eq, smPerform, smWrite, hturn.smComplete_eq, smWriteOwn, hon]
  rfl

/-- What a write in the part's Stream Memory leaves. -/
theorem SmIdle.smPut {a : Nat} (ha : a < s.cfg.part.streamWords) (w : Word) :
    SmIdle (smPut s a w) ∧ rd (smPut s a w) a = w ∧ (smPut s a w).fld = s.fld ∧ WritesOnly (· = a) s (smPut s a w) := by
  have hlow : a < 0x10000000 := ha.trans (streamWords_lt _)
  have hput := h.smPut_eq ha w
  have hwrites : WritesOnly (· = a) s (Machine.smPut s a w) := by
    rw [hput]
    exact ((WritesOnly.refl (· = a) s).beside (u := smTurn s (smBank s a) (smPos a)) rfl rfl rfl rfl).wr w rfl |>.beside rfl rfl rfl rfl
  refine ⟨?_, ?_, by rw [hput]; rfl, hwrites⟩
  · refine h.of_eq hwrites.cfg (by rw [hput]; rfl) (by rw [hput]; rfl) (by rw [hput]; rfl) (by rw [hput]; rfl) fun b hb _ => hwrites.rd_eq b ?_
    omega
  · rw [hput]
    exact rd_wr_same (smTurn s (smBank s a) (smPos a)) a w

end Idle

end Sys2Proof.Machine

/-! SUPPORT. The queue engine: descriptors, commits and thaws (R223 to R227). -/

namespace Sys2Proof.Machine

/-! ### Descriptors (R223) -/

theorem qdAt_qdPut_same (s : State) (q : Nat) (d : Word × Word) : qdAt (qdPut s q d) q = d := kvGet_kvSet_same _ _ _ _
theorem qdAt_qdPut_ne (s : State) {q j : Nat} (d : Word × Word) (h : j ≠ q) : qdAt (qdPut s q d) j = qdAt s j := kvGet_kvSet_ne _ _ _ _ h

theorem WritesOnly.qdPut {P : Nat → Prop} {s t : State} (h : WritesOnly P s t) (q : Nat) (d : Word × Word) :
    WritesOnly P s (Machine.qdPut t q d) := h.setFld _

theorem rf_qdStatus (s : State) {v : Nat} (hv : v < 2) : rf (wf s R.qeQD_STATUS v) R.qeQD_STATUS = v :=
  (rf_wf_same s R.qeQD_STATUS v (by decide) (by decide)).trans (Nat.mod_eq_of_lt hv)

section Descriptors
variable {s : State} (hl : s.live iMWY)
include hl

theorem qdRead_inRange (hq : rf s R.qeQD_INDEX < s.cfg.part.queues) : ∃ t, exec .qdRead s = .next t ∧
    rd t R.qeQD_W0.addr = (qdAt s (rf s R.qeQD_INDEX)).1 ∧ rd t R.qeQD_W1.addr = (qdAt s (rf s R.qeQD_INDEX)).2 ∧
    rf t R.qeQD_STATUS = 0 ∧ s.sameBut t [R.qeQD_W0.addr, R.qeQD_W1.addr, R.qeQD_STATUS.addr] := by
  have hread : qdOp s 1 = _ := (if_pos rfl).trans (if_pos hq)
  have hwrites := (((WritesOnly.refl (· ∈ [R.qeQD_W0.addr, R.qeQD_W1.addr, R.qeQD_STATUS.addr]) s).wr (a := R.qeQD_W0.addr)
    (qdAt s (rf s R.qeQD_INDEX)).1 (by simp)).wr (a := R.qeQD_W1.addr) (qdAt s (rf s R.qeQD_INDEX)).2 (by simp)).wf (f := R.qeQD_STATUS) 0
    (by simp)
  refine ⟨_, gate_next_eq (k := fun s => qdOp s 1) hl hread hwrites, ?_, ?_, rf_qdStatus _ (by decide), hwrites.sameBut⟩
  · rw [rd_wf_ne _ _ _ (by decide), rd_wr_ne _ _ (by decide), rd_wr_same]
  · rw [rd_wf_ne _ _ _ (by decide), rd_wr_same]

theorem qdRead_absent (hq : s.cfg.part.queues ≤ rf s R.qeQD_INDEX) :
    ∃ t, exec .qdRead s = .next t ∧ rf t R.qeQD_STATUS = 1 ∧ s.sameBut t [R.qeQD_STATUS.addr] := by
  have hread : qdOp s 1 = _ := (if_pos rfl).trans (if_neg (Nat.not_lt.2 hq))
  have hwrites := (WritesOnly.refl (· ∈ [R.qeQD_STATUS.addr]) s).wf (f := R.qeQD_STATUS) 1 (by simp)
  exact ⟨_, gate_next_eq (k := fun s => qdOp s 1) hl hread hwrites, rf_qdStatus s (by decide), hwrites.sameBut⟩

theorem qdWrite_taken (hq : rf s R.qeQD_INDEX < s.cfg.part.queues)
    (hok : qdOk s (rd s R.qeQD_W0.addr, rd s R.qeQD_W1.addr) = true) : ∃ t, exec .qdWrite s = .next t ∧
    qdAt t (rf s R.qeQD_INDEX) = (rd s R.qeQD_W0.addr, rd s R.qeQD_W1.addr) ∧ rf t R.qeQD_STATUS = 0 ∧
    (∀ j, j ≠ rf s R.qeQD_INDEX → qdAt t j = qdAt s j) ∧ s.sameBut t [R.qeQD_STATUS.addr] := by
  have hput : qdOp s 2 = _ := (if_neg (by decide)).trans ((if_pos rfl).trans (if_pos ⟨hq, hok⟩))
  have hwrites := ((WritesOnly.refl (· ∈ [R.qeQD_STATUS.addr]) s).qdPut (rf s R.qeQD_INDEX)
    (rd s R.qeQD_W0.addr, rd s R.qeQD_W1.addr)).wf (f := R.qeQD_STATUS) 0 (by simp)
  exact ⟨_, gate_next_eq (k := fun s => qdOp s 2) hl hput hwrites, qdAt_qdPut_same _ _ _, rf_qdStatus _ (by decide), fun j hj => qdAt_qdPut_ne s _ hj, hwrites.sameBut⟩

theorem qdWrite_refused (h : ¬ (rf s R.qeQD_INDEX < s.cfg.part.queues ∧ qdOk s (rd s R.qeQD_W0.addr, rd s R.qeQD_W1.addr) = true)) :
    ∃ t, exec .qdWrite s = .next t ∧ t.fld = s.fld ∧ rf t R.qeQD_STATUS = 1 := by
  have hput : qdOp s 2 = _ := (if_neg (by decide)).trans ((if_pos rfl).trans (if_neg h))
  have hwrites := (WritesOnly.refl (fun _ => True) s).wf (f := R.qeQD_STATUS) 1 trivial
  exact ⟨_, gate_next_eq (k := fun s => qdOp s 2) hl hput hwrites, rfl, rf_qdStatus s (by decide)⟩

end Descriptors

/-! ### Commits (R224, R225) -/

/-- The buffer entry that a write of two words at `a` opens is the newest. -/
def entryOpened (s : State) (a : Nat) (v w : Word) : State :=
  { s with bm := { s.bm with comb := s.bm.comb ++ [⟨burstOf a, [(a, v), (a + 1, w)], [], s.now⟩] } }

theorem WritesOnly.entryOpened {P : Nat → Prop} {s t : State} (h : WritesOnly P s t) (a : Nat) (v w : Word) :
    WritesOnly P s (Machine.entryOpened t a v w) := h.setBm _

/-- Two words written while the combining buffer is empty open one entry (R74). -/
theorem bulkPartial_opens_two {s : State} (h : s.bm.comb = []) (a : Nat) (v w : Word) : bulkPartial s a [v, w] = entryOpened s a v w := by
  have hputs (now : Nat) : combPuts ⟨burstOf a, [], [], now⟩ a [(v, true, true), (w, true, true)] =
      ⟨burstOf a, [(a, v), (a + 1, w)], [], now⟩ := by simp [combPuts, combPut, kvDel]
  have hnone : combFind s (burstOf a) = none := by rw [combFind, h]; rfl
  have hmine : (s.bm.comb.filter fun e => decide (bulkChan s e.burst = bulkChan s (burstOf a))).length < 32 := by simp [h]
  simp only [bulkPartial, bulkMasked, hnone, List.map_cons, List.map_nil, if_pos hmine, hputs]
  rfl

/-- The one port with a sample. -/
theorem sampling_single {s : State} {p : Nat} (hp : p < s.cfg.part.ports) (hfifo : (port s p).fifo ≠ [])
    (hothers : ∀ j, j ≠ p → (port s j).fifo = []) : (portIds s).filter (fun j => decide ((port s j).fifo ≠ [])) = [p] := by
  have hone : ∀ j ∈ portIds s, decide ((port s j).fifo ≠ []) = (j == p) := fun j _ => by
    by_cases hj : j = p
    · simp [hj, hfifo]
    · simp [hj, hothers j hj]
  rw [List.filter_congr hone, List.filter_beq, portIds, List.count_eq_one_of_mem List.nodup_range (List.mem_range.2 hp),
    List.replicate_one]

/-- `s` with the next sample taken from port p, whose FIFO `r` is left. -/
def sampleTaken (s : State) (p : Nat) (r : List (Nat × Word × Word)) : State :=
  let u := modPort s p fun k => { k with fifo := r }
  { u with fld := { u.fld with rot := (p + 1) % 8 } }

theorem writesOnly_sampleTaken (P : Nat → Prop) (s : State) (p : Nat) (r : List (Nat × Word × Word)) : WritesOnly P s (sampleTaken s p r) :=
  (WritesOnly.refl P s).setFld _

theorem port_sampleTaken {s : State} {p : Nat} (hp : p < s.fld.ports.length) (r : List (Nat × Word × Word)) :
    (port (sampleTaken s p r) p).fifo = r := congrArg PortSt.fifo (port_modPort_same hp fun k => { k with fifo := r })

theorem ports_le (p : Part) : p.ports ≤ 8 := by cases p <;> decide

/-- The descriptor of a queue after a commit: its pointer has advanced, and where it wraps the wraps are counted (R223, R224). -/
def committedQd (d : Word × Word) : Word × Word :=
  let np := (bits d.2.toNat 19 0 + 2) % 2 ^ bits d.1.toNat 33 29
  let d1 := putBits d.2.toNat 19 0 np
  (d.1, mkW (if np = 0 then putBits d1 35 21 (bits d1 35 21 + 1) else d1))

theorem committedQd_pointer (d : Word × Word) :
    bits (committedQd d).2.toNat 19 0 = (bits d.2.toNat 19 0 + 2) % 2 ^ bits d.1.toNat 33 29 % 2 ^ 20 := by
  generalize hnp : (bits d.2.toNat 19 0 + 2) % 2 ^ bits d.1.toNat 33 29 = np
  have hlt : putBits d.2.toNat 19 0 np < 2 ^ 36 := putBits_lt _ _ _ _ (by decide) (by decide) d.2.isLt
  have hptr : bits (putBits d.2.toNat 19 0 np) 19 0 = np % 2 ^ 20 := bits_putBits_same _ _ _ _ (by decide)
  simp only [committedQd, hnp]
  split
  · rw [mkW, BitVec.toNat_ofNat, Nat.mod_eq_of_lt (putBits_lt _ _ _ _ (by decide) (by decide) hlt),
      bits_putBits_ne _ _ _ _ _ _ (by decide) (by decide) (by decide), hptr]
  · rw [mkW, BitVec.toNat_ofNat, Nat.mod_eq_of_lt hlt, hptr]

theorem commit_disabled {s : State} {q : Nat} (h : bit (qdAt s q).1.toNat 34 = false) (v tag : Word) :
    commit s q v tag = cnt s R.qeQDIS_CNT := by rw [commit, if_pos h]

theorem commit_enabled {s : State} {q a : Nat} (hon : bit (qdAt s q).1.toNat 34 = true) (hlvt : bit (qdAt s q).1.toNat 35 = false)
    (ha : bulkBase + 16 * bits (qdAt s q).1.toNat 28 0 + bits (qdAt s q).2.toNat 19 0 = a) (hguard : imgGuards s a = false)
    (hcomb : s.bm.comb = []) (v tag : Word) :
    commit s q v tag = cnt (qdPut (entryOpened s a v tag) q (committedQd (qdAt s q))) R.qeCOMMIT_CNT := by
  simp only [commit, ha, hguard, bulkPartial_opens_two hcomb, if_neg (ne_false_of_eq_true hon), if_neg (ne_true_of_eq_false hlvt), if_neg
    Bool.false_ne_true]
  rfl

section Commit
variable {s : State} {p q : Nat} {v tag : Word} (hl : s.live iMWY) (hp : p < s.cfg.part.ports) (hlen : s.fld.ports.length = s.cfg.part.ports)
  (hfifo : (port s p).fifo = [(q, v, tag)]) (hothers : ∀ j, j ≠ p → (port s j).fifo = [])
include hl hp hfifo hothers

theorem sampleCommit_next {t : State} {P : Nat → Prop} (ht : commit (sampleTaken s p []) q v tag = t)
    (hk : WritesOnly P (sampleTaken s p []) t) : exec .sampleCommit s = .next t := by
  have hwin : rotWin s.fld.rot 8 ((portIds s).filter fun j => decide ((port s j).fifo ≠ [])) = some p := by
    rw [sampling_single hp (by rw [hfifo]; simp) hothers, rotWin_singleton (hp.trans_le (ports_le _))]
  change execSampleCommit s = _
  unfold execSampleCommit
  refine gate_next_eq hl ?_ ((writesOnly_sampleTaken P s p []).trans hk)
  simp only [hwin, hfifo]
  exact ht

include hlen

theorem sampleCommit_disabled (hoff : bit (qdAt s q).1.toNat 34 = false) : ∃ t, exec .sampleCommit s = .next t ∧ (port t p).fifo = [] ∧
    t.bm = s.bm ∧ rf t R.qeQDIS_CNT = min (rf s R.qeQDIS_CNT + 1) (2 ^ 36 - 1) ∧ s.sameBut t [R.qeQDIS_CNT.addr] := by
  have hcommit := commit_disabled (s := sampleTaken s p []) hoff v tag
  have hwrites := (WritesOnly.refl (· ∈ [R.qeQDIS_CNT.addr]) (sampleTaken s p [])).cnt (f := R.qeQDIS_CNT) (by simp)
  exact ⟨_, sampleCommit_next hl hp hfifo hothers hcommit hwrites, port_sampleTaken (hlen ▸ hp) [], rfl, rf_cnt_word _ _,
    ((writesOnly_sampleTaken _ s p []).trans hwrites).sameBut⟩

theorem sampleCommit_enabled {a : Nat} (hcomb : s.bm.comb = []) (hon : bit (qdAt s q).1.toNat 34 = true)
    (hlvt : bit (qdAt s q).1.toNat 35 = false) (ha : bulkBase + 16 * bits (qdAt s q).1.toNat 28 0 + bits (qdAt s q).2.toNat 19 0 = a)
    (hguard : imgGuards s a = false) : ∃ t, exec .sampleCommit s = .next t ∧ (port t p).fifo = [] ∧
    t.bm.comb = [⟨burstOf a, [(a, v), (a + 1, tag)], [], s.now⟩] ∧
    bits (qdAt t q).2.toNat 19 0 = (bits (qdAt s q).2.toNat 19 0 + 2) % 2 ^ bits (qdAt s q).1.toNat 33 29 % 2 ^ 20 ∧
    (qdAt t q).1 = (qdAt s q).1 ∧ rf t R.qeCOMMIT_CNT = min (rf s R.qeCOMMIT_CNT + 1) (2 ^ 36 - 1) ∧ s.sameBut t [R.qeCOMMIT_CNT.addr] := by
  have hcommit := commit_enabled (s := sampleTaken s p []) hon hlvt ha hguard hcomb v tag
  generalize hd : committedQd (qdAt (sampleTaken s p []) q) = d at hcommit
  have hwrites := (((WritesOnly.refl (· ∈ [R.qeCOMMIT_CNT.addr]) (sampleTaken s p [])).entryOpened a v tag).qdPut q d).cnt (f := R.qeCOMMIT_CNT) (by simp)
  have hqd : qdAt (cnt (qdPut (entryOpened (sampleTaken s p []) a v tag) q d) R.qeCOMMIT_CNT) q = d := qdAt_qdPut_same _ q d
  refine ⟨_, sampleCommit_next hl hp hfifo hothers hcommit hwrites, port_sampleTaken (hlen ▸ hp) [], congrArg (· ++ [_]) hcomb, ?_, ?_,
    rf_cnt_word _ _, ((writesOnly_sampleTaken _ s p []).trans hwrites).sameBut⟩
  · rw [hqd, ← hd]
    exact committedQd_pointer _
  · rw [hqd, ← hd]
    rfl

end Commit

/-! ### Thaws (R227) -/

theorem queueThaw_due {s : State} (hl : s.live iMWY) (hdue : s.fld.thawDue = true) (hfrozen : rb s R.qeFROZEN = true) :
    ∃ t, exec .queueThaw s = .next t ∧ rb t R.qeFROZEN = false ∧ rb t R.qeTHAWING = true ∧ t.fld.thawDue = false ∧ t.fld.viewLeft = none ∧
      s.sameBut t [R.qeFROZEN.addr] := by
  have hthaw : thawIfDue s = thawBegun s := (if_pos hdue).trans (if_pos hfrozen)
  have hwrites := writesOnly_thawBegun s
  obtain ⟨hoff, hon⟩ := thawBegun_bits s
  exact ⟨_, gate_next_eq hl hthaw hwrites, hoff, hon, rfl, rfl, (hwrites.mono fun _ ha => List.mem_singleton.2 ha).sameBut⟩

theorem queueThaw_notDue {s : State} (hl : s.live iMWY) (h : s.fld.thawDue = false) : exec .queueThaw s = .next s := by
  have hthaw : thawIfDue s = s := if_neg (ne_true_of_eq_false h)
  exact (gate_live hl thawIfDue).trans (by rw [hthaw, keep_self])

/-- The queues whose slot reads tag 0 follow the slot written (R226). -/
def tagMarked (s : State) (q : Nat) (tag : Word) : State :=
  let z := s.fld.tagZero.filter fun k => decide (k ≠ q)
  { s with fld := { s.fld with tagZero := if tag = 0#36 then q :: z else z } }

theorem writesOnly_tagMarked (P : Nat → Prop) (s : State) (q : Nat) (tag : Word) : WritesOnly P s (tagMarked s q tag) :=
  (WritesOnly.refl P s).setFld _

/-- What the slot of a queue holds once it is written, where Stream Memory is idle (R226). -/
theorem SmIdle.lvtWrite {s : State} (h : SmIdle s) {q a : Nat} (ha : lvtBase s + 2 * q = a) (hq : a + 1 < s.cfg.part.streamWords)
    (v tag : Word) : rd (lvtWrite s q v tag) a = v ∧ rd (lvtWrite s q v tag) (a + 1) = tag ∧
      (lvtWrite s q v tag).fld.freezePend = s.fld.freezePend ∧ WritesOnly (· ∈ [a, a + 1]) s (lvtWrite s q v tag) := by
  have hm : SmIdle (tagMarked s q tag) := h.of_eq rfl rfl rfl rfl rfl fun _ _ _ => rfl
  obtain ⟨hidle, hv, hfld, hfirst⟩ := hm.smPut (a := a) (Nat.lt_of_succ_lt hq) v
  obtain ⟨-, htag, hfld', hsecond⟩ := hidle.smPut (a := a + 1) (hfirst.cfg ▸ hq) tag
  have hwrite : Machine.lvtWrite s q v tag = Machine.smPut (Machine.smPut (tagMarked s q tag) a v) (a + 1) tag := by
    subst ha
    rfl
  rw [hwrite]
  refine ⟨(hsecond.rd_eq a (by omega)).trans hv, htag, ?_, ?_⟩
  · rw [hfld', hfld]
    rfl
  · exact ((writesOnly_tagMarked _ s q tag).trans (hfirst.mono fun b hb => by simp [hb])).trans (hsecond.mono fun b hb => by simp [hb])

theorem thawDone_single {s : State} {q : Nat} {v tag : Word} (hl : s.live iMWY) (hthaw : rb s R.qeTHAWING = true)
    (hhold : s.fld.hold = [(q, v, tag)]) (hpend : s.fld.freezePend = none) (hidle : SmIdle s)
    (hq : lvtBase s + 2 * q + 1 < s.cfg.part.streamWords) : ∃ t, exec .thawDone s = .next t ∧ rd t (lvtBase s + 2 * q) = v ∧
    rd t (lvtBase s + 2 * q + 1) = tag ∧ t.fld.hold = [] ∧ rb t R.qeTHAWING = false ∧ rf t R.qeHOLD_USED = 0 ∧
    s.sameBut t [lvtBase s + 2 * q, lvtBase s + 2 * q + 1, R.qeTHAWING.addr, R.qeHOLD_USED.addr] := by
  obtain ⟨hv, htag, hfreeze, hslot⟩ := hidle.lvtWrite rfl hq v tag
  generalize hu : lvtWrite s q v tag = u at *
  generalize ha : lvtBase s + 2 * q = a at *
  have hlow : a + 1 < 0x10000000 := hq.trans (streamWords_lt _)
  generalize hemptied : { u with fld := { u.fld with hold := [] } } = e
  have hdone : thawDone s = wf (wb e R.qeTHAWING false) R.qeHOLD_USED 0 := by
    have hnone : (wf (wb e R.qeTHAWING false) R.qeHOLD_USED 0).fld.freezePend = none := by rw [← hemptied]; exact hfreeze.trans hpend
    rw [thawDone, if_pos hthaw, hhold, List.foldl_cons, List.foldl_nil]
    simp only [hu, hemptied, hnone]
  have hrest : WritesOnly (· ∈ [R.qeTHAWING.addr, R.qeHOLD_USED.addr]) u (wf (wb e R.qeTHAWING false) R.qeHOLD_USED 0) := by
    rw [← hemptied]
    exact (((WritesOnly.refl _ u).setFld _).wb _ (by simp)).wf _ (by simp)
  have hwrites : WritesOnly (· ∈ [a, a + 1, R.qeTHAWING.addr, R.qeHOLD_USED.addr]) s (wf (wb e R.qeTHAWING false) R.qeHOLD_USED 0) :=
    (hslot.mono fun b hb => by simp at hb ⊢; tauto).trans (hrest.mono fun b hb => by simp at hb ⊢; tauto)
  have hmem : ∀ b, b < 0x10000000 → rd (wf (wb e R.qeTHAWING false) R.qeHOLD_USED 0) b = rd u b := fun b hb => hrest.rd_eq b (by
    have hthawing : R.qeTHAWING.addr = 0x20190001 := rfl
    have hused : R.qeHOLD_USED.addr = 0x20190003 := rfl
    simp only [List.mem_cons, List.not_mem_nil, or_false, hthawing, hused]
    omega)
  refine ⟨_, gate_next_eq hl hdone hwrites, (hmem a (by omega)).trans hv, (hmem _ hlow).trans htag, ?_, ?_, ?_, hwrites.sameBut⟩
  · rw [← hemptied]
    rfl
  · rw [rb_wf_apart (by decide), rb_wb_same _ _ _ (by decide) (by decide)]
  · exact rf_wf_same _ R.qeHOLD_USED 0 (by decide) (by decide)

/-- Settles O28: descriptors by QD_OP, a commit by its queue's enable, and a thaw from its start to the slots it fills. -/
theorem queuesCommitAndThaw : Obligations.QueuesCommitAndThaw := by
  unfold Obligations.QueuesCommitAndThaw
  intro s hl
  refine ⟨⟨qdRead_inRange hl, qdRead_absent hl, qdWrite_taken hl, fun h => qdWrite_refused hl ?_⟩, ?_, queueThaw_due hl, queueThaw_notDue hl, ?_⟩
  · rintro ⟨hq, hok⟩
    rcases h with h | h
    · exact Nat.not_lt.2 h hq
    · exact ne_true_of_eq_false h hok
  · intro p q v tag hp hlen hfifo hothers hcomb
    exact ⟨sampleCommit_disabled hl hp hlen hfifo hothers,
      fun hon hlvt hguard => sampleCommit_enabled hl hp hlen hfifo hothers hcomb hon hlvt rfl hguard⟩
  · intro q v tag hthaw hhold hpend hr hw hv hb hq
    exact thawDone_single hl hthaw hhold hpend (smIdle_of_live hl hv hr hw hb) hq

end Sys2Proof.Machine

/-! SUPPORT. The receive path of a field port: frames counted, and accepted signal frames of one record (R211 to R214). -/

namespace Sys2Proof.Machine

/-! ### Sticky bits of a port (R242) -/

section Stick
variable {s t : State} {p k q : Nat} {f g : Field}

theorem WritesOnly.fpStick {P : Nat → Prop} (h : WritesOnly P s t) (p k : Nat) (hf : P f.addr) : WritesOnly P s (Machine.fpStick t p f k) :=
  ((h.wb true hf).raiseIf _ _).notice _ _ _ _

theorem rf_fpStick_apart (h : f.Apart g) : rf (fpStick s p f k) g = rf s g := by
  rw [fpStick, rf_notice, rf_raiseIf, rf_wb_apart h]
theorem rb_fpStick_apart (h : f.Apart g) : rb (fpStick s p f k) g = rb s g := by rw [rb, rb, rf_fpStick_apart h]
theorem rb_fpStick_same (h : f.lo = f.hi) (hh : f.hi < 36) : rb (fpStick s p f k) f = true := by
  rw [fpStick, rb_notice, rb_raiseIf, rb_wb_same _ _ _ h hh]
@[simp] theorem port_fpStick : port (fpStick s p f k) q = port s q := by rw [fpStick, port_notice, port_raiseIf, port_wb]

end Stick

/-! ### Frames counted (R211) -/

section Receive
variable {s : State} {p : Nat} (hl : s.live iFLD) (hp : p < s.cfg.part.ports) {f : RxFrame} (hon : rf s (R.fpUNIT_STATE p) = usON)
  (hlink : rb s (R.fpLINK p) = true)
include hl hp hon hlink

theorem receiveFrame_badFcs (hfcs : f.fcsOk = false) : ∃ t, exec (.receiveFrame p f) s = .next t ∧
    rf t (R.fpRX_FCS p) = min (rf s (R.fpRX_FCS p) + 1) (2 ^ 36 - 1) ∧ s.sameBut t [(R.fpRX_FCS p).addr] := by
  have hwrites := (WritesOnly.refl (· ∈ [(R.fpRX_FCS p).addr]) s).cnt (f := R.fpRX_FCS p) (by simp)
  refine ⟨_, ?_, rf_cnt_word s _, hwrites.sameBut⟩
  change execReceiveFrame p f s = _
  exact gatePort_next_eq hl hp ((if_neg (by simp [hon, hlink])).trans (if_pos hfcs)) hwrites

theorem receiveFrame_full (hfcs : f.fcsOk = true) (hfull : 65536 < (port s p).bufUsed + (f.body.length + 18 + 4 * f.tags)) :
    ∃ t, exec (.receiveFrame p f) s = .next t ∧ rb t (R.fpRX_DROP p) = true ∧
      rf t (R.fpRX_DROP_CNT p) = min (rf s (R.fpRX_DROP_CNT p) + 1) (2 ^ 36 - 1) ∧
      s.sameBut t [(R.fpRX_DROP p).addr, (R.fpRX_DROP_CNT p).addr] := by
  have hwrites := ((WritesOnly.refl (· ∈ [(R.fpRX_DROP p).addr, (R.fpRX_DROP_CNT p).addr]) s).cnt (f := R.fpRX_DROP_CNT p)
    (by simp)).fpStick (f := R.fpRX_DROP p) p 1 (by simp)
  refine ⟨_, ?_, rb_fpStick_same rfl (by decide : 1 < 36), ?_, hwrites.sameBut⟩
  · change execReceiveFrame p f s = _
    exact gatePort_next_eq hl hp ((if_neg (by simp [hon, hlink])).trans ((if_neg (by simp [hfcs])).trans (if_pos hfull))) hwrites
  · rw [rf_fpStick_apart (.inl (by simp [R.fpRX_DROP, R.fpRX_DROP_CNT]))]
    exact rf_cnt_word s _

/-- A frame of the signal Ethertype that fits the buffer is a signal frame. -/
theorem receiveFrame_signal {t : State} {P : Nat → Prop} (hfcs : f.fcsOk = true)
    (hfits : (port s p).bufUsed + (f.body.length + 18 + 4 * f.tags) ≤ 65536) (htags : f.tags ≤ 1) (hsig : f.etype = rf s R.fcETYPE)
    (hptp : f.etype ≠ 0x88F7) (harp : f.etype ≠ 0x0806)
    (ht : signalFrame s p false 0 f.body (f.body.length + 18 + 4 * f.tags) = t) (hwrites : WritesOnly P s t) :
    exec (.receiveFrame p f) s = .next t := by
  change execReceiveFrame p f s = _
  refine gatePort_next_eq hl hp ?_ hwrites
  have hcount : ¬ 1 < f.tags := Nat.not_lt.2 htags
  exact (if_neg (by simp [hon, hlink])).trans ((if_neg (by simp [hfcs])).trans ((if_neg (Nat.not_lt.2 hfits)).trans ((if_neg hcount).trans
    ((if_neg hptp).trans ((if_neg harp).trans ((if_pos hsig).trans ht))))))

end Receive

/-! ### Signal frames of one record (R212 to R214) -/

/-- A frame of `size` octets with the one record `r` is accepted from node n at port p. -/
def recordAccepted (s : State) (p n seq size : Nat) (r : RxRec) : State :=
  modPort (nodeAccept s p n seq) p fun k => { k with recs := k.recs ++ [{ r with size := size }], bufUsed := k.bufUsed + size }

theorem seqCheck_off {s : State} {n : Nat} (h : rb s (R.ndSEQ_CHECK n) = false) (p seq : Nat) :
    seqCheck s p n seq = (true, nodeAccept s p n seq) := if_neg (by simp [h])

/-- What the header of a payload of sample records must be for its check to pass (R212, Table FLD-2). -/
structure SampleHeader (ws : List Word) (limit : Nat) : Prop where
  long : 2 ≤ ws.length
  version : bits (ws.getD 0 0#36).toNat 35 32 = 1
  kind : bits (ws.getD 0 0#36).toNat 31 28 = 1
  even : bits (ws.getD 1 0#36).toNat 13 0 % 2 = 0
  least : 2 ≤ bits (ws.getD 1 0#36).toNat 13 0
  fits : bits (ws.getD 1 0#36).toNat 13 0 ≤ ws.length
  limited : bits (ws.getD 1 0#36).toNat 13 0 ≤ limit
  low : bits (ws.getD 1 0#36).toNat 15 14 = 0
  high : bits (ws.getD 1 0#36).toNat 35 20 = 0
  cls : bits (ws.getD 1 0#36).toNat 19 16 = 0

theorem signalFrame_record {s : State} {p size : Nat} {b : List (BitVec 8)} {r : RxRec}
    (hhead : SampleHeader (payWords b) (payLimit (rb s (R.fpJUMBO p)) false))
    (hrecs : parseRecs (bits ((payWords b).getD 0 0#36).toNat 27 16) (bits ((payWords b).getD 1 0#36).toNat 13 0)
      (((payWords b).take (bits ((payWords b).getD 1 0#36).toNat 13 0)).drop 2) = some [r])
    (hnode : nodeRejects s p (bits ((payWords b).getD 0 0#36).toNat 27 16) false 0 = false)
    (hseq : rb s (R.ndSEQ_CHECK (bits ((payWords b).getD 0 0#36).toNat 27 16)) = false) :
    signalFrame s p false 0 b size =
      recordAccepted s p (bits ((payWords b).getD 0 0#36).toNat 27 16) (bits ((payWords b).getD 0 0#36).toNat 15 0) size r := by
  obtain ⟨hlong, hversion, hkind, heven, hleast, hfits, hlimited, hlow, hhigh, hcls⟩ := hhead
  unfold signalFrame
  dsimp only
  rw [if_neg (by omega)]
  simp only [hkind, if_true, hrecs, hnode, Bool.false_eq_true, if_false, seqCheck_off hseq, show ¬ (1 = 3) by decide]
  rfl

section Accepted
variable {s : State} {p n seq size : Nat} {r : RxRec}

theorem recordAccepted_port (hp : p < s.fld.ports.length) :
    (port (recordAccepted s p n seq size r) p).recs = (port s p).recs ++ [{ r with size := size }] ∧
      (port (recordAccepted s p n seq size r) p).bufUsed = (port s p).bufUsed + size := by
  rw [recordAccepted, port_modPort_same (s := nodeAccept s p n seq) hp]
  exact ⟨rfl, rfl⟩

theorem writesOnly_recordAccepted :
    WritesOnly (· ∈ [(R.fpRX_FRAMES p).addr, (R.ndLAST_SEQ n).addr, (R.ndLAST_TAG n).addr]) s (recordAccepted s p n seq size r) :=
  (((((WritesOnly.refl _ s).wf (f := R.ndLAST_SEQ n) seq (by simp)).wb (f := R.ndSEEN n) true
    (by simp [show (R.ndSEEN n).addr = (R.ndLAST_SEQ n).addr from rfl])).wf (f := R.ndLAST_TAG n) _ (by simp)).cnt (f := R.fpRX_FRAMES p) (by simp)).modPort _ _

theorem tagNow_lt (s : State) : tagNow s < 2 ^ 36 := by
  unfold tagNow tagOf
  omega

theorem recordAccepted_fields (hp : p < 8) (hseq : seq < 2 ^ 16) : rf (recordAccepted s p n seq size r) (R.fpRX_FRAMES p) =
      min (rf s (R.fpRX_FRAMES p) + 1) (2 ^ 36 - 1) ∧ rf (recordAccepted s p n seq size r) (R.ndLAST_SEQ n) = seq ∧
    rb (recordAccepted s p n seq size r) (R.ndSEEN n) = true ∧ rf (recordAccepted s p n seq size r) (R.ndLAST_TAG n) = tagNow s := by
  have hframes : ∀ g : Field, 0x20180000 ≤ g.addr → (R.fpRX_FRAMES p).Apart g := fun g hg => .inl (by
    simp only [R.fpRX_FRAMES, blkBase]
    omega)
  have hcount : ∀ g : Field, 0x20180000 ≤ g.addr → g.Apart (R.fpRX_FRAMES p) := fun g hg => .inl (by
    simp only [R.fpRX_FRAMES, blkBase]
    omega)
  have hseqAddr : 0x20180000 ≤ (R.ndLAST_SEQ n).addr := by simp only [R.ndLAST_SEQ, blkBase]; omega
  have htagAddr : 0x20180000 ≤ (R.ndLAST_TAG n).addr := by simp only [R.ndLAST_TAG, blkBase]; omega
  have hseenAddr : 0x20180000 ≤ (R.ndSEEN n).addr := by simp only [R.ndSEEN, blkBase]; omega
  have htagSeq : (R.ndLAST_TAG n).Apart (R.ndLAST_SEQ n) := .inl (by simp [R.ndLAST_TAG, R.ndLAST_SEQ])
  have htagSeen : (R.ndLAST_TAG n).Apart (R.ndSEEN n) := .inl (by simp [R.ndLAST_TAG, R.ndSEEN])
  have hseenSeq : (R.ndSEEN n).Apart (R.ndLAST_SEQ n) := .inr (by simp [R.ndSEEN, R.ndLAST_SEQ])
  rw [recordAccepted, rf_modPort, rf_modPort, rb_modPort, rf_modPort, nodeAccept]
  refine ⟨?_, ?_, ?_, ?_⟩
  · rw [R.fpRX_FRAMES, rf_cnt_word, ← R.fpRX_FRAMES, rf_wf_apart (hcount _ htagAddr), rf_wb_apart (hcount _ hseenAddr),
      rf_wf_apart (hcount _ hseqAddr)]
  · rw [rf_cnt_apart (hframes _ hseqAddr), rf_wf_apart htagSeq, rf_wb_apart hseenSeq]
    exact (rf_wf_same s (R.ndLAST_SEQ n) seq (by decide : 0 ≤ 15) (by decide : 15 < 36)).trans (Nat.mod_eq_of_lt hseq)
  · rw [rb_cnt_apart (hframes _ hseenAddr), rb_wf_apart htagSeen]
    exact rb_wb_same _ (R.ndSEEN n) true rfl (by decide : 16 < 36)
  · rw [rf_cnt_apart (hframes _ htagAddr)]
    exact (rf_wf_same _ (R.ndLAST_TAG n) _ (by decide : 0 ≤ 35) (by decide : 35 < 36)).trans (Nat.mod_eq_of_lt (tagNow_lt s))

end Accepted

end Sys2Proof.Machine

/-! SUPPORT. The classifier: lookups, INSERT, DELETE and FIND, and the node table's word 0 (R214, R220 to R222). -/

namespace Sys2Proof.Machine

/-! ### Lookups (R221) -/

theorem clsKey_single_lt (p n c : Nat) : clsKey false p n c < 2 ^ 36 := by
  simp only [clsKey, b2n, Bool.false_eq_true, if_false]
  omega

/-- The key of the first miss is held. -/
def missKeyed (s : State) (p n c k : Nat) : State :=
  if rb s R.fcCLS_MISS then cntAdd s R.fcCLS_MISS_CNT k else wf (cntAdd s R.fcCLS_MISS_CNT k) R.fcMISS_KEY (clsKey false p n c)

theorem clsMiss_eq (s : State) (p n c k : Nat) :
    clsMiss s p n c k = notice (raiseIf (wb (missKeyed s p n c k) R.fcCLS_MISS true) (!rb s R.fcCLS_MISS) 145) 7 25 0 0 := rfl

theorem writesOnly_clsMiss (s : State) (p n c k : Nat) : WritesOnly (fun _ => True) s (clsMiss s p n c k) := by
  have hcount := (WritesOnly.refl (fun _ => True) s).cntAdd (f := R.fcCLS_MISS_CNT) k trivial
  have hkeyed : WritesOnly (fun _ => True) s (missKeyed s p n c k) :=
    iteInduction (motive := WritesOnly (fun _ => True) s) (fun _ => hcount) fun _ => hcount.wf _ trivial
  exact ((hkeyed.wb (f := R.fcCLS_MISS) true trivial).raiseIf _ _).notice _ _ _ _

theorem clsMiss_fields (s : State) (p n c : Nat) : rb (clsMiss s p n c 1) R.fcCLS_MISS = true ∧
    rf (clsMiss s p n c 1) R.fcCLS_MISS_CNT = min (rf s R.fcCLS_MISS_CNT + 1) (2 ^ 36 - 1) ∧
    (∀ q, port (clsMiss s p n c 1) q = port s q) ∧
    (rb s R.fcCLS_MISS = false → rf (clsMiss s p n c 1) R.fcMISS_KEY = clsKey false p n c ∧ (clsMiss s p n c 1).raiseQ = s.raiseQ ++ [145]) := by
  have hcount : rf (missKeyed s p n c 1) R.fcCLS_MISS_CNT = min (rf s R.fcCLS_MISS_CNT + 1) (2 ^ 36 - 1) := by
    rw [missKeyed]
    split
    · exact rf_cnt_word s _
    · rw [rf_wf_apart (by decide)]
      exact rf_cnt_word s _
  simp only [clsMiss_eq, rb_notice, rb_raiseIf, rf_notice, rf_raiseIf, port_notice, port_raiseIf, port_wb]
  refine ⟨rb_wb_same _ _ _ (by decide) (by decide), by rw [rf_wb_apart (by decide), hcount], fun q => ?_, fun hfirst => ?_⟩
  · rw [missKeyed]
    split <;> rfl
  · rw [missKeyed, hfirst, rf_wb_apart (by decide)]
    exact ⟨(rf_wf_same _ R.fcMISS_KEY _ (by decide) (by decide)).trans (Nat.mod_eq_of_lt (clsKey_single_lt p n c)), rfl⟩

/-- `s` with the oldest record `r` taken from port p, whose other records are `rs`. -/
def recordTaken (s : State) (p : Nat) (r : RxRec) (rs : List RxRec) : State :=
  modPort s p fun k => { k with recs := rs, bufUsed := k.bufUsed - r.size }

/-- One sample that is not of a series is looked up for its own channel, or has its queue from the block that holds the whole record. -/
theorem lookupRec_single {s : State} {r : RxRec} {v : Word} (hv : r.vals = [v]) (hr : r.series = false) (p : Nat) :
    lookupRec s p r = lookupOne s p r r.chan v (mkW r.tag) := by
  have hsamples : recSamples r = [(0, v)] := by rw [recSamples, hv]; rfl
  simp only [lookupRec, hr, Bool.false_eq_true, if_false, hsamples, List.foldl_cons, List.foldl_nil, Nat.add_zero]
  cases hfind : clsLookup s p r.node r.chan with
  | none => rfl
  | some i =>
    simp only [lookupOne, hfind]
    split
    next b hb =>
      split at hb
      · cases hb; rfl
      · cases hb
    · rfl

section Lookup
variable {s : State} {p : Nat} (hl : s.live iFLD) (hp : p < s.cfg.part.ports) (hlen : s.fld.ports.length = s.cfg.part.ports) {r : RxRec}
  {v : Word} (hrecs : (port s p).recs = [r]) (hv : r.vals = [v]) (hr : r.series = false)
include hl hp hrecs hv hr

theorem classifierLookup_next {t : State} {P : Nat → Prop} (ht : lookupOne (recordTaken s p r []) p r r.chan v (mkW r.tag) = t)
    (hwrites : WritesOnly P (recordTaken s p r []) t) : exec (.classifierLookup p) s = .next t := by
  change execClassifierLookup p s = _
  unfold execClassifierLookup
  refine gatePort_next_eq hl hp ?_ (((WritesOnly.refl P s).modPort _ _).trans hwrites)
  simp only [hrecs]
  exact (lookupRec_single hv hr p).trans ht

include hlen

theorem classifierLookup_miss (hmiss : clsLookup s p r.node r.chan = none) : ∃ t, exec (.classifierLookup p) s = .next t ∧
    (port t p).recs = [] ∧ rb t R.fcCLS_MISS = true ∧ rf t R.fcCLS_MISS_CNT = min (rf s R.fcCLS_MISS_CNT + 1) (2 ^ 36 - 1) ∧
    (rb s R.fcCLS_MISS = false → rf t R.fcMISS_KEY = clsKey false p r.node r.chan ∧ t.raiseQ = s.raiseQ ++ [145]) := by
  have hlook : lookupOne (recordTaken s p r []) p r r.chan v (mkW r.tag) = clsMiss (recordTaken s p r []) p r.node r.chan 1 := by
    have htaken : clsLookup (recordTaken s p r []) p r.node r.chan = none := hmiss
    rw [lookupOne, htaken]
  obtain ⟨hflag, hcount, hport, hfirst⟩ := clsMiss_fields (recordTaken s p r []) p r.node r.chan
  refine ⟨_, classifierLookup_next hl hp hrecs hv hr hlook (writesOnly_clsMiss _ p r.node r.chan 1), ?_, hflag, hcount, hfirst⟩
  rw [hport, recordTaken, port_modPort_same (hlen ▸ hp)]

theorem classifierLookup_hit {i : Nat} (hhit : clsLookup s p r.node r.chan = some i) (hroom : (port s p).fifo.length < 4096) :
    ∃ t, exec (.classifierLookup p) s = .next t ∧ (port t p).recs = [] ∧
      (port t p).fifo = (port s p).fifo ++ [(clsQueue (clsAt s i) r.chan, v, mkW r.tag)] ∧ t.mem = s.mem := by
  have hport : port (recordTaken s p r []) p = { port s p with recs := [], bufUsed := (port s p).bufUsed - r.size } :=
    port_modPort_same (hlen ▸ hp) _
  have hlook : lookupOne (recordTaken s p r []) p r r.chan v (mkW r.tag) = modPort (recordTaken s p r []) p fun k =>
      { k with fifo := k.fifo ++ [(clsQueue (clsAt s i) r.chan, v, mkW r.tag)] } := by
    have htaken : clsLookup (recordTaken s p r []) p r.node r.chan = some i := hhit
    rw [lookupOne, htaken]
    exact if_pos (by rw [hport]; exact hroom)
  refine ⟨_, classifierLookup_next hl hp hrecs hv hr hlook ((WritesOnly.refl (fun _ => False) _).modPort _ _), ?_, ?_, rfl⟩ <;>
    rw [port_modPort_same (by simpa [recordTaken, modPort, hlen] using hp), hport]

end Lookup

/-! ### INSERT, DELETE and FIND (R222) -/

section Done
variable (s : State) (i : Nat)

/-- What an operation answers in CLS_STATUS and CLS_INDEX. -/
def clsAnswered (s : State) (status i : Nat) : State := wf (wf s R.fcCLS_STATUS status) R.fcCLS_INDEX i

theorem clsDone_ok (fail : Bool) : clsDone s 0 i fail = clsAnswered s 0 i := if_neg (by simp)
theorem clsDone_quiet (status : Nat) : clsDone s status i false = clsAnswered s status i := by
  rw [clsDone, if_neg (by simp)]
  rfl
theorem clsDone_failed {status : Nat} (h : status ≠ 0) : clsDone s status i true =
    notice (raiseIf (wb (clsAnswered s status i) R.fcCLS_FAIL true) (!rb (clsAnswered s status i) R.fcCLS_FAIL) 145) 7 25 0 0 :=
  if_pos ⟨rfl, h⟩

theorem clsAnswered_fields {status : Nat} (h : status < 8) :
    rf (clsAnswered s status i) R.fcCLS_STATUS = status ∧ rf (clsAnswered s status i) R.fcCLS_INDEX = i % 2 ^ 17 := by
  rw [clsAnswered]
  refine ⟨?_, rf_wf_same _ R.fcCLS_INDEX i (by decide) (by decide)⟩
  rw [rf_wf_apart (by decide)]
  exact (rf_wf_same s R.fcCLS_STATUS status (by decide) (by decide)).trans (Nat.mod_eq_of_lt h)

theorem writesOnly_clsAnswered (status : Nat) : WritesOnly (· ∈ [R.fcCLS_STATUS.addr]) s (clsAnswered s status i) :=
  ((WritesOnly.refl _ s).wf (f := R.fcCLS_STATUS) status (by simp)).wf (f := R.fcCLS_INDEX) i (by decide)

/-- A failed INSERT or DELETE (R222, R242). -/
theorem clsDone_failed_fields {status : Nat} (h : status ≠ 0) (hlt : status < 8) :
    rf (clsDone s status i true) R.fcCLS_STATUS = status ∧ rb (clsDone s status i true) R.fcCLS_FAIL = true ∧
      (clsDone s status i true).fld = s.fld ∧ WritesOnly (fun _ => True) s (clsDone s status i true) := by
  simp only [clsDone_failed s i h, rf_notice, rf_raiseIf, rb_notice, rb_raiseIf, notice_fld, raiseIf_fld]
  obtain ⟨hstatus, -⟩ := clsAnswered_fields s i hlt
  refine ⟨by rw [rf_wb_apart (by decide), hstatus], rb_wb_same _ _ _ (by decide) (by decide), rfl, ?_⟩
  exact ((((writesOnly_clsAnswered s i status).mono fun _ _ => trivial).wb (f := R.fcCLS_FAIL) true trivial).raiseIf _ _).notice _ _ _ _

end Done

theorem clsAt_clsPut_same (s : State) (i : Nat) (e : Word × Word) : clsAt (clsPut s i e) i = e := kvGet_kvSet_same _ _ _ _
theorem clsAt_clsPut_ne (s : State) {i j : Nat} (e : Word × Word) (h : j ≠ i) : clsAt (clsPut s i e) j = clsAt s j := kvGet_kvSet_ne _ _ _ _ h

theorem WritesOnly.clsPut {P : Nat → Prop} {s t : State} (h : WritesOnly P s t) (i : Nat) (e : Word × Word) :
    WritesOnly P s (Machine.clsPut t i e) := h.setFld _

/-- An entry is put, CLS_USED becomes `used`, and the operation has succeeded. -/
def entryPut (s : State) (i used : Nat) (e : Word × Word) : State := clsAnswered (wf (clsPut s i e) R.fcCLS_USED used) 0 i

theorem writesOnly_entryPut (s : State) (i used : Nat) (e : Word × Word) : WritesOnly (fun _ => True) s (entryPut s i used e) :=
  (((WritesOnly.refl _ s).clsPut i e).wf (f := R.fcCLS_USED) used trivial).trans ((writesOnly_clsAnswered _ i 0).mono fun _ _ => trivial)

theorem entryPut_fields (s : State) (i used : Nat) (e : Word × Word) : rf (entryPut s i used e) R.fcCLS_STATUS = 0 ∧
    rf (entryPut s i used e) R.fcCLS_INDEX = i % 2 ^ 17 ∧ rf (entryPut s i used e) R.fcCLS_USED = used % 2 ^ 18 ∧
    clsAt (entryPut s i used e) i = e ∧ ∀ j, j ≠ i → clsAt (entryPut s i used e) j = clsAt s j := by
  obtain ⟨hstatus, hindex⟩ := clsAnswered_fields (wf (clsPut s i e) R.fcCLS_USED used) i (status := 0) (by decide)
  refine ⟨hstatus, hindex, ?_, clsAt_clsPut_same s i e, fun j hj => clsAt_clsPut_ne s e hj⟩
  rw [entryPut, (writesOnly_clsAnswered _ i 0).rf_eq (by decide)]
  exact rf_wf_same _ R.fcCLS_USED used (by decide) (by decide)

section Operations
variable {s : State} (hl : s.live iFLD)
include hl

theorem clsInsert_placed {w : Nat} (hrange : clsRangeOk s (clsHeld s) = true)
    (hfree : clsFind s (clsHome s (clsHeld s)) (clsClash (clsHeld s)) = none)
    (hw : [0, 1, 2, 3].find? (fun w => !clValid (clsAt s (4 * clsHome s (clsHeld s) + w))) = some w) :
    exec .clsInsert s = .next (entryPut s (4 * clsHome s (clsHeld s) + w) (rf s R.fcCLS_USED + 1)
      (mkW (putBits (clsHeld s).1.toNat 0 0 1), (clsHeld s).2)) := by
  refine gate_next_eq (k := fun s => clsOp s 1) hl ?_ (writesOnly_entryPut s _ _ _)
  simp only [clsOp, if_true, clsInsert, hrange, Bool.true_eq_false, if_false, hfree, hw, clsDone_ok]
  rfl

theorem clsInsert_outOfRange (hrange : clsRangeOk s (clsHeld s) = false) : ∃ t, exec .clsInsert s = .next t ∧ rf t R.fcCLS_STATUS = 4 ∧
    rb t R.fcCLS_FAIL = true ∧ t.fld = s.fld := by
  obtain ⟨hstatus, hfail, hfld, hwrites⟩ := clsDone_failed_fields s (4 * clsHome s (clsHeld s)) (status := 4) (by decide) (by decide)
  refine ⟨_, gate_next_eq (k := fun s => clsOp s 1) hl ?_ hwrites, hstatus, hfail, hfld⟩
  simp only [clsOp, if_true, clsInsert, hrange]

theorem clsDelete_found {i : Nat} (hfind : clsLocate s (clsHeld s) = some i) :
    exec .clsDelete s = .next (entryPut s i (rf s R.fcCLS_USED - 1) (0#36, 0#36)) := by
  refine gate_next_eq (k := fun s => clsOp s 2) hl ?_ (writesOnly_entryPut s _ _ _)
  simp only [clsOp, OfNat.ofNat_ne_one, if_true, if_false, clsDelete, hfind, clsDone_ok]
  rfl

theorem clsDelete_absent (hfind : clsLocate s (clsHeld s) = none) : ∃ t, exec .clsDelete s = .next t ∧ rf t R.fcCLS_STATUS = 2 ∧
    rb t R.fcCLS_FAIL = true ∧ t.fld = s.fld := by
  obtain ⟨hstatus, hfail, hfld, hwrites⟩ := clsDone_failed_fields s (4 * clsHome s (clsHeld s)) (status := 2) (by decide) (by decide)
  refine ⟨_, gate_next_eq (k := fun s => clsOp s 2) hl ?_ hwrites, hstatus, hfail, hfld⟩
  simp only [clsOp, OfNat.ofNat_ne_one, if_true, if_false, clsDelete, hfind]

theorem clsFind_answered {status i : Nat} (hfind : clsFindOp s (clsHeld s) = clsAnswered s status i) :
    exec .clsFind s = .next (clsAnswered s status i) :=
  gate_next_eq (k := fun s => clsOp s 3) hl hfind (writesOnly_clsAnswered s i status)

theorem clsFind_found {i : Nat} (hfind : clsLocate s (clsHeld s) = some i) : exec .clsFind s = .next (clsAnswered s 0 i) :=
  clsFind_answered hl (by rw [clsFindOp, hfind]; exact clsDone_ok s i false)

theorem clsFind_absent (hfind : clsLocate s (clsHeld s) = none) :
    exec .clsFind s = .next (clsAnswered s 2 (4 * clsHome s (clsHeld s))) :=
  clsFind_answered hl (by rw [clsFindOp, hfind]; exact clsDone_quiet s _ 2)

/-! ### Word 0 of a node's entry (R214) -/

theorem nodeEntryWrite_taken {n : Nat} (hn : n < 4096) (w : Word) : ∃ t, exec (.nodeEntryWrite n w) s = .next t ∧
    bits (rdN t (R.ndVALID n).addr) 20 0 = w.toNat % 2 ^ 21 ∧ rb t (R.ndSEEN n) = false ∧
    s.sameBut t [(R.ndVALID n).addr, (R.ndSEEN n).addr] := by
  have hwrites := ((WritesOnly.refl (· ∈ [(R.ndVALID n).addr, (R.ndSEEN n).addr]) s).wf (f := ⟨(R.ndVALID n).addr, 20, 0⟩) w.toNat
    (by simp)).wb (f := R.ndSEEN n) false (by simp)
  refine ⟨_, ?_, ?_, rb_wb_same _ (R.ndSEEN n) false rfl (by decide : 16 < 36), hwrites.sameBut⟩
  · change execNodeEntryWrite n w s = _
    exact gate_next_eq hl (if_pos hn) hwrites
  · have hapart : (R.ndSEEN n).Apart ⟨(R.ndVALID n).addr, 20, 0⟩ := .inl (by simp [R.ndSEEN, R.ndVALID])
    exact (rf_wb_apart hapart _ false).trans (rf_wf_same s ⟨(R.ndVALID n).addr, 20, 0⟩ _ (by decide : 0 ≤ 20) (by decide : 20 < 36))

end Operations

/-- Settles O27: frames by what the receive path finds wrong with them or accepts, lookups by their hit or miss, and each operation of the
classifier by its outcome. -/
theorem fieldFramesReceivedAndClassified : Obligations.FieldFramesReceivedAndClassified := by
  unfold Obligations.FieldFramesReceivedAndClassified
  intro s p hl hp hlen
  refine ⟨fun f hon hlink => ⟨receiveFrame_badFcs hl hp hon hlink, receiveFrame_full hl hp hon hlink, ?_⟩, fun r v hrecs hv hr =>
    ⟨classifierLookup_miss hl hp hlen hrecs hv hr, fun i => classifierLookup_hit hl hp hlen hrecs hv hr⟩, ⟨fun w hrange hfree hw => ?_,
    clsInsert_outOfRange hl, fun i hfind => ⟨?_, ?_⟩, fun hfind => ⟨clsDelete_absent hl hfind, ?_⟩⟩, fun n w hn => nodeEntryWrite_taken hl hn w⟩
  · intro ws w0 w1 n lenw r hfcs hfits htags hsig hptp harp hlong hversion hkind heven hleast hlenw hlimit hlow hhigh hcls hrecs hnode hseq
    have hframe := signalFrame_record (size := f.body.length + 18 + 4 * f.tags)
      ⟨hlong, hversion, hkind, heven, hleast, hlenw, hlimit, hlow, hhigh, hcls⟩ hrecs hnode hseq
    obtain ⟨hrec, hbuf⟩ := recordAccepted_port (n := n) (seq := bits w0 15 0) (size := f.body.length + 18 + 4 * f.tags) (r := r)
      (hlen ▸ hp : p < s.fld.ports.length)
    obtain ⟨hframes, hlast, hseen, htag⟩ := recordAccepted_fields (s := s) (n := n) (seq := bits w0 15 0)
      (size := f.body.length + 18 + 4 * f.tags) (r := r) (hp.trans_le (ports_le _)) (Nat.mod_lt _ (Nat.two_pow_pos 16))
    exact ⟨_, receiveFrame_signal hl hp hon hlink hfcs hfits htags hsig hptp harp hframe writesOnly_recordAccepted, hrec, hbuf, hframes, hlast,
      hseen, htag, writesOnly_recordAccepted.sameBut⟩
  · obtain ⟨hstatus, hindex, hused, hat, hothers⟩ := entryPut_fields s (4 * clsHome s (clsHeld s) + w) (rf s R.fcCLS_USED + 1)
      (mkW (putBits (clsHeld s).1.toNat 0 0 1), (clsHeld s).2)
    exact ⟨_, clsInsert_placed hl hrange hfree hw, hstatus, hindex, hused, hat, hothers⟩
  · obtain ⟨hstatus, hindex, -, hat, hothers⟩ := entryPut_fields s i (rf s R.fcCLS_USED - 1) (0#36, 0#36)
    exact ⟨_, clsDelete_found hl hfind, hstatus, hindex, hat, hothers⟩
  · obtain ⟨hstatus, hindex⟩ := clsAnswered_fields s i (status := 0) (by decide)
    exact ⟨_, clsFind_found hl hfind, hstatus, hindex, rfl, (writesOnly_clsAnswered s i 0).sameBut⟩
  · obtain ⟨hstatus, -⟩ := clsAnswered_fields s (4 * clsHome s (clsHeld s)) (status := 2) (by decide)
    exact ⟨_, clsFind_absent hl hfind, hstatus, rfl, (writesOnly_clsAnswered s _ 2).sameBut⟩

end Sys2Proof.Machine

/-! SUPPORT. Event windows and the discipline of Device Time (R218, R235, R236). -/

namespace Sys2Proof.Machine

/-! ### Event windows (R235, R236) -/

theorem WritesOnly.devAtLeast {P : Nat → Prop} {s t : State} (h : WritesOnly P s t) (n : Nat) : WritesOnly P s (Machine.devAtLeast t n) :=
  ((h.elapse _).elapse _).elapse _

/-- Buffer `b` of a class is bits 2b + 1 and 2b of BUF_STATE. -/
theorem bufState_eq (s : State) (c : Nat) {b : Nat} (hb : b < 2) : bufState s c b = rf s ⟨(R.fcBUF_STATE c).addr, 2 * b + 1, 2 * b⟩ := by
  simp only [bufState, rf, bits]
  change rdN s (R.fcBUF_STATE c).addr / 2 ^ 0 % 2 ^ 4 / 4 ^ b % 4 = _
  obtain rfl | rfl : b = 0 ∨ b = 1 := by omega
  · simp only [R.fcBUF_STATE]
    omega
  · simp only [R.fcBUF_STATE]
    omega

section Windows
variable {s : State} {c b : Nat} (hb : b < 2)
include hb

theorem bufState_setBuf_same {v : Nat} (hv : v < 4) : bufState (setBuf s c b v) c b = v := by
  rw [bufState_eq _ _ hb, setBuf, rf_wf_same _ _ _ (Nat.le_succ _) (show 2 * b + 1 < 36 by omega)]
  change v % 2 ^ (2 * b + 1 + 1 - 2 * b) = v
  rw [show 2 * b + 1 + 1 - 2 * b = 2 by omega]
  exact Nat.mod_eq_of_lt hv

theorem bufState_setBuf_other (v : Nat) : bufState (setBuf s c b v) c (1 - b) = bufState s c (1 - b) := by
  rw [bufState_eq _ _ (by omega), bufState_eq _ _ (by omega), setBuf, rf_wf_apart]
  exact .inr ⟨Nat.le_succ _, by change 2 * b + 1 < 36; omega, Nat.le_succ _, by
    change 2 * b + 1 < 2 * (1 - b) ∨ 2 * (1 - b) + 1 < 2 * b
    omega⟩

omit hb in
theorem WritesOnly.setBuf {t : State} (h : WritesOnly (· ∈ [(R.fcBUF_STATE c).addr]) s t) (v : Nat) :
    WritesOnly (· ∈ [(R.fcBUF_STATE c).addr]) s (Machine.setBuf t c b v) := h.wf (f := ⟨(R.fcBUF_STATE c).addr, 2 * b + 1, 2 * b⟩) v (by simp)

variable (hl : s.live iFLD) (hc : c < 16)
include hl hc

theorem eventWindowClose_open {t0 : Nat} (hopen : bufState s c b = 1) (hfind : kvFind s.fld.winOpen (2 * c + b) = some t0) :
    ∃ t, exec (.eventWindowClose c b) s = .next t ∧ bufState t c b = 2 ∧ bufState t c (1 - b) = bufState s c (1 - b) ∧
      s.sameBut t [(R.fcBUF_STATE c).addr] := by
  have hwrites := ((WritesOnly.refl (· ∈ [(R.fcBUF_STATE c).addr]) s).devAtLeast (t0 + windowNs s c)).setBuf (b := b) 2
  refine ⟨setBuf (devAtLeast s (t0 + windowNs s c)) c b 2, ?_, bufState_setBuf_same hb (by decide), bufState_setBuf_other hb 2,
    hwrites.sameBut⟩
  change execEventWindowClose c b s = _
  unfold execEventWindowClose
  exact gate_next_eq hl (by simp only [hc, hb, hopen, and_self, if_true, hfind]) hwrites

theorem ack_closed (hclosed : bufState s c b = 2) : ∃ t, exec (.ack c b) s = .next t ∧ bufState t c b = 0 ∧
    bufState t c (1 - b) = bufState s c (1 - b) ∧ s.sameBut t [(R.fcBUF_STATE c).addr] := by
  have hwrites := (WritesOnly.refl (· ∈ [(R.fcBUF_STATE c).addr]) s).setBuf (b := b) 0
  refine ⟨_, ?_, bufState_setBuf_same hb (by decide), bufState_setBuf_other hb 0, hwrites.sameBut⟩
  change execAck c b s = _
  exact gate_next_eq hl ((if_pos ⟨hc, hb⟩).trans (if_pos hclosed)) hwrites

end Windows

/-! ### HOLDOVER (R218) -/

theorem timeHoldover_fields (s : State) : rf (timeHoldover s) R.fcSYNC_STATE = 3 ∧ rb (timeHoldover s) R.fcSYNC_LOST = true ∧
    (timeHoldover s).now = s.now ∧ (rb s R.fcSYNC_LOST = false → (timeHoldover s).raiseQ = s.raiseQ ++ [147]) ∧
    WritesOnly (fun _ => True) s (timeHoldover s) := by
  have hnow : (raiseIf s (!rb s R.fcSYNC_LOST) 147).now = s.now := by cases rb s R.fcSYNC_LOST <;> rfl
  refine ⟨?_, ?_, hnow, fun h => ?_, ?_⟩
  · rw [timeHoldover, rf_notice]
    exact rf_wf_same _ R.fcSYNC_STATE 3 (by decide) (by decide)
  · rw [timeHoldover, rb_notice, rb_wf_apart (by decide), rb_wb_same _ _ _ (by decide) (by decide)]
  · rw [timeHoldover, h]
    rfl
  · exact ((((((WritesOnly.refl _ s).raiseIf _ 147).setFld _).wb (f := R.fcSYNC_LOST) true trivial).wf (f := R.fcSYNC_STATE) 3 trivial).notice
      _ _ _ _)

theorem syncHoldoverTimeout_due {s : State} {t0 : Nat} (hl : s.live iFLD) (hlast : s.fld.lastSync = some t0) (hsrc : rf s R.fcTIME_SRC < 9)
    (hstate : rf s R.fcSYNC_STATE = 1 ∨ rf s R.fcSYNC_STATE = 2) : ∃ t, exec .syncHoldoverTimeout s = .next t ∧ rf t R.fcSYNC_STATE = 3 ∧
    rb t R.fcSYNC_LOST = true ∧ t.now = max s.now (t0 + 3000000000) ∧ (rb s R.fcSYNC_LOST = false → t.raiseQ = s.raiseQ ++ [147]) := by
  change ∃ t, execSyncHoldoverTimeout s = .next t ∧ _
  unfold execSyncHoldoverTimeout
  generalize hdue : t0 + 3000000000 = due
  obtain ⟨hfree, hlost, hnow, hraise, hwrites⟩ := timeHoldover_fields (atLeast s due)
  rw [rb_atLeast, atLeast_raiseQ] at hraise
  refine ⟨_, gate_next_eq hl ?_ (((WritesOnly.refl (fun _ => True) s).atLeast due).trans hwrites), hfree, hlost, hnow.trans (atLeast_now s _),
    hraise⟩
  simp only [hlast, hdue]
  exact if_pos ⟨hsrc, hstate⟩

end Sys2Proof.Machine

/-! SUPPORT. The identification unit: channel entries, PSTEP, the guard's trip, and the map's test and revert (R244 to R256). -/

namespace Sys2Proof.Machine

/-! ### Channel entries (R244, R245) -/

section Stick
variable {s t : State} {f : Field} (b c : Nat)

theorem WritesOnly.idnStick {P : Nat → Prop} (h : WritesOnly P s t) (hf : P f.addr) : WritesOnly P s (Machine.idnStick t f b c) :=
  ((h.wb true hf).raiseIf _ _).notice _ _ _ _
theorem rb_idnStick_same (h : f.lo = f.hi) (hh : f.hi < 36) : rb (idnStick s f b c) f = true := by
  rw [idnStick, rb_notice, rb_raiseIf, rb_wb_same _ _ _ h hh]

end Stick

/-- An entry's VALID and target are taken from `w`. -/
def entryTaken (s : State) (c : Nat) (w : Word) : State := idnTarget (wb s (R.idnVALID c) true) c w

theorem WritesOnly.idnTarget {P : Nat → Prop} {s t : State} (h : WritesOnly P s t) {c : Nat} (w : Word) (hc : P (R.idnVALID c).addr) :
    WritesOnly P s (Machine.idnTarget t c w) :=
  ((h.wf (f := R.idnPORT c) _ hc).wf (f := R.idnSTREAM c) _ hc).wf (f := R.idnELEM c) _ hc

theorem entryTaken_fields (s : State) (c : Nat) (w : Word) : rb (entryTaken s c w) (R.idnVALID c) = true ∧
    rf (entryTaken s c w) (R.idnPORT c) = bits w.toNat 7 5 ∧ rf (entryTaken s c w) (R.idnSTREAM c) = bits w.toNat 17 8 ∧
    rf (entryTaken s c w) (R.idnELEM c) = bits w.toNat 29 18 ∧ rb (entryTaken s c w) (R.idnENABLE c) = rb s (R.idnENABLE c) := by
  simp (disch := simp [Field.Apart, R.idnVALID, R.idnPORT, R.idnSTREAM, R.idnELEM, R.idnENABLE]) only
    [entryTaken, idnTarget, rb_wf_apart, rf_wf_apart, rb_wb_apart, and_true]
  refine ⟨rb_wb_same _ (R.idnVALID c) true rfl (by decide : 0 < 36), ?_, ?_, ?_⟩
  · exact (rf_wf_same _ (R.idnPORT c) _ (by decide : 5 ≤ 7) (by decide : 7 < 36)).trans (Nat.mod_mod _ _)
  · exact (rf_wf_same _ (R.idnSTREAM c) _ (by decide : 8 ≤ 17) (by decide : 17 < 36)).trans (Nat.mod_mod _ _)
  · exact (rf_wf_same _ (R.idnELEM c) _ (by decide : 18 ≤ 29) (by decide : 29 < 36)).trans (Nat.mod_mod _ _)

theorem writesOnly_entryTaken (s : State) (c : Nat) (w : Word) : WritesOnly (· ∈ [(R.idnVALID c).addr]) s (entryTaken s c w) :=
  ((WritesOnly.refl _ s).wb (f := R.idnVALID c) true (by simp)).idnTarget w (by simp)

section Entry
variable {s : State} {c : Nat} {w : Word} (hl : s.live iMWY) (hc : c < 4096) (hv : bit w.toNat 0 = true) (hold : rb s (R.idnVALID c) = false)

include hl hc in
theorem channelValidWrite_next {t : State} {P : Nat → Prop} (ht : idnWrite0 s c w = t) (hwrites : WritesOnly P s t) :
    exec (.channelValidWrite c w) s = .next t := by
  change execChannelValidWrite c w s = _
  exact gate_next_eq hl ((if_pos hc).trans ht) hwrites

include hv hold in
theorem idnWrite0_checked (hok : idnEntryOk s c w = true) : idnWrite0 s c w =
    if idnLive s c ∧ idnTaken (idnTarget s c w) c then idnStick s R.idnCONFLICT 6 c
    else idnEnable (entryTaken s c w) c (bit w.toNat 1) := by
  rw [idnWrite0]
  simp only [hv, hold, hok, Bool.true_eq_false, and_false, false_and, if_false]
  rfl

include hl hc hv hold

theorem channelValidWrite_rejected (hbad : idnEntryOk s c w = false) : ∃ t, exec (.channelValidWrite c w) s = .next t ∧
    rb t R.idnCFG_REJECT = true ∧ s.sameBut t [R.idnCFG_REJECT.addr] := by
  have hwrites := (WritesOnly.refl (· ∈ [R.idnCFG_REJECT.addr]) s).idnStick (f := R.idnCFG_REJECT) 7 c (by simp)
  exact ⟨_, channelValidWrite_next hl hc (if_pos ⟨hv, hold, hbad⟩) hwrites, rb_idnStick_same _ _ (by decide) (by decide),
    hwrites.sameBut⟩

theorem channelValidWrite_conflict (hok : idnEntryOk s c w = true) (hlive : idnLive s c = true)
    (htaken : idnTaken (idnTarget s c w) c = true) : ∃ t, exec (.channelValidWrite c w) s = .next t ∧ rb t R.idnCONFLICT = true ∧
    s.sameBut t [R.idnCONFLICT.addr] := by
  have hwrites := (WritesOnly.refl (· ∈ [R.idnCONFLICT.addr]) s).idnStick (f := R.idnCONFLICT) 6 c (by simp)
  exact ⟨_, channelValidWrite_next hl hc ((idnWrite0_checked hv hold hok).trans (if_pos ⟨hlive, htaken⟩)) hwrites,
    rb_idnStick_same _ _ (by decide) (by decide), hwrites.sameBut⟩

theorem channelValidWrite_taken (hok : idnEntryOk s c w = true) (hfree : idnLive s c = true → idnTaken (idnTarget s c w) c = false)
    (hen : bit w.toNat 1 = rb s (R.idnENABLE c)) : exec (.channelValidWrite c w) s = .next (entryTaken s c w) := by
  obtain ⟨-, -, -, -, hkept⟩ := entryTaken_fields s c w
  have henable : idnEnable (entryTaken s c w) c (bit w.toNat 1) = entryTaken s c w := by
    rw [idnEnable, if_neg, unitEnable]
    · exact if_pos (hkept.trans hen.symm)
    · rintro ⟨hon, hoff, -⟩
      exact Bool.false_ne_true (hoff.symm.trans (hkept.trans (hen.symm.trans hon)))
  refine channelValidWrite_next hl hc ((idnWrite0_checked hv hold hok).trans ((if_neg ?_).trans henable))
    (writesOnly_entryTaken s c w)
  rintro ⟨hlive, htaken⟩
  exact Bool.false_ne_true ((hfree hlive).symm.trans htaken)

end Entry

/-! ### PSTEP (R247) -/

section Pstep
variable {s : State} (hl : s.live iMWY) (w : Word)
include hl

theorem pstepWrite_configure (h : mode s = mCONFIGURE) (hi : Bool) (a : Nat)
    (ha : (if hi then R.idnPSTEP_HI else R.idnPSTEP_LO) = ⟨a, 35, 0⟩) :
    ∃ t, exec (.pstepWrite hi w) s = .next t ∧ rd t a = w ∧ s.sameBut t [a] := by
  have hwrites := (WritesOnly.refl (· ∈ [a]) s).wf (f := ⟨a, 35, 0⟩) w.toNat (by simp)
  refine ⟨_, ?_, rd_wf_whole a w, hwrites.sameBut⟩
  change execPstepWrite hi w s = _
  exact gate_next_eq hl ((if_pos h).trans (by rw [ha])) hwrites

theorem pstepWrite_ignored (h : mode s ≠ mCONFIGURE) (hi : Bool) : exec (.pstepWrite hi w) s = .next s := by
  change execPstepWrite hi w s = _
  exact gate_next_eq hl (if_neg h) (.refl (fun _ => False) s)

end Pstep

/-! ### The guard's trip (R251) -/

theorem guardTrip_fields (s : State) : rf (guardTrip s) R.idnGUARD_STATE = 1 ∧ rb (guardTrip s) R.idnGUARD_TRIP = true ∧
    rf (guardTrip s) R.idnTRIP_STEP = rf s R.idnPSTEP_LO ∧
    rf (guardTrip s) R.idnGUARD_TRIP_CNT = min (rf s R.idnGUARD_TRIP_CNT + 1) (2 ^ 36 - 1) ∧
    (guardTrip s).raiseQ = s.raiseQ ++ [168] ∧ WritesOnly (fun _ => True) s (guardTrip s) := by
  simp only [guardTrip, rf_notice, rb_notice, rf_raise, rb_raise]
  refine ⟨?_, ?_, ?_, ?_, rfl, ?_⟩
  · rw [rf_wf_apart (by decide), rf_cnt_apart (by decide), rf_wb_apart (by decide)]
    exact rf_wf_same s R.idnGUARD_STATE 1 (by decide) (by decide)
  · rw [rb_wf_apart (by decide), rb_cnt_apart (by decide), rb_wb_same _ _ _ (by decide) (by decide)]
  · rw [rf_wf_same _ _ _ (by decide) (by decide), rf_cnt_apart (by decide), rf_wb_apart (by decide), rf_wf_apart (by decide)]
    exact Nat.mod_eq_of_lt (rf_lt s R.idnPSTEP_LO)
  · rw [rf_wf_apart (by decide), R.idnGUARD_TRIP_CNT, rf_cnt_word, ← R.idnGUARD_TRIP_CNT, rf_wb_apart (by decide), rf_wf_apart (by decide)]
  · exact (((((WritesOnly.refl (fun _ => True) s).wf (f := R.idnGUARD_STATE) 1 trivial).wb (f := R.idnGUARD_TRIP) true trivial).cnt
      (f := R.idnGUARD_TRIP_CNT) trivial).wf (f := R.idnTRIP_STEP) _ trivial |>.raise 168).notice _ _ _ _

theorem WritesOnly.emitsStrip {P : Nat → Prop} {s t : State} (h : WritesOnly P s t) : WritesOnly P s (Machine.emitsStrip t) := h.setFld _
@[simp] theorem rf_emitsStrip (s : State) (f : Field) : rf (emitsStrip s) f = rf s f := rfl
@[simp] theorem rb_emitsStrip (s : State) (f : Field) : rb (emitsStrip s) f = rb s f := rfl
theorem emitsStrip_emitFly (s : State) : ∀ e ∈ (emitsStrip s).fld.emitFly, e.2.apply = false := by
  intro e he
  obtain ⟨x, -, rfl⟩ := List.mem_map.1 he
  rfl

/-- What a forced trip of a guard in watch leaves, where no step status has been written (R251). -/
def guardForced (s : State) : State := wf (emitsStrip (guardTrip s)) R.idnRUN 0

theorem guardTripNow_forced {s : State} (hstate : rf s R.idnGUARD_STATE = 0) (hstat : s.idn.lastStat = none) :
    guardTripNow s = guardForced s := by
  have hnone : (guardForced s).idn.lastStat = none := hstat
  rw [guardTripNow, if_neg (by rw [hstate]; decide)]
  change (match (guardForced s).idn.lastStat with | some a => smWr (guardForced s) a 0#36 | none => guardForced s) = _
  rw [hnone]

theorem guardForce_trips {s : State} (hl : s.live iMWY) (hstate : rf s R.idnGUARD_STATE = 0) (hstat : s.idn.lastStat = none) :
    ∃ t, exec .guardForce s = .next t ∧ rf t R.idnGUARD_STATE = 1 ∧ rb t R.idnGUARD_TRIP = true ∧
      rf t R.idnTRIP_STEP = rf s R.idnPSTEP_LO ∧ rf t R.idnRUN = 0 ∧
      rf t R.idnGUARD_TRIP_CNT = min (rf s R.idnGUARD_TRIP_CNT + 1) (2 ^ 36 - 1) ∧ t.raiseQ = s.raiseQ ++ [168] ∧
      (∀ e ∈ t.fld.emitFly, e.2.apply = false) := by
  obtain ⟨hguard, htrip, hstep, hcount, hraise, hwrites⟩ := guardTrip_fields s
  refine ⟨guardForced s, gate_next_eq hl (guardTripNow_forced hstate hstat) (hwrites.emitsStrip.wf (f := R.idnRUN) 0 trivial), ?_, ?_, ?_, ?_, ?_,
    hraise, emitsStrip_emitFly _⟩ <;> rw [guardForced]
  · rw [rf_wf_apart (by decide), rf_emitsStrip, hguard]
  · rw [rb_wf_apart (by decide), rb_emitsStrip, htrip]
  · rw [rf_wf_apart (by decide), rf_emitsStrip, hstep]
  · exact rf_wf_same _ R.idnRUN 0 (by decide) (by decide)
  · rw [rf_wf_apart (by decide), rf_emitsStrip, hcount]

/-! ### SWAP_NOW and REVERT (R254 to R256) -/

theorem swapNow_playing {s : State} (hl : s.live iMWY) (hplays : calPlays s = true) : ∃ t, exec .swapNow s = .next t ∧
    rf t R.idnSWAP_CODE = 5 ∧ t.raiseQ = s.raiseQ ++ [171] ∧ s.sameBut t [R.idnSWAP_CODE.addr] := by
  have hwrites := (((WritesOnly.refl (· ∈ [R.idnSWAP_CODE.addr]) s).wf (f := R.idnSWAP_CODE) 5 (by simp)).raise 171).notice 8 3 0 0
  refine ⟨_, gate_next_eq hl (if_pos hplays) hwrites, ?_, rfl, hwrites.sameBut⟩
  rw [rf_notice, rf_raise]
  exact rf_wf_same s R.idnSWAP_CODE 5 (by decide) (by decide)

theorem calPlays_wb_revert (s : State) (b : Bool) : calPlays (wb s R.idnREVERT_PENDING b) = calPlays s := by
  rw [calPlays, calPlays, rf_wb_apart (by decide)]

theorem revert_playing {s : State} (hl : s.live iMWY) (hplays : calPlays s = true) : ∃ t, exec .revert s = .next t ∧
    rb t R.idnREVERT_PENDING = true ∧ s.sameBut t [R.idnREVERT_PENDING.addr] := by
  have hwrites := (WritesOnly.refl (· ∈ [R.idnREVERT_PENDING.addr]) s).wb (f := R.idnREVERT_PENDING) true (by simp)
  have hwaits : mapRevert s = wb s R.idnREVERT_PENDING true := if_pos ((calPlays_wb_revert s true).trans hplays)
  exact ⟨_, gate_next_eq hl hwaits hwrites, rb_wb_same _ _ _ (by decide) (by decide), hwrites.sameBut⟩

/-- The words an installation writes beside MAP_ACTIVE: Stream Memory, the pipes' descriptors, SWAP_DONE's and SWAP_CNT's. -/
abbrev MapWord (a : Nat) : Prop := a < 0x201A0000 ∨ a = R.idnSWAP_DONE.addr ∨ a = R.idnSWAP_CNT.addr

theorem mapWord_of_smWord (a : Nat) (h : SmWord a) : MapWord a := .inl (by simp only [SmWord] at h; omega)

theorem vpDesc_mapWord (s : State) (b : Nat) : MapWord (blkBase .vp (rf s (R.idnPIPE b)) + 0x100 + 8 * rf s (R.idnDESC b)) := by
  have hpipe : rf s (R.idnPIPE b) < 2 ^ 2 := rf_lt s (R.idnPIPE b)
  have hdesc : rf s (R.idnDESC b) < 2 ^ 5 := rf_lt s (R.idnDESC b)
  exact .inl (by simp only [blkBase]; omega)

/-- The inactive buffer is the active one. -/
def mapTurned (s : State) : State := wf s R.idnMAP_ACTIVE (1 - rf s R.idnMAP_ACTIVE)

theorem quietStep_mapInstall {s : State} (hr : s.sm.rmw = []) (hw : s.sm.wait = []) :
    QuietStep MapWord (mapTurned s) (mapInstall s) ∧ rb (mapInstall s) R.idnSWAP_DONE = true := by
  unfold mapInstall
  extract_lets base old active based freed
  have hactive : QuietStep MapWord active active := .refl _ hr hw
  have hbased : QuietStep MapWord active based := hactive.foldl fun u hu b _ =>
    iteInduction (motive := QuietStep MapWord active) (fun _ => hu.wr _ (vpDesc_mapWord u b)) fun _ => hu
  have hfreed : QuietStep MapWord active freed := hbased.smWr mapWord_of_smWord _ _
  refine ⟨(((hfreed.wb (f := R.idnSWAP_DONE) true (by decide)).cnt (f := R.idnSWAP_CNT) (by decide)).raise 170).notice _ _ _ _, ?_⟩
  rw [rb_notice, rb_raise, rb_cnt_apart (by decide), rb_wb_same _ _ _ (by decide) (by decide)]

theorem mapInstall_fields {s : State} (hr : s.sm.rmw = []) (hw : s.sm.wait = []) :
    rf (mapInstall s) R.idnMAP_ACTIVE = 1 - rf s R.idnMAP_ACTIVE ∧ rb (mapInstall s) R.idnSWAP_DONE = true ∧
      rb (mapInstall s) R.idnREVERT_PENDING = rb s R.idnREVERT_PENDING ∧ rf (mapInstall s) R.idnSWAP_CODE = rf s R.idnSWAP_CODE ∧
      WritesOnly (fun _ => True) s (mapInstall s) := by
  obtain ⟨hquiet, hdone⟩ := quietStep_mapInstall hr hw
  have hturned := (WritesOnly.refl (fun _ => True) s).wf (f := R.idnMAP_ACTIVE) (1 - rf s R.idnMAP_ACTIVE) trivial
  refine ⟨?_, hdone, ?_, ?_, hturned.trans (hquiet.toWritesOnly.mono fun _ _ => trivial)⟩
  · rw [hquiet.rf_eq (by decide), mapTurned, rf_wf_same _ _ _ (by decide) (by decide)]
    exact Nat.mod_eq_of_lt (show 1 - rf s R.idnMAP_ACTIVE < 2 by omega)
  · rw [hquiet.rb_eq (by decide), mapTurned, rb_wf_apart (by decide)]
  · rw [hquiet.rf_eq (by decide), mapTurned, rf_wf_apart (by decide)]

/-- A swap by a test that failed with a code other than 1 is reported. -/
def swapFailed (s : State) : State := notice (raise (cnt (wb s R.idnSWAP_FAIL true) R.idnSWAP_FAIL_CNT) 171) 8 3 0 0

theorem writesOnly_swapFailed (s : State) : WritesOnly (· ∈ [R.idnSWAP_FAIL.addr, R.idnSWAP_FAIL_CNT.addr]) s (swapFailed s) :=
  ((((WritesOnly.refl _ s).wb (f := R.idnSWAP_FAIL) true (by simp)).cnt (f := R.idnSWAP_FAIL_CNT) (by simp)).raise 171).notice _ _ _ _

/-- What a test of the map, and the swap if it passes, leave (R254 to R256). -/
theorem mapTry_fields {s : State} (hr : s.sm.rmw = []) (hw : s.sm.wait = []) (rev : Bool) :
    let code := (mapTest s rev).1
    rf (mapTry s rev) R.idnSWAP_CODE = code ∧ rb (mapTry s rev) R.idnREVERT_PENDING = rb s R.idnREVERT_PENDING ∧
      (code = 0 → rf (mapTry s rev) R.idnMAP_ACTIVE = 1 - rf s R.idnMAP_ACTIVE ∧ rb (mapTry s rev) R.idnSWAP_DONE = true) ∧
      WritesOnly (fun _ => True) s (mapTry s rev) := by
  intro code
  obtain ⟨hlt, htest⟩ := (QuietStep.refl SmWord hr hw).mapTest (fun _ ha => ha) rev
  generalize hcoded : wf (mapTest s rev).2 R.idnSWAP_CODE code = coded
  have hto : QuietStep (fun _ => True) s coded := hcoded ▸ (htest.mono fun _ _ => trivial).wf _ trivial
  have hcode : rf coded R.idnSWAP_CODE = code := by
    rw [← hcoded, rf_wf_same _ R.idnSWAP_CODE _ (by decide) (by decide)]
    exact Nat.mod_eq_of_lt (Nat.lt_of_le_of_lt hlt (by decide))
  have hactive : rf coded R.idnMAP_ACTIVE = rf s R.idnMAP_ACTIVE := by
    rw [← hcoded, rf_wf_apart (by decide), htest.rf_eq (by decide)]
  have hpending : rb coded R.idnREVERT_PENDING = rb s R.idnREVERT_PENDING := by
    rw [← hcoded, rb_wf_apart (by decide), htest.rb_eq (by decide)]
  have htry : mapTry s rev = if code = 0 then mapInstall coded else if code = 1 then coded else swapFailed coded := by
    rw [← hcoded]
    rfl
  rw [htry]
  split
  next h0 =>
    obtain ⟨hturned, hdone, hrevert, hsame, hwrites⟩ := mapInstall_fields hto.rmw hto.wait
    exact ⟨hsame.trans hcode, hrevert.trans hpending, fun _ => ⟨by rw [hturned, hactive], hdone⟩, hto.toWritesOnly.trans hwrites⟩
  next h0 =>
    split
    · exact ⟨hcode, hpending, fun h => absurd h h0, hto.toWritesOnly⟩
    · have hfailed := writesOnly_swapFailed coded
      exact ⟨(hfailed.rf_eq (by decide)).trans hcode, (hfailed.rb_eq (by decide)).trans hpending, fun h => absurd h h0,
        hto.toWritesOnly.trans (hfailed.mono fun _ _ => trivial)⟩

section Idle
variable {s : State} (hl : s.live iMWY) (hidle : calPlays s = false) (hr : s.sm.rmw = []) (hw : s.sm.wait = [])
include hl hidle hr hw

theorem swapNow_idle : ∃ t, exec .swapNow s = .next t ∧ rb t R.idnREVERT_PENDING = rb s R.idnREVERT_PENDING ∧
    rf t R.idnSWAP_CODE = (mapTest s false).1 ∧ ((mapTest s false).1 = 0 →
      rf t R.idnMAP_ACTIVE = 1 - rf s R.idnMAP_ACTIVE ∧ rb t R.idnSWAP_DONE = true) := by
  obtain ⟨hcode, hpending, hswapped, hwrites⟩ := mapTry_fields hr hw false
  exact ⟨_, gate_next_eq hl (if_neg (ne_true_of_eq_false hidle)) hwrites, hpending, hcode, hswapped⟩

theorem revert_idle : ∃ t, exec .revert s = .next t ∧ rb t R.idnREVERT_PENDING = false ∧
    rf t R.idnSWAP_CODE = (mapTest (wb s R.idnREVERT_PENDING true) true).1 := by
  have hset : rb (wb s R.idnREVERT_PENDING true) R.idnREVERT_PENDING = true := rb_wb_same _ _ _ (by decide) (by decide)
  have hwrites := (WritesOnly.refl (fun _ => True) s).wb (f := R.idnREVERT_PENDING) true trivial
  obtain ⟨hswap, -, hpending, hcode, -⟩ := mapSwap_fields (s := wb s R.idnREVERT_PENDING true) hr hw
  have hgoes : mapRevert s = mapSwap (wb s R.idnREVERT_PENDING true) :=
    if_neg (ne_true_of_eq_false ((calPlays_wb_revert s true).trans hidle))
  exact ⟨_, gate_next_eq hl hgoes (hwrites.trans hswap), hpending, by rw [hcode, hset]⟩

end Idle

/-- Settles O30: a window by its state, the clock by its timeout, a channel entry by its checks, PSTEP by the mode, the guard by its forced trip,
and the map by whether Calliope plays. -/
theorem eventsTimeAndIdentification : Obligations.EventsTimeAndIdentification := by
  unfold Obligations.EventsTimeAndIdentification
  intro s
  refine ⟨fun c b t0 hl hc hb hopen hfind => eventWindowClose_open hb hl hc hopen hfind, fun c b hl hc hb hclosed => ack_closed hb hl hc hclosed,
    fun t0 hl hlast hsrc hstate => syncHoldoverTimeout_due hl hlast hsrc hstate, fun c w hl hc hv hold => ⟨channelValidWrite_rejected hl hc hv hold,
    channelValidWrite_conflict hl hc hv hold, fun hok hfree hen => ?_⟩, fun w hl => ⟨fun h => ⟨pstepWrite_configure hl w h false _ rfl,
    pstepWrite_configure hl w h true _ rfl⟩, fun h => ⟨pstepWrite_ignored hl w h false, pstepWrite_ignored hl w h true⟩⟩,
    fun hl => guardForce_trips hl, fun hl hplays => ⟨swapNow_playing hl hplays, revert_playing hl hplays⟩,
    fun hl hidle hr hw => ⟨swapNow_idle hl hidle hr hw, revert_idle hl hidle hr hw⟩⟩
  obtain ⟨hvalid, hport, hstream, helem, -⟩ := entryTaken_fields s c w
  exact ⟨_, channelValidWrite_taken hl hc hv hold hok hfree hen, hvalid, hport, hstream, helem, (writesOnly_entryTaken s c w).sameBut⟩

end Sys2Proof.Machine

/-! SUPPORT. Output streams at a field port: FRAME_EMITs, transmission, peer delay, and the state of a stream (R219, R230 to R234). -/

namespace Sys2Proof.Machine

/-! ### Ports beside their registers -/

@[simp] theorem portCount_modPort (s : State) (p : Nat) (k : PortSt → PortSt) : (modPort s p k).fld.ports.length = s.fld.ports.length :=
  List.length_set

@[simp] theorem portSends_modPort (s : State) (p q : Nat) (k : PortSt → PortSt) : portSends (modPort s q k) p = portSends s p := rfl

theorem txQueue_sends {s : State} {p : Nat} (h : portSends s p = true) (f : TxFrame) :
    txQueue s p f = modPort s p fun k => { k with tx := k.tx ++ [f] } := if_pos h

theorem WritesOnly.txQueue {P : Nat → Prop} {s t : State} (h : WritesOnly P s t) (p : Nat) (f : TxFrame) :
    WritesOnly P s (Machine.txQueue t p f) :=
  iteInduction (motive := WritesOnly P s) (fun _ => h.modPort _ _) fun _ => h

/-- A key's entry begun anew. -/
theorem kvFind_renewed {α : Type} (m : List (Nat × α)) (k : Nat) (v : α) : kvFind (kvDel m k ++ [(k, v)]) k = some v := by
  have hgone : (kvDel m k).find? (fun e => decide (e.1 = k)) = none := by simp [kvDel, List.find?_eq_none]
  simp [kvFind, List.find?_append, hgone]

/-! ### A FRAME_EMIT arrives (R230, R234) -/

/-- The streams `l` pass to the schedule. -/
def ownersCleared (s : State) (p : Nat) (l : List Nat) : State := l.foldl (fun s st => wb s (R.fpKOWN p st) false) s

theorem writesOnly_ownersCleared (s : State) (p : Nat) (l : List Nat) : WritesOnly (fun _ => True) s (ownersCleared s p l) :=
  WritesOnly.foldl (fun u st _ => (WritesOnly.refl _ u).wb (f := R.fpKOWN p st) false trivial) s

theorem ownersCleared_fld (s : State) (p : Nat) (l : List Nat) : (ownersCleared s p l).fld = s.fld :=
  List.foldlRecOn (motive := fun u : State => u.fld = s.fld) l _ rfl fun _ hu _ _ => hu

theorem rb_kown_wb_false {s : State} {p st : Nat} (h : rb s (R.fpKOWN p st) = false) (x : Nat) :
    rb (wb s (R.fpKOWN p x) false) (R.fpKOWN p st) = false := by
  by_cases hx : x = st
  · rw [hx]
    exact rb_wb_same s (R.fpKOWN p st) false rfl (by decide : 18 < 36)
  · rw [rb_wb_apart (.inl (by simp only [R.fpKOWN]; omega)), h]

theorem rb_ownersCleared {p st : Nat} (l : List Nat) {s : State} (h : st ∈ l ∨ rb s (R.fpKOWN p st) = false) :
    rb (ownersCleared s p l) (R.fpKOWN p st) = false := by
  induction l generalizing s with
  | nil => exact h.resolve_left List.not_mem_nil
  | cons x l ih =>
    refine ih ?_
    rcases h with h | h
    · rcases List.mem_cons.1 h with rfl | h
      · exact .inr (rb_wb_same s (R.fpKOWN p st) false rfl (by decide : 18 < 36))
      · exact .inl h
    · exact .inr (rb_kown_wb_false h x)

/-- `s` with `es` the FRAME_EMITs still on their way. -/
def emitTaken (s : State) (es : List (Nat × Emit)) : State := { s with fld := { s.fld with emitFly := es } }

/-- The valid streams of an emission. -/
def streamsPassed (s : State) (p : Nat) (e : Emit) : List Nat :=
  (emitStreams e).filter fun st => decide (st < 1024) && rb s (R.fpVALID p st)

theorem emitArrive_eq (s : State) (p : Nat) (e : Emit) : emitArrive s p e = modPort (ownersCleared s p (streamsPassed s p e)) p fun k =>
    { k with tx := k.tx.filter (fun f => !(decide (f.cls = .keep) && (streamsPassed s p e).contains f.stream)), emits := k.emits ++ [e] } := rfl

theorem writesOnly_emitTaken (P : Nat → Prop) (s : State) (es : List (Nat × Emit)) : WritesOnly P s (emitTaken s es) :=
  (WritesOnly.refl P s).setFld _

/-- What a FRAME_EMIT leaves at its port (R230, R234). -/
theorem emitArrive_fields {s : State} {p : Nat} (hp : p < s.fld.ports.length) (e : Emit) :
    (emitArrive s p e).fld.emitFly = s.fld.emitFly ∧ (port (emitArrive s p e) p).emits = (port s p).emits ++ [e] ∧
      (∀ st, st < 1024 → e.next ≤ st → st < e.next + e.left → rb s (R.fpVALID p st) = true → rb (emitArrive s p e) (R.fpKOWN p st) = false) ∧
    
      WritesOnly (fun _ => True) s (emitArrive s p e) := by
  have hcleared := ownersCleared_fld s p (streamsPassed s p e)
  have hport : port (ownersCleared s p (streamsPassed s p e)) p = port s p := congrArg (fun x : FieldSt => x.ports.getD p portZero) hcleared
  rw [emitArrive_eq, port_modPort_same (by rwa [hcleared]), hport]
  refine ⟨?_, rfl, fun st hst hfirst hlast hvalid => ?_, (writesOnly_ownersCleared s p _).modPort _ _⟩
  · change (ownersCleared s p (streamsPassed s p e)).fld.emitFly = _
    rw [hcleared]
  · rw [rb_modPort]
    have hmem : st ∈ emitStreams e := List.mem_map.2 ⟨st - e.next, List.mem_range.2 (by omega), by omega⟩
    exact rb_ownersCleared _ (.inl (List.mem_filter.2 ⟨hmem, by simp [hst, hvalid]⟩))

section Ports
variable {s : State} {p : Nat} (hl : s.live iFLD) (hp : p < s.cfg.part.ports) (hlen : s.fld.ports.length = s.cfg.part.ports)
include hl hp hlen

theorem frameEmitArrival_arrives {e : Emit} {es : List (Nat × Emit)} (hfly : s.fld.emitFly = (p, e) :: es) :
    ∃ t, exec (.frameEmitArrival p) s = .next t ∧ t.fld.emitFly = es ∧ (port t p).emits = (port s p).emits ++ [e] ∧
      ∀ st, st < 1024 → e.next ≤ st → st < e.next + e.left → rb s (R.fpVALID p st) = true → rb t (R.fpKOWN p st) = false := by
  obtain ⟨hrest, hemits, howner, hwrites⟩ := emitArrive_fields (s := emitTaken s es) (hlen ▸ hp) e
  refine ⟨emitArrive (emitTaken s es) p e, ?_, hrest, hemits, howner⟩
  change execFrameEmitArrival p s = _
  unfold execFrameEmitArrival
  refine gatePort_next_eq hl hp ?_ ((writesOnly_emitTaken _ s es).trans hwrites)
  simp only [hfly, if_true]
  rfl

/-! ### Transmission (R231, R232) -/

omit hl hp hlen in
theorem txNext_single (f : TxFrame) : txNext [f] = some f := by
  cases hc : f.cls <;> simp [txNext, hc]

/-- `s` with nothing queued at port p. -/
def queueTaken (s : State) (p : Nat) : State := modPort s p fun k => { k with tx := [] }

omit hl hp hlen in
theorem writesOnly_queueTaken (P : Nat → Prop) : WritesOnly P s (queueTaken s p) := (WritesOnly.refl P s).modPort _ _

/-- A peer-delay request leaves at the present (R219). -/
def delayAsked (s : State) (p : Nat) (f : TxFrame) : State :=
  if f.cls = .ptp ∧ f.stream = 2 then modPort s p fun k => { k with pdReq := some (f.node, s.devTime), pdResp := none } else s

/-- `s` with frame `f` sent last at port p, and nothing queued there. -/
def frameSent (s : State) (p : Nat) (f : TxFrame) : State :=
  let u := delayAsked (queueTaken s p) p f
  modPort u p fun k => { k with sent := some (frameOut u p f) }

omit hl hp hlen in
theorem frameOut_congr {t : State} (h : WritesOnly (fun _ => False) s t) (f : TxFrame) : frameOut t p f = frameOut s p f := by
  have hrf (g : Field) : rf t g = rf s g := h.rf_eq id
  have hrb (g : Field) : rb t g = rb s g := h.rb_eq id
  simp only [frameOut, hrf, hrb]

omit hl in
theorem frameSent_fields (f : TxFrame) : (port (frameSent s p f) p).tx = [] ∧ (port (frameSent s p f) p).sent = some (frameOut s p f) ∧
    (frameSent s p f).mem = s.mem ∧ WritesOnly (fun _ => False) s (frameSent s p f) := by
  have hplace : p < (queueTaken s p).fld.ports.length := by rw [queueTaken, portCount_modPort, hlen]; exact hp
  have htaken : (port (queueTaken s p) p).tx = [] := by rw [queueTaken, port_modPort_same (hlen ▸ hp)]
  have hasked : (port (delayAsked (queueTaken s p) p f) p).tx = [] ∧ p < (delayAsked (queueTaken s p) p f).fld.ports.length ∧
      (delayAsked (queueTaken s p) p f).mem = s.mem ∧ WritesOnly (fun _ => False) s (delayAsked (queueTaken s p) p f) := by
    have hwrites : WritesOnly (fun _ => False) s (queueTaken s p) := writesOnly_queueTaken _
    unfold delayAsked
    split
    · rw [port_modPort_same hplace, portCount_modPort]
      exact ⟨htaken, hplace, rfl, hwrites.modPort _ _⟩
    · exact ⟨htaken, hplace, rfl, hwrites⟩
  obtain ⟨htx, hcount, hmem, hwrites⟩ := hasked
  rw [frameSent, port_modPort_same hcount]
  exact ⟨htx, congrArg some (frameOut_congr hwrites f), hmem, hwrites.modPort _ _⟩

section Transmit
variable {f : TxFrame} (hlink : rb s (R.fpLINK p) = true) (hsends : portSends s p = true) (htx : (port s p).tx = [f])
include hlink hsends htx

omit hlen in
/-- A queued frame whose turn comes, where the port can send. -/
theorem frameTransmit_eq {t : State} {P : Nat → Prop} (hwrites : WritesOnly P s t)
    (ht : (if (decide (f.cls = .sched) || decide (f.cls = .keep)) = true ∧ rb s (R.fpTX_INHIBIT p) = true then queueTaken s p
      else if f.cls = .sched then cnt (frameSent s p f) (R.fpTX_SCHED p) else if f.cls = .keep then cnt (frameSent s p f) (R.fpTX_KEEP p)
      else frameSent s p f) = t) : exec (.frameTransmit p) s = .next t := by
  have herase : (modPort s p fun k => { k with tx := k.tx.erase f }) = queueTaken s p := by
    simp only [queueTaken, modPort, htx, List.erase_cons_head]
  change execFrameTransmit p s = _
  unfold execFrameTransmit
  refine gatePort_next_eq hl hp ?_ hwrites
  rw [if_neg (by simp [hlink, hsends]), htx, txNext_single, ← ht]
  simp only [herase]
  rfl

/-- A frame of a class that is counted. -/
theorem frameTransmit_counted {a : Nat} (ht : (if (decide (f.cls = .sched) || decide (f.cls = .keep)) = true ∧
      rb s (R.fpTX_INHIBIT p) = true then queueTaken s p else if f.cls = .sched then cnt (frameSent s p f) (R.fpTX_SCHED p)
      else if f.cls = .keep then cnt (frameSent s p f) (R.fpTX_KEEP p) else frameSent s p f) = cnt (frameSent s p f) ⟨a, 35, 0⟩) :
    ∃ t, exec (.frameTransmit p) s = .next t ∧ (port t p).tx = [] ∧ (port t p).sent = some (frameOut s p f) ∧
      rf t ⟨a, 35, 0⟩ = min (rf s ⟨a, 35, 0⟩ + 1) (2 ^ 36 - 1) := by
  obtain ⟨hempty, hsent, -, hwrites⟩ := frameSent_fields hp hlen f
  refine ⟨_, frameTransmit_eq hl hp hlink hsends htx ((hwrites.mono (Q := fun _ => True) fun _ _ => trivial).cnt trivial) ht, hempty, hsent, ?_⟩
  rw [rf_cnt_word, hwrites.rf_eq id]

theorem frameTransmit_sched (hcls : f.cls = .sched) (hgo : rb s (R.fpTX_INHIBIT p) = false) : ∃ t, exec (.frameTransmit p) s = .next t ∧
    (port t p).tx = [] ∧ (port t p).sent = some (frameOut s p f) ∧
    rf t (R.fpTX_SCHED p) = min (rf s (R.fpTX_SCHED p) + 1) (2 ^ 36 - 1) :=
  frameTransmit_counted hl hp hlen hlink hsends htx (by rw [if_neg (by simp [hgo]), if_pos hcls]; rfl)

theorem frameTransmit_keep (hcls : f.cls = .keep) (hgo : rb s (R.fpTX_INHIBIT p) = false) : ∃ t, exec (.frameTransmit p) s = .next t ∧
    (port t p).tx = [] ∧ (port t p).sent = some (frameOut s p f) ∧
    rf t (R.fpTX_KEEP p) = min (rf s (R.fpTX_KEEP p) + 1) (2 ^ 36 - 1) :=
  frameTransmit_counted hl hp hlen hlink hsends htx (by rw [if_neg (by simp [hgo]), if_neg (by simp [hcls]), if_pos hcls]; rfl)

theorem frameTransmit_other (hcls : f.cls = .ptp ∨ f.cls = .other) : ∃ t, exec (.frameTransmit p) s = .next t ∧ (port t p).tx = [] ∧
    (port t p).sent = some (frameOut s p f) ∧ t.mem = s.mem := by
  obtain ⟨hempty, hsent, hmem, hwrites⟩ := frameSent_fields hp hlen f
  refine ⟨_, frameTransmit_eq hl hp hlink hsends htx hwrites ?_, hempty, hsent, hmem⟩
  rcases hcls with h | h <;> simp [h]

theorem frameTransmit_inhibited (hcls : f.cls = .sched ∨ f.cls = .keep) (hstop : rb s (R.fpTX_INHIBIT p) = true) :
    ∃ t, exec (.frameTransmit p) s = .next t ∧ (port t p).tx = [] ∧ (port t p).sent = (port s p).sent ∧ t.mem = s.mem := by
  have hport : port (queueTaken s p) p = { port s p with tx := [] } := port_modPort_same (hlen ▸ hp) fun k => { k with tx := [] }
  refine ⟨_, frameTransmit_eq hl hp hlink hsends htx (writesOnly_queueTaken fun _ => False) ?_,
    by rw [hport], by rw [hport], rfl⟩
  exact if_pos ⟨by rcases hcls with h | h <;> simp [h], hstop⟩

end Transmit

/-! ### Peer delay (R219) -/

omit hl hp hlen in
theorem ptpRole_of_ne_two {r : Nat} (h : rf s (R.fpPTP_ROLE p) = r) (hr : r ≠ 2) : ptpRole s p = r := by
  rw [ptpRole, h]
  exact if_neg fun hc => hr hc.1

omit hl in
/-- A port that can send asks its neighbour for the peer delay. -/
theorem pdelayAsk_sends (hsends : portSends s p = true) : (port (pdelayAsk s p) p).tx =
    (port s p).tx ++ [⟨.ptp, 2, ((port s p).pdSeq + 1) % 65536, [], 0x0180C200000E, 0, 0, []⟩] ∧ (pdelayAsk s p).mem = s.mem ∧
    WritesOnly (fun _ => False) s (pdelayAsk s p) := by
  have hplace : p < s.fld.ports.length := hlen ▸ hp
  have hwrites := (WritesOnly.refl (fun _ => False) s).modPort p fun k => { k with pdSeq := (k.pdSeq + 1) % 65536 }
  rw [pdelayAsk, txQueue_sends (by rw [portSends_modPort, hsends]), port_modPort_same (by rwa [portCount_modPort]), port_modPort_same hplace]
  exact ⟨rfl, rfl, hwrites.modPort _ _⟩

theorem ptpSyncTransmit_transmitter (hrole : rf s (R.fpPTP_ROLE p) = 1) (hsends : portSends s p = true) :
    ∃ t, exec (.ptpSyncTransmit p) s = .next t ∧ t.mem = s.mem ∧
      (port t p).tx = (port s p).tx ++ [⟨.ptp, 0, 0, [mkW (dtNs s.devTime), mkW (dtSec s.devTime)], 0x0180C200000E, 0, 0, []⟩,
        ⟨.ptp, 2, ((port s p).pdSeq + 1) % 65536, [], 0x0180C200000E, 0, 0, []⟩] := by
  have hone : ptpRole s p = 1 := ptpRole_of_ne_two hrole (by decide)
  generalize hf : (⟨.ptp, 0, 0, [mkW (dtNs s.devTime), mkW (dtSec s.devTime)], 0x0180C200000E, 0, 0, []⟩ : TxFrame) = f
  have hqueued : txQueue s p f = modPort s p fun k => { k with tx := k.tx ++ [f] } := txQueue_sends hsends f
  have hport : port (txQueue s p f) p = { port s p with tx := (port s p).tx ++ [f] } := by rw [hqueued, port_modPort_same (hlen ▸ hp)]
  have hrole' : ptpRole (txQueue s p f) p = 1 := hqueued ▸ hone
  obtain ⟨htx, hmem, hwrites⟩ := pdelayAsk_sends (s := txQueue s p f) (p := p) (by rw [hqueued]; exact hp)
    (by rw [hqueued, portCount_modPort]; exact hlen) (by rw [hqueued, portSends_modPort, hsends])
  refine ⟨_, ?_, hmem.trans (by rw [hqueued]; rfl), ?_⟩
  · change execPtpSyncTransmit p s = _
    unfold execPtpSyncTransmit
    refine gatePort_next_eq hl hp ?_ (((WritesOnly.refl (fun _ => False) s).txQueue p f).trans hwrites)
    simp only [hone, if_true, hf, hrole', true_or]
  · rw [htx, hport, List.append_assoc]
    rfl

theorem ptpSyncTransmit_receiver (hrole : rf s (R.fpPTP_ROLE p) = 2) (hsrc : rf s R.fcTIME_SRC = p) (hsends : portSends s p = true) :
    ∃ t, exec (.ptpSyncTransmit p) s = .next t ∧ t.mem = s.mem ∧
      (port t p).tx = (port s p).tx ++ [⟨.ptp, 2, ((port s p).pdSeq + 1) % 65536, [], 0x0180C200000E, 0, 0, []⟩] := by
  have htwo : ptpRole s p = 2 := by simp [ptpRole, hrole, hsrc]
  obtain ⟨htx, hmem, hwrites⟩ := pdelayAsk_sends hp hlen hsends
  refine ⟨_, ?_, hmem, htx⟩
  change execPtpSyncTransmit p s = _
  unfold execPtpSyncTransmit
  refine gatePort_next_eq hl hp ?_ hwrites
  simp only [htwo, OfNat.ofNat_ne_one, if_false, or_true, if_true]

omit hlen in
theorem ptpSyncTransmit_noRole (h : rf s (R.fpPTP_ROLE p) = 0 ∨ rf s (R.fpPTP_ROLE p) = 2 ∧ rf s R.fcTIME_SRC ≠ p) :
    exec (.ptpSyncTransmit p) s = .next s := by
  have hzero : ptpRole s p = 0 := by
    rcases h with h | h
    · exact ptpRole_of_ne_two h (by decide)
    · exact if_pos h
  change execPtpSyncTransmit p s = _
  unfold execPtpSyncTransmit
  refine gatePort_next_eq hl hp ?_ (.refl (fun _ => False) s)
  simp only [hzero, OfNat.zero_ne_ofNat, zero_ne_one, if_false, or_false]

/-! ### KPRIME and a cleared VALID (R233) -/

/-- The reference time of a stream is now, and a Keeper timer that has not begun begins. -/
def streamPrimed (s : State) (p st : Nat) : State :=
  modPort s p fun k =>
    { k with refT := kvDel k.refT st ++ [(st, s.now)]
             timer := if (kvFind k.timer st).isSome then k.timer else k.timer ++ [(st, s.now)] }

/-- A stream becomes ACTIVE, and its Keeper timer begins now. -/
def streamStarted (s : State) (p st : Nat) : State :=
  modPort (wf s (R.fpKSTATE p st) 1) p fun k => { k with timer := kvDel k.timer st ++ [(st, s.now)] }

omit hl hp hlen in
theorem kprime_eq (st : Nat) : kprime s p st =
    if rf s (R.fpKSTATE p st) = 0 then streamStarted (streamPrimed s p st) p st else streamPrimed s p st := rfl

theorem kprime_sets (st : Nat) (hst : st < 1024) : ∃ t, exec (.kprime p st) s = .next t ∧ kvFind (port t p).refT st = some s.now ∧
    (rf s (R.fpKSTATE p st) = 0 → rf t (R.fpKSTATE p st) = 1 ∧ kvFind (port t p).timer st = some s.now) ∧
    (rf s (R.fpKSTATE p st) ≠ 0 → rf t (R.fpKSTATE p st) = rf s (R.fpKSTATE p st)) ∧ s.sameBut t [(R.fpKSTATE p st).addr] := by
  have hplace : p < s.fld.ports.length := hlen ▸ hp
  have hprimed : WritesOnly (· ∈ [(R.fpKSTATE p st).addr]) s (streamPrimed s p st) := (WritesOnly.refl _ s).modPort _ _
  have href : kvFind (port (streamPrimed s p st) p).refT st = some s.now := by
    rw [streamPrimed, port_modPort_same hplace]
    exact kvFind_renewed (port s p).refT st s.now
  have hexec {t : State} (ht : kprime s p st = t) (htw : WritesOnly (· ∈ [(R.fpKSTATE p st).addr]) s t) : exec (.kprime p st) s = .next t := by
    change execKprime p st s = _
    exact gatePort_next_eq hl hp ((if_pos hst).trans ht) htw
  by_cases hempty : rf s (R.fpKSTATE p st) = 0
  · have hstarted : WritesOnly (· ∈ [(R.fpKSTATE p st).addr]) s (streamStarted (streamPrimed s p st) p st) :=
      (hprimed.wf (f := R.fpKSTATE p st) 1 (by simp)).modPort _ _
    have hport : port (streamStarted (streamPrimed s p st) p st) p = { port (streamPrimed s p st) p with
        timer := kvDel (port (streamPrimed s p st) p).timer st ++ [(st, s.now)] } :=
      port_modPort_same (s := wf (streamPrimed s p st) (R.fpKSTATE p st) 1) (by rw [wf_fld, streamPrimed, portCount_modPort]; exact hplace) _
    refine ⟨_, hexec ((kprime_eq st).trans (if_pos hempty)) hstarted, ?_, fun _ => ⟨?_, ?_⟩, fun h => absurd hempty h, hstarted.sameBut⟩
    · rw [hport]
      exact href
    · rw [streamStarted, rf_modPort]
      exact rf_wf_same (streamPrimed s p st) (R.fpKSTATE p st) 1 (by decide : 16 ≤ 17) (by decide : 17 < 36)
    · rw [hport]
      exact kvFind_renewed (port (streamPrimed s p st) p).timer st s.now
  · exact ⟨_, hexec ((kprime_eq st).trans (if_neg hempty)) hprimed, href, fun h => absurd h hempty, fun _ => rfl, hprimed.sameBut⟩

omit hlen in
theorem streamValidClear_clears (st : Nat) (hst : st < 1024) : ∃ t, exec (.streamValidClear p st) s = .next t ∧
    rb t (R.fpVALID p st) = false ∧ rf t (R.fpKSTATE p st) = 0 ∧ s.sameBut t [(R.fpVALID p st).addr, (R.fpKSTATE p st).addr] := by
  have hwrites := ((WritesOnly.refl (· ∈ [(R.fpVALID p st).addr, (R.fpKSTATE p st).addr]) s).wb (f := R.fpVALID p st) false (by simp)).wf
    (f := R.fpKSTATE p st) 0 (by simp)
  refine ⟨_, ?_, ?_, ?_, hwrites.sameBut⟩
  · change execStreamValidClear p st s = _
    exact gatePort_next_eq hl hp (if_pos hst) hwrites
  · rw [rb_wf_apart (.inl (by simp [R.fpVALID, R.fpKSTATE]))]
    exact rb_wb_same s (R.fpVALID p st) false rfl (by decide : 0 < 36)
  · exact rf_wf_same _ (R.fpKSTATE p st) 0 (by decide : 16 ≤ 17) (by decide : 17 < 36)

end Ports

end Sys2Proof.Machine

/-! SUPPORT. Output frames: Stream Memory read for a stream, its Keeper image, the frame queued, and its replay (R216, R230, R233, R234). -/

namespace Sys2Proof.Machine

/-! ### Consecutive words read from idle Stream Memory -/

/-- Only the pointers of the shared-class rotation have moved. -/
def smPtrMoved (s : State) (x : List (Nat × Nat)) : State := { s with sm := { s.sm with shPtr := x } }

theorem writesOnly_smPtrMoved (P : Nat → Prop) (s : State) (x : List (Nat × Nat)) : WritesOnly P s (smPtrMoved s x) :=
  (WritesOnly.refl P s).beside rfl rfl rfl rfl

theorem SmIdle.smRd_eq {s : State} (h : SmIdle s) (hecc : s.ecc = []) {a : Nat} (ha : a < s.cfg.part.streamWords) :
    smRd s a = (stOK, rd s a, smTurn s (smBank s a) (smPos a)) := by
  have hturn := (h.quiet fun _ => True).smTurn (smBank s a) (smPos a)
  rw [smRd, if_neg (Nat.not_le.2 ha), if_pos h.reach, (h.quiet fun _ => True).smAccess_eq]
  exact smPerform_read (s := smTurn s (smBank s a) (smPos a)) (by rw [hturn.rmw]; rfl) (h.bankOn _ (smBank_lt s a))
    (by rw [eccAt, show (smTurn s (smBank s a) (smPos a)).ecc = s.ecc from rfl, hecc]; rfl)

theorem SmIdle.smRdN_eq (n : Nat) {s : State} (h : SmIdle s) (hecc : s.ecc = []) {a : Nat} (ha : a + n ≤ s.cfg.part.streamWords) :
    ∃ x, smRdN s a n = (some ((List.range n).map fun i => rd s (a + i)), smPtrMoved s x) := by
  induction n generalizing s a with
  | zero => exact ⟨s.sm.shPtr, rfl⟩
  | succ n ih =>
    have hturn : SmIdle (smTurn s (smBank s a) (smPos a)) := h.of_eq rfl rfl rfl rfl rfl fun _ _ _ => rfl
    obtain ⟨x, hx⟩ := ih (a := a + 1) hturn hecc (by rw [Nat.add_right_comm]; exact ha)
    refine ⟨x, ?_⟩
    have hwords : (List.range (n + 1)).map (fun i => rd s (a + i)) = rd s a :: (List.range n).map fun i => rd s (a + 1 + i) := by
      rw [List.range_succ_eq_map, List.map_cons, List.map_map]
      congr 1
      exact List.map_congr_left fun i _ => congrArg (rd s) (by rw [Nat.succ_eq_add_one]; omega)
    rw [hwords, smRdN, h.smRd_eq hecc (by omega)]
    simp only [ne_eq, not_true_eq_false, if_false, hx, Option.map_some]
    rfl

/-! ### The Keeper image (R233) -/

/-- Where word `i` of a Keeper image that begins at `ofs` lies. -/
def imageWord (p ofs i : Nat) : Nat := (R.fpKMEM p ((ofs + i) % 32768)).addr

theorem imageWord_ge (p ofs i : Nat) : blkBase .fp p + 0x8000 ≤ imageWord p ofs i := Nat.le_add_right _ _

theorem imageWord_inj {p ofs i j : Nat} (hi : i < 32768) (hj : j < 32768) (h : imageWord p ofs i = imageWord p ofs j) : i = j := by
  simp only [imageWord, R.fpKMEM] at h
  omega

/-- The first n words of a stream's Keeper image are `f`'s. -/
def imageKept (s : State) (p st n : Nat) (f : Nat → Word) : State :=
  (List.range n).foldl (fun s i => wr s (imageWord p (rf s (R.fpKOFS p st)) i) (f i)) s

/-- Words of the Keeper memory of port p, and what lies above. -/
abbrev AboveKeeper (p a : Nat) : Prop := blkBase .fp p + 0x8000 ≤ a

theorem imageKept_fields {p st : Nat} (hst : st < 1024) (s : State) (f : Nat → Word) (n : Nat) (hn : n ≤ 32768) :
    WritesOnly (AboveKeeper p) s (imageKept s p st n f) ∧
    (∀ i, i < n → rd (imageKept s p st n f) (imageWord p (rf s (R.fpKOFS p st)) i) = f i) ∧
      ∃ m, imageKept s p st n f = { s with mem := m } := by
  induction n with
  | zero => exact ⟨.refl _ s, nofun, s.mem, rfl⟩
  | succ n ih =>
    obtain ⟨hwrites, hwords, m, hm⟩ := ih (Nat.le_of_succ_le hn)
    have hofs : rf (imageKept s p st n f) (R.fpKOFS p st) = rf s (R.fpKOFS p st) := hwrites.rf_eq (by simp only [AboveKeeper, R.fpKOFS]; omega)
    have hnext : imageKept s p st (n + 1) f = wr (imageKept s p st n f) (imageWord p (rf s (R.fpKOFS p st)) n) (f n) := by
      rw [imageKept, List.range_succ, List.foldl_append, ← hofs]
      rfl
    rw [hnext]
    refine ⟨hwrites.wr _ (imageWord_ge _ _ _), fun i hi => ?_, _, by rw [hm]; rfl⟩
    by_cases hlast : i = n
    · rw [hlast, rd_wr_same]
    · rw [rd_wr_ne _ _ fun h => hlast (imageWord_inj (by omega) (by omega) h), hwords i (by omega)]

/-! ### A frame queued (R216, R230) -/

theorem outWords_congr {P : Nat → Prop} {s t : State} (h : WritesOnly P s t) {p st : Nat} (hnode : ¬ P (R.fpNODE p st).addr)
    (hkeep : ¬ P (R.fpKEEP_PERIOD p st).addr) (hseq : ¬ P (R.fpSEQ p st).addr) (state tag : Nat) (vals : List Word) :
    outWords t p st state tag vals = outWords s p st state tag vals := by
  have hchan : rf t (R.fpCHAN p st) = rf s (R.fpCHAN p st) := h.rf_eq hnode
  have hhold : rf t (R.fpHOLD_MAX p st) = rf s (R.fpHOLD_MAX p st) := h.rf_eq hkeep
  simp only [outWords, h.rf_eq hnode, h.rf_eq hkeep, h.rf_eq hseq, hchan, hhold]

theorem portSends_eq {P : Nat → Prop} {s t : State} (h : WritesOnly P s t) {p : Nat} (hp : ¬ P (R.fpUNIT_STATE p).addr) :
    portSends t p = portSends s p := by rw [portSends, portSends, h.rf_eq hp]

/-- An output frame of a stream as it is queued (R216). -/
def frameOf (s : State) (p st state : Nat) (cls : TxCls) (vals : List Word) : TxFrame :=
  ⟨cls, st, rf s (R.fpNODE p st), outWords s p st state (tagNow s) vals, 0, 0, 0, []⟩

theorem frameOf_congr {P : Nat → Prop} {s t : State} (h : WritesOnly P s t) {p st : Nat} (hnode : ¬ P (R.fpNODE p st).addr)
    (hkeep : ¬ P (R.fpKEEP_PERIOD p st).addr) (hseq : ¬ P (R.fpSEQ p st).addr) (htime : t.devTime = s.devTime) (state : Nat) (cls : TxCls)
    (vals : List Word) : frameOf t p st state cls vals = frameOf s p st state cls vals := by
  simp only [frameOf, outWords_congr h hnode hkeep hseq, h.rf_eq hnode, tagNow, htime]

/-- The frame is queued unless TX_INHIBIT is 1. -/
def frameQueued (s : State) (p st state : Nat) (cls : TxCls) (vals : List Word) : State :=
  if rb s (R.fpTX_INHIBIT p) then s else txQueue s p (frameOf s p st state cls vals)

/-- SEQ of a stream has advanced and its Keeper timer begins anew. -/
def seqAdvanced (s : State) (p st : Nat) : State :=
  modPort (wf s (R.fpSEQ p st) (rf s (R.fpSEQ p st) + 1)) p fun k => { k with timer := kvDel k.timer st ++ [(st, s.now)] }

theorem outFrame_eq (s : State) (p st state : Nat) (cls : TxCls) (vals : List Word) :
    outFrame s p st state cls vals = seqAdvanced (frameQueued s p st state cls vals) p st := rfl

section OutFrame
variable {s : State} {p st state : Nat} {cls : TxCls} {vals : List Word}

/-- Queueing a frame changes the port's queue alone. -/
theorem frameQueued_cases : frameQueued s p st state cls vals = s ∨ frameQueued s p st state cls vals =
    modPort s p fun k => { k with tx := k.tx ++ [frameOf s p st state cls vals] } := by
  unfold frameQueued txQueue
  split
  · exact .inl rfl
  · split
    · exact .inr rfl
    · exact .inl rfl

theorem frameQueued_sends (hgo : rb s (R.fpTX_INHIBIT p) = false) (hsends : portSends s p = true) :
    frameQueued s p st state cls vals = modPort s p fun k => { k with tx := k.tx ++ [frameOf s p st state cls vals] } :=
  (if_neg (ne_true_of_eq_false hgo)).trans (txQueue_sends hsends _)

theorem writesOnly_outFrame : WritesOnly (· = (R.fpSEQ p st).addr) s (outFrame s p st state cls vals) := by
  have hqueued : WritesOnly (· = (R.fpSEQ p st).addr) s (frameQueued s p st state cls vals) := by
    rcases frameQueued_cases (s := s) (p := p) (st := st) (state := state) (cls := cls) (vals := vals) with h | h <;> rw [h]
    · exact .refl _ s
    · exact (WritesOnly.refl _ s).modPort _ _
  rw [outFrame_eq, seqAdvanced]
  exact (hqueued.wf (f := R.fpSEQ p st) _ rfl).modPort _ _

theorem outFrame_now : (outFrame s p st state cls vals).now = s.now := by
  rw [outFrame_eq]
  rcases frameQueued_cases (s := s) (p := p) (st := st) (state := state) (cls := cls) (vals := vals) with h | h <;> rw [h] <;> rfl

theorem outFrame_cas : (outFrame s p st state cls vals).cas = s.cas := by
  rw [outFrame_eq]
  rcases frameQueued_cases (s := s) (p := p) (st := st) (state := state) (cls := cls) (vals := vals) with h | h <;> rw [h] <;> rfl

theorem outFrame_seq : rf (outFrame s p st state cls vals) (R.fpSEQ p st) = (rf s (R.fpSEQ p st) + 1) % 2 ^ 16 ∧
    rf (outFrame s p st state cls vals) (R.fpKSTATE p st) = rf s (R.fpKSTATE p st) := by
  have hrf (g : Field) : rf (frameQueued s p st state cls vals) g = rf s g := by
    rcases frameQueued_cases (s := s) (p := p) (st := st) (state := state) (cls := cls) (vals := vals) with h | h <;> rw [h]
    rw [rf_modPort]
  rw [outFrame_eq, seqAdvanced, rf_modPort, rf_modPort, rf_wf_apart (f := R.fpSEQ p st) (g := R.fpKSTATE p st)
    (.inr (by simp [R.fpSEQ, R.fpKSTATE])), hrf, hrf]
  exact ⟨rf_wf_same _ (R.fpSEQ p st) _ (by decide : 0 ≤ 15) (by decide : 15 < 36), rfl⟩

/-- The port after a frame that it sends has been queued. -/
theorem outFrame_port (hp : p < s.fld.ports.length) (hgo : rb s (R.fpTX_INHIBIT p) = false) (hsends : portSends s p = true) :
    (outFrame s p st state cls vals).fld.ports.length = s.fld.ports.length ∧
      (port (outFrame s p st state cls vals) p).emits = (port s p).emits ∧
      (port (outFrame s p st state cls vals) p).tx = (port s p).tx ++ [frameOf s p st state cls vals] := by
  have hcount : (frameQueued s p st state cls vals).fld.ports.length = s.fld.ports.length := by
    rw [frameQueued_sends hgo hsends, portCount_modPort]
  have hport : port (frameQueued s p st state cls vals) p = { port s p with tx := (port s p).tx ++ [frameOf s p st state cls vals] } := by
    rw [frameQueued_sends hgo hsends, port_modPort_same hp]
  rw [outFrame_eq, seqAdvanced, portCount_modPort, wf_fld, port_modPort_same (by rw [wf_fld, hcount]; exact hp), port_wf, hport]
  exact ⟨hcount, rfl, rfl⟩

end OutFrame

/-! ### Assembly (R230, R232) -/

/-- `s` with `vs` handed to the digest (R344). -/
def digestFed (s : State) (vs : List Word) : State := { s with cas := { s.cas with digVals := s.cas.digVals ++ vs } }

/-- `s` with `vs` handed to the digest, and the stream's LAST_SCHED the present (R230). -/
def streamStamped (s : State) (p st : Nat) (vs : List Word) : State := wf (digestFed s vs) (R.fpLAST_SCHED p st) (tagNow s)

/-- A stream is ACTIVE, and its reference time is the present. -/
def streamCurrent (s : State) (p st : Nat) : State :=
  modPort (wf s (R.fpKSTATE p st) 1) p fun k => { k with refT := kvDel k.refT st ++ [(st, s.now)] }

theorem WritesOnly.streamCurrent {P : Nat → Prop} {s t : State} (h : WritesOnly P s t) {p st : Nat} (hk : P (R.fpKSTATE p st).addr) :
    WritesOnly P s (Machine.streamCurrent t p st) := by
  rw [Machine.streamCurrent]
  exact (h.wf (f := R.fpKSTATE p st) 1 hk).modPort _ _

theorem rf_streamCurrent (s : State) (p st : Nat) : rf (streamCurrent s p st) (R.fpKSTATE p st) = 1 := by
  rw [streamCurrent, rf_modPort]
  exact rf_wf_same s (R.fpKSTATE p st) 1 (by decide : 16 ≤ 17) (by decide : 17 < 36)

theorem rf_streamCurrent_apart {s : State} {p st : Nat} {g : Field} (h : (R.fpKSTATE p st).Apart g) :
    rf (streamCurrent s p st) g = rf s g := by
  rw [streamCurrent, rf_modPort, rf_wf_apart h]

/-- What assembling one stream leaves, once its values are read and kept (R230). -/
def streamSent (s : State) (p st : Nat) (vs : List Word) : State :=
  streamCurrent (outFrame (streamStamped s p st vs) p st 0 .sched vs) p st

theorem writesOnly_streamStamped (s : State) (p st : Nat) (vs : List Word) :
    WritesOnly (· = (R.fpLAST_SCHED p st).addr) s (streamStamped s p st vs) :=
  WritesOnly.wf (t := digestFed s vs) ((WritesOnly.refl _ s).beside rfl rfl rfl rfl) _ rfl

@[simp] theorem port_digestFed (s : State) (vs : List Word) (p : Nat) : port (digestFed s vs) p = port s p := rfl
@[simp] theorem port_streamStamped (s : State) (p st q : Nat) (vs : List Word) : port (streamStamped s p st vs) q = port s q := by
  rw [streamStamped, port_wf, port_digestFed]
theorem streamStamped_devTime (s : State) (p st : Nat) (vs : List Word) : (streamStamped s p st vs).devTime = s.devTime := by
  rw [streamStamped, wf_devTime, digestFed]
theorem streamStamped_fld (s : State) (p st : Nat) (vs : List Word) : (streamStamped s p st vs).fld = s.fld := by
  rw [streamStamped, wf_fld, digestFed]
theorem streamStamped_cas (s : State) (p st : Nat) (vs : List Word) : (streamStamped s p st vs).cas = (digestFed s vs).cas := by
  rw [streamStamped, wf_cas]
theorem streamCurrent_cas (s : State) (p st : Nat) : (streamCurrent s p st).cas = s.cas := rfl

section Sent
variable (s : State) (p st : Nat) (vs : List Word)

/-- The words of a stream that its assembly writes. -/
abbrev StreamWord (p st a : Nat) : Prop := a = (R.fpLAST_SCHED p st).addr ∨ a = (R.fpSEQ p st).addr

theorem writesOnly_streamSent : WritesOnly (StreamWord p st) s (streamSent s p st vs) := by
  have hstamped := (writesOnly_streamStamped s p st vs).mono (Q := StreamWord p st) fun _ => .inl
  have hframe := (writesOnly_outFrame (s := streamStamped s p st vs) (p := p) (st := st) (state := 0) (cls := .sched) (vals := vs)).mono
    (Q := StreamWord p st) fun _ => .inr
  exact (hstamped.trans hframe).streamCurrent (.inr rfl)

/-- The registers of a stream after its frame (R230). -/
theorem streamSent_registers : rf (streamSent s p st vs) (R.fpSEQ p st) = (rf s (R.fpSEQ p st) + 1) % 2 ^ 16 ∧
    rf (streamSent s p st vs) (R.fpKSTATE p st) = 1 ∧ rf (streamSent s p st vs) (R.fpLAST_SCHED p st) = tagNow s ∧
    (streamSent s p st vs).cas.digVals = s.cas.digVals ++ vs := by
  have hseq : rf (streamStamped s p st vs) (R.fpSEQ p st) = rf s (R.fpSEQ p st) :=
    (writesOnly_streamStamped s p st vs).rf_eq (by simp [R.fpSEQ, R.fpLAST_SCHED])
  have hlast : rf (streamStamped s p st vs) (R.fpLAST_SCHED p st) = tagNow s % 2 ^ 36 :=
    rf_wf_same _ (R.fpLAST_SCHED p st) _ (by decide : 0 ≤ 35) (by decide : 35 < 36)
  rw [Nat.mod_eq_of_lt (tagNow_lt s)] at hlast
  rw [streamSent, rf_streamCurrent, rf_streamCurrent_apart (.inr (by simp [R.fpSEQ, R.fpKSTATE])), outFrame_seq.1, hseq,
    rf_streamCurrent_apart (.inl (by simp [R.fpKSTATE, R.fpLAST_SCHED])), writesOnly_outFrame.rf_eq (f := R.fpLAST_SCHED p st)
      (by simp [R.fpSEQ, R.fpLAST_SCHED]), hlast, streamCurrent_cas, outFrame_cas, streamStamped_cas]
  exact ⟨rfl, rfl, rfl, rfl⟩

/-- The port after the frame of a stream has been queued (R230). -/
theorem streamSent_port (hp : p < s.fld.ports.length) (hgo : rb s (R.fpTX_INHIBIT p) = false) (hsends : portSends s p = true) :
    (port (streamSent s p st vs) p).emits = (port s p).emits ∧
      (port (streamSent s p st vs) p).tx = (port s p).tx ++ [frameOf s p st 0 .sched vs] := by
  have hstamped := writesOnly_streamStamped s p st vs
  obtain ⟨hcount, hemits, htx⟩ := outFrame_port (s := streamStamped s p st vs) (p := p) (st := st) (state := 0) (cls := .sched) (vals := vs)
    (by rw [streamStamped_fld]; exact hp) ((hstamped.rb_eq (by simp only [R.fpTX_INHIBIT, R.fpLAST_SCHED]; omega)).trans hgo)
    ((portSends_eq hstamped (by simp only [R.fpUNIT_STATE, R.fpLAST_SCHED]; omega)).trans hsends)
  rw [frameOf_congr hstamped (by simp [R.fpNODE, R.fpLAST_SCHED]) (by simp [R.fpKEEP_PERIOD, R.fpLAST_SCHED])
    (by simp [R.fpSEQ, R.fpLAST_SCHED]) (streamStamped_devTime s p st vs), port_streamStamped] at htx
  rw [port_streamStamped] at hemits
  rw [streamSent, streamCurrent, port_modPort_same (by rw [wf_fld, hcount, streamStamped_fld]; exact hp), port_wf]
  exact ⟨hemits, htx⟩

end Sent

/-- A stream without probing, of a FRAME_EMIT of its port, that can be sent. -/
structure Assembles (s : State) (p st : Nat) : Prop where
  number : st < 1024
  valid : rb s (R.fpVALID p st) = true
  fits : rf s (R.fpN p st) + 5 ≤ payLimit (rb s (R.fpJUMBO p)) (rb s (R.ndENCAP (rf s (R.fpNODE p st))))
  inMemory : rf s (R.fpSRC p st) + rf s (R.fpN p st) ≤ s.cfg.part.streamWords
  noError : s.ecc = []
  idle : SmIdle s
  unprobed : rb s (R.fpPROBE_EN p st) = false
  uninhibited : rb s (R.fpTX_INHIBIT p) = false
  sends : portSends s p = true

theorem payLimit_le (jumbo udp : Bool) : payLimit jumbo udp ≤ 2000 := by cases jumbo <;> cases udp <;> decide

section Assemble
variable {s : State} {p st : Nat} (h : Assembles s p st)
include h

theorem Assembles.few : rf s (R.fpN p st) ≤ 32768 := by
  have hfits := h.fits
  have hlimit := payLimit_le (rb s (R.fpJUMBO p)) (rb s (R.ndENCAP (rf s (R.fpNODE p st))))
  omega

/-- The values of the stream, as Stream Memory has them. -/
theorem Assembles.assemble_eq (e : Emit) : ∃ x, assemble s p st e =
    streamSent (imageKept (smPtrMoved s x) p st (rf s (R.fpN p st)) fun i => rd s (rf s (R.fpSRC p st) + i)) p st
      ((List.range (rf s (R.fpN p st))).map fun i => rd s (rf s (R.fpSRC p st) + i)) := by
  have hfew := h.few
  obtain ⟨hst, hvalid, hfits, hmem, hecc, hidle, hprobe, hgo, -⟩ := h
  obtain ⟨x, hread⟩ := hidle.smRdN_eq _ hecc hmem
  refine ⟨x, ?_⟩
  generalize hn : rf s (R.fpN p st) = n at *
  generalize hf : (fun i => rd s (rf s (R.fpSRC p st) + i)) = f at *
  have hpairs : (List.range n).zip ((List.range n).map f) = (List.range n).map fun i => (i, f i) := by
    simpa only [List.map_id, id_eq] using List.zip_map' (f := id) (g := f) (l := List.range n)
  have hwrites := (imageKept_fields (p := p) hst (smPtrMoved s x) f n hfew).1
  have hkept (g : Field) (hg : g.addr < blkBase .fp p + 0x8000) : rb (imageKept (smPtrMoved s x) p st n f) g = rb s g :=
    hwrites.rb_eq (Nat.not_le.2 hg)
  have hunprobed := (hkept (R.fpPROBE_EN p st) (by simp only [R.fpPROBE_EN]; omega)).trans hprobe
  have hfree := (hkept (R.fpTX_INHIBIT p) (by simp only [R.fpTX_INHIBIT]; omega)).trans hgo
  have himage : ((List.range n).zip ((List.range n).map f)).foldl
      (fun s k => wr s (R.fpKMEM p ((rf s (R.fpKOFS p st) + k.1) % 32768)).addr k.2) (smPtrMoved s x) = imageKept (smPtrMoved s x) p st n f := by
    rw [hpairs, List.foldl_map]
    rfl
  generalize imageKept (smPtrMoved s x) p st n f = u at *
  unfold assemble
  rw [if_neg (by simp [hst, hvalid]), hn, if_neg (Nat.not_lt.2 hfits), hread]
  simp only [himage, hunprobed, Bool.false_eq_true, and_false, if_false]
  exact if_neg (ne_true_of_eq_false hfree)

/-- One stream of a FRAME_EMIT is read, kept and queued (R230). -/
theorem Assembles.sent (hp : p < s.fld.ports.length) (e : Emit) {n : Nat} {vs : List Word} (hn : rf s (R.fpN p st) = n)
    (hvs : (List.range n).map (fun i => rd s (rf s (R.fpSRC p st) + i)) = vs) :
    (port (assemble s p st e) p).emits = (port s p).emits ∧ (port (assemble s p st e) p).tx = (port s p).tx ++ [frameOf s p st 0 .sched vs] ∧
      (∀ i, i < n → rd (assemble s p st e) (imageWord p (rf s (R.fpKOFS p st)) i) = vs.getD i 0#36) ∧
      rf (assemble s p st e) (R.fpSEQ p st) = (rf s (R.fpSEQ p st) + 1) % 2 ^ 16 ∧ rf (assemble s p st e) (R.fpKSTATE p st) = 1 ∧
      rf (assemble s p st e) (R.fpLAST_SCHED p st) = tagNow s ∧ (assemble s p st e).cas.digVals = s.cas.digVals ++ vs ∧
      WritesOnly (fun _ => True) s (assemble s p st e) := by
  obtain ⟨x, hx⟩ := h.assemble_eq e
  obtain ⟨hwrites, hwords, m, hm⟩ := imageKept_fields (p := p) h.number (smPtrMoved s x)
    (fun i => rd s (rf s (R.fpSRC p st) + i)) _ h.few
  have hst := h.number
  have hbelow {a : Nat} (ha : a < blkBase .fp p + 0x8000) : ¬ AboveKeeper p a := Nat.not_le.2 ha
  rw [hn] at hx hwrites hwords hm
  rw [hvs] at hx
  rw [hx]
  generalize imageKept (smPtrMoved s x) p st n (fun i => rd s (rf s (R.fpSRC p st) + i)) = u at *
  have hkept : WritesOnly (AboveKeeper p) s u := (writesOnly_smPtrMoved _ s x).trans hwrites
  have hseq : rf u (R.fpSEQ p st) = rf s (R.fpSEQ p st) := hkept.rf_eq (hbelow (by simp only [R.fpSEQ]; omega))
  have htime : u.devTime = s.devTime := hm ▸ rfl
  have hfld : u.fld = s.fld := hm ▸ rfl
  have hcas : u.cas = s.cas := hm ▸ rfl
  have hport : port u p = port s p := congrArg (fun f : FieldSt => f.ports.getD p portZero) hfld
  have hframe : frameOf u p st 0 .sched vs = frameOf s p st 0 .sched vs := frameOf_congr hkept
    (hbelow (by simp only [R.fpNODE]; omega)) (hbelow (by simp only [R.fpKEEP_PERIOD]; omega)) (hbelow (by simp only [R.fpSEQ]; omega)) htime _ _ _
  obtain ⟨hemits, htx⟩ := streamSent_port u p st vs (hfld ▸ hp) ((hkept.rb_eq (hbelow (by simp only [R.fpTX_INHIBIT]; omega))).trans
    h.uninhibited)
    ((portSends_eq hkept (hbelow (by simp only [R.fpUNIT_STATE]; omega))).trans h.sends)
  obtain ⟨hnext, hactive, hlast, hdigest⟩ := streamSent_registers u p st vs
  have hsent := writesOnly_streamSent u p st vs
  refine ⟨hemits.trans (by rw [hport]), htx.trans (by rw [hport, hframe]), fun i hi => ?_, hnext.trans (by rw [hseq]), hactive,
    hlast.trans (by rw [tagNow, tagNow, htime]), hdigest.trans (by rw [hcas]),
    (hkept.mono fun _ _ => trivial).trans (hsent.mono fun _ _ => trivial)⟩
  have hword : ¬ StreamWord p st (imageWord p (rf s (R.fpKOFS p st)) i) := by
    have := imageWord_ge p (rf s (R.fpKOFS p st)) i
    simp only [StreamWord, R.fpLAST_SCHED, R.fpSEQ]
    omega
  rw [hsent.rd_eq _ hword, ← hvs, List.getD_eq_getElem _ _ (by simpa using hi), List.getElem_map, List.getElem_range]
  exact hwords i hi

end Assemble

/-! ### The step of a port that assembles (R230) -/

/-- `s` with port p's FRAME_EMITs all taken. -/
def emitsTaken (s : State) (p : Nat) : State := modPort s p fun k => { k with emits := [] }

theorem writesOnly_emitsTaken (P : Nat → Prop) (s : State) (p : Nat) : WritesOnly P s (emitsTaken s p) := (WritesOnly.refl P s).modPort _ _

theorem port_emitsTaken {s : State} {p : Nat} (hp : p < s.fld.ports.length) : port (emitsTaken s p) p = { port s p with emits := [] } :=
  port_modPort_same hp _

section Assembly
variable {s : State} {p : Nat} (hl : s.live iFLD) (hp : p < s.cfg.part.ports) {st ps : Nat} {ap : Bool}
  (hemits : (port s p).emits = [⟨st, 1, ps, ap⟩])
include hl hp hemits

/-- The last stream of a port's one FRAME_EMIT is assembled. -/
theorem streamAssembly_last {P : Nat → Prop} (hwrites : WritesOnly P s (assemble (emitsTaken s p) p st ⟨st, 1, ps, ap⟩)) :
    exec (.streamAssembly p) s = .next (assemble (emitsTaken s p) p st ⟨st, 1, ps, ap⟩) := by
  change execStreamAssembly p s = _
  unfold execStreamAssembly
  refine gatePort_next_eq hl hp ?_ hwrites
  simp only [hemits]
  rfl

theorem streamAssembly_skips (hlen : s.fld.ports.length = s.cfg.part.ports) (hskip : 1024 ≤ st ∨ rb s (R.fpVALID p st) = false) :
    ∃ t, exec (.streamAssembly p) s = .next t ∧ rb t (R.fpEMIT_SKIP p) = true ∧ (port t p).emits = [] ∧ (port t p).tx = (port s p).tx ∧
      s.sameBut t [(R.fpEMIT_SKIP p).addr] := by
  have hwrites : WritesOnly (· ∈ [(R.fpEMIT_SKIP p).addr]) s (emitSkip (emitsTaken s p) p) :=
    (writesOnly_emitsTaken _ s p).wb (f := R.fpEMIT_SKIP p) true (by simp)
  have hassemble : assemble (emitsTaken s p) p st ⟨st, 1, ps, ap⟩ = emitSkip (emitsTaken s p) p := if_pos hskip
  refine ⟨_, (streamAssembly_last hl hp hemits (hassemble ▸ hwrites)).trans (congrArg _ hassemble), ?_, ?_, ?_, hwrites.sameBut⟩
  · exact rb_wb_same (emitsTaken s p) (R.fpEMIT_SKIP p) true rfl (by decide : 5 < 36)
  · rw [emitSkip, port_wb, port_emitsTaken (hlen ▸ hp)]
  · rw [emitSkip, port_wb, port_emitsTaken (hlen ▸ hp)]

theorem streamAssembly_sends (hlen : s.fld.ports.length = s.cfg.part.ports) (h : Assembles s p st) {n : Nat} {vs : List Word}
    (hn : rf s (R.fpN p st) = n) (hvs : (List.range n).map (fun i => rd s (rf s (R.fpSRC p st) + i)) = vs) :
    ∃ t, exec (.streamAssembly p) s = .next t ∧ (port t p).emits = [] ∧ (port t p).tx = (port s p).tx ++ [frameOf s p st 0 .sched vs] ∧
      (∀ i, i < n → rd t (imageWord p (rf s (R.fpKOFS p st)) i) = vs.getD i 0#36) ∧ rf t (R.fpSEQ p st) = (rf s (R.fpSEQ p st) + 1) % 2 ^ 16 ∧
      rf t (R.fpKSTATE p st) = 1 ∧ rf t (R.fpLAST_SCHED p st) = tagNow s ∧ t.cas.digVals = s.cas.digVals ++ vs := by
  have htaken : Assembles (emitsTaken s p) p st := ⟨h.number, h.valid, h.fits, h.inMemory, h.noError,
    h.idle.of_eq rfl rfl rfl rfl rfl fun _ _ _ => rfl, h.unprobed, h.uninhibited, h.sends⟩
  obtain ⟨hempty, htx, hwords, hseq, hstate, hlast, hdigest, hwrites⟩ := htaken.sent (by rw [emitsTaken, portCount_modPort, hlen]; exact hp)
    ⟨st, 1, ps, ap⟩ hn hvs
  rw [port_emitsTaken (hlen ▸ hp)] at hempty htx
  exact ⟨_, streamAssembly_last hl hp hemits ((writesOnly_emitsTaken _ s p).trans hwrites), hempty, htx, hwords, hseq, hstate, hlast, hdigest⟩

end Assembly

/-! ### The Keeper (R233, R234) -/

/-- The replay of a stream is counted, as its owner has it, and REPLAYING is set. -/
def replayMarked (s : State) (p st : Nat) : State :=
  fpStick (if rb s (R.fpKOWN p st) then cnt s (R.fpREPLAY_CNT p st) else cnt s (R.fpMISS_CNT p st)) p (R.fpREPLAYING p) 2

/-- The stream's hold time is over: its last frame, and EXPIRED. -/
def streamExpired (s : State) (p st : Nat) : State := fpStick (wf (outFrame s p st 2 .keep []) (R.fpKSTATE p st) 2) p (R.fpEXPIRED p) 2

/-- The stream's hold time is over at the present. -/
def HoldOver (s : State) (p st : Nat) : Prop :=
  rf s (R.fpHOLD_MAX p st) ≠ 0 ∧ (kvFind (port s p).refT st).getD 0 + rf s (R.fpHOLD_MAX p st) * 10000000 ≤ s.now

section Keeper
variable {s : State} {p st : Nat}

theorem fpStick_now (s : State) (p : Nat) (f : Field) (k : Nat) : (fpStick s p f k).now = s.now := by
  rw [fpStick, notice_now]
  cases rb s f <;> rfl

theorem replayMarked_now : (replayMarked s p st).now = s.now := by
  rw [replayMarked, fpStick_now]
  split <;> exact cnt_now _ _

theorem writesOnly_replayMarked : WritesOnly (· ∈ [(R.fpREPLAYING p).addr, (R.fpREPLAY_CNT p st).addr, (R.fpMISS_CNT p st).addr]) s
    (replayMarked s p st) := by
  rw [replayMarked]
  refine WritesOnly.fpStick ?_ p 2 (by simp)
  split
  · exact (WritesOnly.refl _ s).cnt (f := R.fpREPLAY_CNT p st) (by simp)
  · exact (WritesOnly.refl _ s).cnt (f := R.fpMISS_CNT p st) (by simp)

/-- A replay is counted in REPLAY_CNT where the Keeper owns the stream, and in MISS_CNT where the schedule does. -/
theorem replayMarked_fields : rb (replayMarked s p st) (R.fpREPLAYING p) = true ∧
    (rb s (R.fpKOWN p st) = true → rf (replayMarked s p st) (R.fpREPLAY_CNT p st) = min (rf s (R.fpREPLAY_CNT p st) + 1) (2 ^ 36 - 1)) ∧
    (rb s (R.fpKOWN p st) = false → rf (replayMarked s p st) (R.fpMISS_CNT p st) = min (rf s (R.fpMISS_CNT p st) + 1) (2 ^ 36 - 1)) := by
  refine ⟨rb_fpStick_same rfl (by decide : 3 < 36), fun hown => ?_, fun hown => ?_⟩
  · rw [replayMarked, if_pos hown, rf_fpStick_apart (.inl (by simp only [R.fpREPLAYING, R.fpREPLAY_CNT]; omega))]
    exact rf_cnt_word s _
  · rw [replayMarked, if_neg (ne_true_of_eq_false hown), rf_fpStick_apart (.inl (by simp only [R.fpREPLAYING, R.fpMISS_CNT]; omega))]
    exact rf_cnt_word s _

/-- The last frame of a stream whose hold time is over (R233). -/
theorem streamExpired_fields : (streamExpired s p st).now = s.now ∧ rf (streamExpired s p st) (R.fpKSTATE p st) = 2 ∧
    rb (streamExpired s p st) (R.fpEXPIRED p) = true ∧ rb (streamExpired s p st) (R.fpREPLAYING p) = rb s (R.fpREPLAYING p) ∧
    rf (streamExpired s p st) (R.fpSEQ p st) = (rf s (R.fpSEQ p st) + 1) % 2 ^ 16 ∧
    WritesOnly (· ∈ [(R.fpSEQ p st).addr, (R.fpEXPIRED p).addr]) s (streamExpired s p st) := by
  have hframe := writesOnly_outFrame (s := s) (p := p) (st := st) (state := 2) (cls := .keep) (vals := [])
  have hapart {g : Field} (hg : g.addr = (R.fpSEQ p st).addr) : (R.fpEXPIRED p).Apart g :=
    .inl (by rw [hg]; simp only [R.fpEXPIRED, R.fpSEQ]; omega)
  refine ⟨?_, ?_, rb_fpStick_same rfl (by decide : 4 < 36), ?_, ?_, ?_⟩
  · rw [streamExpired, fpStick_now, wf_now, outFrame_now]
  · rw [streamExpired, rf_fpStick_apart (hapart (g := R.fpKSTATE p st) rfl)]
    exact rf_wf_same _ (R.fpKSTATE p st) 2 (by decide : 16 ≤ 17) (by decide : 17 < 36)
  · rw [streamExpired, rb_fpStick_apart (.inr (by simp [R.fpEXPIRED, R.fpREPLAYING])),
      rb_wf_apart (.inl (by simp only [R.fpKSTATE, R.fpREPLAYING]; omega)), hframe.rb_eq (by simp only [R.fpREPLAYING, R.fpSEQ]; omega)]
  · rw [streamExpired, rf_fpStick_apart (hapart rfl), rf_wf_apart (.inr (by simp [R.fpKSTATE, R.fpSEQ])), outFrame_seq.1]
  · exact WritesOnly.fpStick (WritesOnly.wf (f := R.fpKSTATE p st) (hframe.mono (by simp)) 2 (by simp [R.fpKSTATE, R.fpSEQ])) p 2 (by simp)

/-- What every replay of a stream leaves: the time, SEQ and the counters. -/
structure Replayed (s t : State) (p st : Nat) : Prop where
  now : t.now = s.now
  marked : rb t (R.fpREPLAYING p) = true
  seq : rf t (R.fpSEQ p st) = (rf s (R.fpSEQ p st) + 1) % 2 ^ 16
  replayed : rb s (R.fpKOWN p st) = true → rf t (R.fpREPLAY_CNT p st) = min (rf s (R.fpREPLAY_CNT p st) + 1) (2 ^ 36 - 1)
  missed : rb s (R.fpKOWN p st) = false → rf t (R.fpMISS_CNT p st) = min (rf s (R.fpMISS_CNT p st) + 1) (2 ^ 36 - 1)
  writes : WritesOnly (fun _ => True) s t

/-- A replay is a marked one whose frame has then been queued. -/
theorem Replayed.of_marked {t : State} (hnow : t.now = (replayMarked s p st).now)
    (hmarked : rb t (R.fpREPLAYING p) = rb (replayMarked s p st) (R.fpREPLAYING p))
    (hseq : rf t (R.fpSEQ p st) = (rf (replayMarked s p st) (R.fpSEQ p st) + 1) % 2 ^ 16)
    (hwrites : WritesOnly (· ∈ [(R.fpSEQ p st).addr, (R.fpEXPIRED p).addr]) (replayMarked s p st) t) : Replayed s t p st := by
  obtain ⟨hset, hreplay, hmiss⟩ := replayMarked_fields (s := s) (p := p) (st := st)
  have hmark := writesOnly_replayMarked (s := s) (p := p) (st := st)
  refine ⟨hnow.trans replayMarked_now, hmarked.trans hset, ?_, fun h => ?_, fun h => ?_, (hmark.mono fun _ _ => trivial).trans
    (hwrites.mono fun _ _ => trivial)⟩
  · rw [hseq, hmark.rf_eq (by simp [R.fpSEQ, R.fpREPLAYING, R.fpREPLAY_CNT, R.fpMISS_CNT]; omega)]
  · rw [hwrites.rf_eq (by simp [R.fpSEQ, R.fpEXPIRED, R.fpREPLAY_CNT]; omega), hreplay h]
  · rw [hwrites.rf_eq (by simp [R.fpSEQ, R.fpEXPIRED, R.fpMISS_CNT]; omega), hmiss h]

theorem not_holdOver_of_zero (h : rf s (R.fpHOLD_MAX p st) = 0) : ¬ HoldOver s p st := fun hover => hover.1 h

theorem keepExpire_expires (hk : rf s (R.fpKSTATE p st) = 1) (hover : HoldOver s p st) :
    keepExpire s p st = streamExpired (replayMarked s p st) p st := by
  rw [HoldOver, ← replayMarked_now (s := s) (p := p) (st := st)] at hover
  unfold keepExpire
  rw [if_neg (not_not.2 hk)]
  dsimp only
  rw [← replayMarked]
  exact if_pos hover

theorem keepExpire_replays (hk : rf s (R.fpKSTATE p st) = 1) (hover : ¬ HoldOver s p st) :
    keepExpire s p st = outFrame (replayMarked s p st) p st 1 .keep (keepImage (replayMarked s p st) p st) := by
  rw [HoldOver, ← replayMarked_now (s := s) (p := p) (st := st)] at hover
  unfold keepExpire
  rw [if_neg (not_not.2 hk)]
  dsimp only
  rw [← replayMarked]
  exact if_neg hover

/-- An ACTIVE stream whose period is over is replayed; past its hold time it becomes EXPIRED (R233). -/
theorem keepExpire_fields (hk : rf s (R.fpKSTATE p st) = 1) : Replayed s (keepExpire s p st) p st ∧
    (HoldOver s p st → rf (keepExpire s p st) (R.fpKSTATE p st) = 2 ∧ rb (keepExpire s p st) (R.fpEXPIRED p) = true) ∧
    (¬ HoldOver s p st → rf (keepExpire s p st) (R.fpKSTATE p st) = 1) := by
  by_cases hover : HoldOver s p st
  · rw [keepExpire_expires hk hover]
    obtain ⟨hnow, hstate, hset, hmarked, hseq, hwrites⟩ := streamExpired_fields (s := replayMarked s p st) (p := p) (st := st)
    exact ⟨.of_marked hnow hmarked hseq hwrites, fun _ => ⟨hstate, hset⟩, fun h => absurd hover h⟩
  · rw [keepExpire_replays hk hover]
    have hframe := writesOnly_outFrame (s := replayMarked s p st) (p := p) (st := st) (state := 1) (cls := .keep)
      (vals := keepImage (replayMarked s p st) p st)
    obtain ⟨hseq, hstate⟩ := outFrame_seq (s := replayMarked s p st) (p := p) (st := st) (state := 1) (cls := .keep)
      (vals := keepImage (replayMarked s p st) p st)
    refine ⟨.of_marked outFrame_now (hframe.rb_eq (by simp only [R.fpREPLAYING, R.fpSEQ]; omega)) hseq (hframe.mono (by simp)),
      fun h => absurd h hover, fun _ => ?_⟩
    rw [hstate, writesOnly_replayMarked.rf_eq (by simp [R.fpKSTATE, R.fpREPLAYING, R.fpREPLAY_CNT, R.fpMISS_CNT]; omega), hk]

end Keeper

section Expiry
variable {s : State} {p st t0 : Nat}

theorem holdOver_atLeast {n r : Nat} (hr : kvFind (port s p).refT st = some r) (hhold : rf s (R.fpHOLD_MAX p st) ≠ 0)
    (hover : r + rf s (R.fpHOLD_MAX p st) * 10000000 ≤ (atLeast s n).now) : HoldOver (atLeast s n) p st := by
  rw [HoldOver, rf_atLeast, show (port (atLeast s n) p).refT = (port s p).refT from rfl, hr]
  exact ⟨hhold, hover⟩

/-- The timer of a valid stream with a Keeper period expires, and no FRAME_EMIT waits (R233, R234). -/
theorem keeperTimerExpiry_expires (hl : s.live iFLD) (hp : p < s.cfg.part.ports) (htimer : kvFind (port s p).timer st = some t0)
    (hvalid : rb s (R.fpVALID p st) = true) (hperiod : rf s (R.fpKEEP_PERIOD p st) ≠ 0) (hemits : (port s p).emits = [])
    {P : Nat → Prop} (hwrites : WritesOnly P s (keepExpire (atLeast s (t0 + keepNs s p st)) p st)) :
    exec (.keeperTimerExpiry p st) s = .next (keepExpire (atLeast s (t0 + keepNs s p st)) p st) := by
  change execKeeperTimerExpiry p st s = _
  unfold execKeeperTimerExpiry
  refine gatePort_next_eq hl hp ?_ hwrites
  rw [htimer]
  dsimp only
  rw [if_neg (by simp [hvalid, hperiod]), if_neg (by simp [hemits])]

theorem keeperTimerExpiry_replays (hl : s.live iFLD) (hp : p < s.cfg.part.ports) (htimer : kvFind (port s p).timer st = some t0)
    (hvalid : rb s (R.fpVALID p st) = true) (hperiod : rf s (R.fpKEEP_PERIOD p st) ≠ 0) (hemits : (port s p).emits = [])
    (hk : rf s (R.fpKSTATE p st) = 1) : ∃ t, exec (.keeperTimerExpiry p st) s = .next t ∧ t.now = max s.now (t0 + keepNs s p st) ∧
      rb t (R.fpREPLAYING p) = true ∧ rf t (R.fpSEQ p st) = (rf s (R.fpSEQ p st) + 1) % 2 ^ 16 ∧
      (rb s (R.fpKOWN p st) = true → rf t (R.fpREPLAY_CNT p st) = min (rf s (R.fpREPLAY_CNT p st) + 1) (2 ^ 36 - 1)) ∧
      (rb s (R.fpKOWN p st) = false → rf t (R.fpMISS_CNT p st) = min (rf s (R.fpMISS_CNT p st) + 1) (2 ^ 36 - 1)) ∧
      (rf s (R.fpHOLD_MAX p st) = 0 → rf t (R.fpKSTATE p st) = 1) ∧
      ∀ r, kvFind (port s p).refT st = some r → rf s (R.fpHOLD_MAX p st) ≠ 0 → r + rf s (R.fpHOLD_MAX p st) * 10000000 ≤ t.now →
        rf t (R.fpKSTATE p st) = 2 ∧ rb t (R.fpEXPIRED p) = true := by
  generalize hdue : t0 + keepNs s p st = due
  obtain ⟨h, hexpires, hstays⟩ := keepExpire_fields (s := atLeast s due) (p := p) (st := st) (rfl.trans hk)
  have hexec := keeperTimerExpiry_expires hl hp htimer hvalid hperiod hemits (hdue ▸ ((WritesOnly.refl _ s).atLeast _).trans h.writes)
  rw [hdue] at hexec
  refine ⟨_, hexec, h.now.trans (atLeast_now s due), h.marked, h.seq, h.replayed, h.missed,
    fun hzero => hstays (not_holdOver_of_zero hzero), fun r hr hhold hover => hexpires ?_⟩
  rw [h.now] at hover
  exact holdOver_atLeast hr hhold hover

end Expiry

/-- Settles O29: each step of an output stream, from its FRAME_EMIT through its assembly and transmission to the Keeper's replay. -/
theorem fieldStreamsSentAndKept : Obligations.FieldStreamsSentAndKept := by
  unfold Obligations.FieldStreamsSentAndKept
  intro s p hl hp hlen
  refine ⟨fun e es hfly => frameEmitArrival_arrives hl hp hlen hfly, fun st ps ap hemits => ⟨streamAssembly_skips hl hp hemits hlen, ?_⟩,
    fun f hlink hsends htx => ⟨frameTransmit_sched hl hp hlen hlink hsends htx, frameTransmit_keep hl hp hlen hlink hsends htx,
      frameTransmit_other hl hp hlen hlink hsends htx, frameTransmit_inhibited hl hp hlen hlink hsends htx⟩,
    ⟨ptpSyncTransmit_transmitter hl hp hlen, ptpSyncTransmit_receiver hl hp hlen, ptpSyncTransmit_noRole hl hp⟩,
    fun st t0 _ htimer hvalid hperiod hemits hk => keeperTimerExpiry_replays hl hp htimer hvalid hperiod hemits hk,
    fun st hst => kprime_sets hl hp hlen st hst, fun st hst => streamValidClear_clears hl hp st hst⟩
  intro n vs hst hvalid hfits hmem hr hw hecc hb hm hv hprobe hgo hsends
  exact streamAssembly_sends hl hp hemits hlen ⟨hst, hvalid, hfits, hmem, hecc, smIdle_of_live hm hv hr hw hb, hprobe, hgo, hsends⟩ rfl rfl

end Sys2Proof.Machine
